-- ==== Sys2Proof/Word.lean ====
section
/-! DEFINITION. The word types of the ILV-3216 and the two plain containers the state uses: byte strings and
sorted association lists. -/
namespace Sys2Proof

/-- One byte, as in every layout table of the spec (00 R2, R3). -/
abbrev Byte := BitVec 8
/-- A byte string in the order of its layout table, byte 0 first. -/
abbrev Bytes := List Byte
/-- A 16-bit field. -/
abbrev U16 := BitVec 16
/-- A 32-bit field: frame numbers, counters, addresses' halves. -/
abbrev U32 := BitVec 32
/-- A 48-bit performance counter (15 R620). -/
abbrev U48 := BitVec 48
/-- A 64-bit field: host addresses, the row-generation counters. -/
abbrev U64 := BitVec 64

/-- A table keyed by number: (key, entry) pairs, the key's first pair counting; a key without a pair has the
default the reader names. -/
abbrev Tab (α : Type) := List (Nat × α)

end Sys2Proof
end

