-- ==== Sys2Proof/Syntax.lean ====
section
/-! DEFINITION. The commands of the ILV-3216: one constructor of Instr per row of the command table, and the types of
their operands. What a command needs from outside the device (bytes read from host memory or flash, an image, a plan
declared inside a model package, a sample) arrives as an operand. -/
namespace Sys2Proof

/-- Pins whose level the spec names. -/
inductive Pin where
  | alertN | thermtripN | avsVid | fsyncOut | irled | sensorPwr
deriving DecidableEq, Repr

/-- The identity of a fetched host command (03 R64): ring 0 to 7, or 15 for the management port, its tag, its slot CRC
and its FENCE bit. -/
structure Hdr where
  ring : Nat
  tag : U16
  crc : U32 := 0
  fence : Bool := false
deriving DecidableEq, Repr

/-- One candidate tile shape of a layer (09 R368): TILE_SHAPE, worst-case cycles per tile for each variant, DRAM bytes
per tile, bytes of one chained command's weight set, and whether the layer's slots fit the declared CM allocation. -/
structure Candidate where
  shape : Nat
  cycles : Tab Nat
  dramBytes : Nat
  weightSet : Nat
  fitsCm : Bool
deriving DecidableEq, Repr

/-- A stripe set of a plan (09 R363 to R366): its rows are ceil(IN_HEIGHT * mul / div), its columns likewise. -/
structure StripeSet where
  mul : Nat
  div : Nat
  /-- row granule G: 1, 2 or 4 -/
  granule : Nat
  /-- STRIPES_PER_CORE: 1, 2 or 4 -/
  perCore : Nat
  /-- the largest guard of any layer of the set, in rows of the set -/
  guard : Nat
deriving DecidableEq, Repr

/-- One layer of a plan as Shepherd's certificate needs it (02 R36, R780; 09 R363 to R369). -/
structure Layer where
  /-- index of its stripe set -/
  set : Nat
  /-- resolution divisor k of the set's base: 1, 2 or 4 -/
  scale : Nat
  /-- output channel count padded to a multiple of 16 -/
  padC : Nat
  nextToOverlap : Bool
  /-- its output feeds a halo boundary when its set has neighbours (02 R780) -/
  feedsHalo : Bool
  /-- the 64 bytes of its chained command, but for its tile's own fields (08 R329, R338) -/
  chain : Bytes := []
  /-- bytes of the edge rows that go to a band neighbour on another member in a frame, 0 for none (14 R591, R592) -/
  fyxBytes : Nat := 0
  candidates : List Candidate
deriving DecidableEq, Repr

/-- The part of the FI work a layer belongs to (07 R289). -/
inductive FiPart where
  | flow | recompute | speculate
deriving DecidableEq, Repr

/-- An edge of a pack plan that goes to a band neighbour on another member (14 R591): the counter and edge it follows (TOP to the previous
member of the pack order, BOTTOM to the next), the rows of the consumer's guard depth, where they lie in the task's Kennel region, where
the consumer has them, the bytes per row, and the consumer's mirror counter. -/
structure HaloExport where
  counter : Nat
  bottom : Bool
  rows : Nat
  src : Nat
  dst : Nat
  pitch : Nat
  mirror : Nat
deriving DecidableEq, Repr

/-- What a plan section declares (04 R124 and R125 leave its form to Adevar; 02, 07, 08, 09 and 10 name what it declares). -/
structure Plan where
  /-- pack members it runs on (14 R588) -/
  members : Nat := 1
  /-- named cores, increasing -/
  cores : List Nat := []
  /-- how many cores, where the plan names none -/
  coreCount : Nat := 0
  floorOp : Nat := 0
  /-- the largest run-time shape -/
  maxN : Nat := 1
  maxH : Nat := 0
  maxW : Nat := 0
  maxC : Nat := 0
  sets : List StripeSet := []
  layers : List Layer := []
  /-- stream-level DRAM bytes per frame of other system-pool traffic (02 R780) -/
  sysBytes : Nat := 0
  /-- rows of input on each side of an input tile row that its tiles read as well (02 R36, 09 R382) -/
  inHalo : Nat := 0
  /-- upscale factor of the network output (07 R287) -/
  factor : Nat := 1
  /-- the plan computes interpolated outputs, and the ratios it supports, out over in (07 R278) -/
  interpolates : Bool := false
  ratios : List (Nat × Nat) := []
  /-- D0: the deadline base, ns after acceptance (02 R40, 07 R299) -/
  d0 : Option Nat := none
  /-- per FI core: cycles of the flow, the confirmation, the recomputation and the speculative pass (07 R289) -/
  flow : Nat := 0
  confirm : Nat := 0
  recompute : Nat := 0
  speculate : Nat := 0
  /-- per FI core: DRAM bytes and round trips of the flow and of the outputs of interval n-1 to n, and those of the speculative pass -/
  fiDram : Nat := 0
  fiTrips : Nat := 0
  specDram : Nat := 0
  specTrips : Nat := 0
  /-- the layers of the FI work whose output feeds a halo boundary, with the part they belong to (02 R780, 07 R289) -/
  fiHalos : List (FiPart × Layer) := []
  /-- positions of the FI cores in the core list; all when empty -/
  fiCores : List Nat := []
  /-- REACH of the confirmation test, pixels (07 R295) -/
  reach : Nat := 0
  /-- CM units per core, Kennel units and 1 MiB DRAM units of the task's regions -/
  cmUnits : Nat := 1
  kennelUnits : Nat := 0
  dramUnits : Nat := 0
  /-- task-relative Kennel ranges (first byte, length) that may hold held data (07 R294, 04 R155) -/
  held : List (Nat × Nat) := []
  /-- the largest worst-case tile, in cycles -/
  maxTile : Nat := 0
  /-- certified in gap-fill, and the narrow accesses per 1,024 cycles it declares (10 R406) -/
  gapFill : Bool := false
  narrow : Nat := 0
  /-- what the SCU's EVT codes do: (code, action) (08 R332): 0 nothing, 1 fault of the stream -/
  evts : List (Nat × Nat) := []
  /-- input and output row bytes of one padded tensor row, per job (09 R380): bytes per column times padded channels, guard
  columns of the input, scale of the input and of the output -/
  inBytes : Nat := 0
  outBytes : Nat := 0
  inGuard : Nat := 0
  inScale : Nat := 1
  outScale : Nat := 1
  /-- address of the parameter block and the microprogram's instructions (08 R352) -/
  paramBase : Nat := 0
  code : List Nat := []
  /-- first byte and bytes per row, in the task's Kennel region, of the rows the RFE writes (06 R254) -/
  rowBase : Nat := 0
  rowPitch : Nat := 0
  /-- first byte and bytes per row, in the task's Kennel region, of the network output rows of phase p, phase after phase
  (07 R282, R294) -/
  outBase : Nat := 0
  outPitch : Nat := 0
  /-- the network domain: RGB rather than YUV 4:4:4, BT.2020 rather than BT.709, full rather than limited range (07 R277) -/
  rgb : Bool := false
  bt2020 : Bool := false
  fullRange : Bool := false
  /-- motion margins: pixels horizontally, at most 512, and rows vertically, at most 128 (07 R279) -/
  marginX : Nat := 0
  marginY : Nat := 0
  /-- mosaic and phase the plan was compiled for (06 R247) -/
  mosaic : Nat := 0
  phaseX : Nat := 0
  phaseY : Nat := 0
  /-- bytes of the parameter block at PARAM_BASE, at most 4,096 (08 R352) -/
  paramLen : Nat := 0
  /-- the edges a pack plan exports to other members -/
  exports : List HaloExport := []
deriving DecidableEq, Repr

/-- What MODEL_LOAD reads of a package (04 R125): the header and section table bytes, and what the copy shows. -/
structure Package where
  /-- the 64 B header followed by the section table -/
  head : Bytes
  /-- the copy into DRAM was read whole -/
  copied : Bool
  /-- CRC-32C and SHA-256 of bytes 64 to the end as copied -/
  crc : U32
  hash : Bytes
  plans : List Plan
  /-- CADENCE and REPEAT_THRESHOLD of each tuning set (07 R283) -/
  tunings : List (Nat × Nat) := []
deriving DecidableEq, Repr

/-- A FyxLink packet (14 R560, R561): PTYPE, SRC and DST pack positions, INDEX, TAG, EPOCH, ARG and its data. -/
structure Packet where
  kind : Nat
  src : Nat
  dst : Nat
  index : Nat := 0
  tag : U16 := 0
  epoch : U32 := 0
  arg : U32 := 0
  data : Bytes := []
deriving DecidableEq, Repr

/-- An output descriptor (04 R130). -/
structure Desc where
  format : Nat
  cropX : Nat
  cropY : Nat
  cropW : Nat
  cropH : Nat
  outW : Nat
  outH : Nat
  rateDiv : Nat
deriving DecidableEq, Repr

/-- The configuration STREAM_CONFIG gives a stream context (04 R129). -/
structure StreamCfg where
  sourceKind : Nat := 0
  port : Nat := 0
  vc : Nat := 0
  priority : Nat := 0
  handle : Nat := 0
  plan : Nat := 0
  lowLatency : Bool := false
  edgeFill : Bool := false
  dropShort : Bool := false
  specTol : Nat := 0
  inW : Nat := 0
  inH : Nat := 0
  inFormat : Nat := 0
  starve : Nat := 0
  inNum : Nat := 1
  inDen : Nat := 1
  outNum : Nat := 1
  outDen : Nat := 1
  edgeValue : U32 := 0
  descs : Tab Desc := []
deriving DecidableEq, Repr

/-- A profile table (04 R161): the default class and 16 (variant, tuning) entries. -/
structure ProfileTable where
  defaultClass : Nat := 0
  entries : List (Nat × Nat) := List.replicate 16 (0, 0)
deriving DecidableEq, Repr

/-- A TREE_BIND's content (04 R160): ensemble, VOTE_EVERY, HYST_K; no ensemble unbinds. -/
structure Binding where
  ensemble : Option Nat := none
  voteEvery : Nat := 1
  hystK : Nat := 1
deriving DecidableEq, Repr

/-- A staged flash operation (16 R656, 17 R691). -/
inductive FlashOp where
  | export_ (image : Bytes)
  | install (image : Bytes) (activate : Bool)
deriving DecidableEq, Repr

/-- A change waiting for a frame boundary or for its resources (04 R172 to R177, 05 R194). -/
inductive Change where
  | config (cfg : StreamCfg)
  | output (desc : Nat) (d : Option Desc)
  | pin (cls : Option Nat)
  | bind (b : Binding)
  | table (t : ProfileTable)
  | rfe (source : Nat) (mask : Nat) (sections : Bytes)
  | irled (channel : Nat) (currentMa source maxDuty : Nat)
  | group (members policy : Nat)
  | route (source : Nat) (sc : Option Nat)
  | load (handle : Nat)
  | reside (handle mask : Nat)
  | flash
  | sctl
deriving DecidableEq, Repr

/-! ### Operands of the neural-core commands (08, 09, 11) -/

/-- The arithmetic SCU operations (08 R332). -/
inductive ScuOp where
  | add | sub | mul | mulh | mulhu | and | or | xor | shl | shr | sra | slt | sltu
deriving DecidableEq, Repr

/-- The second operand of an arithmetic instruction: a register, or an immediate; LUI is an add of an upper immediate to s0. -/
inductive ScuArg where
  | reg (r : Nat)
  | imm (v : U32)
  | upper (v : U32)
deriving DecidableEq, Repr

/-- Branch conditions and jumps (08 R332). -/
inductive ScuCond where
  | eq | ne | lt | ge | ltu | geu | jal | jalr
deriving DecidableEq, Repr

/-- Width of a narrow access and whether a load extends the sign (08 R332). -/
inductive Width where
  | w | h | hu | b | bu
deriving DecidableEq, Repr

/-- Core registers of 08 R332. -/
inductive CoreReg where
  | coreId | cycleLo | cycleHi | timeLo | timeHi | frame | paramBase | tilesDone0 | tilesDone1 | satFlags | trapCause
deriving DecidableEq, Repr

/-- What the host writes to the MSI-X structures (18 R712, R725). -/
inductive MsixWrite where
  | enable (b : Bool)
  | function (mask : Bool)
  | vector (v : Nat) (mask : Bool)
  | entry (v : Nat) (addr : U64) (data : U32)
deriving DecidableEq, Repr

/-- Which output tile the plan says a chained command makes (07 R281): interval, phase, tile of the final network output,
and whether the speculative pass made it. -/
structure TileMark where
  sc : Nat
  frame : Nat
  phase : Nat
  index : Nat
  spec : Bool
deriving DecidableEq, Repr

/-- The tile at the head of a queue of the Executor, and which output tile the plan says it makes, none where it makes none. -/
structure QueuedTile where
  queue : Nat
  mark : Option TileMark := none
deriving DecidableEq, Repr

/-- What a scrubber's read of a row finds (10 R426): the byte address of a word in error, whether it is uncorrectable, and, in the IAC,
whether the line's tag shows a parity error (12 R511). -/
structure ScrubError where
  addr : Nat
  uncorrectable : Bool
  tag : Bool := false
deriving DecidableEq, Repr

/-- An error that the banks or the DRAM show for a word that a command reads (10 R424, R425; 11 R486): memory 0 CM, 1 Kennel, 2 IAC, 3 DRAM,
the core of a CM word, its address, whether the retry of 10 R425 leaves it uncorrected, and, in the IAC, whether the line's tag shows a
parity error (12 R511). -/
structure ReadError where
  memory : Nat
  core : Nat
  addr : Nat
  uncorrectable : Bool
  tag : Bool := false
deriving DecidableEq, Repr

/-- A FyxLink ordered set (14 R558): TS1, TS2 or SKIP. -/
inductive OsKind where
  | ts1 | ts2 | skip
deriving DecidableEq, Repr

/-- An ordered set as received: the neighbour's position and port, the lane number each physical lane shows, and which lanes
show inverted sets. -/
structure OrderedSet where
  kind : OsKind
  pos : Nat
  port : Nat
  lanes : List Nat
  inverted : Nat
  /-- of a TS2: its ACK and RATE -/
  ack : Bool
  rate : Nat
deriving DecidableEq, Repr

/-- The fields of a flit (14 R559): FTYPE, SEQ, ACK_SEQ, ACK_VALID, NAK, CR_CLASS and CR_COUNT, whether its CRC holds, and PAYLOAD. -/
structure Flit where
  ftype : Nat
  seq : Nat
  ack : Nat
  ackValid : Bool
  nak : Bool
  cls : Nat
  credits : Nat
  crcOk : Bool
  payload : Bytes
deriving DecidableEq, Repr

/-- A 64b/66b block on one lane (14 R556): its sync header and its 64 payload bits, as they stand on the lane. -/
structure LaneBlock where
  header : BitVec 2
  payload : BitVec 64
deriving DecidableEq, Repr

/-- What PORST_N's rise samples and finds (17 R666, R675): straps, TEST pins, whether a flash answers, its size. -/
structure BootPins where
  bootSrc : BitVec 2
  packPos : BitVec 3
  test : Bool
  flash : Bool
deriving DecidableEq, Repr

/-- A JTAG instruction (16 R651). -/
inductive Jtag where
  | boundaryScan (bits : Bytes)
  | halt
  | resume
  | read (memory : Nat) (core addr len : Nat)
  | write (memory : Nat) (core addr : Nat) (data : Bytes)
deriving DecidableEq, Repr

/-- The register that a host write names: one of BAR0 by its offset (18 R701), or the PCI Express Command register or Completion
Timeout Value of the function's configuration space (18 R726, 03 R90). -/
inductive RegTarget where
  | bar0 (offset : Nat)
  | command
  | completionTimeout
deriving DecidableEq, Repr

/-- The commands, one constructor per row of the command table; each docstring names the row's mnemonic and rule. -/
inductive Instr where
  /-- NOP (04 R113). -/
  | nop (h : Hdr) (p : Bytes)
  /-- GET_INFO (04 R114). -/
  | getInfo (h : Hdr) (p : Bytes)
  /-- RESYNC (04 R116). -/
  | resync (h : Hdr) (p : Bytes)
  /-- POWER_PROFILE (04 R117). -/
  | powerProfile (h : Hdr) (p : Bytes)
  /-- KEEP_READ (04 R118). -/
  | keepRead (h : Hdr) (p : Bytes)
  /-- KEEP_WRITE (04 R119). -/
  | keepWrite (h : Hdr) (p : Bytes)
  /-- FAULT_EXPORT (04 R120). -/
  | faultExport (h : Hdr) (p : Bytes)
  /-- FW_INSTALL (04 R121). -/
  | fwInstall (h : Hdr) (p : Bytes) (image : Option Bytes)
  /-- CUSTOMER_KEY_PROGRAM (04 R122). -/
  | customerKeyProgram (h : Hdr) (p : Bytes)
  /-- DEVICE_RESET (04 R123). -/
  | deviceReset (h : Hdr) (p : Bytes)
  /-- MODEL_LOAD (04 R124). -/
  | modelLoad (h : Hdr) (p : Bytes)
  /-- MODEL_RESIDE (04 R126). -/
  | modelReside (h : Hdr) (p : Bytes)
  /-- MODEL_UNLOAD (04 R127). -/
  | modelUnload (h : Hdr) (p : Bytes)
  /-- MODEL_QUERY (04 R128). -/
  | modelQuery (h : Hdr) (p : Bytes)
  /-- STREAM_CONFIG (04 R131). -/
  | streamConfig (h : Hdr) (p : Bytes)
  /-- STREAM_START (04 R132). -/
  | streamStart (h : Hdr) (p : Bytes)
  /-- STREAM_STOP (04 R133). -/
  | streamStop (h : Hdr) (p : Bytes)
  /-- STREAM_RELEASE (04 R134). -/
  | streamRelease (h : Hdr) (p : Bytes)
  /-- BUFFER_POST (04 R135). -/
  | bufferPost (h : Hdr) (p : Bytes)
  /-- ROUTE_SET (04 R136). -/
  | routeSet (h : Hdr) (p : Bytes)
  /-- OUTPUT_SET (04 R137). -/
  | outputSet (h : Hdr) (p : Bytes)
  /-- GROUP_SET (04 R138). -/
  | groupSet (h : Hdr) (p : Bytes)
  /-- SET_PROFILE (04 R139). -/
  | setProfile (h : Hdr) (p : Bytes)
  /-- CERT_READ (04 R140). -/
  | certRead (h : Hdr) (p : Bytes)
  /-- CSI_CONFIG (04 R141). -/
  | csiConfig (h : Hdr) (p : Bytes)
  /-- SENSOR_PROFILE_LOAD (04 R142). -/
  | sensorProfileLoad (h : Hdr) (p : Bytes)
  /-- SET_EXPOSURE (04 R143). -/
  | setExposure (h : Hdr) (p : Bytes)
  /-- RFE_SET (04 R146). -/
  | rfeSet (h : Hdr) (p : Bytes)
  /-- IRLED_SET (04 R147). -/
  | irledSet (h : Hdr) (p : Bytes)
  /-- FSYNC_SET (04 R148). -/
  | fsyncSet (h : Hdr) (p : Bytes)
  /-- SENSOR_POWER (04 R149). -/
  | sensorPower (h : Hdr) (p : Bytes)
  /-- SCTL_XFER (04 R150). -/
  | sctlXfer (h : Hdr) (p : Bytes) (result nak : Nat) (data : Bytes)
  /-- JOB_SUBMIT (04 R152). -/
  | jobSubmit (h : Hdr) (p : Bytes) (shape : Option (List Nat))
  /-- JOB_KILL (04 R153). -/
  | jobKill (h : Hdr) (p : Bytes)
  /-- MEMORY_MODE_SET (04 R154). -/
  | memoryModeSet (h : Hdr) (p : Bytes)
  /-- WINDOW_OPEN (04 R155). -/
  | windowOpen (h : Hdr) (p : Bytes)
  /-- WINDOW_CLOSE (04 R156). -/
  | windowClose (h : Hdr) (p : Bytes)
  /-- SCRUB_SET (04 R157). -/
  | scrubSet (h : Hdr) (p : Bytes)
  /-- TREE_LOAD (04 R158). -/
  | treeLoad (h : Hdr) (p : Bytes) (nodes roots front : Option Bytes)
  /-- TREE_UNLOAD (04 R159). -/
  | treeUnload (h : Hdr) (p : Bytes)
  /-- TREE_BIND (04 R160). -/
  | treeBind (h : Hdr) (p : Bytes)
  /-- PROFILE_TABLE_SET (04 R161). -/
  | profileTableSet (h : Hdr) (p : Bytes)
  /-- PACK_FORM (04 R162). -/
  | packForm (h : Hdr) (p : Bytes)
  /-- PACK_DISSOLVE (04 R163). -/
  | packDissolve (h : Hdr) (p : Bytes)
  /-- PACK_EJECT (04 R164). -/
  | packEject (h : Hdr) (p : Bytes)
  /-- PACK_TIMEOUT_SET (04 R165). -/
  | packTimeoutSet (h : Hdr) (p : Bytes)
  /-- COUNTERS_SNAPSHOT (04 R166). -/
  | countersSnapshot (h : Hdr) (p : Bytes)
  /-- DEBUG_READ (04 R167). -/
  | debugRead (h : Hdr) (p : Bytes) (errors : List ReadError)
  /-- TEST_CHALLENGE (04 R168). -/
  | testChallenge (h : Hdr) (p : Bytes)
  /-- TEST_UNLOCK (16 R654). -/
  | testUnlock (h : Hdr) (p : Bytes)
  /-- DEBUG_LOCK (04 R169). -/
  | debugLock (h : Hdr) (p : Bytes)
  /-- SLOT_FETCH (03 R777). -/
  | slotFetch (ring : Nat) (slot : Option Bytes)
  /-- RING_WHISTLE_WRITE (03 R63). -/
  | ringWhistleWrite (ring : Nat) (value : U32)
  /-- RING_CQ_HEAD_WRITE (03 R77). -/
  | ringCqHeadWrite (ring : Nat) (value : U32)
  /-- EVQ_HEAD_WRITE (03 R77). -/
  | evqHeadWrite (value : U32)
  /-- RING_ENABLE (18 R719). -/
  | ringEnable (ring : Nat) (coalCount : Byte) (coalUsec : BitVec 10)
  /-- RING_DISABLE (03 R95). -/
  | ringDisable (ring : Nat)
  /-- EVQ_ENABLE (03 R80). -/
  | evqEnable (coalCount : Byte) (coalUsec : BitVec 10)
  /-- EVQ_DISABLE (03 R80). -/
  | evqDisable
  /-- EVQ_LOST_READ (18 R723). -/
  | evqLostRead
  /-- GLB_STRAY_READ (18 R723). -/
  | glbStrayRead
  /-- REGISTER_WRITE (18 R718). -/
  | registerWrite (t : RegTarget) (value : U32)
  /-- BAR0_STRAY_ACCESS (18 R702). -/
  | bar0StrayAccess (isRead : Bool) (len : Nat)
  /-- INTERRUPT_COALESCE_TIMEOUT (03 R78). -/
  | interruptCoalesceTimeout (vector : Nat)
  /-- MSIX_UNMASK (18 R725). -/
  | msixUnmask (w : MsixWrite)
  /-- COMMAND_BOUND_TIMEOUT (03 R76). -/
  | commandBoundTimeout (ring : Nat) (tag : U16)
  /-- DMA_READ_COMPLETION (03 R88). -/
  | dmaReadCompletion (id : Nat) (data : Option Bytes)
  /-- DMA_READ_TIMEOUT (03 R88). -/
  | dmaReadTimeout (id : Nat)
  /-- MGMT_SUBMIT: the first byte of the write, and the slot after it (03 R98). -/
  | mgmtSubmit (bytes : Bytes)
  /-- MGMT_POLL (03 R98). -/
  | mgmtPoll (extra reads : Nat)
  /-- MGMT_READ (03 R98). -/
  | mgmtRead (offset count extra reads : Nat)
  /-- MGMT_BUS_TIMEOUT (03 R101). -/
  | mgmtBusTimeout (sda scl : Bool)
  /-- PCIE_LINK_DOWN (03 R96). -/
  | pcieLinkDown
  /-- PCIE_LINK_UP (17 R664). -/
  | pcieLinkUp
  /-- PCIE_PERST_N_ASSERT (17 R664). -/
  | pciePerstNAssert
  /-- PCIE_PERST_N_RELEASE (17 R664). -/
  | pciePerstNRelease
  /-- FLR (17 R687). -/
  | flr
  /-- BUS_MASTER_ENABLE_CLEAR (18 R726). -/
  | busMasterEnableClear
  /-- D3HOT_ENTRY (18 R726). -/
  | d3hotEntry
  /-- POISONED_TLP_WRITE (18 R727). -/
  | poisonedTlpWrite (bar : Nat)
  /-- BAR2_READ (18 R736). -/
  | bar2Read (offset len : Nat) (errors : List ReadError)
  /-- BAR2_WRITE (18 R737). -/
  | bar2Write (offset : Nat) (data : Bytes)
  /-- BAR2_STRAY_ACCESS (18 R715). -/
  | bar2StrayAccess (isRead : Bool) (len : Nat)
  /-- TIME_NOW_LO_READ (18 R728). -/
  | timeNowLoRead
  /-- TIME_CAPTURE (18 R729). -/
  | timeCapture
  /-- KEEPW_USER_WRITE (18 R731). -/
  | keepwUserWrite (word : Nat) (value : U32)
  /-- KEEPW_SET_WRITE (18 R731). -/
  | keepwSetWrite (word : Nat) (value : U32)
  /-- KEEPW_QUEUE_ENTRY (18 R730). -/
  | keepwQueueEntry
  /-- PERF_LATCH (18 R733). -/
  | perfLatch (value : U32)
  /-- PERF_LATCH_DONE (18 R733). -/
  | perfLatchDone
  /-- GLB_BOOT_GO (18 R734). -/
  | glbBootGo
  /-- HOST_DOWNLOAD_DONE (17 R692). -/
  | hostDownloadDone (image : Option Bytes)
  /-- HOST_FRAME_ACCEPT (05 R190). -/
  | hostFrameAccept (sc picture : Nat)
  /-- CSI_FRAME_START (05 R191). -/
  | csiFrameStart (port vc sensorFrame : Nat) (corrected lost : Bool)
  /-- CSI_FRAME_END (06 R241). -/
  | csiFrameEnd (port vc sensorFrame ecc : Nat)
  /-- CSI_LONG_PACKET (06 R239). -/
  | csiLongPacket (port vc dataType ecc : Nat) (crcOk : Bool) (payload : Bytes)
  /-- FRAME_END_TIMEOUT (06 R241). -/
  | frameEndTimeout (port vc : Nat)
  /-- CSI_HS_BURST (06 R238). -/
  | csiHsBurst (port started inverted : Nat) (order : Option Nat)
  /-- DESKEW_SEQUENCE (06 R235). -/
  | deskewSequence (port : Nat) (delays : List Nat)
  /-- DESKEW_TIMEOUT (06 R235). -/
  | deskewTimeout (port : Nat)
  /-- CLOCK_LOST_TIMEOUT (19 R770). -/
  | clockLostTimeout (port : Nat)
  /-- SOURCE_LOST_TIMEOUT (05 R188). -/
  | sourceLostTimeout (sc : Nat)
  /-- STATS_COMPLETE (06 R265). -/
  | statsComplete (port vc : Nat)
  /-- EXPOSURE_WRITE_WINDOW (06 R258). -/
  | exposureWriteWindow (sc : Nat) (edge : Option Nat)
  /-- EXPOSURE_COMMIT_ACK (06 R259). -/
  | exposureCommitAck (sc : Nat)
  /-- EXPOSURE_WINDOW_CLOSE (06 R259). -/
  | exposureWindowClose (sc result : Nat)
  /-- SCTL_XFER_DONE (04 R150). -/
  | sctlXferDone (bus result nak : Nat) (data : Bytes)
  /-- SCTL_STUCK_TIMEOUT (19 R772). -/
  | sctlStuckTimeout (bus : Nat) (sda scl released : Bool)
  /-- SCTL_BUS_RECOVERED (15 R619). -/
  | sctlBusRecovered (bus : Nat)
  /-- IRLED_PULSE_START (06 R267). -/
  | irledPulseStart (channel : Nat)
  /-- IRLED_PULSE_END (06 R267). -/
  | irledPulseEnd (channel : Nat)
  /-- IRLED_FAULT_DETECT (19 R769). -/
  | irledFaultDetect (channel : Nat) (short : Bool)
  /-- FSYNC_OUT_EDGE (06 R271). -/
  | fsyncOutEdge (k : Nat)
  /-- FSYNC_IN_EDGE (06 R271). -/
  | fsyncInEdge (k : Nat)
  /-- SENSOR_PWR_SETTLED (19 R764). -/
  | sensorPwrSettled (k : Nat)
  /-- SENSOR_PWR_OVERCURRENT (19 R764). -/
  | sensorPwrOvercurrent (k : Nat)
  /-- SENSOR_PWR_RETRY (19 R764). -/
  | sensorPwrRetry (k : Nat)
  /-- SENSOR_PWR_BACKFEED (19 R765). -/
  | sensorPwrBackfeed (k : Nat)
  /-- TILE_START (08 R343). -/
  | tileStart (core : Nat) (tile : QueuedTile)
  /-- TILE_COMPLETE (08 R337). -/
  | tileComplete (core queue : Nat) (errors : List ReadError)
  /-- SCU_ARITHMETIC (08 R332). -/
  | scuArithmetic (core : Nat) (op : ScuOp) (rd rs : Nat) (arg : ScuArg)
  /-- SCU_LOAD (08 R331). -/
  | scuLoad (core rd rs : Nat) (offset : Int) (width : Width) (errors : List ReadError)
  /-- SCU_LOAD_RETURN (10 R402). -/
  | scuLoadReturn (core rd : Nat)
  /-- SCU_STORE (10 R434). -/
  | scuStore (core rs rb : Nat) (offset : Int) (width : Width)
  /-- SCU_BRANCH (08 R332). -/
  | scuBranch (core : Nat) (cond : ScuCond) (a b : Nat) (offset : Int)
  /-- FQ (08 R340). -/
  | fq (core rs : Nat)
  /-- XQ (08 R333). -/
  | xq (core rs : Nat)
  /-- TWAIT (10 R439). -/
  | twait (core queue rs : Nat)
  /-- QSTAT (08 R332). -/
  | qstat (core rd : Nat)
  /-- FENCE_FULL (10 R436). -/
  | fenceFull (core : Nat)
  /-- FENCE_REMOTE (10 R437). -/
  | fenceRemote (core : Nat)
  /-- CSRR (08 R332). -/
  | csrr (core rd : Nat) (r : CoreReg)
  /-- CSRW (08 R332). -/
  | csrw (core rs : Nat) (r : CoreReg)
  /-- EVT (08 R332). -/
  | evt (core code : Nat)
  /-- DONE (08 R353). -/
  | done (core : Nat)
  /-- TRAP (08 R356). -/
  | trap (core code : Nat)
  /-- FETCH_LOAD (11 R449). -/
  | fetchLoad (core : Nat) (errors : List ReadError)
  /-- FETCH_STORE (11 R449). -/
  | fetchStore (core : Nat) (errors : List ReadError)
  /-- FETCH_GATHER (11 R450). -/
  | fetchGather (core : Nat) (errors : List ReadError)
  /-- FETCH_FILL (10 R408). -/
  | fetchFill (core : Nat)
  /-- FETCH_COPY (10 R409). -/
  | fetchCopy (core : Nat) (errors : List ReadError)
  /-- FETCH_PUBLISH (11 R468). -/
  | fetchPublish (core : Nat)
  /-- FETCH_DESCRIPTOR_COMPLETE (11 R466). -/
  | fetchDescriptorComplete (core index : Nat)
  /-- MERGE_ENTRY_TIMEOUT (11 R477). -/
  | mergeEntryTimeout (core : Nat)
  /-- DRAM_TRANSACTION_COMPLETE (11 R474). -/
  | dramTransactionComplete (channel error : Nat)
  /-- IAC_FILL_RETURN (12 R503). -/
  | iacFillReturn (id : Nat)
  /-- HALO_TIMEOUT (09 R387). -/
  | haloTimeout (core boundary consumer producer counter : Nat) (top : Bool)
  /-- JOB_HALO_TIMEOUT (09 R389). -/
  | jobHaloTimeout (core counter : Nat) (top : Bool)
  /-- CORE_WATCHDOG (08 R357). -/
  | coreWatchdog (core : Nat) (executor : Bool)
  /-- NARROW_WAIT_TIMEOUT (10 R404). -/
  | narrowWaitTimeout (core reg : Nat)
  /-- NARROW_WINDOW_ROLLOVER (10 R406). -/
  | narrowWindowRollover (core group : Nat)
  /-- SCRUB_TICK (10 R426). -/
  | scrubTick (memory core bank : Nat) (errors : List ScrubError)
  /-- UNIT_FILL_COMPLETE (10 R417). -/
  | unitFillComplete (unit : Nat)
  /-- KENNEL_DOMAIN_READY (10 R422). -/
  | kennelDomainReady (d : Nat)
  /-- KENNEL_DOMAIN_POWER_OFF (10 R421). -/
  | kennelDomainPowerOff (d : Nat)
  /-- DOMAIN_POWERED_UP (17 R678). -/
  | domainPoweredUp (d : Nat)
  /-- CORE_DOMAIN_IDLE_TIMEOUT (17 R679). -/
  | coreDomainIdleTimeout (core : Nat)
  /-- OFM_DOMAIN_IDLE_TIMEOUT (17 R660). -/
  | ofmDomainIdleTimeout
  /-- DRAM_UNIT_FILL_DONE (10 R446). -/
  | dramUnitFillDone (first : Nat)
  /-- RESIDENCY_OPERATION_START (05 R196). -/
  | residencyOperationStart
  /-- RESIDENCY_OPERATION_DONE (05 R196). -/
  | residencyOperationDone (ok : Bool)
  /-- MODEL_LOAD_COPY_DONE (04 R124). -/
  | modelLoadCopyDone (handle : Nat) (pkg : Option Package)
  /-- FLASH_OPERATION_DONE (16 R656). -/
  | flashOperationDone (ok : Bool)
  /-- DRAM_RETRAIN_START (11 R487). -/
  | dramRetrainStart (channel : Nat)
  /-- DRAM_RETRAINED (11 R487). -/
  | dramRetrained (channel rate : Nat)
  /-- DRAM_CHANNEL_DOWN (11 R488). -/
  | dramChannelDown (channel : Nat)
  /-- OPERATING_POINT_CHANGE_DONE (02 R31). -/
  | operatingPointChangeDone (core : Nat)
  /-- AVS_TICK (17 R683). -/
  | avsTick (margin : Int)
  /-- AVS_CODE_STEP (17 R684). -/
  | avsCodeStep
  /-- OUTPUT_DEADLINE (02 R56). -/
  | outputDeadline (sc frame phase desc : Nat)
  /-- TILE_CHECK (07 R295). -/
  | tileCheck (sc frame phase tile : Nat) (eccError : Bool) (errors : List ReadError)
  /-- BAND_RELEASE (07 R298). -/
  | bandRelease (sc frame phase band : Nat)
  /-- BAND_RELEASE_DEADLINE (07 R300). -/
  | bandReleaseDeadline (sc frame phase band : Nat)
  /-- OFM_ROW_WRITE (07 R310). -/
  | ofmRowWrite (sc frame phase desc row : Nat)
  /-- OUTPUT_COMPLETE (07 R310). -/
  | outputComplete (sc frame phase desc : Nat)
  /-- GROUP_WINDOW_EXPIRY (05 R206). -/
  | groupWindowExpiry (group : Nat)
  /-- VOTE_START (13 R534). -/
  | voteStart (badTrees : List Nat) (tableError : Bool)
  /-- VOTE_COMPLETE (13 R540). -/
  | voteComplete
  /-- THERMAL_SAMPLE (17 R694). -/
  | thermalSample (temps : List Int)
  /-- THERMAL_DEGRADE_STEP (17 R695). -/
  | thermalDegradeStep
  /-- THERMAL_RECOVERY_TIMEOUT (02 R53). -/
  | thermalRecoveryTimeout
  /-- THERMAL_CLEAR_TIMEOUT (17 R694). -/
  | thermalClearTimeout
  /-- THERMAL_TRIP (17 R698). -/
  | thermalTrip (sensor : Nat)
  /-- FYX_ORDERED_SET: the blocks of the physical lanes (14 R556, R558). -/
  | fyxOrderedSet (port : Nat) (lanes : List LaneBlock)
  /-- FYX_TRAINING_TIMEOUT (14 R558). -/
  | fyxTrainingTimeout (port : Nat)
  /-- FYX_FLIT_RECEIVED: the blocks of the physical lanes (14 R556, R566). -/
  | fyxFlitReceived (port : Nat) (lanes : List LaneBlock)
  /-- FYX_IDLE_FLIT_TIMER (14 R566). -/
  | fyxIdleFlitTimer (port : Nat)
  /-- FYX_REPLAY_TIMEOUT (14 R567). -/
  | fyxReplayTimeout (port : Nat)
  /-- FYX_LINK_DOWN (14 R568). -/
  | fyxLinkDown (port : Nat)
  /-- FYX_DOWN_RETRY_TIMEOUT (14 R565). -/
  | fyxDownRetryTimeout (port : Nat)
  /-- FYX_LANE_FAULT_DETECT (19 R771). -/
  | fyxLaneFaultDetect (port lanes : Nat) (short : Bool)
  /-- DISCOVER (14 R572). -/
  | discover (port : Nat) (k : Packet)
  /-- PACK_INFO (14 R573). -/
  | packInfo (k : Packet)
  /-- PLAN_HASHES (14 R573). -/
  | planHashes (k : Packet)
  /-- PACK_FORM_DISCOVERY_TIMEOUT (14 R572). -/
  | packFormDiscoveryTimeout
  /-- FORM (14 R572). -/
  | form (k : Packet) (lead : Nat)
  /-- PREPARE (14 R577). -/
  | prepare (k : Packet)
  /-- PREP_ACK (14 R575). -/
  | prepAck (k : Packet)
  /-- COMMIT (14 R575). -/
  | commit (k : Packet)
  /-- ABORT (14 R575). -/
  | abort (k : Packet)
  /-- EPOCH (14 R578). -/
  | epoch (k : Packet)
  /-- EJECT (14 R599). -/
  | eject (k : Packet)
  /-- TIME_SYNC_TICK (14 R581). -/
  | timeSyncTick
  /-- TIME_SYNC (14 R581). -/
  | timeSync (k : Packet)
  /-- TIME_REPLY (14 R581). -/
  | timeReply (k : Packet)
  /-- TIME_FOLLOW (14 R582). -/
  | timeFollow (k : Packet)
  /-- ACCEPT (14 R590). -/
  | accept (k : Packet)
  /-- BIND_REQ (14 R593). -/
  | bindReq (k : Packet)
  /-- BIND (14 R593). -/
  | bind (k : Packet)
  /-- BAND_REPORT (14 R594). -/
  | bandReport (k : Packet)
  /-- EVENT_FWD (14 R595). -/
  | eventFwd (k : Packet)
  /-- FEATURE_PART (14 R596). -/
  | featurePart (k : Packet)
  /-- HALO_DATA (14 R591). -/
  | haloData (k : Packet)
  /-- COUNTER_EXPORT (14 R591). -/
  | counterExport (k : Packet)
  /-- WIN_WRITE (14 R586). -/
  | winWrite (k : Packet)
  /-- WIN_READ_REQ (14 R584). -/
  | winReadReq (k : Packet) (errors : List ReadError)
  /-- WIN_READ_RESP (14 R584). -/
  | winReadResp (k : Packet)
  /-- WIN_ACK (14 R586). -/
  | winAck (k : Packet)
  /-- WIN_CLOSED (14 R587). -/
  | winClosed (k : Packet)
  /-- DBG_READ (14 R561). -/
  | dbgRead (k : Packet) (errors : List ReadError)
  /-- MEMBER_STATUS (14 R604). -/
  | memberStatus (k : Packet)
  /-- PACK_TIMEOUT_EXPIRY (14 R578). -/
  | packTimeoutExpiry (op : Nat)
  /-- LEADER_CONTACT_TIMEOUT (14 R583). -/
  | leaderContactTimeout (pos : Nat)
  /-- FOLLOWER_CONTACT_TIMEOUT (14 R583). -/
  | followerContactTimeout
  /-- TIME_OFFSET_TIMEOUT (14 R582). -/
  | timeOffsetTimeout (pos : Nat)
  /-- PACK_FILL_START (14 R600). -/
  | packFillStart (pos : Nat)
  /-- POWER_ON (17 R673). -/
  | powerOn
  /-- POWER_LOSS (17 R677). -/
  | powerLoss
  /-- PORST_N_ASSERT (17 R674). -/
  | porstNAssert (lowUs : Nat)
  /-- PORST_N_RISE (17 R675). -/
  | porstNRise (b : BootPins)
  /-- SHEPHERD_START (16 R639). -/
  | shepherdStart
  /-- SHEPHERD_WATCHDOG (15 R628). -/
  | shepherdWatchdog
  /-- LOCKSTEP_MISMATCH (15 R628). -/
  | lockstepMismatch
  /-- ROLLBACK_PROGRAM (16 R648). -/
  | rollbackProgram
  /-- HEARTBEAT_TICK (18 R703). -/
  | heartbeatTick
  /-- KEEP_SECONDS_TICK (16 R642). -/
  | keepSecondsTick
  /-- XTAL32K_LOSS (19 R761). -/
  | xtal32kLoss
  /-- KEEP_SUPPLY_SWITCH (19 R751). -/
  | keepSupplySwitch (toIo : Bool)
  /-- KEEP_DOMAIN_RESET (16 R631). -/
  | keepDomainReset
  /-- VBAT_REVERSAL_LATCH (19 R773). -/
  | vbatReversalLatch
  /-- VBAT_VALID (16 R645). -/
  | vbatValid
  /-- WINDOW_ACK_TIMEOUT (14 R586). -/
  | windowAckTimeout (core : Nat)
  /-- SCU_STORE_COMPLETE (10 R436). -/
  | scuStoreComplete (core index : Nat)
  /-- JTAG_ACCESS (16 R651). -/
  | jtagAccess (j : Jtag)
  /-- D3HOT_EXIT (18 R726). -/
  | d3hotExit
  /-- XTAL32K_RESTORED (19 R761). -/
  | xtal32kRestored
deriving DecidableEq, Repr

end Sys2Proof
end

