-- ==== Sys2Proof/WellFormed.lean ====
section
/-! DEFINITION. Well-formed commands: every number an operand names lies in the range the spec gives what it numbers. exec does not
rely on it: a number outside its range names a part that no command has ever written. -/
namespace Sys2Proof

/-- A number below a bound. -/
def below (n x : Nat) : Bool := x < n

/-- A command comes from ring 0 to 7 (03 R60) or from the management port, written 15 (03 R66). -/
def hdrOk (h : Hdr) : Bool := h.ring < 8 || h.ring == 15

/-- A packet's pack positions are 0 to 7 (14 R560), its INDEX and PTYPE one byte. -/
def packetOk (k : Packet) : Bool := below 8 k.src && below 8 k.dst && below 256 k.kind && below 256 k.index

/-- Every number of a command lies in its range: rings 0 to 7 (03 R60), streams 0 to 31 (05 R183), cores 0 to 15 (04 R114), CSI
(00 R1) and FyxLink (spec/14) ports 0 to 3, virtual channels 0 to 15 (06 R225), descriptors 0 to 7 (04 R130), groups 0 to 7 (04 R138),
registers 0 to 31 (08 R331), queues 0 and 1 (08 R329), handles 0 to 63 (04 R124). -/
def Instr.wf : Instr → Bool
  | .nop h _ => hdrOk h
  | .getInfo h _ => hdrOk h
  | .resync h _ => hdrOk h
  | .powerProfile h _ => hdrOk h
  | .keepRead h _ => hdrOk h
  | .keepWrite h _ => hdrOk h
  | .faultExport h _ => hdrOk h
  | .fwInstall h _ _ => hdrOk h
  | .customerKeyProgram h _ => hdrOk h
  | .deviceReset h _ => hdrOk h
  | .modelLoad h _ => hdrOk h
  | .modelReside h _ => hdrOk h
  | .modelUnload h _ => hdrOk h
  | .modelQuery h _ => hdrOk h
  | .streamConfig h _ => hdrOk h
  | .streamStart h _ => hdrOk h
  | .streamStop h _ => hdrOk h
  | .streamRelease h _ => hdrOk h
  | .bufferPost h _ => hdrOk h
  | .routeSet h _ => hdrOk h
  | .outputSet h _ => hdrOk h
  | .groupSet h _ => hdrOk h
  | .setProfile h _ => hdrOk h
  | .certRead h _ => hdrOk h
  | .csiConfig h _ => hdrOk h
  | .sensorProfileLoad h _ => hdrOk h
  | .setExposure h _ => hdrOk h
  | .rfeSet h _ => hdrOk h
  | .irledSet h _ => hdrOk h
  | .fsyncSet h _ => hdrOk h
  | .sensorPower h _ => hdrOk h
  | .sctlXfer h _ _ _ _ => hdrOk h
  | .jobSubmit h _ _ => hdrOk h
  | .jobKill h _ => hdrOk h
  | .memoryModeSet h _ => hdrOk h
  | .windowOpen h _ => hdrOk h
  | .windowClose h _ => hdrOk h
  | .scrubSet h _ => hdrOk h
  | .treeLoad h _ _ _ _ => hdrOk h
  | .treeUnload h _ => hdrOk h
  | .treeBind h _ => hdrOk h
  | .profileTableSet h _ => hdrOk h
  | .packForm h _ => hdrOk h
  | .packDissolve h _ => hdrOk h
  | .packEject h _ => hdrOk h
  | .packTimeoutSet h _ => hdrOk h
  | .countersSnapshot h _ => hdrOk h
  | .debugRead h _ _ => hdrOk h
  | .testChallenge h _ => hdrOk h
  | .testUnlock h _ => hdrOk h
  | .debugLock h _ => hdrOk h
  | .slotFetch ring _ => below 8 ring
  | .ringWhistleWrite ring _ => below 8 ring
  | .ringCqHeadWrite ring _ => below 8 ring
  | .evqHeadWrite _ => true
  | .ringEnable ring _ _ => below 8 ring
  | .ringDisable ring => below 8 ring
  | .evqEnable _ _ => true
  | .evqDisable => true
  | .evqLostRead => true
  | .glbStrayRead => true
  | .registerWrite _ _ => true
  | .bar0StrayAccess _ _ => true
  | .interruptCoalesceTimeout vector => below 10 vector
  | .msixUnmask _ => true
  | .commandBoundTimeout ring _ => below 8 ring || ring == 15
  | .dmaReadCompletion _ _ => true
  | .dmaReadTimeout _ => true
  | .mgmtSubmit _ => true
  | .mgmtPoll _ _ => true
  | .mgmtRead _ _ _ _ => true
  | .mgmtBusTimeout _ _ => true
  | .pcieLinkDown => true
  | .pcieLinkUp => true
  | .pciePerstNAssert => true
  | .pciePerstNRelease => true
  | .flr => true
  | .busMasterEnableClear => true
  | .d3hotEntry => true
  | .poisonedTlpWrite bar => bar == 0 || bar == 2
  | .bar2Read _ _ _ => true
  | .bar2Write _ _ => true
  | .bar2StrayAccess _ _ => true
  | .timeNowLoRead => true
  | .timeCapture => true
  | .keepwUserWrite word _ => below 64 word
  | .keepwSetWrite word _ => below 64 word
  | .keepwQueueEntry => true
  | .perfLatch _ => true
  | .perfLatchDone => true
  | .glbBootGo => true
  | .hostDownloadDone _ => true
  | .hostFrameAccept sc _ => below 32 sc
  | .csiFrameStart port vc _ _ _ => below 4 port && below 16 vc
  | .csiFrameEnd port vc _ _ => below 4 port && below 16 vc
  | .csiLongPacket port vc _ _ _ _ => below 4 port && below 16 vc
  | .frameEndTimeout port vc => below 4 port && below 16 vc
  | .csiHsBurst port _ _ _ => below 4 port
  | .deskewSequence port _ => below 4 port
  | .deskewTimeout port => below 4 port
  | .clockLostTimeout port => below 4 port
  | .sourceLostTimeout sc => below 32 sc
  | .statsComplete port vc => below 4 port && below 16 vc
  | .exposureWriteWindow sc _ => below 32 sc
  | .exposureCommitAck sc => below 32 sc
  | .exposureWindowClose sc _ => below 32 sc
  | .sctlXferDone bus _ _ _ => below 4 bus
  | .sctlStuckTimeout bus _ _ _ => below 4 bus
  | .sctlBusRecovered bus => below 4 bus
  | .irledPulseStart channel => below 2 channel
  | .irledPulseEnd channel => below 2 channel
  | .irledFaultDetect channel _ => below 2 channel
  | .fsyncOutEdge k => below 4 k
  | .fsyncInEdge k => below 4 k
  | .sensorPwrSettled k => below 4 k
  | .sensorPwrOvercurrent k => below 4 k
  | .sensorPwrRetry k => below 4 k
  | .sensorPwrBackfeed k => below 4 k
  | .tileStart core tile => below 16 core && below 2 tile.queue
  | .tileComplete core queue _ => below 16 core && below 2 queue
  | .scuArithmetic core _ rd rs _ => below 16 core && below 32 rd && below 32 rs
  | .scuLoad core rd rs _ _ _ => below 16 core && below 32 rd && below 32 rs
  | .scuLoadReturn core rd => below 16 core && below 32 rd
  | .scuStore core rs rb _ _ => below 16 core && below 32 rs && below 32 rb
  | .scuBranch core _ a b _ => below 16 core && below 32 a && below 32 b
  | .fq core rs => below 16 core && below 32 rs
  | .xq core rs => below 16 core && below 32 rs
  | .twait core queue rs => below 16 core && below 2 queue && below 32 rs
  | .qstat core rd => below 16 core && below 32 rd
  | .fenceFull core => below 16 core
  | .fenceRemote core => below 16 core
  | .csrr core rd _ => below 16 core && below 32 rd
  | .csrw core rs _ => below 16 core && below 32 rs
  | .evt core code => below 16 core && below 256 code
  | .done core => below 16 core
  | .trap core code => below 16 core && below 256 code
  | .fetchLoad core _ => below 16 core
  | .fetchStore core _ => below 16 core
  | .fetchGather core _ => below 16 core
  | .fetchFill core => below 16 core
  | .fetchCopy core _ => below 16 core
  | .fetchPublish core => below 16 core
  | .fetchDescriptorComplete core _ => below 16 core
  | .mergeEntryTimeout core => below 16 core
  | .dramTransactionComplete channel _ => below 4 channel
  | .iacFillReturn _ => true
  | .haloTimeout core _ _ _ counter _ => below 16 core && below 4096 counter
  | .jobHaloTimeout core counter _ => below 16 core && below 4096 counter
  | .coreWatchdog core _ => below 16 core
  | .narrowWaitTimeout core reg => below 16 core && below 32 reg
  | .narrowWindowRollover core group => below 16 core && below 9 group
  | .scrubTick _ core _ _ => below 16 core
  | .unitFillComplete _ => true
  | .kennelDomainReady d => below 32 d
  | .kennelDomainPowerOff d => below 32 d
  | .domainPoweredUp d => below 32 d
  | .coreDomainIdleTimeout core => below 16 core
  | .ofmDomainIdleTimeout => true
  | .dramUnitFillDone _ => true
  | .residencyOperationStart => true
  | .residencyOperationDone _ => true
  | .modelLoadCopyDone handle _ => below 64 handle
  | .flashOperationDone _ => true
  | .dramRetrainStart channel => below 4 channel
  | .dramRetrained channel _ => below 4 channel
  | .dramChannelDown channel => below 4 channel
  | .operatingPointChangeDone core => below 16 core
  | .avsTick _ => true
  | .avsCodeStep => true
  | .outputDeadline sc _ _ desc => below 32 sc && below 8 desc
  | .tileCheck sc _ _ _ _ _ => below 32 sc
  | .bandRelease sc _ _ _ => below 32 sc
  | .bandReleaseDeadline sc _ _ _ => below 32 sc
  | .ofmRowWrite sc _ _ desc _ => below 32 sc && below 8 desc
  | .outputComplete sc _ _ desc => below 32 sc && below 8 desc
  | .groupWindowExpiry group => below 8 group
  | .voteStart _ _ => true
  | .voteComplete => true
  | .thermalSample _ => true
  | .thermalDegradeStep => true
  | .thermalRecoveryTimeout => true
  | .thermalClearTimeout => true
  | .thermalTrip sensor => below 20 sensor
  | .fyxOrderedSet port _ => below 4 port
  | .fyxTrainingTimeout port => below 4 port
  | .fyxFlitReceived port _ => below 4 port
  | .fyxIdleFlitTimer port => below 4 port
  | .fyxReplayTimeout port => below 4 port
  | .fyxLinkDown port => below 4 port
  | .fyxDownRetryTimeout port => below 4 port
  | .fyxLaneFaultDetect port _ _ => below 4 port
  | .discover port k => below 4 port && packetOk k
  | .packInfo k => packetOk k
  | .planHashes k => packetOk k
  | .packFormDiscoveryTimeout => true
  | .form k _ => packetOk k
  | .prepare k => packetOk k
  | .prepAck k => packetOk k
  | .commit k => packetOk k
  | .abort k => packetOk k
  | .epoch k => packetOk k
  | .eject k => packetOk k
  | .timeSyncTick => true
  | .timeSync k => packetOk k
  | .timeReply k => packetOk k
  | .timeFollow k => packetOk k
  | .accept k => packetOk k
  | .bindReq k => packetOk k
  | .bind k => packetOk k
  | .bandReport k => packetOk k
  | .eventFwd k => packetOk k
  | .featurePart k => packetOk k
  | .haloData k => packetOk k
  | .counterExport k => packetOk k
  | .winWrite k => packetOk k
  | .winReadReq k _ => packetOk k
  | .winReadResp k => packetOk k
  | .winAck k => packetOk k
  | .winClosed k => packetOk k
  | .dbgRead k _ => packetOk k
  | .memberStatus k => packetOk k
  | .packTimeoutExpiry _ => true
  | .leaderContactTimeout pos => below 8 pos
  | .followerContactTimeout => true
  | .timeOffsetTimeout pos => below 8 pos
  | .packFillStart pos => below 8 pos
  | .powerOn => true
  | .powerLoss => true
  | .porstNAssert _ => true
  | .porstNRise _ => true
  | .shepherdStart => true
  | .shepherdWatchdog => true
  | .lockstepMismatch => true
  | .rollbackProgram => true
  | .heartbeatTick => true
  | .keepSecondsTick => true
  | .xtal32kLoss => true
  | .keepSupplySwitch _ => true
  | .keepDomainReset => true
  | .vbatReversalLatch => true
  | .vbatValid => true
  | .windowAckTimeout core => below 16 core
  | .scuStoreComplete core _ => below 16 core
  | .jtagAccess _ => true
  | .d3hotExit => true
  | .xtal32kRestored => true

end Sys2Proof
end

