-- ==== Sys2Proof/Machine/Fields.lean ====
section
/-! DEFINITION. Bit fields, byte order, wrap comparison, CRC-32C and table access: the helpers every layout rule uses. -/
namespace Sys2Proof.Machine

/-- Bits lo to lo + w - 1 of v (00 R2). -/
def bits (v lo w : Nat) : Nat := v / 2 ^ lo % 2 ^ w

/-- Bit i of v. -/
def bit (v i : Nat) : Bool := v / 2 ^ i % 2 == 1

/-- n bytes of v, least significant first (00 R3: every multi-byte field is little-endian). -/
def le : Nat → Nat → Bytes
  | 0, _ => []
  | n + 1, v => BitVec.ofNat 8 v :: le n (v / 256)

/-- The number that a byte string spells, least significant byte first (00 R3). -/
def leVal : Bytes → Nat
  | [] => 0
  | b :: bs => b.toNat + 256 * leVal bs

/-- The n-byte field at byte off of p; bytes beyond the end count as 0. -/
def fld (p : Bytes) (off n : Nat) : Nat := leVal ((p.drop off).take n)

/-- A byte string cut or zero-filled to n bytes: unlisted bytes of a layout read 0 (00 R7). -/
def pad (n : Nat) (bs : Bytes) : Bytes := bs.take n ++ List.replicate (n - bs.length) 0

/-- True when every byte from off to off + n - 1 of p is 0: the reserved-byte test of 00 R7. -/
def zeros (p : Bytes) (off n : Nat) : Bool := ((p.drop off).take n).all (· == 0)

/-- 1 or 0, for one-bit fields. -/
def b2n (b : Bool) : Nat := if b then 1 else 0

/-- 00 R9: a is later than b among wrapping numbers of w bits when (a - b) mod 2^w lies from 1 to 2^(w-1) - 1. -/
def later {w : Nat} (a b : BitVec w) : Bool := a != b && (a - b).toNat < 2 ^ (w - 1)

/-- Saturating addition (15 R620: error and stream counters stay at their limit). -/
def satAdd {w : Nat} (a : BitVec w) (n : Nat) : BitVec w := BitVec.ofNat w (min (a.toNat + n) (2 ^ w - 1))

/-- Two's complement value as a w-bit pattern. -/
def twos (w : Nat) (i : Int) : Nat := (i % (2 ^ w : Int)).toNat

/-- The signed value of a w-bit pattern. -/
def signed (w v : Nat) : Int := if v % 2 ^ w < 2 ^ (w - 1) then (v % 2 ^ w : Int) else (v % 2 ^ w : Int) - 2 ^ w

/-- The smallest n with n * d at least a: the division that rounds up (02 R36). -/
def ceilDiv (a d : Nat) : Nat := (a + (d - 1)) / d

/-- One bit of the reflected CRC-32C (03 R65). -/
def crcBit (c : U32) : U32 := if c.getLsbD 0 then (c >>> 1) ^^^ 0x82F63B78#32 else c >>> 1

/-- One byte of the CRC-32C (03 R65). -/
def crcByte (c : U32) (b : Byte) : U32 :=
  crcBit (crcBit (crcBit (crcBit (crcBit (crcBit (crcBit (crcBit (c ^^^ b.setWidth 32))))))))

/-- 03 R65: CRC-32C, reflected polynomial 0x82F6_3B78, initial value and final XOR 0xFFFF_FFFF. -/
def crc32c (bs : Bytes) : U32 := bs.foldl crcByte 0xFFFFFFFF#32 ^^^ 0xFFFFFFFF#32

/-- The entry of key k, or d. -/
def Tab.get {α : Type} (d : α) : Tab α → Nat → α
  | [], _ => d
  | (j, a) :: t, k => if j = k then a else Tab.get d t k

/-- The table with key k set to a; a new key goes before the first greater key. -/
def Tab.put {α : Type} : Tab α → Nat → α → Tab α
  | [], k, a => [(k, a)]
  | (j, b) :: t, k, a => if j = k then (k, a) :: t else if k < j then (k, a) :: (j, b) :: t else (j, b) :: Tab.put t k a

/-- The table without key k. -/
def Tab.del {α : Type} (t : Tab α) (k : Nat) : Tab α := t.filter (fun e => e.1 != k)

/-- The table with f applied to every entry. -/
def Tab.map {α β : Type} (f : Nat → α → β) (t : Tab α) : Tab β := t.map (fun e => (e.1, f e.1 e.2))

/-- Element i of a list, or d. -/
def nth {α : Type} (d : α) (l : List α) (i : Nat) : α := (l[i]?).getD d

/-- Apply f to element i of a list. -/
def modNth {α : Type} (f : α → α) : Nat → List α → List α
  | _, [] => []
  | 0, a :: l => f a :: l
  | i + 1, a :: l => a :: modNth f i l

/-- The numbers below n whose bit is set in the mask m. -/
def maskBits (m n : Nat) : List Nat := (List.range n).filter (bit m)

/-- The mask with the bits of l set. -/
def toMask (l : List Nat) : Nat := l.foldl (fun m i => m ||| 2 ^ i) 0

/-- How many bits of m below n are set. -/
def popcount (m n : Nat) : Nat := (maskBits m n).length

end Sys2Proof.Machine
end

