-- ==== Sys2Proof/Machine/Blocks.lean ====
section
/-! DEFINITION. What stands on FyxLink lanes (14 R556, R557, R559, R560): the scrambler, 64b/66b blocks, ordered sets, flits and the bytes of
packets. -/
namespace Sys2Proof.Machine

/-! ### The scrambler (14 R556) -/

/-- n bits of data through x^58 + x^39 + 1, bit 0 first: the scrambled bits, and the last 58 of them, the newest in bit 0. -/
def scramble : Nat → Nat → Nat → Nat × Nat
  | 0, st, _ => (0, st)
  | n + 1, st, d =>
    let b := (d + st / 2 ^ 38 + st / 2 ^ 57) % 2
    let r := scramble n ((2 * st + b) % 2 ^ 58) (d / 2)
    (b + 2 * r.1, r.2)

/-- n scrambled bits back to data, and the last 58 scrambled bits. -/
def descramble : Nat → Nat → Nat → Nat × Nat
  | 0, st, _ => (0, st)
  | n + 1, st, x =>
    let r := descramble n ((2 * st + x % 2) % 2 ^ 58) (x / 2)
    ((x + st / 2 ^ 38 + st / 2 ^ 57) % 2 + 2 * r.1, r.2)

/-! ### Ordered sets (14 R557) -/

/-- MAGIC of an ordered set, and the same inverted. -/
def magic : Nat := 0x46594C4B
def magicInverted : Nat := 0xB9A6B3B4

/-- SET_ID of an ordered set. -/
def setId (k : OsKind) : Nat := match k with | .ts1 => 0x1E | .ts2 => 0x2D | .skip => 0x55

/-- The word of a set on a logical lane. POS, ACK, PORT and RATE are of a TS2, 0 in any other. -/
def setWord (k : OsKind) (lane pos port rate : Nat) (ack : Bool) : Nat :=
  setId k + 2 ^ 8 * (lane % 8) + (if k = .ts2 then 2 ^ 12 * (pos % 8) + 2 ^ 15 * b2n ack + 2 ^ 16 * (port % 4) + 2 ^ 18 * (rate % 4) else 0) + 2 ^ 32 * magic

/-- The blocks of a set, one per lane, logical lane k on physical lane k. -/
def setBlocks (k : OsKind) (pos port rate : Nat) (ack : Bool) : List LaneBlock :=
  (List.range 8).map (fun l => ⟨2, BitVec.ofNat 64 (setWord k l pos port rate ack)⟩)

/-- A block as an ordered-set word: an inverted lane shows the other sync header and the inverted MAGIC (14 R558 step 2). -/
def blockWord (b : LaneBlock) : Option (Nat × Bool) :=
  let w := b.payload.toNat
  if b.header = 2 && w / 2 ^ 32 = magic then some (w, false)
  else if b.header = 1 && w / 2 ^ 32 = magicInverted then some (2 ^ 64 - 1 - w, true)
  else none

/-- The kind of a SET_ID. -/
def kindOf (id : Nat) : Option OsKind := if id = 0x1E then some .ts1 else if id = 0x2D then some .ts2 else if id = 0x55 then some .skip else none

/-- The set that the blocks of 8 physical lanes carry: the same word on each but for LANE. -/
def readSet (bs : List LaneBlock) : Option OrderedSet :=
  let ws := bs.filterMap blockWord
  let w := (ws.map (·.1)).headD 0
  if bs.length = 8 && ws.length = 8 && ws.all (fun e => e.1 % 2 ^ 8 == w % 2 ^ 8 && e.1 / 2 ^ 11 == w / 2 ^ 11) then
    (kindOf (bits w 0 8)).map (fun k =>
      { kind := k, pos := bits w 12 3, port := bits w 16 2, lanes := ws.map (fun e => bits e.1 8 3)
        inverted := toMask ((List.range 8).filter (fun i => (nth (0, false) ws i).2)), ack := bit w 15, rate := bits w 18 2 })
  else none

/-! ### Flits (14 R559) -/

/-- Bytes 0 to 59 of a flit. -/
def flitHead (seq ftype ack : Nat) (ackValid nak : Bool) (cls credits : Nat) (payload : Bytes) : Bytes :=
  le 2 (seq % 4096 + 4096 * ftype) ++ le 2 (ack % 4096 + 4096 * b2n ackValid + 8192 * b2n nak) ++ le 1 (cls % 4 + 4 * credits) ++ le 3 0 ++ pad 52 payload

/-- A flit with its CRC. -/
def flitBytes (seq ftype ack : Nat) (ackValid nak : Bool) (cls credits : Nat) (payload : Bytes) : Bytes :=
  let h := flitHead seq ftype ack ackValid nak cls credits payload
  h ++ le 4 (crc32c h).toNat

/-- The blocks of a flit on the 8 lanes, bytes 8k to 8k + 7 on logical lane k, and the scramblers after them (14 R556). -/
def flitBlocks (scr : List Nat) (b : Bytes) : List LaneBlock × List Nat :=
  let r := (List.range 8).map (fun k => scramble 64 (nth 0 scr k) (fld b (8 * k) 8))
  (r.map (fun e => ⟨1, BitVec.ofNat 64 e.1⟩), r.map (·.2))

/-- A received block of a lane that was found inverted. -/
def uninvert (b : LaneBlock) : LaneBlock := ⟨~~~b.header, ~~~b.payload⟩

/-- The blocks of the logical lanes, from the physical ones of an aligned link (14 R558 steps 2 and 3, R563). -/
def logicalLanes (inverted : Nat) (reversed : Bool) (bs : List LaneBlock) : List LaneBlock :=
  let l := bs.zipIdx.map (fun e => if bit inverted e.2 then uninvert e.1 else e.1)
  if reversed then l.reverse else l

/-- The 64 bytes of a flit on the logical lanes, whether every block is a flit block, and the descramblers after them. -/
def readBlocks (scr : List Nat) (bs : List LaneBlock) : Bytes × Bool × List Nat :=
  let r := (List.range 8).map (fun k => descramble 64 (nth 0 scr k) (nth ⟨0, 0⟩ bs k).payload.toNat)
  (r.flatMap (fun e => le 8 e.1), bs.length == 8 && bs.all (fun b => b.header == 1), r.map (·.2))

/-- The fields of a flit's 64 bytes. -/
def readFlit (b : Bytes) (valid : Bool) : Flit :=
  let w := fld b 0 2
  let a := fld b 2 2
  let c := fld b 4 1
  { ftype := bits w 12 4, seq := bits w 0 12, ack := bits a 0 12, ackValid := bit a 12, nak := bit a 13, cls := bits c 0 2, credits := bits c 2 6
    crcOk := valid && (crc32c (b.take 60)).toNat == fld b 60 4, payload := (b.drop 8).take 52 }

/-! ### Packets (14 R560) -/

/-- A packet's header of 16 B and its data. -/
def packetBytes (cls : Nat) (k : Packet) : Bytes :=
  le 1 k.kind ++ le 1 (k.src % 8 + 16 * (k.dst % 8)) ++ le 1 (cls % 4) ++ le 1 (k.index % 64) ++ le 2 k.data.length ++ le 2 k.tag.toNat
    ++ le 4 k.epoch.toNat ++ le 4 k.arg.toNat ++ k.data

/-- A packet's class and the packet itself, once all of its bytes are there. -/
def readPacket (b : Bytes) : Option (Nat × Packet) :=
  let n := fld b 4 2
  if 16 ≤ b.length && 16 + n ≤ b.length then
    some (bits (fld b 2 1) 0 2,
      { kind := fld b 0 1, src := bits (fld b 1 1) 0 3, dst := bits (fld b 1 1) 4 3, index := bits (fld b 3 1) 0 6, tag := BitVec.ofNat 16 (fld b 6 2)
        epoch := BitVec.ofNat 32 (fld b 8 4), arg := BitVec.ofNat 32 (fld b 12 4), data := (b.drop 16).take n })
  else none

/-- The payloads of n flits that carry a packet's bytes, each with its FTYPE; the last is padded where it is sent. -/
def packetParts : Nat → Nat → Bytes → List (Nat × Bytes)
  | 0, _, _ => []
  | n + 1, t, b => (t, b.take 52) :: packetParts n 2 (b.drop 52)

end Sys2Proof.Machine
end

