-- ==== Sys2Proof/Machine/State.lean ====
section
/-! DEFINITION. State as plain data: every register, queue, buffer, counter, mode and pin the spec gives the ILV-3216,
the reset value of each, and the reasons a step can stop. Each field's docstring says what it holds, its width, the rule
that names it and its reset value; INVENTORY.md repeats the list. -/
namespace Sys2Proof.Machine

/-- Why a step stops with a fault. -/
inductive Fault where
  /-- Raised by PORST_N_ASSERT alone, for a low pulse of 1 us to 10 us, which 17 R674 forbids and gives no effect for.
  Safe: the model stops where the spec says nothing. -/
  | porstPulseUndefined
deriving DecidableEq, Repr

/-- Why a command has no meaning. -/
inductive Refusal where
  /-- A command the model has no meaning for yet. Safe: nothing is claimed of it. -/
  | notModelled (mnemonic : String)
deriving DecidableEq, Repr

/-! ### What the device has sent (03 R78, 18 R725, 06, 14): the model's own log, newest last -/

/-- One thing the device put on an interface. -/
inductive Sent where
  /-- A DMA write of host memory at an address (03 R78, 04 R111). -/
  | host (addr : Nat) (data : Bytes)
  /-- An MSI-X message of a vector (03 R69, 18 R725). -/
  | msix (vector : Nat)
  /-- A device read request of host memory (03 R88). -/
  | hostRead (id addr len : Nat)
  /-- The answer to a host read of a BAR, with the EP bit (18 R702, R736). -/
  | reply (data : Bytes) (poisoned : Bool)
  /-- Bytes the management port drives, or a NACK when none (03 R98). -/
  | mgmt (data : Bytes)
  /-- A transfer on a sensor control bus (06 R257, 04 R150). -/
  | sctl (bus addr speed mode : Nat) (write : Bytes) (readLen : Nat)
  /-- Nine SCL pulses and a STOP on a sensor control bus (06 R273). -/
  | recovery (bus : Nat)
  /-- A pulse of a width in us on FSYNC_OUTk (06 R271). -/
  | pulse (index us : Nat)
  /-- A level driven on a pin: FSYNC_OUT, ALERT_N, THERMTRIP_N, AVS_VID, IRLED sink, SENSOR_PWR switch. -/
  | pin (name : Pin) (index level : Nat)
  /-- A FyxLink packet sent toward a pack position (14 R560). -/
  | fyx (dest : Nat) (pkt : Packet)
  /-- A flit or an ordered set on a FyxLink port: the blocks of its 8 lanes (14 R556, R557, R559). -/
  | blocks (port : Nat) (lanes : List LaneBlock)
  /-- Bytes written to the boot flash at an offset, or a sector erase when empty (16 R656, 17 R691). -/
  | flash (offset : Nat) (data : Bytes)
  /-- A JTAG answer (16 R651). -/
  | tdo (data : Bytes)
deriving DecidableEq, Repr

/-- The status codes of 03 R106. -/
inductive Status where
  | ok | okReplay | pending | doneEmpty
  | badCrc | badOpcode | reservedNonzero | badLength | badField | badPointer | badParamCrc | notOnPort
  | badState | noResource | tagInUse | certOverBudget | busyNonatomic | shapeOverPlan | kennelFull | notFound
  | held | queueFull | planMismatch
  | packMismatch | packNotFormed | packMemberTimeout | packPosDuplicate | staleEpoch | notLeader
  | sigInvalid | keyMismatch | rollback | locked | unlockFailed
  | hostReadFailed | eccUncorrectable | dramDegraded | thermalCritical | internalFault | aborted
deriving DecidableEq, Repr

/-! ### Transport -/

/-- How far a fetched command has come (03 R71, R73). -/
inductive Phase where
  | slotRead      -- the slot is being read
  | paramRead     -- the parameter buffer is being read
  | ready         -- checked through step 3 and waiting for its turn
  | started       -- started, and completing later (SENSOR_POWER, management staged commands)
deriving DecidableEq, Repr

/-- A command fetched and not completed (03 R71). -/
structure InFlight where
  tag : U16
  opcode : U16
  crc : U32
  fence : Bool
  phase : Phase
  params : Bytes
  paramCrc : U32
  fetchedAt : Nat
  /-- index of its slot in the submission ring -/
  index : U16 := 0
  /-- no reserved bit or byte of its slot is set (03 R73, 00 R7) -/
  clean : Bool := true
  /-- fetched before a link loss: its record is never written to a ring (03 R96) -/
  unrecorded : Bool
deriving DecidableEq, Repr

/-- A completion record's content (03 R66): everything but the phase bit, SQ_HEAD and time. -/
structure Record where
  tag : U16
  status : U16
  opcode : U16
  ring : Nat
  replay : Bool
  result : Bytes
deriving DecidableEq, Repr

/-- An entry of a duplicate window (03 R81). -/
structure WinEntry where
  tag : U16
  crc : U32
  record : Record
deriving DecidableEq, Repr

/-- One submission and completion ring (03 R60 to R63, 18 R710). -/
structure Ring where
  /-- RING_SQ_BASE, 64 bits, [11:0] zero. 03 R60, 18 R710. Reset: 0. -/
  sqBase : U64 := 0
  /-- RING_CQ_BASE, 64 bits, [11:0] zero. 03 R60, 18 R710. Reset: 0. -/
  cqBase : U64 := 0
  /-- RING_SIZE.SQ_LOG2, 4 bits. 18 R710. Reset: 0. -/
  sqLog2 : BitVec 4 := 0
  /-- RING_SIZE.CQ_LOG2, 4 bits. 18 R710. Reset: 0. -/
  cqLog2 : BitVec 4 := 0
  /-- RING_CTRL.ENABLE, 1 bit. 18 R710. Reset: 0. -/
  enable : Bool := false
  /-- RING_CTRL.COAL_COUNT, 8 bits. 18 R710. Reset: 1. -/
  coalCount : Byte := 1
  /-- RING_CTRL.COAL_USEC, 10 bits. 18 R710. Reset: 0. -/
  coalUsec : BitVec 10 := 0
  /-- RING_STATUS.HALTED, 1 bit. 18 R710, R721. Reset: 0. -/
  halted : Bool := false
  /-- RING_STATUS.WHISTLE_ERR, 1 bit, W1C. 18 R710, 03 R63. Reset: 0. -/
  whistleErr : Bool := false
  /-- RING_STATUS.HEAD_ERR, 1 bit, W1C. 18 R710, 03 R77. Reset: 0. -/
  headErr : Bool := false
  /-- RING_STATUS.FETCH_ERR, 1 bit, W1C. 18 R710, 03 R88. Reset: 0. -/
  fetchErr : Bool := false
  /-- RING_SQ_TAIL, 16 bits. 18 R710. Reset: 0. -/
  sqTail : U16 := 0
  /-- RING_SQ_HEAD, 16 bits. 18 R710. Reset: 0. -/
  sqHead : U16 := 0
  /-- RING_CQ_TAIL, 16 bits. 18 R710. Reset: 0. -/
  cqTail : U16 := 0
  /-- RING_CQ_HEAD, 16 bits. 18 R710. Reset: 0. -/
  cqHead : U16 := 0
  /-- The in-flight set, at most 16, in fetch order. 03 R71. Reset: empty. -/
  inFlight : List InFlight := []
  /-- The duplicate window, at most 256, newest first. 03 R81. Reset: empty. -/
  window : List WinEntry := []
  /-- Records written since the ring was enabled, 32 bits. 03 R104. Reset: 0. -/
  completedTotal : U32 := 0
  /-- LAST_FAULT, 16 bits. 03 R104. Reset: 0. -/
  lastFault : Nat := 0
  /-- NEWEST_TAG, 16 bits. 03 R104. Reset: 0 (DESIGN CHOICE, log 3: no value before a completion). -/
  newestTag : U16 := 0
  /-- Records written and not yet signalled. 03 R78. Reset: 0. -/
  unsignalled : Nat := 0
  /-- When the first unsignalled record was written, ns. 03 R78. Reset: 0 (DESIGN CHOICE, log 3). -/
  firstAt : Nat := 0
  /-- When the ring began to wait for a fetch, ns, while it waits. 03 R72. Reset: none. -/
  waitingSince : Option Nat := none
deriving DecidableEq, Repr

/-- An event generated and not yet written (03 R67, R79). -/
structure Event where
  code : Nat
  source : Nat
  seq : U16
  lostBefore : Bool
  time : Nat
  payload : Bytes
deriving DecidableEq, Repr

/-- The event ring (03 R79, R80, 18 R711). -/
structure Evq where
  /-- EVQ_BASE, 64 bits. 18 R711. Reset: 0. -/
  base : U64 := 0
  /-- EVQ_SIZE.LOG2, 4 bits. 18 R711. Reset: 0. -/
  log2 : BitVec 4 := 0
  /-- EVQ_CTRL.ENABLE, 1 bit. 18 R711. Reset: 0. -/
  enable : Bool := false
  /-- EVQ_CTRL.COAL_COUNT, 8 bits. 18 R711. Reset: 1. -/
  coalCount : Byte := 1
  /-- EVQ_CTRL.COAL_USEC, 10 bits. 18 R711. Reset: 0. -/
  coalUsec : BitVec 10 := 0
  /-- EVQ_STATUS.HEAD_ERR, 1 bit, W1C. 18 R711. Reset: 0. -/
  headErr : Bool := false
  /-- EVQ_STATUS.OVERFLOW, 1 bit, W1C. 18 R711, 03 R79. Reset: 0. -/
  overflow : Bool := false
  /-- EVQ_TAIL, 16 bits. 18 R711. Reset: 0. -/
  tail : U16 := 0
  /-- EVQ_HEAD, 16 bits. 18 R711. Reset: 0. -/
  head : U16 := 0
  /-- EVQ_LOST, 32 bits, RC. 18 R711, R723. Reset: 0. -/
  lost : U32 := 0
  /-- The backlog, at most 1,024 events, oldest first. 03 R79. Reset: empty. -/
  backlog : List Event := []
  /-- LOST_TOTAL, 32 bits saturating. 03 R104. Reset: 0. -/
  lostTotal : U32 := 0
  /-- Events discarded since the last EVENTS_LOST, 32 bits saturating. 03 R79. Reset: 0. -/
  lostSince : U32 := 0
  /-- Sources whose next event carries LOST_BEFORE. 03 R79. Reset: empty. -/
  lostSources : List Nat := []
  /-- The next sequence number of every source, 16 bits each. 15 R606. Reset: 0. -/
  seqs : Tab U16 := []
  /-- Records written and not yet signalled. 03 R78. Reset: 0. -/
  unsignalled : Nat := 0
  /-- When the first of them was written, ns. 03 R78. Reset: 0 (DESIGN CHOICE, log 3). -/
  firstAt : Nat := 0
deriving DecidableEq, Repr

/-- The management port (03 R97 to R102). -/
structure Mgmt where
  /-- STATE of POLL: 0 nothing submitted, 1 executing, 2 complete. 03 R98. Reset: 0. -/
  state : Nat := 0
  /-- The completion record POLL returns, 32 B. 03 R98. Reset: zeros. -/
  record : Bytes := List.replicate 32 0
  /-- The response buffer's data (4 KiB; RESP_LEN is its length). 03 R98. Reset: empty. -/
  resp : Bytes := []
  /-- The command answered last was a replay of an older one: RESP_LEN is 0. 03 R100. Reset: false. -/
  respHidden : Bool := false
  /-- The command in flight on the port. 03 R98. Reset: none. -/
  inFlight : List InFlight := []
  /-- The port's duplicate window, at most 16, newest first. 03 R81. Reset: empty. -/
  window : List WinEntry := []
  /-- Tag and slot CRC of the most recent command the port executed. 03 R100. Reset: none. -/
  lastExec : Option (U16 × U32) := none
  /-- A transaction is on the bus. 03 R101. Reset: false. -/
  busy : Bool := false
deriving DecidableEq, Repr

/-- A device read of host memory in progress: what it is for (03 R88). -/
inductive ReadFor where
  | slot (ring : Nat) (index : Nat)
  | params (ring : Nat) (tag : Nat)
  | mgmtParams (tag : Nat)
  /-- bytes of a fetch descriptor of a core (11 R449, R472) -/
  | fetch (core : Nat)
  | bootImage
deriving DecidableEq, Repr

/-- One outstanding device read (03 R88). -/
structure DmaRead where
  id : Nat
  purpose : ReadFor
  addr : Nat
  len : Nat
  /-- 0 for the first attempt, 1 for the retry -/
  attempt : Nat
  startedAt : Nat
deriving DecidableEq, Repr

/-- A staged change or a long operation whose COMMITTED event is outstanding (03 R75, 04 R173). -/
structure Staged where
  ring : Nat
  tag : U16
  opcode : U16
  /-- The stream, model handle or group it acts on. -/
  target : Nat
  /-- Its change is ready to commit: every resource it needs is there. -/
  ready : Bool
  /-- Frame boundaries passed since it became ready (04 R174). -/
  boundaries : Nat
  change : Change
deriving DecidableEq, Repr

/-- The PCIe function and its MSI-X structures (18 R712, R714, R725, R726). -/
structure Pcie where
  /-- The link is up. 03 R96, 17 R664. Reset: down. -/
  linkUp : Bool := false
  /-- PCIE_PERST_N is low. 17 R664. Reset: low until the host releases it (DESIGN CHOICE, log 3). -/
  perst : Bool := true
  /-- Link training has been permitted: the boot ROM has passed 17 R675 step 3. Reset: false. -/
  mayTrain : Bool := false
  /-- Link training is running. 17 R664. Reset: false. -/
  training : Bool := false
  /-- Bus Master Enable, 1 bit. 18 R726. Reset: 0 (PCI Express: power-on value). -/
  busMaster : Bool := false
  /-- Memory Space Enable, 1 bit. 18 R726. Reset: 0 (PCI Express: power-on value). -/
  memSpace : Bool := false
  /-- The function is in D3hot. 18 R726. Reset: D0. -/
  d3hot : Bool := false
  /-- Completion Timeout Value, 4 bits. 03 R90. Reset: 0. -/
  cplTimeout : BitVec 4 := 0
  /-- Completion Timeout Ranges Supported, 4 bits, read-only: Range A. 03 R90. Reset: 1. -/
  cplRanges : BitVec 4 := 1
  /-- Completion Timeout Disable Supported, 1 bit, read-only. 03 R90. Reset: 0. -/
  cplDisable : Bool := false
  /-- MSI-X Enable, 1 bit. 18 R725. Reset: 0. -/
  msixEnable : Bool := false
  /-- MSI-X Function Mask, 1 bit. 18 R725. Reset: 0. -/
  msixMask : Bool := false
  /-- Vector Control Mask Bit of vectors 0 to 63. 18 R712. Reset: 1 each. -/
  vecMask : Tab Bool := []
  /-- Message address and data of vectors 0 to 63, 64 and 32 bits. 18 R712. Reset: 0 (DESIGN CHOICE, log 3). -/
  vecMsg : Tab (U64 × U32) := []
  /-- The pending bits, vectors 0 to 9 (10 to 63 read 0). 18 R712. Reset: 0. -/
  pba : Tab Bool := []
  /-- Poisoned TLPs reported through AER. 18 R727. Reset: 0. -/
  aerPoisoned : Nat := 0
deriving DecidableEq, Repr

/-! ### Global registers, boot, OTP, keep domain -/

/-- STATE of the boot status register (17 R669). -/
inductive BootState where
  | init | flash | waitHost | hostLoading | recovery | starting | running
deriving DecidableEq, Repr

/-- The GLB_ and TIME_ blocks, and what fuses and straps give (18 R703, R704). -/
structure Glb where
  /-- STEPPING, 8 bits: 0xB0 on B0, 0xA0 on A0. 04 R114. Reset: 0xB0 (the hardware this spec describes, 00 R2). -/
  stepping : Byte := 0xB0
  /-- FW_VERSION of the running image, 32 bits. 18 R703. Reset: 0. -/
  fwVersion : U32 := 0
  /-- ROLLBACK_LEVEL of the running image. 16 R648. Reset: 0. -/
  fwLevel : Nat := 0
  /-- The running image carries a valid customer signature under this key hash (32 B, or none). 04 R122. Reset: none. -/
  fwCustomer : Option Bytes := none
  /-- The running image's VENDOR_KEY, 65 B. 16 R653. Reset: empty. -/
  fwVendorKey : Bytes := []
  /-- Fuse CAP_CAMERA. 04 R114. Reset: 1 (a fuse: DESIGN CHOICE, log 4). -/
  capCamera : Bool := true
  /-- Fuse CAP_FYXLINK. 04 R114. Reset: 1 (a fuse: DESIGN CHOICE, log 4). -/
  capFyx : Bool := true
  /-- Fuse GRADE: false C, true E. 04 R114. Reset: C (a fuse: DESIGN CHOICE, log 4). -/
  gradeE : Bool := false
  /-- BOOT_SRC[1:0] as sampled. 17 R666. Reset: 0 (a strap: DESIGN CHOICE, log 4). -/
  bootSrc : BitVec 2 := 0
  /-- PACK_POS[2:0] as sampled. 17 R666. Reset: 0 (a strap: DESIGN CHOICE, log 4). -/
  packPos : BitVec 3 := 0
  /-- TEST0 or TEST1 high at this boot. 16 R652. Reset: 0 (a pin: DESIGN CHOICE, log 4). -/
  testPins : Bool := false
  /-- GLB_BOOT_STATUS.STATE. 17 R669. Reset: INIT. -/
  boot : BootState := .init
  /-- GLB_BOOT_STATUS.SLOT, 2 bits. 17 R669. Reset: 0. -/
  slot : BitVec 2 := 0
  /-- GLB_BOOT_STATUS.LAST_STATUS, 16 bits. 17 R669. Reset: 0. -/
  lastStatus : U16 := 0
  /-- GLB_BOOT_ADDR, 64 bits, [11:0] zero. 18 R703. Reset: 0. -/
  bootAddr : U64 := 0
  /-- GLB_BOOT_LEN, 32 bits. 18 R703. Reset: 0. -/
  bootLen : U32 := 0
  /-- GLB_RESET_CAUSE, 8 bits. 17 R663. Reset: 0, POWER_ON. -/
  resetCause : Nat := 0
  /-- GLB_STRAY.BAR0_STRAY, 16 bits saturating, RC. 18 R703. Reset: 0. -/
  bar0Stray : U16 := 0
  /-- GLB_STRAY.BAR2_STRAY, 16 bits saturating, RC. 18 R703. Reset: 0. -/
  bar2Stray : U16 := 0
  /-- GLB_SCRATCH, 32 bits. 18 R703. Reset: 0. -/
  scratch : U32 := 0
  /-- GLB_HEARTBEAT, 32 bits wrapping. 18 R703. Reset: 0. -/
  heartbeat : U32 := 0
  /-- TIME_NOW_HI as latched, 32 bits. 18 R704. Reset: 0. -/
  nowHi : U32 := 0
  /-- TIME_CAPTURED, 64 bits. 18 R704. Reset: 0. -/
  captured : U64 := 0
  /-- PORT_FAULTS, 32 bits. 15 R611. Reset: 0. -/
  portFaults : U32 := 0
  /-- The active PORT_FAULT causes, (port bit, cause). 15 R619. Reset: empty. -/
  portCauses : List (Nat × Nat) := []
  /-- FAULT_FLAGS bit 10, sticky. 15 R612. Reset: 0. -/
  memUncorrectable : Bool := false
  /-- FAULT_FLAGS bit 11, sticky. 15 R612. Reset: 0. -/
  remapExhausted : Bool := false
  /-- FYX_SETTINGS in force, 32 bits, as Shepherd's last start took it. 14 R555, 16 R641. Reset: 0x0F18 (16 R632's default: DESIGN CHOICE, log 3). -/
  fyxSettings : U32 := 0xF18
  /-- SNAPSHOT_COUNT: RESYNCs since Shepherd started, 32 bits wrapping. 03 R104. Reset: 0. -/
  snapshots : U32 := 0
  /-- When Shepherd last started, ns. 16 R648. Reset: 0 (DESIGN CHOICE, log 3). -/
  startedAt : Nat := 0
  /-- When the heartbeat last advanced, ns. 15 R627. Reset: 0 (DESIGN CHOICE, log 3). -/
  beatAt : Nat := 0
  /-- Starts of Shepherd-watchdog restarts remembered for scar bit 2, in keep-seconds. 16 R637. Reset: empty. -/
  watchdogStarts : List Nat := []
  /-- The control cores are halted by JTAG. 16 R651. Reset: false. -/
  jtagHalted : Bool := false
  /-- Consecutive slot fetches from higher rings while a lower ring waits. 03 R72. Reset: 0. -/
  overtakes : Nat := 0
  /-- Test mode entered at this boot. 16 R654. Reset: 0. -/
  testMode : Bool := false
  /-- The test nonce of the last challenge, 16 B, while valid. 16 R653. Reset: none. -/
  nonce : Option Bytes := none
  /-- Challenges made at this boot, 0 to 8. 16 R653. Reset: 0. -/
  challenges : Nat := 0
deriving DecidableEq, Repr

/-- One-time programmable bits (16 R636): never cleared. -/
structure Otp where
  /-- CUSTOMER_KEY_HASH, 32 B, once programmed. 16 R636, 04 R122. Reset: not programmed (DESIGN CHOICE, log 4). -/
  keyHash : Option Bytes := none
  /-- ROLLBACK, steps used, 0 to 32. 16 R636, R648. Reset: 0 (DESIGN CHOICE, log 4). -/
  rollback : Nat := 0
  /-- DEBUG_LOCK, 1 bit. 16 R636, 04 R169. Reset: 0 (DESIGN CHOICE, log 4). -/
  debugLocked : Bool := false
  /-- SCAR, 16 bits. 16 R637. Reset: 0 (DESIGN CHOICE, log 4). -/
  scar : U16 := 0
  /-- Fused remaps: (memory, core, bank, row, spare). 10 R427. Reset: none (DESIGN CHOICE, log 4). -/
  fusedRemaps : List (Nat × Nat × Nat × Nat × Nat) := []
deriving DecidableEq, Repr

/-- Which supply holds the keep domain (16 R631, 19 R751). -/
inductive KeepSupply where
  | io18 | vbat | lost
deriving DecidableEq, Repr

/-- A queued KEEPW_ register write (18 R730). -/
structure KeepWrite where
  /-- settings word, else user register -/
  settings : Bool
  word : Nat
  value : U32
deriving DecidableEq, Repr

/-- The keep domain and Shepherd's mirror of it, which every write reaches together (16 R630, R640). -/
structure Keep where
  /-- User keep registers 0 to 63, 32 bits each. 16 R630. Reset: 0 (16 R631, after the keep domain's own reset). -/
  user : Tab U32 := []
  /-- Settings copy 0, words 0 to 63, 32 bits each. 16 R630, R632. Reset: 0 (16 R631). -/
  copy0 : Tab U32 := []
  /-- Settings copy 1. 16 R630, R632. Reset: 0 (16 R631). -/
  copy1 : Tab U32 := []
  /-- The active copy is copy 1. 16 R640. Reset: false. -/
  active1 : Bool := false
  /-- Field row-remap table, 64 entries of 8 B. 16 R630, 10 R399. Reset: 0. -/
  remap : Tab U64 := []
  /-- REMAP_CRC, 32 bits. 16 R630. Reset: 0 (16 R631). -/
  remapCrc : U32 := 0
  /-- Fault log entries 0 to 63, 32 B each. 16 R633. Reset: 0. -/
  log : Tab Bytes := []
  /-- FAULT_LOG_NEWEST, 6 bits. 16 R643. Reset: 0. -/
  newest : BitVec 6 := 0
  /-- FAULT_LOG_COUNT, 0 to 64. 16 R643. Reset: 0. -/
  count : Nat := 0
  /-- Keep-seconds counter, 32 bits, sticks. 16 R642. Reset: 0. -/
  seconds : U32 := 0
  /-- When the counter last advanced, ns of the timebase. 16 R642. Reset: 0. -/
  secondsAt : Nat := 0
  /-- The KEEP_LOST latch. 16 R631. Reset: set (the keep domain itself has just reset). -/
  keepLost : Bool := true
  /-- The TRIP latch with its sensor. 16 R634, 17 R698. Reset: none. -/
  trip : Option Nat := none
  /-- The VBAT_REVERSED latch of the control block. 16 R645. Reset: 0. -/
  vbatReversed : Bool := false
  /-- The reversal latched by the VBAT input stage. 16 R645. Reset: 0. -/
  inputReversed : Bool := false
  /-- The supply that holds the domain. 16 R631, 19 R751. Reset: VDD_IO18. -/
  supply : KeepSupply := .io18
  /-- XTAL32K oscillates. 19 R761. Reset: true (DESIGN CHOICE, log 4: a board has the crystal). -/
  xtal : Bool := true
  /-- KEEPW_ writes queued, at most 16. 18 R730. Reset: empty. -/
  queue : List KeepWrite := []
  /-- KEEPW_STATUS.DROPPED, W1C. 18 R706. Reset: 0. -/
  dropped : Bool := false
  /-- KEEPW_STATUS.REJECTED, W1C. 18 R706. Reset: 0. -/
  rejected : Bool := false
  /-- KEEP_LOST found at the last start. 18 R706. Reset: 0 (DESIGN CHOICE, log 3). -/
  foundLost : Bool := false
  /-- VBAT_REVERSED found at the last start. 18 R706. Reset: 0 (DESIGN CHOICE, log 3). -/
  foundReversed : Bool := false
  /-- SETTINGS_DEFAULTED at the last start. 18 R706. Reset: 0 (DESIGN CHOICE, log 3). -/
  foundDefaulted : Bool := false
  /-- REMAP_DISCARDED at the last start. 18 R706. Reset: 0 (DESIGN CHOICE, log 3). -/
  foundDiscarded : Bool := false
  /-- The last log write of each (code, source): its index and its ns. 15 R629. Reset: empty. -/
  logTimes : Tab (Nat × Nat) := []
deriving DecidableEq, Repr

/-- The boot flash as the directory and the slots' headers show it (17 R667, R668). -/
structure Flash where
  /-- A flash answered SFDP at this boot. 04 R120. Reset: true (a board part: DESIGN CHOICE, log 4). -/
  fitted : Bool := true
  /-- Flash size in bytes. 17 R667. Reset: 16 MiB (a board part: DESIGN CHOICE, log 4). -/
  size : Nat := 16777216
  /-- Directory copies 0 and 1: (ACTIVE, SLOT_SIZE, DIR_SEQ) when the CRC is valid. 17 R668. Reset: none (DESIGN CHOICE, log 4). -/
  dir0 : Option (Nat × Nat × U32) := none
  /-- As dir0, copy 1. 17 R668. Reset: none (DESIGN CHOICE, log 4). -/
  dir1 : Option (Nat × Nat × U32) := none
  /-- The images in slots 0 and 1. 17 R667. Reset: empty (DESIGN CHOICE, log 4). -/
  slots : Tab Bytes := []
  /-- The last export written whole to the reserved area, and whether it is valid. 16 R656. Reset: none. -/
  export_ : Option Bytes := none
  /-- Staged flash operations of FAULT_EXPORT and FW_INSTALL, in execution order. 16 R656. Reset: empty. -/
  queue : List FlashOp := []
deriving DecidableEq, Repr

/-! ### Power, clocks, temperature -/

/-- The thermal state (17 R694). -/
inductive Thermal where
  | normal | warning | critical
deriving DecidableEq, Repr

/-- Domains, profile, AVS code and thermal control (17 R660 to R699). -/
structure Power where
  /-- Power profile in force. 17 R662. Reset: 0, FULL (BOOT_PROFILE's default, 16 R632). -/
  profile : Nat := 0
  /-- The rails are up. 17 R673. Reset: true. -/
  rails : Bool := true
  /-- PORST_N is low. 17 R674. Reset: low, held from before the rails rise (17 R674). -/
  porst : Bool := true
  /-- Switched domains on, bit d. 17 R660. Reset: 0. -/
  domains : U32 := 0
  /-- Domains switching on, with the ns at which they are ready. 17 R678. Reset: empty. -/
  poweringUp : Tab Nat := []
  /-- When each core domain lost its last user, ns. 17 R679. Reset: empty. -/
  idleSince : Tab Nat := []
  /-- AVS_VID code, 4 bits. 17 R671, R673. Reset: 10. -/
  avs : BitVec 4 := 10
  /-- When the code last stepped, ns. 17 R683, R684. Reset: 0 (DESIGN CHOICE, log 3). -/
  avsAt : Nat := 0
  /-- The code has lain within its band since Shepherd's start. 17 R683. Reset: false. -/
  avsSettled : Bool := false
  /-- Thermal state. 17 R694. Reset: normal. -/
  thermal : Thermal := .normal
  /-- Latest sample of sensors 0 to 19, degrees C. 17 R670. Reset: 0 (18 R705). -/
  temp : Tab Int := []
  /-- Highest sample of each sensor since Shepherd started. 18 R705. Reset: 0. -/
  peak : Tab Int := []
  /-- When every sensor came below 110 C, ns. 17 R694. Reset: none. -/
  coolSince : Option Nat := none
  /-- When every sensor came below 95 C, ns. 17 R694. Reset: none. -/
  clearSince : Option Nat := none
  /-- When the last degrade step was taken, or critical entered, ns. 17 R695. Reset: 0. -/
  degradeAt : Nat := 0
  /-- The device is stopped by the thermal trip. 17 R698. Reset: false. -/
  tripped : Bool := false
  /-- ALERT_N is low. 17 R699. Reset: released. -/
  alert : Bool := false
  /-- THERMTRIP_N is low. 17 R698. Reset: released. -/
  thermtrip : Bool := false
deriving DecidableEq, Repr

/-- PERF_ block: the latched copies (18 R708, R733). -/
structure Perf where
  /-- PERF_STATUS.BUSY. 18 R708. Reset: 0. -/
  busy : Bool := false
  /-- The sets of the latch in progress, [0] performance, [1] errors. 18 R708. Reset: 0. -/
  sel : BitVec 2 := 0
  /-- The instant of the latch in progress, us. 18 R733. Reset: 0. -/
  latchAt : Nat := 0
  /-- Performance set as latched, not yet replaced into the copies. 18 R733. Reset: empty. -/
  latchPerf : Tab U48 := []
  /-- Error set as latched. 18 R733. Reset: empty. -/
  latchErrors : Tab U32 := []
  /-- PERF_STATUS.PERF_VALID. 18 R708. Reset: 0. -/
  perfValid : Bool := false
  /-- PERF_STATUS.ERRORS_VALID. 18 R708. Reset: 0. -/
  errorsValid : Bool := false
  /-- PERF_TIME, 64 bits. 18 R708. Reset: 0. -/
  time : U64 := 0
  /-- PERF_SET, 48-bit counters by offset. 18 R708. Reset: 0. -/
  perfSet : Tab U48 := []
  /-- PERF_ERRORS, 32-bit counters by offset. 18 R708. Reset: 0. -/
  errorSet : Tab U32 := []
deriving DecidableEq, Repr

/-- The live counters (15 R614, R615). -/
structure Counters where
  /-- Device error counters by their offset in R614, 32 bits saturating. 15 R614, R620. Reset: 0. -/
  errors : Tab U32 := []
  /-- Performance counters by their offset in R615, 48 bits wrapping. 15 R615, R620. Reset: 0. -/
  perf : Tab U48 := []
  /-- PCIe bytes received and sent that the counters at 0x5A0 and 0x5A8 do not hold yet (the model's own). Reset: 0. -/
  rx : Nat := 0
  tx : Nat := 0
deriving DecidableEq, Repr

/-! ### Pieces used by several parts -/

/-- Which memory a range lies in. -/
inductive Mem where
  | cm (core : Nat)
  | kennel
  | dram
deriving DecidableEq, Repr

/-- A range of physical memory a task owns, and where its task-relative addresses start (10 R413). -/
structure Region where
  mem : Mem
  base : Nat
  len : Nat
  /-- first task-relative byte of this range -/
  rel : Nat
deriving DecidableEq, Repr

/-- A completed vote waiting for its boundary (13 R540 to R542). -/
structure VoteResult where
  frame : U32
  winner : Nat
  runnerUp : Nat
  winnerSum : Nat
  runnerUpSum : Nat
  degraded : Bool
deriving DecidableEq, Repr

/-- An exposure set outstanding (06 R258 to R262). -/
structure Exposure where
  esid : U16
  target : U32
  /-- sensor exposure in lines, analog and digital gain 8.8 -/
  lines : Nat
  again : Nat
  dgain : Nat
  irPulse : Bool
  /-- its write has started, and its commit template is on the bus -/
  writing : Bool
  commitSent : Bool
  /-- windows tried -/
  attempts : Nat
  lastResult : Nat
  /-- the frame it lands on, once the commit is acknowledged -/
  landing : Option U32
deriving DecidableEq, Repr

/-- STATE of a tile of an output (07 R281); computed is that of a finished tile of phase 0 and in normal mode (07 R282, R310). -/
inductive TileState where
  | speculating | held | confirmed | recompute | recomputing | recomputed | computed | discarded
deriving DecidableEq, Repr

/-- A tile of an output of an interval (07 R281, R295). -/
structure Tile where
  interval : U32
  phase : Nat
  index : Nat
  state : TileState
deriving DecidableEq, Repr

/-- STATE of a band (07 R282). -/
inductive BandState where
  | open_ | released | fallback | discarded
deriving DecidableEq, Repr

/-- Content of a FALLBACK band (07 R300): a blend of the phase-0 outputs of frames n and n + 1, or a repeat of n's. -/
inductive Fallback where
  | blend | repeatOf
deriving DecidableEq, Repr

/-- A band of an interpolated output (07 R282, R298 to R300). -/
structure Band where
  interval : U32
  phase : Nat
  index : Nat
  state : BandState
  releaseBy : Nat
  /-- its content once it is FALLBACK -/
  fill : Option Fallback := none
deriving DecidableEq, Repr

/-! ### Streams, routes, groups (02, 05) -/

/-- STATE of a stream context (05 R183). -/
inductive StreamState where
  | free | configured | running | draining | faulted
deriving DecidableEq, Repr

/-- STATE of a certificate (02 R30). -/
inductive CertState where
  | none | valid | revoked
deriving DecidableEq, Repr

/-- One certificate record (02 R30); times in ns. -/
structure Cert where
  /-- STATE, 2 bits. 02 R30. Reset: NONE. -/
  state : CertState := .none
  /-- REVOKE_CAUSE, 6 bits. 02 R30. Reset: 0. -/
  cause : Nat := 0
  /-- TOTAL_PERMILLE, 16 bits. 02 R30. Reset: 0. -/
  permille : Nat := 0
  /-- PERIOD_NS, 32 bits. 02 R30. Reset: 0. -/
  period : Nat := 0
  /-- TOTAL_NS, 32 bits. 02 R30. Reset: 0. -/
  total : Nat := 0
  /-- T_COMPUTE, 32 bits. 02 R30. Reset: 0. -/
  tCompute : Nat := 0
  /-- T_DRAM, 32 bits. 02 R30. Reset: 0. -/
  tDram : Nat := 0
  /-- T_CROSS, 32 bits. 02 R30. Reset: 0. -/
  tCross : Nat := 0
  /-- T_HALO, 32 bits. 02 R30. Reset: 0. -/
  tHalo : Nat := 0
  /-- T_HOST, 32 bits. 02 R30. Reset: 0. -/
  tHost : Nat := 0
  /-- T_START, 32 bits. 02 R30. Reset: 0. -/
  tStart : Nat := 0
  /-- CORE_MASK, 16 bits. 02 R30. Reset: 0. -/
  coreMask : Nat := 0
  /-- FLOOR_OP, 8 bits. 02 R30. Reset: 0. -/
  floorOp : Nat := 0
  /-- WORST_CORE, 4 bits. 02 R30. Reset: 0. -/
  worst : Nat := 0
  /-- Q_STREAM, 16 bits. 02 R30. Reset: 0. -/
  qStream : Nat := 0
  /-- Q_TOTAL, 16 bits. 02 R30. Reset: 0. -/
  qTotal : Nat := 0
  /-- BW_CERT in MB/s, 32 bits. 02 R30. Reset: 0. -/
  bwCert : Nat := 0
  /-- PCIE_SHARE in MB/s, 32 bits. 02 R30. Reset: 0. -/
  pcieShare : Nat := 0
  /-- FRAME_ISSUED, 32 bits. 02 R30. Reset: 0. -/
  issued : U32 := 0
deriving DecidableEq, Repr

/-- A posted buffer (04 R135). -/
structure Buf where
  cookie : U32
  plane0 : Nat
  plane1 : Nat
  pitch0 : Nat
  pitch1 : Nat
deriving DecidableEq, Repr

/-- An output in preparation: a frame's phase on one descriptor (07 R278, 05 R213). -/
structure Output where
  frame : U32
  phase : Nat
  pos : Nat
  desc : Nat
  /-- the descriptor it is made with (07 R291) -/
  d : Desc
  /-- it follows the rules for interpolated outputs (07 R305) -/
  interp : Bool
  /-- CADENCE and FILM_POS under which it is made (07 R285) -/
  cadence : Nat
  filmPos : Nat
  /-- the frames its content is made from, counted without wrapping: the one before the interval, its first and its second (07 R278, R305) -/
  span : Nat × Nat × Nat := (0, 0, 0)
  /-- ns of the timebase at which it is due -/
  deadline : Nat
  /-- the bound buffer; none before the bind point or when held or skipped -/
  buf : Option Buf
  /-- bound already (to a buffer, the hold buffer or nothing) -/
  bound : Bool
  /-- the flags word of FRAME_DONE gathered so far -/
  flags : U16
  rowsDone : Nat
  fallbackBands : Nat
  esid : U16
  /-- written into the hold buffer (05 R216) -/
  held : Bool
  /-- the R55 fault that struck its work first (15 R618), 0 for none -/
  faultCause : Nat
  /-- its DEADLINE_FAULT has been emitted (02 R56) -/
  missed : Bool := false
  /-- its frame was accepted before the certificate was restored (02 R53) -/
  uncertified : Bool := false
  /-- it is a group substitute (05 R206, R208) -/
  sub : Bool := false
  /-- the rows written so far of planes 0 and 1, by row (02 R56, 05 R206, R216) -/
  rows0 : Tab Bytes := []
  rows1 : Tab Bytes := []
  complete : Bool
deriving DecidableEq, Repr

/-- An input frame accepted and still in work (05 R193, R213). -/
structure FrameIn where
  frame : U32
  cookie : U32
  acceptedAt : Nat
  esid : U16
  flags : U16
  sensorFrame : Nat
  /-- its input buffer, of a host stream -/
  hostBuf : Option Buf
  /-- its input buffer may still be read -/
  inUse : Bool
  /-- the configuration and the profile entry it is worked under (07 R291) -/
  cfg : StreamCfg
  variant : Nat
  tuning : Nat
  /-- no processed content: dropped, or a group substitute (07 R292) -/
  absent : Bool
  /-- cores whose run for it has ended (08 R353) -/
  coresDone : List Nat
  /-- its number counted without wrapping (07 R278) -/
  wide : Nat := 0
  /-- its number among the free pictures of the run (the model's own, log 83) -/
  token : Nat := 0
  /-- the cores it is worked on and the tiles chosen for it (07 R291) -/
  cores : List Nat := []
  shapes : List Nat := []
  /-- of each core: bytes of its host input read, and the queue and number of the tile that read last (07 R286) -/
  fetched : Tab (Nat × Nat × U16) := []
  /-- its first pass is over on every core (07 R286) -/
  passed : Bool := false
deriving DecidableEq, Repr

/-- A stream context SC0 to SC31. -/
structure Stream where
  /-- STATE. 05 R183. Reset: FREE. -/
  state : StreamState := .free
  /-- Configuration in force. 04 R129. Reset: none of it set. -/
  cfg : StreamCfg := {}
  /-- Host source, camera source routed to it (PORT * 16 + VC), if any. 05 R184. Reset: none. -/
  route : Option Nat := none
  /-- Certificate record. 02 R30. Reset: NONE, all 0. -/
  cert : Cert := {}
  /-- Cores held. 02 R45. Reset: none. -/
  cores : List Nat := []
  /-- Floor at which the certificate was issued, for 02 R53. Reset: 0. -/
  origFloor : Nat := 0
  /-- A floor that a smaller Q allows, taken at the next boundary (02 R47). Reset: none. -/
  nextFloor : Option Nat := none
  /-- Next frame number, 32 bits. 05 R193. Reset: 0. -/
  nextFrame : U32 := 0
  /-- How often the frame number has wrapped since STREAM_START: the output timeline of 07 R278 runs on exactly. Reset: 0. -/
  wraps : Nat := 0
  /-- LAST_ACCEPTED, 32 bits. 03 R104. Reset: 0. -/
  lastAccepted : U32 := 0
  /-- The number of the last frame accepted from the source: SOURCE_LOST names it. 05 R188, 15 R609. Reset: 0. -/
  sourceFrame : U32 := 0
  /-- A frame has been accepted since STREAM_START. 05 R188. Reset: false. -/
  accepted : Bool := false
  /-- When the last frame was accepted, ns. 05 R189. Reset: 0. -/
  lastAcceptAt : Nat := 0
  /-- STREAM_START's completion, ns. 05 R190. Reset: 0. -/
  startedAt : Nat := 0
  /-- SOURCE_LOST emitted and not yet resumed. 05 R188. Reset: false. -/
  lost : Bool := false
  /-- LAST_DONE and LAST_DONE_PHASE. 03 R104. Reset: 0. -/
  lastDone : U32 := 0
  lastDonePhase : Nat := 0
  /-- Input buffers queued, at most 16. 04 R135. Reset: empty. -/
  inBufs : List Buf := []
  /-- Output buffers queued per descriptor, at most 16 each. 04 R135. Reset: empty. -/
  outBufs : Tab (List Buf) := []
  /-- Frames accepted and in work. 05 R213. Reset: empty. -/
  frames : List FrameIn := []
  /-- Outputs in preparation. 07 R278. Reset: empty. -/
  outputs : List Output := []
  /-- Held output per descriptor (05 R217). Reset: empty. -/
  hold : Tab Output := []
  /-- Hold buffers reserved at STREAM_START, by descriptor. 05 R217. Reset: none. -/
  holdReserved : List Nat := []
  /-- The descriptor's last output was starved. 05 R216. Reset: false. -/
  starved : Tab Bool := []
  /-- Descriptors that have completed an output since STREAM_START or OUTPUT_SET. 02 R56. Reset: none. -/
  delivered : Tab Bool := []
  /-- Rows of planes 0 and 1 of each descriptor's last completed output (02 R56, 05 R206). Reset: none. -/
  lastPic : Tab (Tab Bytes × Tab Bytes) := []
  /-- Shadow set in execution order. 05 R194. Reset: empty. -/
  shadow : List Change := []
  /-- Cores held for an outstanding change of plan (02 R46). Reset: none. -/
  nextCores : Option (List Nat) := none
  /-- Regions taken for an outstanding change of plan (10 R415). Reset: none. -/
  nextRegions : Option (List Region) := none
  /-- Profile table. 04 R161. Reset: DEFAULT_CLASS 0, variant 0, tuning 0 (DESIGN CHOICE, log 3). -/
  table : ProfileTable := {}
  /-- Pinned class. 04 R139. Reset: none. -/
  pin : Option Nat := none
  /-- Tree binding. 04 R160. Reset: unbound. -/
  bind : Binding := {}
  /-- Class in force. 13 R542. Reset: 0. -/
  cls : Nat := 0
  /-- Profile index (variant) in force. 03 R104. Reset: 0. -/
  variant : Nat := 0
  /-- Candidate class and its run. 13 R542. Reset: none, 0. -/
  candidate : Option Nat := none
  run : Nat := 0
  /-- A class chosen by the vote and waiting for its variant. 13 R541. Reset: none. -/
  waitingClass : Option Nat := none
  /-- Row times, sums and sample numbers of the latest frames with a record, newest first, at most three. 06 R266. Reset: none. -/
  flicker : List (List (Nat × Nat × Nat)) := []
  /-- Feature sets since the last vote. 13 R534. Reset: 0. -/
  featureSets : Nat := 0
  /-- Completed votes that have not been applied, in order of frame. 13 R540, R541. Reset: none. -/
  votes : List VoteResult := []
  /-- ESID in force, and next ESID, 16 bits. 04 R144. Reset: 0 and 1. -/
  esid : U16 := 0
  nextEsid : U16 := 1
  /-- Exposure sets outstanding. 06 R258. Reset: empty. -/
  exposures : List Exposure := []
  /-- The exposure set in force, once one has landed. 06 R256, R268. Reset: none. -/
  landed : Option Exposure := none
  /-- Group membership. 04 R138. Reset: none. -/
  group : Option Nat := none
  /-- Degrade level, 0 to 4. 17 R672. Reset: 0. -/
  level : Nat := 0
  /-- Stream counters in the order of 15 R616, 32 bits each. Reset: 0. -/
  counters : Tab U32 := []
  /-- Cadence state: 0 video, 1 3:2, 2 2:2. 07 R304. Reset: 0 video. -/
  cadence : Nat := 0
  /-- Frame number of the film anchor. 07 R305. Reset: 0. -/
  anchor : Nat := 0
  /-- Repeat bits of the latest frames, newest first, at most 10. 07 R303. Reset: empty. -/
  repeats : List Bool := []
  /-- Held tiles and bands of the intervals in work. 07 R281, R282. Reset: empty. -/
  tiles : List Tile := []
  bands : List Band := []
  /-- DRAM, Kennel and CM regions. 10 R415. Reset: none. -/
  regions : List Region := []
  /-- Base of its counters in the counter file, and how many. 09 R361. Reset: none. -/
  counterBase : Option (Nat × Nat) := none
  /-- Counter edges whose wait has timed out in this run: (counter, bottom). 09 R388. Reset: empty. -/
  haloTimedOut : List (Nat × Bool) := []
  /-- STREAM_FAULTED cause that stopped it. 05 R186. Reset: 0. -/
  faultCause : Nat := 0
  /-- Offset of the first failed input byte reported for the frame in work. 11 R489. Reset: none. -/
  dmaFault : Option Nat := none
  /-- Tiles chosen per layer. 09 R367. Reset: empty. -/
  shapes : List Nat := []
  /-- A drain is in progress since this ns. 05 R220. Reset: none. -/
  draining : Option Nat := none
deriving DecidableEq, Repr

/-- A group frame being collected or delivered (05 R204 to R209). -/
structure GroupFrame where
  number : U32
  openedAt : Nat
  windowClosed : Bool
  present : List Nat
  substituted : List Nat
  /-- members whose part of GROUP_FRAME_DONE is finished -/
  finished : List Nat
  /-- frame number each member has in it -/
  frames : Tab U32
deriving DecidableEq, Repr

/-- An alignment group (05 R203 to R212). -/
structure Group where
  /-- Member mask, 32 bits; 0 for no group. 04 R138. Reset: 0. -/
  members : Nat := 0
  /-- Policy. 04 R138. Reset: 0 REPEAT_LAST. -/
  policy : Nat := 0
  /-- Next group frame number, 32 bits. 05 R210. Reset: 0. -/
  next : U32 := 0
  /-- When the last group frame opened, ns. 05 R204. Reset: none. -/
  openedAt : Option Nat := none
  /-- Group frames not yet done. 05 R209. Reset: empty. -/
  frames : List GroupFrame := []
deriving DecidableEq, Repr

/-! ### Models, jobs, memory -/

/-- A model handle (04 R124 to R128). -/
structure Model where
  /-- STATE: 0 empty, 1 loading, 2 loaded. 04 R128. Reset: 0. -/
  state : Nat := 0
  /-- The package's header and section table, and its plans. 04 R125. Reset: none. -/
  package : Option Package := none
  /-- RESIDENT_MASK, 16 bits. 04 R128. Reset: 0. -/
  resident : Nat := 0
  /-- DRAM of the package: base and length. 04 R124. Reset: none. -/
  dram : Option (Nat × Nat) := none
  /-- RESIDE_ALL of the load in progress. 04 R124. Reset: false. -/
  resideAll : Bool := false
  /-- LENGTH of the load in progress. 04 R124. Reset: 0. -/
  length : Nat := 0
deriving DecidableEq, Repr

/-- An operation of the residency queue (05 R196). -/
structure ResidencyOp where
  handle : Nat
  mask : Nat
  /-- a weight rewrite of 10 R425 -/
  rewrite : Bool
  /-- ring and tag of the command it serves, if any -/
  forCmd : Option (Nat × U16)
deriving DecidableEq, Repr

/-- A job (04 R151, R152). -/
structure Job where
  /-- Active. 04 R151, R152. Reset: false. -/
  active : Bool := false
  handle : Nat := 0
  plan : Nat := 0
  variant : Nat := 0
  coreMask : Nat := 0
  inAddr : Nat := 0
  outAddr : Nat := 0
  /-- N, H, W, C -/
  shape : List Nat := []
  inPitch : Nat := 0
  outPitch : Nat := 0
  batches : Nat := 0
  regions : List Region := []
  counterBase : Option (Nat × Nat) := none
  degraded : Bool := false
  /-- the first uncorrectable error or host read failure, as a status code (04 R152) -/
  status : Nat := 0
  coresDone : List Nat := []
  /-- counter edges whose wait has timed out in this run (09 R388, R389) -/
  timedOut : List (Nat × Bool) := []
  /-- when a counter of the job last changed, ns (09 R389) -/
  countedAt : Nat := 0
deriving DecidableEq, Repr

/-- A window (04 R155, 14 R584). -/
structure Window where
  isOpen : Bool := false
  kind : Nat := 0
  ownerKind : Nat := 0
  owner : Nat := 0
  memory : Nat := 0
  peer : Nat := 0
  read : Bool := false
  write : Bool := false
  offset : Nat := 0
  length : Nat := 0
  bar2 : Nat := 0
deriving DecidableEq, Repr

/-- An orphan (10 R443): its ID, its regions, and what it was. -/
structure Orphan where
  id : U32
  regions : List Region
deriving DecidableEq, Repr

/-! ### Camera front (06, 19) -/

/-- The RFE sections of a source (06 R230 to R233, R252). -/
structure Rfe where
  /-- BL[p], 16 x 16 bits. 06 R230, R252. Reset: 0. -/
  bl : List Nat := List.replicate 16 0
  /-- NORM[p], 16 x 16 bits, 2.14. 06 R230, R252. Reset: 0x4000. -/
  norm : List Nat := List.replicate 16 0x4000
  /-- PEDESTAL, 16 bits. 06 R230, R252. Reset: 0. -/
  pedestal : Nat := 0
  /-- Crosstalk ENABLE. 06 R231, R252. Reset: 0. -/
  xtEnable : Bool := false
  /-- Crosstalk slots in use: (source class, target class). 06 R231. Reset: empty. -/
  xtSlots : List (Nat × Nat) := []
  /-- Coefficients as 16-bit words at 442 x slot / 2 + 17 j + i. 06 R231. Reset: empty, reads 0. -/
  xtCoef : List Nat := []
  /-- Green imbalance ENABLE, THRESHOLD, STRENGTH. 06 R232, R252. Reset: 0. -/
  grEnable : Bool := false
  grThreshold : Nat := 0
  grStrength : Nat := 0
  /-- Defect STATIC_ENABLE, DYNAMIC_ENABLE, DYN_THRESHOLD. 06 R233, R252. Reset: 0. -/
  dfStatic : Bool := false
  dfDynamic : Bool := false
  dfThreshold : Nat := 0
  /-- Defect list (x, y), at most 1,020. 06 R233, R252. Reset: empty. -/
  defects : List (Nat × Nat) := []
deriving DecidableEq, Repr

/-- A camera frame being received (06 R241). -/
structure OpenFrame where
  /-- the stream and frame number it was accepted as; none when discarded at the Router -/
  accepted : Option (Nat × U32)
  sensorFrame : Nat
  startedAt : Nat
  /-- FS_TIME: the timebase at its start, us (06 R234) -/
  startedUs : Nat := 0
  lastPacketAt : Nat
  /-- The frame start predicted for it, ns (06 R258). -/
  predicted : Nat
  /-- The profile, the RFE sections (06 R255) and the input size it is received under (05 R202). -/
  profile : Bytes
  rfe : Rfe
  width : Nat
  height : Nat
  /-- Lines arrived, those beyond HEIGHT too (06 R245). -/
  lines : Nat
  /-- Lines as unpacked, truncated or padded to WIDTH; a lost one is empty (06 R240, R246, R249). -/
  raw : List (List Nat)
  /-- Samples received of each line, 0 for a lost one (06 R246). -/
  valid : List Nat
  /-- Rows written to the Kennel, replaced and filled ones too (06 R254). -/
  out : List (List Nat)
  flags : U16
  emb : Bytes
  embTruncated : Bool
  /-- FSYNC_IN_TS at its start, and the exposure set in force for it (06 R234). -/
  stamps : List Nat
  exposure : Option Exposure
deriving DecidableEq, Repr

/-- A camera source, PORT * 16 + VC (05 R184). -/
structure Source where
  /-- The sensor profile's bytes, 80 to 320; empty when none is loaded. 06 R227. Reset: empty. -/
  profile : Bytes := []
  /-- RFE sections. 06 R230 to R233. Reset: the defaults of R252. -/
  rfe : Rfe := {}
  /-- The frame being received. 06 R241. Reset: none. -/
  open_ : Option OpenFrame := none
  /-- The last two frame starts, ns, newest first. 06 R258. Reset: none. -/
  starts : List Nat := []
  /-- The last frame end, ns. 06 R258. Reset: none. -/
  endedAt : Option Nat := none
  /-- A ROUTE_SET outstanding on the source. 05 R199. Reset: none. -/
  routing : Option (Option Nat) := none
  /-- Ended frames whose statistics record is not complete, oldest first. 06 R265. Reset: empty. -/
  closed : List OpenFrame := []
  /-- Frames for which a pulse has fired, by stream and number (SC * 2^32 + frame): clipped. 06 R268, R269. Reset: empty. -/
  fired : Tab Bool := []
deriving DecidableEq, Repr

/-- A CSI port (04 R141, 06 R235 to R242). -/
structure Port where
  /-- ENABLE. 04 R141. Reset: 0. -/
  enable : Bool := false
  /-- LANES: 1, 2 or 4. 04 R141. Reset: 0 (DESIGN CHOICE, log 3). -/
  lanes : Nat := 0
  /-- LANE_RATE, Mb/s. 04 R141. Reset: 0 (DESIGN CHOICE, log 3). -/
  rate : Nat := 0
  /-- LANE_ORDER, 8 bits. 04 R141. Reset: 0 (DESIGN CHOICE, log 3). -/
  order : Nat := 0
  /-- EMBEDDED. 04 R141. Reset: 0. -/
  embedded : Bool := false
  /-- VC_MASK, 16 bits. 04 R141. Reset: 0. -/
  vcMask : Nat := 0
  /-- A deskew has completed on every configured lane. 06 R235. Reset: false. -/
  deskewed : Bool := false
  /-- Lane delays of the last deskew, one per lane. 06 R235. Reset: empty. -/
  delays : List Nat := []
  /-- When the first burst arrived, ns. 06 R235. Reset: none. -/
  firstBurst : Option Nat := none
  /-- PN_SWAPPED reported at this enable, and the lanes inverted. 06 R236. Reset: 0. -/
  pnReported : Bool := false
  inverted : Nat := 0
  /-- Consecutive headers that pass only under another permutation. 06 R237. Reset: 0. -/
  badHeaders : Nat := 0
  /-- Discarding because of a lane order fault. 06 R237. Reset: false. -/
  orderFault : Bool := false
  /-- The lane order observed at the fault. 06 R237. Reset: 0. -/
  observed : Nat := 0
  /-- Consecutive bursts each lane has missed. 06 R238. Reset: 0. -/
  missed : Tab Nat := []
  /-- Lanes stuck, mask. 06 R238. Reset: 0. -/
  stuck : Nat := 0
  /-- The clock is lost. 06 R238. Reset: false. -/
  clockLost : Bool := false
  /-- Consecutive correct bursts since a fault. 06 R238. Reset: 0. -/
  goodBursts : Nat := 0
  /-- After a recovery, packets are discarded until the next frame start. 06 R238. Reset: false. -/
  awaitStart : Bool := false
  /-- The eight counts of the frame in progress per virtual channel; those counted outside a frame under key 16.
  06 R242. Reset: 0. -/
  frameCounts : Tab (List Nat) := []
deriving DecidableEq, Repr

/-- An IRLED channel (04 R147, 06 R267 to R270). -/
structure IrLed where
  /-- MODE. 04 R147. Reset: 0 off. -/
  mode : Nat := 0
  /-- CURRENT_MA. 04 R147. Reset: 0. -/
  current : Nat := 0
  /-- Followed source. 04 R147. Reset: 0. -/
  source : Nat := 0
  /-- MAX_DUTY, percent. 04 R147. Reset: 0. -/
  maxDuty : Nat := 0
  /-- The sink is on. 06 R268. Reset: off. -/
  sinking : Bool := false
  /-- The pulse in progress: its frame and its end, ns. 06 R267, R269. Reset: none. -/
  pulse : Option (U32 × Nat) := none
  /-- The stream of that frame. 06 R268. Reset: 0. -/
  pulseFor : Nat := 0
  /-- Switched off by a fault until the next IRLED_SET. 06 R270. Reset: false. -/
  faulted : Bool := false
  /-- The next pulse is the first after IRLED_SET (15 R619). Reset: false. -/
  fresh : Bool := false
deriving DecidableEq, Repr

/-- An FSYNC pin pair (04 R148, 06 R271). -/
structure Fsync where
  /-- MODE of FSYNC_OUTk: 0 off, 1 free-running, 2 following. 04 R148. Reset: 0. -/
  mode : Nat := 0
  /-- FOLLOW. 04 R148. Reset: 0. -/
  follow : Nat := 0
  /-- PERIOD_US. 04 R148. Reset: 0. -/
  period : Nat := 0
  /-- PULSE_US. 04 R148. Reset: 0. -/
  pulse : Nat := 0
  /-- FSYNC_INk timestamps its edges (mode 3). 04 R148. Reset: 0. -/
  stamping : Bool := false
  /-- FSYNC_IN_TS of input k, us. 06 R234. Reset: 0. -/
  stamp : Nat := 0
  /-- The last output edge, ns. 06 R271. Reset: 0. -/
  lastEdge : Nat := 0
deriving DecidableEq, Repr

/-- A sensor power channel (04 R149, 19 R763 to R765). -/
structure SensorPwr where
  /-- The switch is closed. 19 R763. Reset: open. -/
  on : Bool := false
  /-- A switch-on has not settled yet. 19 R764. Reset: false. -/
  settling : Bool := false
  /-- The SENSOR_POWER commands that wait for it. 04 R149. Reset: none. -/
  cmd : List Hdr := []
  /-- Retries made in this sequence, 0 to 8. 19 R764. Reset: 0. -/
  retries : Nat := 0
  /-- When the next retry starts, ns. 19 R764. Reset: none. -/
  retryAt : Option Nat := none
deriving DecidableEq, Repr

/-- A transfer that has completed PENDING (04 R150): its command, where its read data goes, and what it puts on the bus. -/
structure Xfer where
  ring : Nat
  tag : U16
  dest : Nat
  addr : Nat
  speed : Nat
  mode : Nat
  write : Bytes
  readLen : Nat
deriving DecidableEq, Repr

/-- A sensor control bus (06 R257 to R263, R273, 04 R150). -/
structure Sctl where
  /-- Stuck. 06 R273. Reset: false. -/
  stuck : Bool := false
  /-- The 9-clock recovery has been made for the transfer in progress. 06 R273. Reset: false. -/
  recovered : Bool := false
  /-- The SCTL_XFERs that have completed PENDING, the one on the bus first. 04 R150. Reset: none. -/
  xfers : List Xfer := []
  /-- The exposure write in progress ends at this ns. 06 R263. Reset: 0. -/
  busyUntil : Nat := 0
deriving DecidableEq, Repr

/-- The whole camera front (06, 19 R763). -/
structure Camera where
  ports : Tab Port := []
  sources : Tab Source := []
  irled : Tab IrLed := []
  fsync : Tab Fsync := []
  power : Tab SensorPwr := []
  sctl : Tab Sctl := []
deriving DecidableEq, Repr

/-! ### Neural cores (08, 09, 10, 11) -/

/-- A chained command in a queue (08 R329): its 64 bytes. -/
structure Chain where
  bytes : Bytes
deriving DecidableEq, Repr

/-- What a piece of a descriptor waits for (11 R469 to R472, R477, R500; 14 R584). -/
inductive PieceWait where
  /-- a place among the Fetcher's transactions -/
  | place
  /-- the DRAM transaction of this number -/
  | dram (tx : Nat)
  /-- the IAC fill of this number -/
  | fill (id : Nat)
  /-- the host read of this number -/
  | host (read : Nat)
  /-- its entry of the merge buffer to be issued -/
  | merged
  /-- the answer of a window's owner with this TAG -/
  | window (tag : U16)
deriving DecidableEq, Repr

/-- A piece of a burst, within one far line (11 R469). -/
structure Piece where
  wait : PieceWait := .place
  /-- 1 DRAM, 2 host memory, 3 DRAM through the IAC, 4 a remote window -/
  space : Nat
  /-- its physical, host or task-relative far address -/
  far : Nat
  /-- its core address at the near side -/
  near : Nat
  len : Nat
  isWrite : Bool
  /-- the bytes a write carries -/
  data : Bytes := []
  /-- window number of a remote one, HOST_BUF of one in host memory -/
  window : Nat := 0
  /-- its bytes are replaced by replicated rows (09 R387) -/
  replicated : Bool := false
deriving DecidableEq, Repr

/-- A fetch descriptor in the fetch queue or in flight (11 R448): its number, its 64 bytes, and, once it has started, its pieces
that have not completed. -/
structure FetchEntry where
  id : Nat
  bytes : Bytes
  pieces : List Piece := []
  /-- near address and length of the bursts a BFR LOAD decodes, with their far offsets (11 R470, R482) -/
  bursts : List (Nat × Nat × Nat) := []
  /-- counter edges whose wait has timed out for it (09 R387, R388) -/
  timedOut : List (Nat × Bool) := []
deriving DecidableEq, Repr

/-- A running tile of a queue (08 R343). -/
structure Running where
  queue : Nat
  chain : Chain
  startedAt : Nat
  /-- its run has been abandoned: it completes, and counts for no later run (08 R354) -/
  abandoned : Bool := false
  /-- the output tile that it makes (07 R281) -/
  mark : Option TileMark := none
deriving DecidableEq, Repr

/-- A store of the SCU that has not become visible (10 R434). -/
structure NarrowStore where
  addr : U32
  data : Bytes
  /-- its place in the program order of its SCU's accesses (10 R434) -/
  seq : Nat
  /-- the remote window it goes to (14 R586) -/
  window : Option Nat
  /-- it waits for the next 1,024-cycle window (10 R406) -/
  deferred : Bool
  /-- its data follow from held data (07 R293) -/
  held : Bool := false
deriving DecidableEq, Repr

/-- A narrow load in flight (10 R402): its destination register, address, size, sign, when it was issued, ns, and the data once
its bank has served it. -/
structure NarrowLoad where
  reg : Nat
  addr : U32
  size : Nat
  signed : Bool
  issuedAt : Nat
  /-- its place in the program order of its SCU's accesses (10 R434) -/
  seq : Nat
  /-- the TAG of the read of a remote window it waits for (14 R584) -/
  tag : Option U16
  /-- it waits for the next 1,024-cycle window (10 R406) -/
  deferred : Bool
  /-- what the bank served (10 R404) -/
  data : Option Bytes
  /-- its address or its data follow from held data (07 R293) -/
  held : Bool := false
deriving DecidableEq, Repr

/-- What the SCU waits for. -/
inductive ScuWait where
  | none | fetchQueue | chainQueue (q : Nat) | tile (q : Nat) (n : U16) | fence | fenceRemote (since : Nat)
deriving DecidableEq, Repr

/-- STATE of DBG_COREc (18 R709). -/
inductive CoreState where
  | off | idle | running | trapped | stalled
deriving DecidableEq, Repr

/-- An entry of the merge buffer (11 R476): 128-byte line, its bytes, byte mask, and when it was opened. -/
structure MergeEntry where
  line : Nat
  data : Bytes
  mask : Nat
  openedAt : Nat
  /-- the class of its writer, 0 primary, 1 filler (11 R477) -/
  queue : Nat
deriving DecidableEq, Repr

/-- A neural core NC0 to NC15. -/
structure Core where
  /-- DBG_COREc STATE. 18 R709. Reset: OFF. -/
  state : CoreState := .off
  /-- Operating point, 0 to 20. 02 R28. Reset: 0. -/
  op : Nat := 0
  /-- A change of operating point in progress: the new point and when it is done, ns. 02 R31. Reset: none. -/
  opNext : Option (Nat × Nat) := none
  /-- The task on it: (0 stream, 1 job; number). 02 R45. Reset: none. -/
  task : Option (Nat × Nat) := none
  /-- SCU registers s1 to s31, 32 bits each; s0 reads 0. 08 R331. Reset: 0. -/
  regs : Tab U32 := []
  /-- Registers waiting for load data. 10 R402. Reset: none. -/
  busyRegs : List Nat := []
  /-- Registers whose values follow from held data. 07 R293. Reset: none. -/
  heldRegs : List Nat := []
  /-- Microprogram memory, 4,096 instructions of 32 bits, written by Shepherd. 08 R331. Reset: 0 (DESIGN CHOICE, log 3). -/
  microprogram : Tab U32 := []
  /-- Microprogram counter, 12 bits. 08 R331. Reset: 0. -/
  pc : Nat := 0
  /-- The SCU is stopped: by DONE, a trap, or none running. 08 R332, R356. Reset: true. -/
  stopped : Bool := true
  /-- What the SCU waits for. 08 R340, R357. Reset: nothing. -/
  wait : ScuWait := .none
  /-- CYCLE, 64 bits. 08 R332. Reset: 0. -/
  cycle : U64 := 0
  /-- FRAME. 08 R332. Reset: 0. -/
  frame : U32 := 0
  /-- PARAM_BASE. 08 R332. Reset: 0. -/
  paramBase : U32 := 0
  /-- Bytes of a parameter block that Shepherd has yet to write, once the units of its task are zero-filled (08 R352, 10 R417). Reset: 0. -/
  params : Nat := 0
  /-- TILES_DONE0 and 1, 16 bits. 08 R332. Reset: 0. -/
  tilesDone0 : U16 := 0
  tilesDone1 : U16 := 0
  /-- No tile of queue 0, 1 has completed in this run (TWAIT has nothing to compare). 08 R332. Reset: true. -/
  none0 : Bool := true
  none1 : Bool := true
  /-- SAT_FLAGS, 4 bits, W1C. 08 R319, R332. Reset: 0. -/
  satFlags : BitVec 4 := 0
  /-- TRAP_CAUSE, 8 bits. 08 R332, 10 R400. Reset: 0. -/
  trapCause : Nat := 0
  /-- A trap waits for the next tile boundary. 08 R356. Reset: none. -/
  trapPending : Option Nat := none
  /-- Fetch queue, at most 32. 08 R340. Reset: empty. -/
  fetchQueue : List FetchEntry := []
  /-- Stores of abandoned runs that had already started. 08 R354. Reset: empty. -/
  draining : List FetchEntry := []
  /-- Descriptors in flight. 11 R465. Reset: empty. -/
  fetching : List FetchEntry := []
  /-- Command queues, primary and filler, at most 8 each. 08 R340. Reset: empty. -/
  queue0 : List Chain := []
  queue1 : List Chain := []
  /-- The tile running on the Executor. 08 R343. Reset: none. -/
  running : Option Running := none
  /-- Tiles started since the microprogram start, per queue (08 R342). Reset: 0. -/
  started0 : Nat := 0
  started1 : Nat := 0
  /-- The tile that last used each output slot: (OUT_SLOT, queue, TILE_SEQ). 08 R343, R345. Reset: empty. -/
  slots : List (Nat × Nat × U16) := []
  /-- SCU write buffer, oldest first. 10 R434. Reset: empty. -/
  stores : List NarrowStore := []
  /-- Narrow loads in flight. 10 R402. Reset: empty. -/
  loads : List NarrowLoad := []
  /-- Narrow accesses issued so far: the model's own count, for program order (10 R434). Reset: 0. -/
  accesses : Nat := 0
  /-- TAG and window of the remote writes of its SCU that are not acknowledged (14 R586). Reset: none. -/
  remote : List (U16 × Nat) := []
  /-- The next number of a fetch descriptor (the model's own). Reset: 0. -/
  nextDesc : Nat := 0
  /-- Operand buffers IB 64 KiB, WB 128 KiB, AB 2 x 8,192 and VB 2 x 8,192 elements, by buffer number 0 to 3. 08 R334, R355. Reset: 0. -/
  buffers : Tab (List Host.Cell) := []
  /-- Narrow requests of the current 1,024-cycle window per bank group: 0 for CM, 1 + g for Kennel group g. 10 R406. Reset: 0. -/
  narrow : Tab Nat := []
  /-- Last progress of the Executor and of the SCU, ns. 08 R357. Reset: 0. -/
  tileAt : Nat := 0
  scuAt : Nat := 0
  /-- MEM_BOUNDS.CM_BASE, 4 bits. 10 R397. Reset: 0. -/
  cmBase : Nat := 0
  /-- MEM_BOUNDS.CM_UNITS, 4 bits. 10 R397. Reset: 0. -/
  cmUnits : Nat := 0
  /-- MEM_BOUNDS.KN_BASE, 8 bits. 10 R397. Reset: 0. -/
  knBase : Nat := 0
  /-- MEM_BOUNDS.KN_UNITS, 9 bits. 10 R397. Reset: 0. -/
  knUnits : Nat := 0
  /-- MEM_BOUNDS.FLAT, 1 bit. 10 R397. Reset: 0. -/
  flat : Bool := false
  /-- WEXT0 to WEXT15: (WBASE, WUNITS), 8 bits each. 10 R397. Reset: 0. -/
  wext : Tab (Nat × Nat) := []
  /-- DRAM_BOUNDS.DRAM_BASE, 16 bits, 1 MiB units. 11 R460. Reset: 0. -/
  dramBase : Nat := 0
  /-- DRAM_BOUNDS.DRAM_UNITS, 16 bits, 1 MiB units. 11 R460. Reset: 0. -/
  dramUnits : Nat := 0
  /-- The task's counters in the counter file: first and how many. 09 R361. Reset: none. -/
  ctrBase : Nat := 0
  ctrCount : Nat := 0
  /-- Merge buffer, at most 4 entries. 11 R476. Reset: empty. -/
  merge : List MergeEntry := []
deriving DecidableEq, Repr

/-! ### Memories (09, 10) -/

/-- A row whose correctable errors Shepherd tracks (10 R428). -/
structure RowErrors where
  mem : Nat
  core : Nat
  bank : Nat
  row : Nat
  /-- instants of its correctable errors in keep-seconds (or ms of the timebase while frozen), newest first -/
  times : List Nat
deriving DecidableEq, Repr

/-- Core Memory, the Kennel and their bookkeeping (10 R394 to R446). -/
structure Memory where
  /-- Memory mode: flat when true. 10 R418, 17 R665. Reset: tiered. -/
  flat : Bool := false
  /-- Core Memory of each core, 768 KiB, by physical byte address; unlisted bytes read 0. 10 R394. Reset: 0 (zero FILL at power-up, 17 R678). -/
  cm : Tab (List Host.Cell) := []
  /-- The Kennel, 32 MiB, by physical byte address. 10 R395. Reset: 0 (zero FILL at power-up, 10 R422). -/
  kennel : List Host.Cell := []
  /-- Poisoned words: (0 CM or 1 Kennel or 3 DRAM, core, word address / 8). 10 R398. Reset: none. -/
  poison : List (Nat × Nat × Nat) := []
  /-- Words written after they were poisoned (10 R428). Reset: none. -/
  rewritten : List (Nat × Nat × Nat) := []
  /-- Held lines: (0 CM or 1 Kennel, core, line address / 128). 10 R398, R431. Reset: none. -/
  held : List (Nat × Nat × Nat) := []
  /-- CM units of each core given out: (core * 12 + unit, owner). 10 R415. Reset: none. Owners: 1 + SC, 100 + JOB_ID, 200 + HANDLE, 1000 + orphan ID. -/
  cmOwner : Tab Nat := []
  /-- Kennel units given out: (unit, owner). 10 R415. Reset: none. -/
  knOwner : Tab Nat := []
  /-- Units whose zero FILL is not complete: CM core * 12 + unit, Kennel 1000 + unit. 10 R417. Reset: none. -/
  filling : List Nat := []
  /-- Orphans, oldest first. 10 R443. Reset: none. -/
  orphans : List Orphan := []
  /-- Next orphan ID, 32 bits. 10 R443. Reset: 1. -/
  nextOrphan : U32 := 1
  /-- Weight extents of resident variants: (HANDLE * 16 + variant, first unit, units). 10 R415. Reset: none. -/
  extents : List (Nat × Nat × Nat) := []
  /-- Kennel domains switching on: (domain, ns when ready). 10 R422. Reset: none. -/
  kennelUp : Tab Nat := []
  /-- Scrub intervals of CM, the Kennel and the IAC, us. 04 R157. Reset: 64. -/
  scrubInterval : Tab Nat := []
  /-- The row each scrubber reads next. 10 R426. Reset: 0. -/
  scrubRow : Tab Nat := []
  /-- Rows tracked for correctable errors, at most 256, most recent first. 10 R428. Reset: none. -/
  tracked : List RowErrors := []
  /-- Rows reported by REMAP_EXHAUSTED. 10 R430. Reset: none. -/
  exhausted : List (Nat × Nat × Nat × Nat) := []
  /-- Remaps in force: (memory, core, bank, row, spare index). 10 R427, R429. Reset: none. -/
  remaps : List (Nat × Nat × Nat × Nat × Nat) := []
  /-- The row-generation counters 0 to 4,095: TOP_ROWS, BOTTOM_ROWS, GEN. 09 R361, R362. Reset: 0. -/
  counters : Tab (U16 × U16 × U32) := []
  /-- Counters allocated: (first, count). 09 R361. Reset: none. -/
  counterAlloc : List (Nat × Nat) := []
  /-- Windows 0 to 63. 04 R155. Reset: none open. -/
  windows : Tab Window := []
deriving DecidableEq, Repr

/-! ### DRAM (11) -/

/-- A DRAM transaction in flight or waiting at its channel, in order of arrival (11 R469 to R474). -/
structure DramTx where
  id : Nat
  /-- core 0 to 15, or 16 for the system pool -/
  requester : Nat
  addr : Nat
  light : Bool
  isWrite : Bool
  issuedAt : Nat
  /-- a write's bytes from the start of its line, and their byte mask -/
  data : Bytes := []
  mask : Nat := 0
  /-- an IAC fill's number -/
  fill : Option Nat := none
deriving DecidableEq, Repr

/-- A DRAM channel (11 R487, R488). -/
structure Channel where
  /-- Up. Reset: false until trained (17 R675). -/
  up : Bool := false
  /-- Retraining since this ns. 11 R487. Reset: none. -/
  retrainingSince : Option Nat := none
  /-- Transactions in order of arrival. 11 R474. Reset: none. -/
  queue : List DramTx := []
deriving DecidableEq, Repr

/-- The DRAM island (11 R460 to R488). -/
structure Dram where
  /-- DRAM bytes by physical address; unlisted bytes read 0. 11 R461. Reset: 0 (DESIGN CHOICE, log 5: DRAM after power-on). -/
  bytes : List Host.Cell := []
  /-- Fitted size in bytes, 4 to 32 GiB. 00 R1. Reset: 8 GiB (a board part: DESIGN CHOICE, log 4). -/
  size : Nat := 8589934592
  /-- Data rate, MT/s. 03 R104. Reset: 0 until trained (17 R675). -/
  rate : Nat := 0
  /-- Highest rate the fitted devices report, MT/s. 17 R675. Reset: 8533 (a board part: DESIGN CHOICE, log 4). -/
  deviceMax : Nat := 8533
  /-- Inline ECC in force. 16 R632, 11 R486. Reset: 0. -/
  inlineEcc : Bool := false
  /-- In self-refresh. 17 R685. Reset: false. -/
  selfRefresh : Bool := false
  /-- Channels 0 to 3. 11 R487. -/
  channels : Tab Channel := []
  /-- 1 MiB units given out: (first, units, owner). 11 R460. Reset: none. -/
  alloc : List (Nat × Nat × Nat) := []
  /-- Freed units whose background zero fill is not complete: (first, units). 10 R446. Reset: none. -/
  filling : List (Nat × Nat) := []
  /-- The next transaction identifier (the model's own). Reset: 0. -/
  nextId : Nat := 0
deriving DecidableEq, Repr

/-! ### Irregular access cache (12) -/

/-- State of a way (12 R493). -/
inductive WayState where
  | invalid | single | packed
deriving DecidableEq, Repr

/-- State of a sector (12 R494). -/
inductive SectorState where
  | absent | pending | valid
deriving DecidableEq, Repr

/-- A logical line in a way: its tag, its four sectors and their bytes (12 R492, R494). -/
structure Line where
  tag : Nat
  sectors : List SectorState := List.replicate 4 .absent
  data : List Bytes := List.replicate 4 []
  /-- full, tested and compressible (12 R506) -/
  compressible : Bool := false
deriving DecidableEq, Repr

/-- One way of a set: its state and the logical lines it holds, one, or two when packed (a packed way whose partner was removed
holds one, still compressed) (12 R494, R504). -/
structure Way where
  state : WayState := .invalid
  lines : List Line := []
deriving DecidableEq, Repr

/-- One set: ways 0 to 15, and the 15 bits of its tree pseudo-LRU, node n's children 2n + 1 and 2n + 2 (12 R492). -/
structure IacSet where
  ways : Tab Way := []
  tree : BitVec 15 := 0
  /-- uses of each way, newest first, for which of two was used more recently (12 R506) -/
  recent : List Nat := []
deriving DecidableEq, Repr

/-- The stream detector of a requester (12 R509): its previous sector, consecutive misses in successive sectors, bypass and the
non-sequential lookups made in it. -/
structure Detector where
  prev : Option Nat := none
  misses : Nat := 0
  lastMiss : Option Nat := none
  bypass : Bool := false
  nonSeq : Nat := 0
deriving DecidableEq, Repr

/-- A fill in flight (12 R500 to R504). -/
structure Fill where
  id : Nat
  /-- DRAM address of its sector of 32 bytes -/
  sector : Nat
  requester : Nat
  /-- the way it was allocated in, none in bypass or without allocation -/
  way : Option Nat
  /-- a write to the sector has been applied since it was issued (12 R503) -/
  written : Bool
  /-- the sector's bytes once its burst is complete, and whether they were uncorrectable (12 R513) -/
  data : Option Bytes
  bad : Bool
deriving DecidableEq, Repr

/-- The IAC (12 R492 to R509). -/
structure Iac where
  /-- Powered and usable (tiered mode). 17 R660, 12 R492. Reset: false. -/
  on : Bool := false
  /-- Sets 0 to 2,047. 12 R492. Reset: all INVALID. -/
  sets : Tab IacSet := []
  /-- Detectors of requesters 0 to 16. 12 R505. Reset: 0. -/
  detectors : Tab Detector := []
  /-- Fills in flight. 12 R500. Reset: none. -/
  fills : List Fill := []
  /-- Next fill identifier (the model's own). Reset: 0. -/
  nextId : Nat := 0
deriving DecidableEq, Repr

/-! ### Tree vote engine (13) -/

/-- A loaded ensemble (13 R519 to R527). -/
structure Ensemble where
  loaded : Bool := false
  nodes : List U64 := []
  roots : List Nat := []
  /-- front-stage table bytes -/
  front : Bytes := []
  /-- depth of each tree -/
  depths : List Nat := []
  /-- front-stage entries N -/
  entries : Nat := 0
deriving DecidableEq, Repr

/-- A feature set ready to vote, or the vote running (13 R534, R535). -/
structure VoteJob where
  sc : Nat
  frame : U32
  /-- the raw features of 13 R519 by index; none for a missing one -/
  features : List (Option Nat)
  degraded : Bool
  startedAt : Nat
  /-- trees whose node read was delivered as zeros (13 R535) -/
  bad : List Nat := []
deriving DecidableEq, Repr

/-- The TVE (13 R519 to R542). -/
structure Tve where
  /-- Ensembles 0 to 15. 04 R158. Reset: none loaded. -/
  ensembles : Tab Ensemble := []
  /-- Votes ready, in order. 13 R534. Reset: empty. -/
  ready : List VoteJob := []
  /-- The vote running. 13 R535. Reset: none. -/
  running : Option VoteJob := none
  /-- Feature parts of pack streams: (sc, frame, members that have reported). 14 R596. Reset: empty. -/
  parts : List (Nat × U32 × List Nat) := []
deriving DecidableEq, Repr

/-! ### Packs and FyxLink (14) -/

/-- State of a FyxLink link (14 R565). -/
inductive LinkState where
  | disabled | detect | training | up | recovery | down
deriving DecidableEq, Repr

/-- A sequenced flit that is not acknowledged (14 R566, R568): SEQ, FTYPE, PAYLOAD, and the ns of its first transmission. -/
structure HeldFlit where
  seq : Nat
  ftype : Nat
  payload : Bytes
  firstAt : Nat
deriving DecidableEq, Repr

/-- A FyxLink port FYX0 to FYX3. -/
structure Link where
  /-- PACK_LINKk STATE. 18 R707. Reset: DISABLED. -/
  state : LinkState := .disabled
  /-- NEIGHBOUR_POS, NEIGHBOUR_PORT, NEIGHBOUR_VALID. 18 R707. Reset: 0. -/
  nPos : Nat := 0
  nPort : Nat := 0
  nValid : Bool := false
  /-- REVERSED. 18 R707. Reset: 0. -/
  reversed : Bool := false
  /-- INVERTED, 8 bits. 18 R707. Reset: 0. -/
  inverted : Nat := 0
  /-- Consecutive TS1 and TS2 received in this training. 14 R558. Reset: 0. -/
  ts1 : Nat := 0
  ts2 : Nat := 0
  /-- RATE of the last TS2, the lanes are aligned (step 3), and an ACK has been received (step 4). 14 R558. Reset: 0. -/
  nRate : Nat := 0
  aligned : Bool := false
  gotAck : Bool := false
  /-- When this state was entered, ns. 14 R558, R565. Reset: 0. -/
  since : Nat := 0
  /-- Next receive sequence and next send sequence. 14 R566. Reset: 0. -/
  rxSeq : Nat := 0
  txSeq : Nat := 0
  /-- Flits sent and not acknowledged, oldest first, at most 64. 14 R566, R568. Reset: empty. -/
  unacked : List HeldFlit := []
  /-- FTYPE and PAYLOAD of the flits of started packets that are not sent. 14 R560, R566. Reset: empty. -/
  queued : List (Nat × Bytes) := []
  /-- The last 58 scrambled bits of each lane, sent and received. 14 R556. Reset: DESIGN CHOICE 0 (assumption 94). -/
  txScr : List Nat := List.replicate 8 0
  rxScr : List Nat := List.replicate 8 0
  /-- Bytes received of the packet under way. 14 R560. Reset: empty. -/
  rx : Bytes := []
  /-- A NAK has been sent for the flit expected. 14 R567. Reset: false. -/
  nakSent : Bool := false
  /-- Credits to return per class, the class whose turn is next, and flits since the last SKIP. 14 R557, R569. Reset: 0. -/
  owed : List Nat := [0, 0, 0]
  turn : Nat := 0
  skip : Nat := 0
  /-- When acknowledgement last made progress, and when a flit was last received, ns. 14 R567, R568. Reset: 0. -/
  progressAt : Nat := 0
  heardAt : Nat := 0
  /-- When a flit was last sent, ns. 14 R566. Reset: 0. -/
  sentAt : Nat := 0
  /-- Replays in a row without progress. 14 R567. Reset: 0. -/
  replays : Nat := 0
  /-- Credits of the three classes. 14 R569. Reset: 0. -/
  credits : List Nat := [0, 0, 0]
  /-- Packets waiting for credit, with their classes, in order. 14 R562, R570. Reset: empty. -/
  waiting : List (Nat × Packet) := []
deriving DecidableEq, Repr

/-- STATE of a pack (18 R707). -/
inductive PackState where
  | single | forming | formed | degraded
deriving DecidableEq, Repr

/-- A member as the summary shows it (03 R104). -/
structure Member where
  /-- 0 absent, 1 forming, 2 member, 3 ejected. Reset: 0. -/
  state : Nat := 0
  links : Nat := 0
  ackEpoch : U32 := 0
  offset : Int := 0
  fw : U32 := 0
  info : Bytes := []
  hashes : Bytes := []
  /-- when TIME_REPLY or TIME_FOLLOW was last received, ns -/
  contactAt : Nat := 0
  /-- since when its offset has been above 1 us, ns -/
  offSince : Option Nat := none
  /-- ejected at this ns, and its band fill has started -/
  ejectedAt : Option Nat := none
  filled : Bool := false
  /-- t1 of the last TIME_SYNC to it, ns (14 R581) -/
  t1 : Int := 0
  /-- pack operations in a row that ended PACK_MEMBER_TIMEOUT because of it (14 R579) -/
  missed : Nat := 0
deriving DecidableEq, Repr

/-- A pack operation staged on this member, or issued by this leader (14 R574 to R578). -/
structure PackOp where
  id : Nat
  epoch : U32
  opcode : Nat
  params : Bytes
  /-- leader: the command it serves -/
  cmd : Option Hdr
  /-- leader: members whose first and final answers are in, and their statuses -/
  first : List (Nat × Nat)
  final : List (Nat × Nat)
  issuedAt : Nat
  /-- member: parts of the parameters received; complete -/
  complete : Bool
  /-- PARAM_LEN -/
  len : Nat
  /-- leader: the pack timeout at its issue, us (04 R165) -/
  limit : Nat := 0
  /-- leader: every first answer was OK, and the command has run here -/
  agreed : Bool := false
  /-- leader: the outcome of the staged command on this device, held until every final answer is in (14 R576): status, frame, result -/
  outcome : Option (Status × Nat × Bytes) := none
deriving DecidableEq, Repr

/-- A DEBUG_READ that another member answers (04 R167, 14 R561): TAG, the command, its destination and length, the bytes that have come. -/
structure MemberRead where
  tag : U16
  cmd : Hdr
  dest : Nat
  len : Nat
  data : Bytes
deriving DecidableEq, Repr

/-- The pack and its links (14 R554 to R604). -/
structure Pack where
  /-- PACK_STATE. 18 R707. Reset: single. -/
  state : PackState := .single
  /-- LEADER. 18 R707. Reset: 0. -/
  leader : Bool := false
  /-- LEADER_POS. 18 R707. Reset: own POS when single. -/
  leaderPos : Nat := 0
  /-- MEMBERS, 8 bits. 18 R707. Reset: 0. -/
  members : Nat := 0
  /-- TOPOLOGY, 2 bits. 18 R707. Reset: 0. -/
  topology : Nat := 0
  /-- Current epoch, 32 bits. 18 R707. Reset: 0. -/
  epoch : U32 := 0
  /-- Pack timeout, us. 18 R707, 04 R165. Reset: 2,000. -/
  timeout : Nat := 2000
  /-- Members 0 to 7. 03 R104. Reset: absent. -/
  table : Tab Member := []
  /-- Links 0 to 3. 14 R565. -/
  links : Tab Link := []
  /-- PACK_FORM in progress: its command, members, topology and start, ns. 14 R572. Reset: none. -/
  forming : Option (Hdr × Nat × Nat × Nat) := none
  /-- Operations staged or issued. 14 R574. Reset: empty. -/
  ops : List PackOp := []
  /-- Pack order and next-hop port per destination, as FORM gives them. 14 R554, R561, R571. Reset: empty. -/
  order : List Nat := []
  nextHop : List Nat := []
  /-- Two distinct devices have answered with one PACK_POS. 14 R574. Reset: false. -/
  duplicate : Bool := false
  /-- Input frames released: (sc, frame) with members heard. 14 R594. Reset: empty. -/
  released : List (Nat × U32 × Nat) := []
  /-- Follower: when TIME_FOLLOW was last received, ns. 14 R583. Reset: 0. -/
  heardAt : Nat := 0
  /-- Status of the last command checked or run for a pack operation (the model's own). Reset: OK. -/
  outcome : Status := .ok
  /-- DISCOVER packets already forwarded: source, identifier, and the port it came by. 14 R561, R572. Reset: empty. -/
  seen : List (Nat × Nat × Nat) := []
  /-- TIME_PACK_OFFSET, signed ns. 18 R704. Reset: 0. -/
  offset : Int := 0
  /-- Follower: T1 and T2 of the exchange in progress, ns. 14 R581. Reset: none. -/
  sync : Option (Nat × Nat) := none
  /-- Slew left to apply, signed ns. 14 R582. Reset: 0. -/
  slew : Int := 0
  /-- Bands reported of each output: (sc, frame, phase, desc) with members heard. 14 R594. Reset: empty. -/
  reports : List (Nat × U32 × Nat × Nat × Nat) := []
  /-- Outputs this member has asked the leader to bind. 14 R593. Reset: empty. -/
  bindAsked : List (Nat × U32 × Nat × Nat) := []
  /-- The next TAG of a packet that asks for an answer. 14 R560. Reset: 0. -/
  nextTag : U16 := 0
  /-- DEBUG_READs forwarded to members. 04 R167, 14 R561. Reset: none. -/
  reads : List MemberRead := []
deriving DecidableEq, Repr

/-! ### The whole machine -/

/-- The state of the ILV-3216. -/
structure State where
  /-- The timebase in ns (03 R9, 16 R642; records carry it in us). Reset: 0. -/
  now : Nat
  /-- What a follower's step to its leader's timebase and its slews have added to the timebase, ns (14 R582). Reset: 0. -/
  shift : Int
  glb : Glb
  otp : Otp
  keep : Keep
  flash : Flash
  pwr : Power
  perf : Perf
  cnt : Counters
  pcie : Pcie
  /-- Rings 0 to 7. 03 R60. -/
  rings : Tab Ring
  evq : Evq
  mgmt : Mgmt
  /-- Device reads of host memory outstanding. 03 R88. Reset: none. -/
  reads : List DmaRead
  /-- Next read identifier (the model's own). Reset: 0. -/
  nextRead : Nat
  /-- Staged changes and long operations whose COMMITTED is outstanding, in execution order. 04 R173. Reset: empty. -/
  staged : List Staged
  /-- Residency queue. 05 R196. Reset: empty. -/
  residency : List ResidencyOp
  /-- The operation of the queue in progress. 05 R196. Reset: none. -/
  residing : Option ResidencyOp
  /-- Stream contexts 0 to 31. 05 R183. Reset: FREE. -/
  streams : Tab Stream
  /-- Routes of camera sources PORT * 16 + VC to stream contexts. 05 R184. Reset: none. -/
  routes : Tab Nat
  /-- Alignment groups 0 to 7. 05 R203. Reset: none. -/
  groups : Tab Group
  /-- Model handles 0 to 63. 04 R124. Reset: empty. -/
  models : Tab Model
  /-- Jobs 0 to 15. 04 R151. Reset: not active. -/
  jobs : Tab Job
  cam : Camera
  /-- Neural cores 0 to 15. 08. -/
  cores : Tab Core
  mem : Memory
  dram : Dram
  iac : Iac
  tve : Tve
  pack : Pack
  /-- What the device has sent, newest last (the model's own log of its outputs). Reset: empty. -/
  sent : List Sent
  /-- Free values drawn so far (the model's own counter; log 6). Reset: 0 (DESIGN CHOICE, log 6). -/
  drawn : Nat
  /-- The commands that are waiting, first in, first out (the model's own). Reset: empty. -/
  pending : List Instr
deriving DecidableEq, Repr

/-- The machine right after reset: every field at the value its docstring names. -/
def State.reset : State where
  now := 0
  shift := 0
  glb := {}
  otp := {}
  keep := {}
  flash := {}
  pwr := {}
  perf := {}
  cnt := {}
  pcie := {}
  rings := []
  evq := {}
  mgmt := {}
  reads := []
  nextRead := 0
  staged := []
  residency := []
  residing := none
  streams := []
  routes := []
  groups := []
  models := []
  jobs := []
  cam := {}
  cores := []
  mem := {}
  dram := {}
  iac := {}
  tve := {}
  pack := {}
  sent := []
  drawn := 0
  pending := []

end Sys2Proof.Machine
end

