-- ==== Sys2Proof/Machine/Ops.lean ====
section
/-! DEFINITION. The named operations over state that every family uses: access to the numbered parts, event records and
the fault log, completion records and the duplicate windows, MSI-X, counters, byte memories, host reads. -/
namespace Sys2Proof.Machine

/-- The outcome of a command or a step. -/
abbrev Out := Host.Outcome State Fault Refusal

/-! ### Status codes (03 R106) -/

/-- The code of a status (03 R106). -/
def Status.code : Status → Nat
  | .ok => 0x0000 | .okReplay => 0x0001 | .pending => 0x0002 | .doneEmpty => 0x0003
  | .badCrc => 0x0100 | .badOpcode => 0x0101 | .reservedNonzero => 0x0102 | .badLength => 0x0103
  | .badField => 0x0104 | .badPointer => 0x0105 | .badParamCrc => 0x0106 | .notOnPort => 0x0107
  | .badState => 0x0200 | .noResource => 0x0201 | .tagInUse => 0x0202 | .certOverBudget => 0x0203
  | .busyNonatomic => 0x0204 | .shapeOverPlan => 0x0205 | .kennelFull => 0x0206 | .notFound => 0x0207
  | .held => 0x0208 | .queueFull => 0x0209 | .planMismatch => 0x020A
  | .packMismatch => 0x0300 | .packNotFormed => 0x0301 | .packMemberTimeout => 0x0302
  | .packPosDuplicate => 0x0303 | .staleEpoch => 0x0304 | .notLeader => 0x0305
  | .sigInvalid => 0x0400 | .keyMismatch => 0x0401 | .rollback => 0x0402 | .locked => 0x0403 | .unlockFailed => 0x0404
  | .hostReadFailed => 0x0500 | .eccUncorrectable => 0x0501 | .dramDegraded => 0x0502
  | .thermalCritical => 0x0503 | .internalFault => 0x0504 | .aborted => 0x0505

/-! ### Access to the numbered parts -/

def State.ring (s : State) (n : Nat) : Ring := Tab.get {} s.rings n
def State.setRing (s : State) (n : Nat) (r : Ring) : State := { s with rings := Tab.put s.rings n r }
def State.stream (s : State) (c : Nat) : Stream := Tab.get {} s.streams c
def State.setStream (s : State) (c : Nat) (x : Stream) : State := { s with streams := Tab.put s.streams c x }
def State.model (s : State) (h : Nat) : Model := Tab.get {} s.models h
def State.setModel (s : State) (h : Nat) (x : Model) : State := { s with models := Tab.put s.models h x }
def State.job (s : State) (j : Nat) : Job := Tab.get {} s.jobs j
def State.setJob (s : State) (j : Nat) (x : Job) : State := { s with jobs := Tab.put s.jobs j x }
def State.group (s : State) (g : Nat) : Group := Tab.get {} s.groups g
def State.setGroup (s : State) (g : Nat) (x : Group) : State := { s with groups := Tab.put s.groups g x }
def State.core (s : State) (c : Nat) : Core := Tab.get {} s.cores c
def State.setCore (s : State) (c : Nat) (x : Core) : State := { s with cores := Tab.put s.cores c x }
def State.port (s : State) (k : Nat) : Port := Tab.get {} s.cam.ports k
def State.setPort (s : State) (k : Nat) (x : Port) : State := { s with cam := { s.cam with ports := Tab.put s.cam.ports k x } }
def State.source (s : State) (k : Nat) : Source := Tab.get {} s.cam.sources k
def State.setSource (s : State) (k : Nat) (x : Source) : State := { s with cam := { s.cam with sources := Tab.put s.cam.sources k x } }
def State.irled (s : State) (k : Nat) : IrLed := Tab.get {} s.cam.irled k
def State.setIrled (s : State) (k : Nat) (x : IrLed) : State := { s with cam := { s.cam with irled := Tab.put s.cam.irled k x } }
def State.fsync (s : State) (k : Nat) : Fsync := Tab.get {} s.cam.fsync k
def State.setFsync (s : State) (k : Nat) (x : Fsync) : State := { s with cam := { s.cam with fsync := Tab.put s.cam.fsync k x } }
def State.spwr (s : State) (k : Nat) : SensorPwr := Tab.get {} s.cam.power k
def State.setSpwr (s : State) (k : Nat) (x : SensorPwr) : State := { s with cam := { s.cam with power := Tab.put s.cam.power k x } }
def State.sctl (s : State) (k : Nat) : Sctl := Tab.get {} s.cam.sctl k
def State.setSctl (s : State) (k : Nat) (x : Sctl) : State := { s with cam := { s.cam with sctl := Tab.put s.cam.sctl k x } }
def State.window (s : State) (w : Nat) : Window := Tab.get {} s.mem.windows w
def State.setWindow (s : State) (w : Nat) (x : Window) : State := { s with mem := { s.mem with windows := Tab.put s.mem.windows w x } }
def State.channel (s : State) (k : Nat) : Channel := Tab.get {} s.dram.channels k
def State.setChannel (s : State) (k : Nat) (x : Channel) : State := { s with dram := { s.dram with channels := Tab.put s.dram.channels k x } }
def State.ensemble (s : State) (e : Nat) : Ensemble := Tab.get {} s.tve.ensembles e
def State.setEnsemble (s : State) (e : Nat) (x : Ensemble) : State := { s with tve := { s.tve with ensembles := Tab.put s.tve.ensembles e x } }
def State.link (s : State) (k : Nat) : Link := Tab.get {} s.pack.links k
def State.setLink (s : State) (k : Nat) (x : Link) : State := { s with pack := { s.pack with links := Tab.put s.pack.links k x } }
def State.member (s : State) (p : Nat) : Member := Tab.get {} s.pack.table p
def State.setMember (s : State) (p : Nat) (x : Member) : State := { s with pack := { s.pack with table := Tab.put s.pack.table p x } }
def State.counter (s : State) (i : Nat) : U16 × U16 × U32 := Tab.get (0, 0, 0) s.mem.counters i
def State.setCounter (s : State) (i : Nat) (x : U16 × U16 × U32) : State := { s with mem := { s.mem with counters := Tab.put s.mem.counters i x } }

/-- The timebase in microseconds. -/
def State.us (s : State) : Nat := ((s.now : Int) + s.shift).toNat / 1000

/-- Shepherd runs (17 R669) and nothing holds it: no trip, no JTAG halt, PORST_N high. -/
def State.running (s : State) : Bool := s.glb.boot == .running && !s.pwr.tripped && !s.glb.jtagHalted

/-- Payload bytes that the device puts on PCIe (15 R615). -/
def Sent.pcieBytes (m : Sent) : Nat := match m with | .host _ d => d.length | .reply d _ => d.length | .msix _ => 4 | _ => 0

/-- The device has put m on an interface. -/
def State.send (s : State) (m : Sent) : State :=
  { s with sent := s.sent ++ [m], cnt := { s.cnt with tx := s.cnt.tx + m.pcieBytes } }

/-! ### FyxLink out (14 R556 to R571) -/

/-- The class of a packet (14 R561): that of the window for its writes and read requests. -/
def packetClass (s : State) (k : Packet) : Nat :=
  if k.kind = 0x40 || k.kind = 0x41 then (s.window k.index).kind
  else if k.kind = 0x2D || k.kind = 0x30 || k.kind = 0x31 || k.kind = 0x42 then 1 else 0

/-- Flits of a packet (14 R560). -/
def packetFlits (k : Packet) : Nat := ceilDiv (16 + k.data.length) 52

/-- Send one flit, or an IDLE flit, with the current acknowledgement and the credits whose turn it is; a SKIP set follows every 2,048 flits
(14 R557, R559, R566, R569). -/
def flitOut (port ftype seq : Nat) (payload : Bytes) (nak : Bool) (s : State) : State :=
  let l := s.link port
  let c := if nth 0 l.owed l.turn != 0 then l.turn else if nth 0 l.owed ((l.turn + 1) % 3) != 0 then (l.turn + 1) % 3 else (l.turn + 2) % 3
  let n := min 63 (nth 0 l.owed c)
  let r := flitBlocks l.txScr (flitBytes seq ftype ((l.rxSeq + 4095) % 4096) true nak c n payload)
  let s := s.send (.blocks port r.1)
  let s := s.setLink port { l with owed := modNth (· - n) c l.owed, turn := (c + 1) % 3, sentAt := s.now, skip := (l.skip + 1) % 2048, txScr := r.2 }
  if l.skip + 1 = 2048 then s.send (.blocks port (setBlocks .skip 0 0 0 false)) else s

/-- A sequenced flit goes out and is held until it is acknowledged (14 R566). -/
def seqFlit (port : Nat) (e : Nat × Bytes) (s : State) : State :=
  let l := s.link port
  let s := flitOut port e.1 l.txSeq e.2 false s
  s.setLink port { s.link port with txSeq := (l.txSeq + 1) % 4096, unacked := l.unacked ++ [⟨l.txSeq, e.1, e.2, s.now⟩] }

/-- Send the flits of started packets while fewer than 64 are unacknowledged (14 R566). -/
def sendFlits (port : Nat) : List (Nat × Bytes) → State → State
  | [], s => s.setLink port { s.link port with queued := [] }
  | t :: ts, s =>
    if (s.link port).state == .up && (s.link port).unacked.length < 64 then sendFlits port ts (seqFlit port t s)
    else s.setLink port { s.link port with queued := t :: ts }

/-- Start the packets whose classes have credits for all their flits, in order within a class (14 R562, R569, R570): what still waits, the
credits left, FTYPE and PAYLOAD of the flits, and the classes that wait. -/
def startPackets : List (Nat × Packet) → List Nat → List Nat → List (Nat × Packet) × List Nat × List (Nat × Bytes)
  | [], cr, _ => ([], cr, [])
  | (c, k) :: l, cr, blocked =>
    let n := packetFlits k
    if blocked.contains c || nth 0 cr c < n then
      let r := startPackets l cr (c :: blocked)
      ((c, k) :: r.1, r.2.1, r.2.2)
    else
      let r := startPackets l (modNth (· - n) c cr) blocked
      (r.1, r.2.1, packetParts n 1 (packetBytes c k) ++ r.2.2)

/-- A link that is UP sends what it can. -/
def pumpLink (port : Nat) (s : State) : State :=
  let l := s.link port
  if l.state == .up then
    let r := startPackets l.waiting l.credits []
    let s := s.setLink port { l with waiting := r.1, credits := r.2.1 }
    sendFlits port (l.queued ++ r.2.2) s
  else s

/-- The port toward a pack position: as FORM gives it, else the neighbour's, else the one by which its DISCOVER came (14 R571, R572). -/
def routePort (s : State) (dst : Nat) : Option Nat :=
  if !s.pack.nextHop.isEmpty then s.pack.nextHop[dst]?
  else ((List.range 4).find? (fun k => (s.link k).state == .up && (s.link k).nValid && (s.link k).nPos == dst)).orElse
    (fun _ => (s.pack.seen.find? (fun e => e.1 == dst)).map (·.2.2))

/-- A packet waits at a port for its credits. -/
def queuePacket (port : Nat) (k : Packet) (s : State) : State :=
  pumpLink port (s.setLink port { s.link port with waiting := (s.link port).waiting ++ [(packetClass s k, k)] })

/-- Send a packet toward a pack position. -/
def sendFyx (dst : Nat) (k : Packet) (s : State) : State :=
  let s := s.send (.fyx dst k)
  match routePort s dst with
  | some p => queuePacket p k s
  | none => s

/-! ### MSI-X (03 R69, 18 R725) -/

/-- Signal a vector: one message, or its pending bit while a mask blocks it. -/
def signal (v : Nat) (s : State) : State :=
  if s.pcie.msixEnable && !s.pcie.msixMask && !(Tab.get true s.pcie.vecMask v) then s.send (.msix v)
  else { s with pcie := { s.pcie with pba := Tab.put s.pcie.pba v true } }

/-! ### The keep domain's fault log (15 R629, 16 R633, R643) -/

/-- Entry i of the fault log, as stored. -/
def logEntry (s : State) (i : Nat) : Bytes := Tab.get (List.replicate 32 0) s.keep.log i

/-- 16 R633: bytes 0 to 27 of an entry and its CRC. -/
def sealEntry (body : Bytes) : Bytes := let b := pad 28 body; b ++ le 4 (crc32c b).toNat

/-- 16 R643: write a new entry at (newest + 1) mod 64, or at 0 in an empty log. -/
def logNew (code source frame : Nat) (detail : Bytes) (s : State) : State :=
  let i := if s.keep.count = 0 then 0 else (s.keep.newest.toNat + 1) % 64
  let q := if s.keep.count = 0 then 0 else (fld (logEntry s s.keep.newest.toNat) 14 2 + 1) % 65536
  let e := sealEntry (le 2 code ++ le 1 (source / 256) ++ le 1 (source % 256) ++ le 4 s.keep.seconds.toNat
    ++ le 4 frame ++ le 2 0 ++ le 2 q ++ pad 12 detail)
  { s with keep := { s.keep with log := Tab.put s.keep.log i e, newest := BitVec.ofNat 6 i,
                                 count := min 64 (s.keep.count + 1),
                                 logTimes := Tab.put s.keep.logTimes (code * 65536 + source) (i, s.now) } }

/-- 16 R643: raise REPEAT of entry i and rewrite its CRC. -/
def logRepeat (i : Nat) (s : State) : State :=
  let e := logEntry s i
  let r := min 0xFFFF (fld e 12 2 + 1)
  { s with keep := { s.keep with log := Tab.put s.keep.log i (sealEntry (e.take 12 ++ le 2 r ++ (e.drop 14).take 14)) } }

/-- 15 R629: one entry per event code and source within any 1 s; further occurrences raise its repeat count. -/
def logFault (code source frame : Nat) (detail : Bytes) (s : State) : State :=
  match Tab.get none (Tab.map (fun _ x => some x) s.keep.logTimes) (code * 65536 + source) with
  | some (i, t) => if s.now - t < 1000000000 then logRepeat i s else logNew code source frame detail s
  | none => logNew code source frame detail s

/-! ### Events (03 R67, R79, R80, 15 R606 to R609) -/

/-- Sources as SOURCE_CLASS * 256 + SOURCE_INST (03 R67). -/
def srcDevice : Nat := 0x000
def srcSc (c : Nat) : Nat := 0x100 + c
def srcRing (n : Nat) : Nat := 0x200 + n
def srcEvq : Nat := 0x208
def srcMgmt : Nat := 0x209
def srcCsi (k : Nat) : Nat := 0x300 + k
def srcMember (p : Nat) : Nat := 0x400 + p
def srcThermal : Nat := 0x500
def srcPorts : Nat := 0x600

/-- 03 R67, R68: the 32 bytes of an event record written at producer index i of a ring of size n. -/
def Event.bytes (e : Event) (p : Nat) : Bytes :=
  le 2 e.code ++ le 1 (e.source % 256) ++ le 1 (e.source / 256) ++ le 2 e.seq.toNat
    ++ le 1 (b2n e.lostBefore + 128 * p) ++ le 1 0 ++ le 8 e.time ++ pad 16 e.payload

/-- 03 R68: the phase bit at producer index i of a ring of size n. -/
def phaseBit (i n : Nat) : Nat := 1 - (i / n) % 2

/-- Free entries of the event ring. -/
def evqRoom (s : State) : Bool :=
  s.evq.enable && ((s.evq.tail - s.evq.head).toNat < 2 ^ s.evq.log2.toNat)

/-- 03 R78: the record goes to host memory, then the tail moves, then the vector is signalled or coalesced. -/
def evqWrite (e : Event) (s : State) : State :=
  let n := 2 ^ s.evq.log2.toNat
  let i := s.evq.tail.toNat
  let s := s.send (.host (s.evq.base.toNat + 32 * (i % n)) (e.bytes (phaseBit i n)))
  let u := s.evq.unsignalled + 1
  if s.evq.coalUsec = 0 || max 1 s.evq.coalCount.toNat ≤ u then
    signal 0 { s with evq := { s.evq with tail := s.evq.tail + 1, unsignalled := 0 } }
  else
    { s with evq := { s.evq with tail := s.evq.tail + 1, unsignalled := u,
                                 firstAt := if u = 1 then s.now else s.evq.firstAt } }

/-- 03 R79: into the ring when nothing waits and there is room, else into the backlog, else discarded and counted. -/
def evqPlace (e : Event) (s : State) : State :=
  if s.evq.backlog = [] && evqRoom s then evqWrite e s
  else if s.evq.backlog.length < 1024 then { s with evq := { s.evq with backlog := s.evq.backlog ++ [e] } }
  else { s with evq := { s.evq with lost := satAdd s.evq.lost 1, lostTotal := satAdd s.evq.lostTotal 1,
                                    lostSince := satAdd s.evq.lostSince 1, overflow := true,
                                    lostSources := e.source :: s.evq.lostSources.filter (· != e.source) } }

/-- 15 R606: the next event of a source takes the source's next SEQ, and LOST_BEFORE when an earlier one was discarded. -/
def evqNumber (source code : Nat) (payload : Bytes) (s : State) : Event × State :=
  let q := Tab.get 0 s.evq.seqs source
  ({ code := code, source := source, seq := q, lostBefore := s.evq.lostSources.contains source, time := s.us,
     payload := pad 16 payload },
   { s with evq := { s.evq with seqs := Tab.put s.evq.seqs source (q + 1) } })

/-- An event that found a place clears its source's LOST_BEFORE mark. -/
def evqClearLost (source : Nat) (placed : Bool) (s : State) : State :=
  if placed then { s with evq := { s.evq with lostSources := s.evq.lostSources.filter (· != source) } } else s

/-- Generate one event of a source, and give it its place. -/
def emitRaw (source code : Nat) (payload : Bytes) (s : State) : State :=
  let (e, s1) := evqNumber source code payload s
  evqClearLost source (s1.evq.backlog.length < 1024) (evqPlace e s1)

/-- 03 R79: before any further event that finds room, one EVENTS_LOST with the count since the previous one. -/
def emitLost (s : State) : State :=
  if s.evq.lostSince != 0 && ((s.evq.backlog = [] && evqRoom s) || s.evq.backlog.length < 1024) then
    emitRaw srcEvq 0x0003 (le 4 s.evq.lostSince.toNat) { s with evq := { s.evq with lostSince := 0 } }
  else s

/-- 15 R629: which events reach the fault log. DEDUCED (log 10): of the Revoking class its cause events; of RING_FAULT the
ring halt; DEVICE_STARTED is covered by the hardware's own entry. -/
def logged (code : Nat) (p : Bytes) : Bool :=
  match code with
  | 0x0002 => fld p 0 1 == 2
  | 0x0106 | 0x0203 | 0x0506 | 0x0500 | 0x0501 | 0x0502 | 0x0701 | 0x0702 | 0x0703 => true
  | 0x0400 => fld p 2 2 == 0x0505
  | 0x0800 => bit (fld p 8 1) 0
  | _ => false

/-- 15 R612, 16 R637: the sticky flags and the scar bit that events set. -/
def eventMarks (code : Nat) (s : State) : State :=
  if code = 0x0500 then { s with glb := { s.glb with memUncorrectable := true } }
  else if code = 0x0502 then
    { s with glb := { s.glb with remapExhausted := true }, otp := { s.otp with scar := s.otp.scar ||| 8#16 } }
  else s

/-- This device is a follower of a formed or degraded pack (04 R179). -/
def State.follower (s : State) : Bool := (s.pack.state == .formed || s.pack.state == .degraded) && !s.pack.leader

/-- 14 R595: a follower sends each of its events to the leader, as the 32 B record. -/
def forward (source code : Nat) (payload : Bytes) (s : State) : State :=
  sendFyx s.pack.leaderPos { kind := 0x2C, src := s.glb.packPos.toNat, dst := s.pack.leaderPos
                             data := (evqNumber source code payload s).1.bytes 0 } s

/-- Give an event its way to the host: the event ring, on a follower the leader's (01 R25, 14 R595). -/
def publishEvent (source code : Nat) (payload : Bytes) (s : State) : State :=
  if s.follower then forward source code payload s else emitRaw source code payload (emitLost s)

/-- Emit an event (03 R79, 14 R595, 15 R606 to R609, R629). -/
def emit (source code : Nat) (payload : Bytes) (s : State) : State :=
  let s := publishEvent source code payload s
  let s := eventMarks code s
  if logged code payload then
    logFault code source (if code = 0x0106 then fld payload 4 4 else 0) (payload.take 12) s
  else s

/-- 03 R79, R80: write backlog events, oldest first, while the ring has room. -/
def drainList : List Event → State → State
  | [], s => { s with evq := { s.evq with backlog := [] } }
  | e :: es, s => if evqRoom s then drainList es (evqWrite e s) else { s with evq := { s.evq with backlog := e :: es } }

/-- Drain the backlog. -/
def drain (s : State) : State := drainList s.evq.backlog s

/-! ### Counters (15 R614 to R616, R620) -/

/-- Add to the device error counter at an offset of R614: saturates. -/
def errAdd (off n : Nat) (s : State) : State :=
  { s with cnt := { s.cnt with errors := Tab.put s.cnt.errors off (satAdd (Tab.get 0 s.cnt.errors off) n) } }

/-- Add to the performance counter at an offset of R615: wraps, one PERF_WRAP per wrap. -/
def perfAdd (off n : Nat) (s : State) : State :=
  let v := Tab.get 0 s.cnt.perf off
  let s := { s with cnt := { s.cnt with perf := Tab.put s.cnt.perf off (v + BitVec.ofNat 48 n) } }
  if 2 ^ 48 ≤ v.toNat + n then emit srcDevice 0x0004 (le 2 off) s else s

/-- The PCIe counters take in the bytes seen since they last did (15 R615, R620). -/
def foldBytes (s : State) : State :=
  let s' := perfAdd 0x5A8 s.cnt.tx (perfAdd 0x5A0 s.cnt.rx { s with cnt := { s.cnt with rx := 0, tx := 0 } })
  if s.cnt.rx = 0 && s.cnt.tx = 0 then s else s'

/-- Payload bytes arrive on PCIe (15 R615). -/
def received (n : Nat) (s : State) : State := { s with cnt := { s.cnt with rx := s.cnt.rx + n } }

/-- The stream counters in the order of R616. -/
inductive SCtr where
  | dropped | degraded | deadline | skipped | gaps | stale | confirmed | recomputed | fallback | halo
  | votes | votesSkipped | votesDiscarded | abandoned
deriving DecidableEq, Repr

/-- The place of a stream counter in R616. -/
def SCtr.idx : SCtr → Nat
  | .dropped => 0 | .degraded => 1 | .deadline => 2 | .skipped => 3 | .gaps => 4 | .stale => 5 | .confirmed => 6
  | .recomputed => 7 | .fallback => 8 | .halo => 9 | .votes => 10 | .votesSkipped => 11 | .votesDiscarded => 12
  | .abandoned => 13

/-- Add to a stream counter: saturates. -/
def Stream.count (x : Stream) (c : SCtr) (n : Nat := 1) : Stream :=
  { x with counters := Tab.put x.counters c.idx (satAdd (Tab.get 0 x.counters c.idx) n) }

/-- Add to a counter of a stream context. -/
def scAdd (sc : Nat) (c : SCtr) (n : Nat) (s : State) : State := s.setStream sc ((s.stream sc).count c n)

/-! ### Completion records and duplicate windows (03 R66, R75 to R83) -/

/-- 03 R66: the 32 bytes of a completion record. -/
def Record.bytes (r : Record) (sqHead p us : Nat) : Bytes :=
  le 2 r.tag.toNat ++ le 2 r.status.toNat ++ le 2 r.opcode.toNat ++ le 2 sqHead ++ le 1 (b2n r.replay + 128 * p)
    ++ le 1 r.ring ++ le 2 0 ++ le 4 us ++ pad 16 r.result

/-- Sizes the ring can have (18 R710). -/
def log2Ok (n : BitVec 4) : Bool := 4 ≤ n.toNat && n.toNat ≤ 12

/-- 03 R78: write a record at CQ_TAIL, move the tail, signal or coalesce the ring's vector. -/
def writeRecord (n : Nat) (rec : Record) (s : State) : State :=
  let r := s.ring n
  if log2Ok r.cqLog2 then
    let sz := 2 ^ r.cqLog2.toNat
    let i := r.cqTail.toNat
    let s := s.send (.host (r.cqBase.toNat + 32 * (i % sz)) (rec.bytes r.sqHead.toNat (phaseBit i sz) s.us))
    let u := r.unsignalled + 1
    let r := { r with cqTail := r.cqTail + 1, completedTotal := r.completedTotal + 1 }
    if r.coalUsec = 0 || max 1 r.coalCount.toNat ≤ u then signal (n + 1) (s.setRing n { r with unsignalled := 0 })
    else s.setRing n { r with unsignalled := u, firstAt := if u = 1 then s.now else r.firstAt }
  else s

/-- Commands in flight on a ring, or on the management port (15). -/
def State.inFlight (s : State) (ring : Nat) : List InFlight :=
  if ring = 15 then s.mgmt.inFlight else (s.ring ring).inFlight

/-- Replace the in-flight set of a ring or of the port. -/
def State.setInFlight (s : State) (ring : Nat) (l : List InFlight) : State :=
  if ring = 15 then { s with mgmt := { s.mgmt with inFlight := l } }
  else s.setRing ring { s.ring ring with inFlight := l }

/-- 03 R71: the ring has a slot not fetched, fewer than 16 in flight, and room in its completion ring for all of them. -/
def fetchable (r : Ring) : Bool :=
  r.enable && !r.halted && r.sqHead != r.sqTail && r.inFlight.length < 16
    && (r.cqTail - r.cqHead).toNat + r.inFlight.length + 1 ≤ 2 ^ r.cqLog2.toNat

/-- 03 R72: note whether a ring waits to be fetched from, and since when. -/
def noteRing (n : Nat) (s : State) : State :=
  let r := s.ring n
  if fetchable r then (if r.waitingSince.isNone then s.setRing n { r with waitingSince := some s.now } else s)
  else s.setRing n { r with waitingSince := none }

/-- 18 R721: once the commands in flight of a halted ring have their records, its ENABLE clears. -/
def haltSettle (n : Nat) (s : State) : State :=
  let r := s.ring n
  if r.halted && r.inFlight.isEmpty then s.setRing n { r with enable := false } else s

/-- 03 R81, R82: put a record into the window of its ring or port; a command that the boot ROM answers enters none. -/
def remember (h : Hdr) (rec : Record) (s : State) : State :=
  let e : WinEntry := { tag := h.tag, crc := h.crc, record := rec }
  if s.glb.boot != .running then s
  else if h.ring = 15 then { s with mgmt := { s.mgmt with window := (e :: s.mgmt.window).take 16, lastExec := some (h.tag, h.crc) } }
  else s.setRing h.ring { s.ring h.ring with window := (e :: (s.ring h.ring).window).take 256, newestTag := h.tag }

/-- Deliver a record: to the port's POLL, or to the completion ring unless it may not be recorded (03 R96). The port has no ring, so
SQ_HEAD and P of its record are 0 (DESIGN CHOICE, log 89: 03 R66 gives them from a ring's indices). -/
def deliver (h : Hdr) (rec : Record) (recorded : Bool) (s : State) : State :=
  if h.ring = 15 then
    { s with mgmt := { s.mgmt with state := 2, record := rec.bytes 0 0 s.us } }
  else if recorded then writeRecord h.ring rec s else s

/-- Ring number of a command that a pack operation runs on this device (14 R575): it has no record and no window. -/
def innerRing : Nat := 16

/-- Plan of a package by handle and number (04 R125). -/
def State.planAt (s : State) (handle plan : Nat) : Option Plan := ((s.model handle).package).bind (fun p => p.plans[plan]?)

/-- 03 R75: a command completes: it leaves the in-flight set, its record enters the window and is written. -/
def complete (h : Hdr) (op : Nat) (st : Status) (result : Bytes) (s : State) : State :=
  if h.ring = innerRing then { s with pack := { s.pack with outcome := st } }
  else
  let rcd : Record := { tag := h.tag, status := BitVec.ofNat 16 st.code, opcode := BitVec.ofNat 16 op, ring := h.ring,
                        replay := false, result := pad 16 result }
  let recorded := !((s.inFlight h.ring).any (fun e => e.tag == h.tag && e.unrecorded))
  let s := s.setInFlight h.ring ((s.inFlight h.ring).filter (fun e => e.tag != h.tag))
  let s := deliver h rcd recorded (remember h rcd s)
  if h.ring = 15 then s else noteRing h.ring (haltSettle h.ring s)

/-- 03 R84: an answer that is not remembered: BAD_CRC and TAG_IN_USE. -/
def answer (h : Hdr) (op : Nat) (st : Status) (s : State) : State :=
  let rcd : Record := { tag := h.tag, status := BitVec.ofNat 16 st.code, opcode := BitVec.ofNat 16 op, ring := h.ring,
                        replay := false, result := pad 16 [] }
  deliver h rcd true s

/-- 03 R66: RESULT of a PENDING record that is staged. -/
def stagedResult : Bytes := pad 16 []

/-- 03 R66, R83: RESULT of a PENDING record once its stage has ended. -/
def stageDone (st : Status) (frame : Nat) : Bytes :=
  le 1 (if st = .ok then 1 else 2) ++ le 1 0 ++ le 2 st.code ++ le 4 (if st = .ok then frame else 0)

/-- Rewrite the stage state of a cached PENDING record (03 R83). -/
def stageCache (tag : U16) (st : Status) (frame : Nat) (l : List WinEntry) : List WinEntry :=
  l.map (fun e => if e.tag = tag && e.record.status = 2#16 then
    { e with record := { e.record with result := pad 16 (stageDone st frame) } } else e)

/-- 03 R75, 15 R609: COMMITTED of a staged command, with the bus result of a long SCTL_XFER. -/
def committed (ring : Nat) (tag : U16) (op : Nat) (st : Status) (frame bus nak : Nat) (s : State) : State :=
  let s := if ring = 15 then { s with mgmt := { s.mgmt with window := stageCache tag st frame s.mgmt.window } }
           else s.setRing ring { s.ring ring with window := stageCache tag st frame (s.ring ring).window }
  emit (if ring = 15 then srcMgmt else srcRing ring) 0x0001
    (le 2 tag.toNat ++ le 2 st.code ++ le 4 (if st = .ok then frame else 0) ++ le 2 op ++ le 1 bus ++ le 1 0 ++ le 2 nak) s

/-- An answer to a pack operation (14 R576, R561): its status, FINAL in bit 16. -/
def prepAck (tag : U16) (st : Status) (final : Bool) (s : State) : State :=
  sendFyx s.pack.leaderPos { kind := 0x11, src := s.glb.packPos.toNat, dst := s.pack.leaderPos, tag := tag, epoch := s.pack.epoch
                             arg := BitVec.ofNat 32 (st.code + 65536 * b2n final) } s

/-- The pack operation that serves a command of a ring. -/
def opOf (s : State) (ring : Nat) (tag : U16) : Option PackOp :=
  s.pack.ops.find? (fun o => match o.cmd with | some h => h.ring == ring && h.tag == tag | none => false)

/-- Change the operation of a number. -/
def onOp (id : Nat) (f : PackOp → PackOp) (s : State) : State :=
  { s with pack := { s.pack with ops := s.pack.ops.map (fun o => if o.id = id then f o else o) } }

/-- The outcome of a staged command reaches the host, unless members' final answers are still due (14 R576): a member of a pack sends it
to the leader. -/
def holdsOutcome (s : State) (ring : Nat) (tag : U16) : Option PackOp :=
  (opOf s ring tag).filter (fun o => o.agreed && o.outcome.isNone && o.first.any (fun e => !(o.final.any (fun f => f.1 == e.1))))

/-- 03 R100: on the management port a command never completes with PENDING: the outcome of a staged command completes it;
on a ring it is a COMMITTED event. -/
def stagedOutcome (ring : Nat) (tag : U16) (op : Nat) (st : Status) (frame : Nat) (result : Bytes) (s : State) : State :=
  if ring = 15 then complete { ring := 15, tag := tag, crc := (((s.mgmt.inFlight.find? (fun e => e.tag = tag)).map (·.crc)).getD 0) } op st result s
  else if ring = innerRing then
    (if s.pack.ops.any (fun o => o.id == tag.toNat) then prepAck tag st true s else s)
  else
    match holdsOutcome s ring tag with
    | some o => onOp o.id (fun o => { o with outcome := some (st, frame, result) }) s
    | none => committed ring tag op st frame 0 0 s

/-- A ring fault (03 R63, R77, R88, 18 R722): error 0 WHISTLE_ERR, 1 HEAD_ERR, 2 FETCH_ERR. Vector 9 is signalled when the
bit goes from 0 to 1, and one RING_FAULT is emitted. -/
def ringFault (n error value : Nat) (s : State) : State :=
  let r := s.ring n
  let was := if error = 0 then r.whistleErr else if error = 1 then r.headErr else r.fetchErr
  let r := { r with whistleErr := r.whistleErr || error == 0, headErr := r.headErr || error == 1,
                    fetchErr := r.fetchErr || error == 2, lastFault := error + 1 }
  let s := s.setRing n r
  let s := if was then s else signal 9 s
  emit (srcRing n) 0x0002 (le 1 error ++ le 1 0 ++ le 2 value) s

/-- 03 R77: HEAD_ERR of the event ring. -/
def evqFault (value : Nat) (s : State) : State :=
  let was := s.evq.headErr
  let s := { s with evq := { s.evq with headErr := true } }
  let s := if was then s else signal 9 s
  emit srcEvq 0x0002 (le 1 1 ++ le 1 0 ++ le 2 value) s

/-- 18 R710: the IDLE view of a ring: nothing in flight, and fetching stopped or the ring enabled and empty. -/
def Ring.idle (r : Ring) : Bool := r.inFlight.isEmpty && (!r.enable || r.sqHead == r.sqTail)

/-! ### Port faults (15 R611, R619) -/

/-- Emit PORT_FAULT; an active cause sets its bit, and repeats only for a different cause of the port. -/
def portFault (source cause portBit lanes detail : Nat) (active : Bool) (s : State) : State :=
  if active && s.glb.portCauses.contains (portBit, cause) then s
  else
    let s := if active then
        { s with glb := { s.glb with portFaults := s.glb.portFaults ||| BitVec.ofNat 32 (2 ^ portBit),
                                     portCauses := s.glb.portCauses ++ [(portBit, cause)] } }
      else s
    emit source 0x0800 (le 1 cause ++ le 1 portBit ++ le 1 lanes ++ le 1 0 ++ le 4 detail ++ le 1 (b2n active)) s

/-- Emit PORT_RECOVERED for the last active cause of a port and clear its bit; nothing for a port without one. -/
def portRecovered (source portBit : Nat) (s : State) : State :=
  match (s.glb.portCauses.filter (fun c => c.1 == portBit)).getLast? with
  | none => s
  | some (_, cause) =>
    let s := { s with glb := { s.glb with
      portFaults := s.glb.portFaults &&& ~~~(BitVec.ofNat 32 (2 ^ portBit)),
      portCauses := s.glb.portCauses.filter (fun c => c.1 != portBit) } }
    emit source 0x0801 (le 1 cause ++ le 1 portBit) s

/-! ### Byte memories in canonical form -/

/-- Write one byte: 0, what an unlisted byte reads as, removes its entry. -/
def memPut (m : List Host.Cell) (a : Nat) (b : Byte) : List Host.Cell := if b = 0 then Tab.del m a else Tab.put m a b

/-- Read one byte. -/
def memGet (m : List Host.Cell) (a : Nat) : Byte := Tab.get 0 m a

/-- Write a byte string at an address. -/
def memWrite : List Host.Cell → Nat → Bytes → List Host.Cell
  | m, _, [] => m
  | m, a, b :: bs => memWrite (memPut m a b) (a + 1) bs

/-- Read n bytes. -/
def memRead (m : List Host.Cell) (a : Nat) : Nat → Bytes
  | 0 => []
  | n + 1 => memGet m a :: memRead m (a + 1) n

/-- Zero the range from a to a + n - 1. -/
def memZero (m : List Host.Cell) (a n : Nat) : List Host.Cell := m.filter (fun e => e.1 < a || a + n ≤ e.1)

/-- Addresses strictly rising. -/
def sortedFrom : Nat → List Host.Cell → Bool
  | _, [] => true
  | a, c :: cs => a ≤ c.1 && sortedFrom (c.1 + 1) cs

/-- The canonical form of a byte memory: addresses strictly rising, no entry equal to 0. -/
def memWf (m : List Host.Cell) : Bool := sortedFrom 0 m && m.all (fun c => c.2 != 0)

/-- Read n bytes of a memory. -/
def readMem (s : State) (m : Mem) (a n : Nat) : Bytes :=
  match m with
  | .cm c => memRead (Tab.get [] s.mem.cm c) a n
  | .kennel => memRead s.mem.kennel a n
  | .dram => memRead s.dram.bytes a n

/-- Change a memory's bytes. -/
def State.onMem (s : State) (m : Mem) (f : List Host.Cell → List Host.Cell) : State :=
  match m with
  | .cm c => { s with mem := { s.mem with cm := Tab.put s.mem.cm c (f (Tab.get [] s.mem.cm c)) } }
  | .kennel => { s with mem := { s.mem with kennel := f s.mem.kennel } }
  | .dram => { s with dram := { s.dram with bytes := f s.dram.bytes } }

/-- Write bytes to a memory. -/
def writeMem (m : Mem) (a : Nat) (bs : Bytes) (s : State) : State := s.onMem m (fun c => memWrite c a bs)

/-- Zero a range of a memory (10 R417, R446). -/
def zeroMem (m : Mem) (a n : Nat) (s : State) : State := s.onMem m (fun c => memZero c a n)

/-! ### Host reads (03 R88) -/

/-- Start a device read of host memory. -/
def startRead (p : ReadFor) (addr len : Nat) (s : State) : State :=
  { s.send (.hostRead s.nextRead addr len) with
    reads := s.reads ++ [{ id := s.nextRead, purpose := p, addr := addr, len := len, attempt := 0, startedAt := s.now }],
    nextRead := s.nextRead + 1 }

end Sys2Proof.Machine
end

