-- ==== Sys2Proof/Machine/Command.lean ====
section
/-! DEFINITION. How a host command runs: its turn in its ring, the checks in the order of 03 R73, and its completion. -/
namespace Sys2Proof.Machine

/-- What the transport checks of an opcode before it executes (04 R108, R110; 03 R99): the PARAM_LEN it allows, whether it
must be indirect, whether the management port accepts it. -/
structure OpForm where
  lenOk : Nat → Bool
  indirect : Bool
  port : Bool

/-- The opcode table (04 R108 and each opcode's PARAM_LEN). -/
def opForm (op : Nat) : Option OpForm :=
  let f (n : Nat) : Option OpForm := some { lenOk := fun l => l == n, indirect := false, port := false }
  let m (n : Nat) : Option OpForm := some { lenOk := fun l => l == n, indirect := false, port := true }
  let i (n : Nat) : Option OpForm := some { lenOk := fun l => l == n, indirect := true, port := false }
  match op with
  | 0x0000 => m 0 | 0x0001 => m 0 | 0x0002 => m 8 | 0x0003 => m 4 | 0x0004 => m 12
  | 0x0005 => some { lenOk := fun l => 8 ≤ l && l ≤ 36 && l % 4 == 0, indirect := false, port := true }
  | 0x0006 => m 12 | 0x0007 => f 16 | 0x0008 => f 36 | 0x0009 => f 4
  | 0x0100 => f 16 | 0x0101 => f 8 | 0x0102 => f 4 | 0x0103 => f 4
  | 0x0200 => some { lenOk := fun l => 96 ≤ l && l ≤ 320 && l % 32 == 0, indirect := true, port := false }
  | 0x0201 => f 4 | 0x0202 => f 4 | 0x0203 => f 4 | 0x0204 => f 32 | 0x0205 => f 4 | 0x0206 => f 36 | 0x0207 => f 8
  | 0x0208 => f 4 | 0x0209 => f 12
  | 0x0300 => f 8
  | 0x0301 => some { lenOk := fun l => 84 ≤ l && l ≤ 324, indirect := false, port := false }
  | 0x0302 => f 16
  | 0x0303 => some { lenOk := fun l => 4 ≤ l && l ≤ 4096, indirect := false, port := false }
  | 0x0304 => f 8 | 0x0305 => f 12 | 0x0306 => f 4
  | 0x0307 => some { lenOk := fun l => 16 ≤ l && l ≤ 272, indirect := false, port := false }
  | 0x0400 => i 48 | 0x0401 => f 4
  | 0x0500 => f 4 | 0x0501 => f 32 | 0x0502 => f 4 | 0x0503 => f 8
  | 0x0600 => i 40 | 0x0601 => f 4 | 0x0602 => f 4 | 0x0603 => i 72
  | 0x0700 => f 4 | 0x0701 => f 0 | 0x0702 => f 4 | 0x0703 => f 4
  | 0x0800 => f 16 | 0x0801 => f 24 | 0x0802 => f 0 | 0x0803 => i 72 | 0x0804 => f 4
  | _ => none

/-- The opcode is one that the management port accepts (03 R99). -/
def onPort (op : Nat) : Bool := ((opForm op).map (·.port)).getD false

/-- Every bit of p that the mask does not name is 0 (00 R7); the mask lists the named bits of each byte. -/
def resOk : Bytes → List Nat → Bool
  | [], _ => true
  | b :: bs, [] => b == 0 && resOk bs []
  | b :: bs, m :: ms => b &&& ~~~(BitVec.ofNat 8 m) == 0 && resOk bs ms

/-- n bytes of the mask all of whose bits are named. -/
def full (n : Nat) : List Nat := List.replicate n 0xFF

/-- n reserved bytes. -/
def rsv (n : Nat) : List Nat := List.replicate n 0

/-- The status of the first check that fails. -/
def firstFail : List (Bool × Status) → Option Status
  | [] => none
  | (true, _) :: l => firstFail l
  | (false, st) :: _ => some st

/-- The stream contexts (0), models (1), groups (2), windows (3) and the pack (4) that a command acts on (03 R74). -/
def targets (op : Nat) (p : Bytes) : List (Nat × Nat) :=
  match op with
  | 0x0100 | 0x0101 | 0x0102 | 0x0103 => [(1, fld p 0 1)]
  | 0x0200 => [(0, bits (fld p 0 1) 0 5), (1, fld p 4 1)]
  | 0x0201 | 0x0202 | 0x0203 | 0x0204 | 0x0206 | 0x0208 | 0x0209 | 0x0302 | 0x0602 | 0x0603 => [(0, bits (fld p 0 1) 0 5)]
  | 0x0205 => [(0, fld p 1 1)]
  | 0x0207 => (2, bits (fld p 0 1) 0 3) :: (maskBits (fld p 4 4) 32).map (fun c => (0, c))
  | 0x0501 | 0x0502 => [(3, fld p 0 1)]
  | 0x0700 | 0x0701 | 0x0702 | 0x0703 => [(4, 0)]
  | _ => []

/-- A command has started and takes effect only once other members have answered (14 R572, R575). -/
def awaitsMembers (ring : Nat) (e : InFlight) (s : State) : Bool :=
  e.phase == .started && (e.opcode == 0x0700#16 || (opOf s ring e.tag).any (fun o => !o.agreed))

/-- The command fetched before this one on its ring (03 R74): those before it in the in-flight set, or all when it is not
listed there. -/
def earlier (h : Hdr) (s : State) : List InFlight :=
  (s.inFlight h.ring).takeWhile (fun e => e.tag != h.tag || e.phase == .slotRead)

/-- What the command of a header acts on, as its slot or its operands give it. -/
def ownTargets (h : Hdr) (s : State) : List (Nat × Nat) :=
  ((s.inFlight h.ring).filter (fun e => e.tag == h.tag && e.phase != .slotRead)).flatMap (fun e => targets e.opcode.toNat e.params)

/-- 03 R74: the command must wait for an earlier one to start, for one that acts on the same thing to take effect, or, with FENCE, for
every earlier one to have its record written. -/
def waits (h : Hdr) (s : State) : Bool :=
  (earlier h s).any (fun e => e.phase != .started
      || (awaitsMembers h.ring e s && (targets e.opcode.toNat e.params).any (fun t => (ownTargets h s).contains t)))
    || (h.fence && !(earlier h s).isEmpty)

/-- No reserved bit of the command's slot is set; a command that was not fetched from a slot has none. -/
def slotClean (h : Hdr) (s : State) : Bool :=
  !((s.inFlight h.ring).any (fun e => e.tag == h.tag && e.phase != .slotRead && !e.clean))

/-- Shepherd can start the command now. -/
def canRun (h : Hdr) (s : State) : Bool := s.running && !waits h s

/-! ### Pack operations (14 R575 to R580) -/

/-- A plan that runs on a pack. -/
def isPackPlan (p : Option Plan) : Bool := (p.map (fun p => decide (1 < p.members))).getD false

/-- The stream context's configuration names a plan that runs on a pack. -/
def packContext (s : State) (sc : Nat) : Bool := isPackPlan (s.planAt (s.stream sc).cfg.handle (s.stream sc).cfg.plan)

/-- The command is one of 14 R580 and affects followers: single-device streams and host windows are the leader's alone (14 R588, R580). -/
def carried (op : Nat) (p : Bytes) (s : State) : Bool :=
  match op with
  | 0x0100 | 0x0101 | 0x0102 | 0x0503 | 0x0703 => true
  | 0x0200 => isPackPlan (s.planAt (fld p 4 1) (fld p 5 1))
  | 0x0201 | 0x0202 | 0x0203 | 0x0204 | 0x0206 | 0x0208 | 0x0603 => packContext s (fld p 0 1)
  | 0x0207 => (maskBits (fld p 4 4) 32).any (packContext s)
  | 0x0501 => fld p 1 1 != 0
  | 0x0502 => (s.window (fld p 0 1)).kind != 0
  | _ => false

/-- Members of the pack that are not ejected, but this device. -/
def peers (s : State) : List Nat :=
  (maskBits s.pack.members 8).filter (fun m => m != s.glb.packPos.toNat && (s.member m).state != 3)

/-- The command runs as a pack operation here (14 R575). -/
def packLed (op : Nat) (p : Bytes) (s : State) : Bool :=
  (s.pack.state == .formed || s.pack.state == .degraded) && s.pack.leader && carried op p s && !(peers s).isEmpty

/-- Largest packet data (14 R555): MAX_PACKET of the FYX_SETTINGS in force. -/
def maxPacket (s : State) : Nat := if bit s.glb.fyxSettings.toNat 2 then 256 else 512

/-- The command has started and completes in a later step (04 R149; 03 R100 on the management port). -/
def markStarted (h : Hdr) (s : State) : State :=
  s.setInFlight h.ring ((s.inFlight h.ring).map (fun e => if e.tag = h.tag then { e with phase := .started } else e))

/-- The parts in which parameters travel, each with its offset (14 R577). -/
def paramParts (n : Nat) : Nat → Nat → Bytes → List (Nat × Bytes)
  | 0, _, _ => []
  | k + 1, o, b => (o, b.take n) :: (if b.length ≤ n then [] else paramParts n k (o + n) (b.drop n))

/-- Send PREPARE to every member (14 R575 step 1, R577). -/
def prepareAll (op : Nat) (h : Hdr) (p : Bytes) (s : State) : State :=
  let t := s.pack.nextTag
  let parts := paramParts (maxPacket s - 8) (p.length + 1) 0 p
  let o : PackOp := { id := t.toNat, epoch := s.pack.epoch, opcode := op, params := p, cmd := some h, first := [], final := [], issuedAt := s.now,
                      complete := true, len := p.length, limit := s.pack.timeout }
  let s : State := { s with pack := { s.pack with nextTag := t + 1, ops := s.pack.ops ++ [o] } }
  let pkt (m : Nat) (e : Nat × Bytes) : Packet :=
    { kind := 0x10, src := s.glb.packPos.toNat, dst := m, tag := t, epoch := s.pack.epoch, arg := BitVec.ofNat 32 e.1,
      data := le 2 op ++ le 2 p.length ++ le 4 0 ++ e.2 }
  markStarted h ((peers s).foldl (fun s m => parts.foldl (fun s e => sendFyx m (pkt m e) s) s) s)

/-- Run a host command: its turn (03 R74), then the checks of 03 R73 in order (lengths that follow from a count,
reserved bits, field values, legality on the management port, a follower's NOT_LEADER of 04 R179, test mode of 04 R168,
then the opcode's own checks of state), and, when all pass, its effect, which completes it. A leader first has its members check and
stage it where 14 R575 says so. -/
def command (op : Nat) (h : Hdr) (p : Bytes) (len : List (Bool × Status)) (form : List (Bool × Status))
    (state : List (Bool × Status)) (act : State → State) (s : State) : Out :=
  .next (
    if canRun h s then
      match firstFail (len ++ [(slotClean h s, .reservedNonzero)] ++ form
          ++ [(h.ring != 15 || onPort op, .notOnPort), (h.ring == 15 || h.ring == innerRing || onPort op || !s.follower, .notLeader),
              (!s.glb.testMode, .badState)] ++ state) with
      | some st => complete h op st [] s
      | none => if packLed op p s && !((opOf s h.ring h.tag).any (·.agreed)) then prepareAll op h p s else act s
    else s)

/-- Complete PENDING and remember the staged change (03 R75, 04 R173); on the management port the command goes on
executing until its outcome (03 R100). -/
def stage (h : Hdr) (op target : Nat) (ready : Bool) (change : Change) (s : State) : State :=
  let e : Staged := { ring := h.ring, tag := h.tag, opcode := BitVec.ofNat 16 op, target := target, ready := ready,
                      boundaries := 0, change := change }
  let s := { s with staged := s.staged ++ [e] }
  if h.ring = 15 then markStarted h s else complete h op .pending stagedResult s

/-- Data of a command: to host memory, or into the port's response buffer (04 R111). -/
def deliverData (h : Hdr) (dest : Nat) (data : Bytes) (s : State) : State :=
  if h.ring = 15 then { s with mgmt := { s.mgmt with resp := data, respHidden := false } } else s.send (.host dest data)

/-- 04 R111: DEST_ADDR aligned to 64 B on a ring, 0 on the management port. -/
def destOk (h : Hdr) (dest : Nat) : Bool := if h.ring = 15 then dest == 0 else dest % 64 == 0

end Sys2Proof.Machine
end

