-- ==== Sys2Proof/Machine/Report.lean ====
section
/-! DEFINITION. What the device reports of itself: GET_INFO, FAULT_FLAGS, the RESYNC summary, the certificate record, the
counters snapshot, the fault export and the BAR0 views. -/
namespace Sys2Proof.Machine

/-! ### Parts of the report -/

/-- Settings word w of the active copy (16 R632, R640). -/
def setting (s : State) (w : Nat) : U32 := Tab.get 0 (if s.keep.active1 then s.keep.copy1 else s.keep.copy0) w

/-- ROM_VERSION of the stepping (04 R114). -/
def romVersion (s : State) : Nat := if s.glb.stepping = 0xA0 then 1 else 2

/-- DRAM_MAX_RATE of the stepping (04 R114, R115). -/
def dramMaxRate (s : State) : Nat := if s.glb.stepping = 0xA0 then 7500 else 8533

/-- The capability bits of GET_INFO bytes 24 and 25 (04 R114). -/
def capBits (s : State) : Nat :=
  b2n s.glb.capCamera + 2 * b2n s.glb.capFyx + 4 * b2n (s.glb.stepping != 0xA0) + 8 + 16 * b2n (s.glb.stepping != 0xA0)

/-- FW_VERSION as reported: 0 until Shepherd runs (18 R703, R717). -/
def fwShown (s : State) : Nat := if s.glb.boot == .running then s.glb.fwVersion.toNat else 0

/-- 04 R114: RESULT of GET_INFO. -/
def infoResult (s : State) : Bytes :=
  le 2 0x3216 ++ le 1 s.glb.stepping.toNat ++ le 1 (romVersion s) ++ le 4 (fwShown s) ++ le 2 (capBits s)
    ++ le 2 (dramMaxRate s) ++ le 1 16 ++ le 1 (if s.glb.stepping = 0xA0 then 4 else 8)
    ++ le 1 (b2n s.glb.gradeE + 2 * b2n s.otp.keyHash.isSome + 4 * b2n s.otp.debugLocked + 8 * b2n s.glb.testPins)
    ++ le 1 (s.otp.rollback + 64 * s.glb.bootSrc.toNat)

/-- Domain d is switched on (17 R660). -/
def domainOn (s : State) (d : Nat) : Bool := s.pwr.domains.getLsbD d

/-- A sensor reads while its domain is powered (18 R705): 0 to 15 in the cores, the others always. -/
def sensorValid (s : State) (n : Nat) : Bool := if n < 16 then domainOn s n else n < 20

/-- The latest sample of a sensor; 0 while it is not valid (18 R705). -/
def sensorTemp (s : State) (n : Nat) : Int := if sensorValid s n then Tab.get 0 s.pwr.temp n else 0

/-- The sensor with the highest reading among those that read, the lowest-numbered among equals (17 R694). -/
def hottest (s : State) : Nat :=
  (((List.range 20).filter (sensorValid s)).foldl (fun (b : Option Nat) n => match b with
    | none => some n
    | some m => if sensorTemp s m < sensorTemp s n then some n else some m) none).getD 18

/-- The code of a thermal state (18 R705). -/
def Thermal.code : Thermal → Nat
  | .normal => 0 | .warning => 1 | .critical => 2

/-- The code of a boot state (17 R669). -/
def BootState.code : BootState → Nat
  | .init => 0 | .flash => 1 | .waitHost => 2 | .hostLoading => 3 | .recovery => 4 | .starting => 5 | .running => 6

/-- The code of a stream state (03 R104). -/
def StreamState.code : StreamState → Nat
  | .free => 0 | .configured => 1 | .running => 2 | .draining => 3 | .faulted => 4

/-- The code of a certificate state (02 R30). -/
def CertState.code : CertState → Nat
  | .none => 0 | .valid => 1 | .revoked => 2

/-- The code of a pack state (18 R707). -/
def PackState.code : PackState → Nat
  | .single => 0 | .forming => 1 | .formed => 2 | .degraded => 3

/-- The code of a link state (18 R707). -/
def LinkState.code : LinkState → Nat
  | .disabled => 0 | .detect => 1 | .training => 2 | .up => 3 | .recovery => 4 | .down => 5

/-- The code of a core state (18 R709). -/
def CoreState.code : CoreState → Nat
  | .off => 0 | .idle => 1 | .running => 2 | .trapped => 3 | .stalled => 4

/-- Any certificate in a state. -/
def anyCert (s : State) (c : CertState) : Bool := (List.range 32).any (fun i => (s.stream i).cert.state == c)

/-- 15 R612: FAULT_FLAGS. -/
def faultFlags (s : State) : Nat :=
  b2n ((List.range 8).any (fun n => (s.ring n).halted))
  + 2 * b2n s.evq.overflow
  + 4 * b2n ((List.range 32).any (fun c => (s.stream c).state == .faulted))
  + 8 * b2n (anyCert s .revoked)
  + 16 * b2n (s.pwr.thermal == .warning) + 32 * b2n (s.pwr.thermal == .critical)
  + 64 * b2n ((List.range 4).any (fun k => (s.channel k).retrainingSince.isSome))
  + 128 * b2n (s.dram.rate != 0 && (List.range 4).any (fun k => !(s.channel k).up && (s.channel k).retrainingSince.isNone))
  + 256 * b2n (s.glb.portFaults != 0)
  + 512 * b2n (s.pack.state == .degraded)
  + 1024 * b2n s.glb.memUncorrectable + 2048 * b2n s.glb.remapExhausted
  + 4096 * b2n (s.otp.scar != 0) + 8192 * b2n s.glb.testPins

/-- Leader's PACK_POS; own POS when single (18 R707). -/
def leaderPos (s : State) : Nat := if s.pack.state == .single then s.glb.packPos.toNat else s.pack.leaderPos

/-- Valid entries of the remap table (16 R638). -/
def remapCount (s : State) : Nat := ((List.range 64).filter (fun i => (Tab.get 0 s.keep.remap i).getLsbD 0)).length

/-- The remap table's 512 bytes. -/
def remapBytes (s : State) : Bytes := (List.range 64).flatMap (fun i => le 8 (Tab.get 0 s.keep.remap i).toNat)

/-- The fault log's 2,048 bytes in index order. -/
def logBytes (s : State) : Bytes := (List.range 64).flatMap (fun i => pad 32 (logEntry s i))

/-- The keep-seconds counter is frozen. -/
def keepFrozen (s : State) : Bool := s.keep.seconds == 0xFFFFFFFF#32 || s.keep.secondsAt + 2000000000 ≤ s.now

/-- The clock of the windows of R428 and R637, in seconds (16 R642). -/
def windowClock (s : State) : Nat := if keepFrozen s then s.now / 1000000000 else s.keep.seconds.toNat

/-- The next SEQ of a source. -/
def nextSeq (s : State) (source : Nat) : Nat := (Tab.get 0 s.evq.seqs source).toNat

/-! ### RESYNC summary (03 R104) -/

/-- The commands in flight that the summary shows: all but the RESYNC itself (03 R103), and those whose slots are still being read, which
have no tag yet (DEDUCED, assumption 89). -/
def listed (h : Hdr) (s : State) (n : Nat) : List InFlight :=
  (s.ring n).inFlight.filter (fun e => e.phase != .slotRead && !(h.ring == n && e.tag == h.tag))

/-- The ring has commands in flight besides the RESYNC. -/
def draining (h : Hdr) (s : State) (n : Nat) : Bool :=
  (s.ring n).inFlight.any (fun e => e.phase == .slotRead || !(h.ring == n && e.tag == h.tag))

/-- Commands of ring n completed PENDING whose COMMITTED has not been emitted (03 R104). -/
def stagedCount (s : State) (n : Nat) : Nat :=
  (s.staged.filter (fun e => e.ring == n && !(s.inFlight n).any (fun i => i.tag == e.tag && i.phase != .slotRead))).length

/-- 03 R104: the 64 bytes of ring n. -/
def ringSummary (h : Hdr) (s : State) (n : Nat) : Bytes :=
  let r := s.ring n
  let fl := listed h s n
  let st := if r.halted then 2 else if r.enable then 1 else if draining h s n then 3 else 0
  pad 64 (le 1 st ++ le 1 (r.sqLog2.toNat + 16 * r.cqLog2.toNat) ++ le 2 r.sqHead.toNat ++ le 2 r.sqTail.toNat
    ++ le 2 r.cqTail.toNat ++ le 2 r.cqHead.toNat ++ le 1 fl.length ++ le 1 (stagedCount s n)
    ++ le 2 r.newestTag.toNat ++ le 2 r.window.length ++ pad 32 (fl.flatMap (fun e => le 2 e.tag.toNat))
    ++ le 4 r.completedTotal.toNat ++ le 2 r.lastFault ++ le 2 0 ++ le 2 (nextSeq s (srcRing n)))

/-- A staged change of a stream, the first one: of its configuration, or of the camera source or channel that commits with it (04 R146,
R147). -/
def stagedOf (s : State) (c : Nat) : Option Staged :=
  s.staged.find? (fun e => e.target == c && (match e.change with
    | .config _ | .output _ _ | .pin _ | .bind _ | .table _ | .rfe _ _ _ | .irled _ _ _ _ => true | _ => false))

/-- STAGED_RING and STAGED_TAG of a staged change (03 R104): on a follower none, since the command is the leader's (03 R94). -/
def stagedId (e : Staged) : Nat × Nat := if e.ring = innerRing then (0, 0) else (e.ring, e.tag.toNat)

/-- 03 R104: the 64 bytes of a stream context. -/
def streamSummary (s : State) (c : Nat) : Bytes :=
  let x := s.stream c
  if x.state == .free then pad 64 (List.replicate 26 0 ++ le 2 (nextSeq s (srcSc c)))
  else
    let st := stagedOf s c
    let deg := x.cert.state == .revoked || x.outputs.any (fun o => o.flags.getLsbD 3)
    pad 64 (le 1 x.state.code ++ le 1 x.cfg.sourceKind ++ le 1 (x.cfg.port + 16 * x.cfg.vc)
      ++ le 1 (x.group.getD 0 + 128 * b2n x.group.isSome) ++ le 1 x.cfg.priority ++ le 1 x.cert.state.code ++ le 1 x.cert.floorOp
      ++ le 1 (b2n x.cfg.lowLatency + 2 * b2n st.isSome + 4 * b2n deg) ++ le 2 x.cert.permille ++ le 1 x.cls ++ le 1 x.cls
      ++ le 4 x.lastAccepted.toNat ++ le 4 x.lastDone.toNat ++ le 1 x.lastDonePhase ++ le 1 x.inBufs.length
      ++ le 1 ((x.outBufs.map (fun e => e.2.length)).sum + (x.outputs.filter (fun o => o.buf.isSome && !o.complete)).length) ++ le 1 0 ++ le 2 x.esid.toNat ++ le 2 (nextSeq s (srcSc c))
      ++ le 4 (if (st.map (·.ready)).getD false then x.nextFrame.toNat else 0)
      ++ le 1 ((st.map stagedId).getD (0, 0)).1 ++ le 1 0 ++ le 2 ((st.map stagedId).getD (0, 0)).2
      ++ le 4 (Tab.get 0 x.counters 1).toNat ++ le 4 (Tab.get 0 x.counters 0).toNat ++ le 4 (Tab.get 0 x.counters 2).toNat)

/-- FYX0 to FYX3 up toward a member (03 R104): this device's links that are UP on its way there, all of them for its own entry, and for
another member on the leader those that its port bytes show UP. -/
def memberLinks (s : State) (p : Nat) : Nat :=
  if p = s.glb.packPos.toNat then toMask ((List.range 4).filter (fun k => (s.link k).state == .up))
  else if s.pack.leader then (s.member p).links
  else toMask ((List.range 4).filter (fun k => (s.link k).state == .up && (s.link k).nValid && (s.link k).nPos == p))

/-- TIME_OFFSET of a member, member minus leader (03 R104): a follower knows its own (14 R581). -/
def memberOffset (s : State) (p : Nat) : Int :=
  if s.follower && p == s.glb.packPos.toNat then s.pack.offset else (s.member p).offset

/-- 03 R104: the 32 bytes of a pack member. -/
def memberSummary (s : State) (p : Nat) : Bytes :=
  let m := s.member p
  pad 32 (le 1 m.state ++ le 1 (b2n (s.pack.state != .single && leaderPos s == p)) ++ le 1 (if m.state = 0 then 0 else memberLinks s p) ++ le 1 0
    ++ le 4 m.ackEpoch.toNat ++ le 4 (twos 32 (memberOffset s p)) ++ le 2 (nextSeq s (srcMember p)) ++ le 2 0 ++ le 4 m.fw.toNat)

/-- 03 R104: the 3,072 bytes of the summary, captured for the RESYNC of h; the RESYNC itself is left out of it (R103). -/
def summary (h : Hdr) (s : State) : Bytes :=
  let header := pad 64 (le 4 0x4E595352 ++ le 2 1 ++ le 2 3072 ++ le 8 s.us ++ le 4 s.glb.snapshots.toNat
    ++ le 4 (fwShown s) ++ le 1 s.glb.stepping.toNat ++ le 1 (b2n s.mem.flat) ++ le 1 s.pwr.profile ++ le 1 s.glb.resetCause
    ++ le 4 s.keep.seconds.toNat ++ le 4 s.pack.epoch.toNat ++ le 1 s.pack.state.code ++ le 1 s.glb.packPos.toNat
    ++ le 1 s.pack.members ++ le 1 (leaderPos s) ++ le 1 h.ring ++ le 1 0 ++ le 2 h.tag.toNat ++ le 4 (faultFlags s))
  let evq := pad 64 (le 1 (b2n s.evq.enable) ++ le 1 s.evq.log2.toNat ++ le 2 s.evq.head.toNat ++ le 2 s.evq.tail.toNat
    ++ le 2 s.evq.backlog.length ++ le 4 s.evq.lostTotal.toNat ++ le 2 (nextSeq s srcEvq) ++ le 2 (nextSeq s srcMgmt)
    ++ le 2 (nextSeq s srcDevice) ++ (List.range 4).flatMap (fun k => le 2 (nextSeq s (srcCsi k)))
    ++ le 2 (nextSeq s srcThermal) ++ le 2 (nextSeq s srcPorts))
  let dev := pad 124 (le 1 s.keep.count ++ le 1 s.keep.newest.toNat ++ le 1 (twos 8 (sensorTemp s (hottest s)))
    ++ le 1 s.pwr.thermal.code
    ++ le 1 (toMask ((List.range 4).filter (fun k => (s.channel k).up)) + 16 * b2n s.dram.inlineEcc
        + 32 * b2n ((List.range 4).any (fun k => (s.channel k).retrainingSince.isSome)))
    ++ le 1 0 ++ le 2 s.dram.rate ++ le 4 s.glb.portFaults.toNat ++ le 1 (bits s.pwr.domains.toNat 16 8) ++ le 1 0
    ++ le 2 (bits s.pwr.domains.toNat 0 16))
  let b := header ++ (List.range 8).flatMap (ringSummary h s) ++ evq ++ (List.range 32).flatMap (streamSummary s)
    ++ (List.range 8).flatMap (memberSummary s) ++ dev
  b ++ le 4 (crc32c b).toNat

/-! ### Certificate record (02 R30) -/

/-- 02 R30: the 64 bytes of a certificate record. -/
def certBytes (sc : Nat) (c : Cert) : Bytes :=
  pad 64 (le 1 sc ++ le 1 (c.state.code + 4 * c.cause) ++ le 2 c.permille ++ le 4 c.period ++ le 4 c.total ++ le 4 c.tCompute
    ++ le 4 c.tDram ++ le 4 c.tCross ++ le 4 c.tHalo ++ le 4 c.tHost ++ le 4 c.tStart ++ le 2 c.coreMask ++ le 1 c.floorOp
    ++ le 1 c.worst ++ le 2 c.qStream ++ le 2 c.qTotal ++ le 4 c.bwCert ++ le 4 c.pcieShare ++ le 4 c.issued.toNat)

/-! ### Counters (15 R613 to R616) -/

/-- 15 R614: the device error set, 1,024 bytes; EVENTS_LOST_TOTAL equals LOST_TOTAL. -/
def errorSet (s : State) (t : Tab U32) : Bytes :=
  (List.range 256).flatMap (fun i => le 4 (if 4 * i = 0x20C then s.evq.lostTotal.toNat else (Tab.get 0 t (4 * i)).toNat))

/-- 15 R615: the performance set, 2,048 bytes. -/
def perfSet (t : Tab U48) : Bytes := (List.range 256).flatMap (fun i => le 8 (Tab.get 0 t (8 * i)).toNat)

/-- 15 R616: the 64 bytes of a stream record; a FREE context reports zeros. -/
def streamRecord (s : State) (c : Nat) : Bytes :=
  let x := s.stream c
  pad 64 (le 1 c ++ le 3 0 ++ (if x.state == .free then [] else (List.range 14).flatMap (fun i => le 4 (Tab.get 0 x.counters i).toNat)))

/-- 15 R613: the snapshot. -/
def snapshot (mask sets : Nat) (s : State) : Bytes :=
  let n := popcount mask 32
  let len := 32 + 1024 * (sets % 2) + 2048 * (sets / 2 % 2) + 64 * n * (sets / 4 % 2)
  pad 32 (le 4 0x534E5443 ++ le 2 1 ++ le 1 sets ++ le 1 0 ++ le 4 mask ++ le 4 len ++ le 8 s.us)
    ++ (if bit sets 0 then errorSet s s.cnt.errors else []) ++ (if bit sets 1 then perfSet s.cnt.perf else [])
    ++ (if bit sets 2 then (maskBits mask 32).flatMap (streamRecord s) else [])

/-! ### Fault export (16 R638) -/

/-- 16 R638: the first 60 bytes of an export header. -/
def exportHead (part len origin : Nat) (s : State) : Bytes :=
  pad 60 (le 4 0x58505846 ++ le 2 1 ++ le 2 part ++ le 4 len ++ le 1 s.glb.stepping.toNat ++ le 1 (romVersion s) ++ le 1 origin
    ++ le 1 0 ++ le 4 (if origin = 1 then 0 else s.glb.fwVersion.toNat) ++ le 4 s.keep.seconds.toNat ++ le 2 s.otp.scar.toNat
    ++ le 1 (b2n s.otp.keyHash.isSome + 2 * b2n s.otp.debugLocked) ++ le 1 s.otp.rollback
    ++ le 1 (b2n s.keep.foundLost + 2 * b2n s.keep.foundReversed + 4 * b2n s.keep.foundDefaulted
        + 8 * b2n s.keep.foundDiscarded + 16 * b2n s.glb.testPins)
    ++ le 1 s.keep.count ++ le 1 s.keep.newest.toNat ++ le 1 (remapCount s))

/-- 16 R638: an export of PART 0, 5,696 bytes, or PART 1, 2,624 bytes; the summary is zeros when the boot ROM answers. -/
def exportBytes (h : Hdr) (whole : Bool) (origin : Nat) (s : State) : Bytes :=
  let body := logBytes s ++ remapBytes s
    ++ (if whole then (if origin = 1 then List.replicate 3072 0 else summary h s) else [])
  let head := exportHead (if whole then 0 else 1) (if whole then 5696 else 2624) origin s
  head ++ le 4 (crc32c (head ++ body)).toNat ++ body

/-! ### BAR0 views (18 R703 to R711, R717) -/

/-- The BAR0 block that an offset lies in (18 R701). -/
inductive Block where
  | glb | time | therm | keepw | pack | perf | dbg | ring (n : Nat) | evq | none
deriving DecidableEq, Repr

/-- 18 R701: the block of an offset and the offset within it. -/
def blockOf (off : Nat) : Block × Nat :=
  if off < 0x1000 then (.glb, off) else if off < 0x2000 then (.time, off - 0x1000)
  else if off < 0x3000 then (.therm, off - 0x2000) else if off < 0x4000 then (.keepw, off - 0x3000)
  else if off < 0x5000 then (.pack, off - 0x4000) else if off < 0x7000 then (.perf, off - 0x5000)
  else if off < 0x8000 then (.dbg, off - 0x7000)
  else if 0x10000 ≤ off && off < 0x10800 then (.ring ((off - 0x10000) / 0x100), (off - 0x10000) % 0x100)
  else if 0x10800 ≤ off && off < 0x10900 then (.evq, off - 0x10800)
  else (.none, off)

/-- 18 R703: a GLB_ register. -/
def readGlb (s : State) (o : Nat) : Nat :=
  let run := s.glb.boot == .running
  match o with
  | 0x000 => 0x3216 + 65536 * s.glb.stepping.toNat + 16777216 * romVersion s
  | 0x004 => fwShown s
  | 0x008 => capBits s + 2 ^ 16 * b2n s.glb.gradeE + 2 ^ 17 * b2n s.otp.keyHash.isSome + 2 ^ 18 * b2n s.otp.debugLocked
      + 2 ^ 19 * s.otp.rollback
  | 0x00C => s.glb.bootSrc.toNat + 16 * s.glb.packPos.toNat + 256 * b2n s.glb.testPins + 65536 * (0x48 + s.glb.packPos.toNat)
  | 0x010 => s.glb.boot.code + 16 * s.glb.slot.toNat + 65536 * s.glb.lastStatus.toNat
  | 0x014 => if s.glb.boot == .waitHost then bits s.glb.bootAddr.toNat 0 32 else 0
  | 0x018 => if s.glb.boot == .waitHost then bits s.glb.bootAddr.toNat 32 32 else 0
  | 0x01C => if s.glb.boot == .waitHost then s.glb.bootLen.toNat else 0
  | 0x024 => s.glb.resetCause
  | 0x028 => if run then faultFlags s else 0
  | 0x02C => if run then s.glb.portFaults.toNat else 0
  | 0x034 => s.glb.scratch.toNat
  | 0x038 => if run then s.glb.heartbeat.toNat else 0
  | _ => 0

/-- 18 R704: a TIME_ register, without the latch of TIME_NOW_LO. -/
def readTime (s : State) (o : Nat) : Nat :=
  match o with
  | 0x000 => bits s.us 0 32
  | 0x004 => s.glb.nowHi.toNat
  | 0x010 => bits s.glb.captured.toNat 0 32
  | 0x014 => bits s.glb.captured.toNat 32 32
  | 0x018 => s.keep.seconds.toNat
  | 0x01C => twos 32 s.pack.offset
  | _ => 0

/-- 18 R705: a THERM_ register. -/
def readTherm (s : State) (o : Nat) : Nat :=
  if o = 0 then s.pwr.thermal.code + 256 * hottest s + 65536 * twos 8 (sensorTemp s (hottest s))
  else if 0x40 ≤ o && o < 0x90 && o % 4 = 0 then
    let n := (o - 0x40) / 4
    twos 8 (sensorTemp s n) + 256 * twos 8 (Tab.get 0 s.pwr.peak n) + 65536 * b2n (sensorValid s n)
  else 0

/-- 18 R706, R730: a KEEPW_ register; a queued write of a word is returned. -/
def readKeepw (s : State) (o : Nat) : Nat :=
  let queued (settings : Bool) (w : Nat) : Option U32 :=
    ((s.keep.queue.filter (fun e => e.settings == settings && e.word == w)).getLast?).map (·.value)
  if o < 0x100 then ((queued false (o / 4)).getD (Tab.get 0 s.keep.user (o / 4))).toNat
  else if o < 0x200 then ((queued true ((o - 0x100) / 4)).getD (setting s ((o - 0x100) / 4))).toNat
  else if o < 0x400 then bits (Tab.get 0 s.keep.remap ((o - 0x200) / 8)).toNat (8 * ((o - 0x200) % 8)) 32
  else if o < 0xC00 then fld (logEntry s ((o - 0x400) / 32)) ((o - 0x400) % 32) 4
  else if o = 0xC00 then s.keep.queue.length + 256 * b2n s.keep.dropped + 512 * b2n s.keep.rejected
    + 2 ^ 16 * b2n s.keep.foundLost + 2 ^ 17 * b2n s.keep.foundReversed + 2 ^ 18 * b2n s.keep.foundDefaulted
    + 2 ^ 19 * b2n s.keep.foundDiscarded
  else if o = 0xC04 then s.keep.count + 256 * s.keep.newest.toNat + 65536 * remapCount s
  else 0

/-- 18 R707: a PACK_ register; its reset values until Shepherd runs (R717). -/
def readPack (s : State) (o : Nat) : Nat :=
  let run := s.glb.boot == .running
  if o = 0 then
    if run then s.pack.state.code + 16 * s.glb.packPos.toNat + 128 * b2n s.pack.leader + 256 * leaderPos s
      + 65536 * s.pack.members + 2 ^ 24 * s.pack.topology
    else 16 * s.glb.packPos.toNat
  else if o = 4 then (if run then s.pack.epoch.toNat else 0)
  else if o = 8 then (if run then s.pack.timeout else 2000)
  else if 0x10 ≤ o && o < 0x20 && o % 4 = 0 && run then
    let l := s.link ((o - 0x10) / 4)
    l.state.code + 16 * l.nPos + 256 * l.nPort + 1024 * b2n l.nValid + 2048 * b2n l.reversed + 65536 * l.inverted
  else 0

/-- 18 R708: a PERF_ register. -/
def readPerf (s : State) (o : Nat) : Nat :=
  if o = 4 then b2n s.perf.busy + 2 * b2n s.perf.perfValid + 4 * b2n s.perf.errorsValid
  else if o = 8 then bits s.perf.time.toNat 0 32
  else if o = 0xC then bits s.perf.time.toNat 32 32
  else if 0x800 ≤ o && o < 0x1000 then bits (Tab.get 0 s.perf.perfSet (8 * ((o - 0x800) / 8))).toNat (8 * (o % 8)) 32
  else if 0x1000 ≤ o && o < 0x1400 then (Tab.get 0 s.perf.errorSet (o - 0x1000)).toNat
  else 0

/-- 02 R32: the floor of a core: the highest FLOOR_OP among the valid certificates that include it. -/
def coreFloor (s : State) (c : Nat) : Nat :=
  (List.range 32).foldl (fun m i =>
    let x := s.stream i
    if x.cert.state == .valid && bit x.cert.coreMask c then max m x.cert.floorOp else m) 0

/-- 18 R709: a DBG_ register. -/
def readDbg (s : State) (o : Nat) : Nat :=
  if o = 0 then b2n s.otp.debugLocked + 2 * b2n s.glb.testPins + 4 * b2n s.glb.testMode + 65536 * s.otp.scar.toNat
  else if o = 4 then s.pwr.avs.toNat
  else if 0x40 ≤ o && o < 0x80 && o % 4 = 0 then
    let c := (o - 0x40) / 4
    let k := s.core c
    k.state.code + 256 * k.op + 65536 * coreFloor s c + 2 ^ 24 * k.trapCause
  else 0

/-- 18 R710: a RING_ register of ring n. -/
def readRing (s : State) (n o : Nat) : Nat :=
  let r := s.ring n
  match o with
  | 0x00 => bits r.sqBase.toNat 0 32
  | 0x04 => bits r.sqBase.toNat 32 32
  | 0x08 => bits r.cqBase.toNat 0 32
  | 0x0C => bits r.cqBase.toNat 32 32
  | 0x10 => r.sqLog2.toNat + 256 * r.cqLog2.toNat
  | 0x14 => b2n r.enable + 256 * r.coalCount.toNat + 65536 * r.coalUsec.toNat
  | 0x18 => b2n r.idle + 2 * b2n r.halted + 4 * b2n r.whistleErr + 8 * b2n r.headErr + 16 * b2n r.fetchErr
  | 0x20 => r.sqTail.toNat
  | 0x24 => r.sqHead.toNat
  | 0x28 => r.cqTail.toNat
  | 0x2C => r.cqHead.toNat
  | _ => 0

/-- 18 R711: an EVQ_ register, without the clearing read of EVQ_LOST. -/
def readEvq (s : State) (o : Nat) : Nat :=
  match o with
  | 0x00 => bits s.evq.base.toNat 0 32
  | 0x04 => bits s.evq.base.toNat 32 32
  | 0x08 => s.evq.log2.toNat
  | 0x0C => b2n s.evq.enable + 256 * s.evq.coalCount.toNat + 65536 * s.evq.coalUsec.toNat
  | 0x10 => 1 + 4 * b2n s.evq.headErr + 8 * b2n s.evq.overflow
  | 0x14 => s.evq.tail.toNat
  | 0x18 => s.evq.head.toNat
  | 0x1C => s.evq.lost.toNat
  | _ => 0

/-- Completion Timeout in Device Capabilities 2 and Device Control 2 of configuration space, which 03 R90 gives: Ranges Supported in [3:0],
Disable Supported in [4]; the Value field in [3:0]. -/
def readCplTimeout (s : State) : U32 × U32 :=
  (BitVec.ofNat 32 (s.pcie.cplRanges.toNat + 16 * b2n s.pcie.cplDisable), s.pcie.cplTimeout.setWidth 32)

/-- 18 R701 to R711, R717: what a read of one aligned BAR0 word returns, the clearing and latching of R704, R723 aside. -/
def readBar0 (s : State) (off : Nat) : Nat :=
  match blockOf off with
  | (.glb, o) => readGlb s o
  | (.time, o) => readTime s o
  | (.therm, o) => readTherm s o
  | (.keepw, o) => if s.glb.boot == .running then readKeepw s o else 0
  | (.pack, o) => readPack s o
  | (.perf, o) => if s.glb.boot == .running then readPerf s o else 0
  | (.dbg, o) => readDbg s o
  | (.ring n, o) => if s.glb.boot == .running then readRing s n o else 0
  | (.evq, o) => if s.glb.boot == .running then readEvq s o else 0
  | (.none, _) => 0

end Sys2Proof.Machine
end

