-- ==== Sys2Proof/Machine/Cert.lean ====
section
/-! DEFINITION. Certificates (02, 07 R299 to R307, 09 R364 to R369, 13 R537, R538): the stripes and tiles of a plan, the six
terms at a floor, the pass conditions, admission, re-evaluation, revocation and floors. -/
namespace Sys2Proof.Machine

/-! ### Profiles and clocks (17 R662, 02 R28) -/

/-- Cores of a profile (17 R662). -/
def profCores (p : Nat) : List Nat :=
  if p = 0 then List.range 16 else if p = 1 then List.range 8 else if p = 2 then List.range 4 else []

/-- Clock cap of a profile as an operating point (17 R662); STANDBY has no core. -/
def profCap (p : Nat) : Nat := if p = 0 then 20 else if p = 1 then 18 else if p = 2 then 12 else 0

/-- The profile allows FyxLink (17 R662). -/
def profFyx (p : Nat) : Bool := p ≤ 1

/-- The profile allows CSI port k (17 R662). -/
def profCsi (p k : Nat) : Bool := p ≤ 1 || (p == 2 && k ≤ 1)

/-- Clock of an operating point in MHz (02 R28, R30). -/
def mhz (op : Nat) : Nat := 400 + 50 * op

/-- The cap in force: the profile's, and operating point 8 while the thermal state is critical (17 R695). -/
def clockCap (s : State) : Nat :=
  if s.pwr.thermal == .critical then min 8 (profCap s.pwr.profile) else profCap s.pwr.profile

/-! ### A stream's configuration with its outstanding changes -/

/-- The configuration part of a change on a stream (04 R175); changes of other things leave it as it is. -/
def applyPure (x : Stream) (c : Change) : Stream :=
  match c with
  | .config cfg => { x with cfg := cfg }
  | .output d (some e) => { x with cfg := { x.cfg with descs := Tab.put x.cfg.descs d e } }
  | .output d none => { x with cfg := { x.cfg with descs := Tab.del x.cfg.descs d } }
  | .pin c => { x with pin := c }
  | .bind b => { x with bind := b }
  | .table t => { x with table := t }
  | _ => x

/-- Staged changes of a stream, in execution order. -/
def stagedChanges (s : State) (sc : Nat) : List Staged :=
  s.staged.filter (fun e => e.target == sc && (match e.change with
    | .config _ | .output _ _ | .pin _ | .bind _ | .table _ | .rfe _ _ _ | .irled _ _ _ _ => true | _ => false))

/-- The streams a pending group change involves: those it names and the group's members now (05 R211, 04 R138). -/
def groupMask (s : State) (e : Staged) (m : Nat) : Nat := m ||| (s.group e.target).members

/-- A pending group change involves the stream. -/
def groupTouches (s : State) (sc : Nat) (e : Staged) : Bool := match e.change with | .group m _ => bit (groupMask s e m) sc | _ => false

/-- Staged changes of a stream behind which no group change that involves it is pending (04 R173). -/
def ownChanges (s : State) (sc : Nat) : List Staged :=
  (stagedChanges s sc).takeWhile (fun e => !((s.staged.takeWhile (· != e)).any (groupTouches s sc)))

/-- The stream as it stands once its outstanding changes have committed (03 R73, 02 R46). -/
def settled (s : State) (sc : Nat) : Stream :=
  (stagedChanges s sc).foldl (fun x e => applyPure x e.change) ((s.stream sc).shadow.foldl applyPure (s.stream sc))

/-- The stream as it stands once its outstanding changes ahead of a staged one have committed (05 R196). -/
def settledBefore (s : State) (sc : Nat) (e : Staged) : Stream :=
  ((stagedChanges s sc).takeWhile (· != e)).foldl (fun x k => applyPure x k.change) ((s.stream sc).shadow.foldl applyPure (s.stream sc))

/-- The plan a configuration names (04 R129). -/
def planOf (s : State) (cfg : StreamCfg) : Option Plan := ((s.model cfg.handle).package).bind (fun p => p.plans[cfg.plan]?)

/-- Variants named by a profile table. -/
def tableVariants (t : ProfileTable) : List Nat := (t.entries.map (·.1)).dedup

/-- CADENCE of tuning set i of a model: 0 for the default tuning (07 R283). -/
def cadenceOf (s : State) (handle i : Nat) : Nat :=
  (((s.model handle).package.bind (fun p => p.tunings[i]?)).map (·.1)).getD 0

/-! ### A pack's shares (14 R554, R571, R589 to R592) -/

/-- Bands (first, how many) of the member at place k of n in the pack order, of b bands (14 R589). -/
def bandShare (b n k : Nat) : Nat × Nat := (k * (b / max 1 n) + min k (b % max 1 n), b / max 1 n + (if k < b % max 1 n then 1 else 0))

/-- Rows (first, how many) of a stripe set of height h that a share of bands of a network output of some rows covers (14 R589); the edge
between two bands is rounded down (DEDUCED, assumption 28). -/
def cutRows (h net : Nat) (sh : Option (Nat × Nat)) : Nat × Nat :=
  match sh with
  | none => (0, h)
  | some (f, c) =>
    let edge (b : Nat) : Nat := min h (16 * b * h / max 1 net)
    (edge f, edge (f + c) - edge f)

/-- Place of a member in the pack order. -/
def packPlace (s : State) (pos : Nat) : Nat := s.pack.order.idxOf pos

/-- This device's share of the bands of a pack plan (14 R588, R589). -/
def shareOf (s : State) (p : Plan) (cfg : StreamCfg) : Option (Nat × Nat) :=
  if 1 < p.members && !(s.pack.state == .single) then
    some (bandShare (ceilDiv (cfg.inH * p.factor) 16) p.members (packPlace s s.glb.packPos.toNat))
  else none

/-- A member carries part of a pack stream: it has at least one band of it (14 R589; 02 R50). -/
def carriesBand (s : State) (cfg : StreamCfg) (pos : Nat) : Bool :=
  !(s.pack.state == .single) && (match planOf s cfg with
    | some p => decide (1 < p.members) && (bandShare (ceilDiv (cfg.inH * p.factor) 16) p.members (packPlace s pos)).2 != 0
    | none => false)

/-- An ejected member carried part of the stream: its certificate stays revoked (14 R602). -/
def lostMember (s : State) (cfg : StreamCfg) : Bool :=
  (List.range 8).any (fun p => (s.member p).state == 3 && carriesBand s cfg p)

/-- Hops from the leader to a member over the required links (14 R554, R571). -/
def hopsTo (s : State) (pos : Nat) : Nat :=
  let n := s.pack.order.length
  let k := packPlace s pos
  if s.pack.topology = 0 then k
  else if s.pack.topology = 1 then min k (n - k)
  else pos / 4 + min (pos % 4) (4 - pos % 4)

/-- The members before and after a place in the pack order that are not ejected (14 R591, R601). -/
def bandNeighbour (s : State) (next : Bool) : Option Nat :=
  let k := packPlace s s.glb.packPos.toNat
  (if next then s.pack.order[k + 1]? else if k = 0 then none else s.pack.order[k - 1]?).filter (fun p => (s.member p).state != 3)

/-- Flits of the packets of a cross-member boundary: its rows in packets of at most MAX_PACKET, and one COUNTER_EXPORT (14 R560, R592). -/
def boundaryFlits (max_ bytes : Nat) : Nat :=
  if bytes = 0 then 0
  else bytes / max_ * ceilDiv (16 + max_) 52 + (if bytes % max_ = 0 then 0 else ceilDiv (16 + bytes % max_) 52) + 1

/-- t_flit in tenths of a ns (14 R592). -/
def tFlit (s : State) : Nat := if bits s.glb.fyxSettings.toNat 0 2 = 1 then 50 else 25

/-! ### Stripes (09 R363 to R366) -/

/-- First row and height of stripe i of n stripes of a set of height h and granule g (09 R364). -/
def stripe (h g n i : Nat) : Nat × Nat :=
  let u := ceilDiv h g
  let first := g * (i * (u / n) + min i (u % n))
  (first, min (g * (u / n + (if i < u % n then 1 else 0))) (h - first))

/-- All stripes hold at least the guard's rows, or there is one stripe (09 R366). -/
def stripesFit (h g guard n : Nat) : Bool := n == 1 || (List.range n).all (fun i => guard ≤ (stripe h g n i).2)

/-- 09 R366: STRIPES_PER_CORE and how many cores carry stripes: the first choice that fits. -/
def stripeChoice (h g guard perCore cores : Nat) : Nat × Nat :=
  let tries := ([4, 2, 1].filter (· ≤ perCore)).map (fun p => (p, cores))
    ++ ((List.range cores).reverse.filter (1 ≤ ·)).map (fun n => (1, n))
  (tries.find? (fun t => stripesFit h g guard (t.1 * t.2))).getD (1, 1)

/-- The stripes (first row, height) of the core at position i when n cores carry p stripes each (09 R365). -/
def coreStripes (h g p n i : Nat) : List (Nat × Nat) :=
  if i < n then (List.range p).map (fun k => stripe h g (p * n) (k * n + i)) else []

/-! ### Tiles (09 R359, R360, R368, R369) -/

/-- H, W and C of a tile shape (09 R359). -/
def tileDims (t : Nat) : Nat × Nat × Nat :=
  match t with
  | 0 => (8, 64, 64) | 1 => (16, 32, 64) | 2 => (32, 32, 32) | 3 => (4, 128, 64) | 4 => (16, 16, 128) | _ => (8, 32, 128)

/-- Tiles of one tile row: tile columns times channel tiles (09 R360). -/
def rowTiles (t width padC : Nat) : Nat := ceilDiv width (tileDims t).2.1 * ceilDiv padC (tileDims t).2.2

/-- Tile rows of a stripe of some rows. -/
def tileRows (t rows : Nat) : Nat := ceilDiv rows (tileDims t).1

/-- Worst-case cycles per tile over the variants named (02 R42). -/
def worstCycles (c : Candidate) (vs : List Nat) : Nat := vs.foldl (fun m v => max m (Tab.get 0 c.cycles v)) 0

/-- 09 R368: the candidate is eligible for a layer whose set's stripes have the given row counts. -/
def eligible (l : Layer) (c : Candidate) (rows : List Nat) : Bool :=
  let tr := rows.map (tileRows c.shape)
  (tr.foldl max 0 ≤ tr.foldl min (tr.headD 0) + 1) && c.fitsCm && (!l.nextToOverlap || c.weightSet ≤ 65536)

/-- Clock and DRAM share of an evaluation: clock in MHz, Q, and BW_CERT times 8533 in B/s. -/
structure Rates where
  f : Nat
  q : Nat
  bw : Nat
deriving DecidableEq, Repr

/-- 09 R369: the cost of a candidate, times f and 24 BW_CERT, on the stripe with the most tiles. -/
def tileCost (r : Rates) (l : Layer) (c : Candidate) (vs : List Nat) (width rows : Nat) (halo : Bool) : Nat :=
  let row := rowTiles c.shape width l.padC
  let n := tileRows c.shape rows * row
  let cyc := worstCycles c vs
  (n * cyc + (if halo then row * cyc else 0)) * r.bw * 24 + n * c.dramBytes * r.q * 8533 * r.f * 1000000

/-- 09 R369: the eligible candidate of least cost, the lower TILE_SHAPE among equals; the first where none is eligible. -/
def chooseTile (r : Rates) (l : Layer) (vs : List Nat) (width : Nat) (rows : List Nat) (halo : Bool) : Candidate :=
  let big := rows.foldl max 0
  ((l.candidates.filter (fun c => eligible l c rows)).foldl (fun (b : Option Candidate) c => match b with
    | none => some c
    | some d =>
      let x := tileCost r l c vs width big halo
      let y := tileCost r l d vs width big halo
      if x < y || (x == y && c.shape < d.shape) then some c else some d) none).getD
    (l.candidates.headD { shape := 0, cycles := [], dramBytes := 0, weightSet := 0, fitsCm := true })

/-! ### One evaluation (02 R36, R40, R780) -/

/-- What one core does in a frame: cycles, DRAM bytes, round trips. -/
structure Tally where
  cycles : Nat := 0
  bytes : Nat := 0
  trips : Nat := 0
deriving DecidableEq, Repr

/-- Height and width of a stripe set for an input of W x H. -/
def setDims (t : StripeSet) (w h : Nat) : Nat × Nat := (ceilDiv (h * t.mul) (max 1 t.div), ceilDiv (w * t.mul) (max 1 t.div))

/-- A layer with its set's stripes and chosen tile: per core position its stripes' rows at the layer's resolution. -/
structure Placed where
  layer : Layer
  width : Nat
  /-- rows of every stripe -/
  rows : List Nat
  /-- rows of each core position's stripes -/
  per : List (List Nat)
  tile : Candidate
deriving DecidableEq, Repr

/-- Place layers of a plan on n cores and choose their tiles (09 R364 to R369). -/
def place (r : Rates) (p : Plan) (layers : List Layer) (vs : List Nat) (w h n : Nat) (sh : Option (Nat × Nat)) : List Placed :=
  layers.map (fun l =>
    let t := p.sets.getD l.set { mul := 1, div := 1, granule := 1, perCore := 1, guard := 0 }
    let d := setDims t w h
    let d := ((cutRows d.1 (h * p.factor) sh).2, d.2)
    let g := max 1 t.granule
    let ch := stripeChoice d.1 g t.guard t.perCore n
    let k := max 1 l.scale
    let per := (List.range n).map (fun i => (coreStripes d.1 g ch.1 ch.2 i).map (fun x => ceilDiv x.2 k))
    let rows := (List.range (ch.1 * ch.2)).map (fun i => ceilDiv (stripe d.1 g (ch.1 * ch.2) i).2 k)
    let width := ceilDiv d.2 k
    { layer := l, width := width, rows := rows, per := per,
      tile := chooseTile r l vs width rows (l.feedsHalo && 1 < ch.2) })

/-- The work of a placed layer on the core at a position. -/
def placedTally (x : Placed) (vs : List Nat) (i : Nat) : Tally :=
  let n := ((x.per.getD i []).map (fun r => tileRows x.tile.shape r * rowTiles x.tile.shape x.width x.layer.padC)).sum
  { cycles := n * worstCycles x.tile vs, bytes := n * x.tile.dramBytes, trips := n }

/-- Sum of two tallies. -/
def Tally.add (a b : Tally) : Tally := { cycles := a.cycles + b.cycles, bytes := a.bytes + b.bytes, trips := a.trips + b.trips }

/-- A placed layer's output feeds a halo boundary (02 R780): its set has a neighbouring stripe on another core. -/
def Placed.feeds (x : Placed) : Bool := x.layer.feedsHalo && 1 < x.per.countP (fun r => !r.isEmpty)

/-- producer_tile_row_cycles of a placed layer (02 R780). -/
def Placed.rowCycles (x : Placed) (vs : List Nat) : Nat :=
  rowTiles x.tile.shape x.width x.layer.padC * worstCycles x.tile vs

/-- The stream makes interpolated outputs: its output rate is above its input rate (07 R278, R288). -/
def interpolating (cfg : StreamCfg) : Bool := cfg.inNum * cfg.outDen < cfg.outNum * cfg.inDen

/-- Bytes of one row of plane 0 and of plane 1 (07 R276). -/
def rowBytes (format w : Nat) : Nat × Nat :=
  match format with
  | 1 => (w, w) | 2 => (2 * w, 2 * w) | 3 => (3 * w, 0) | 4 => (4 * w, 0) | 5 => (w, 0) | _ => (2 * w, 0)

/-- Bytes of rows of an image: plane 0, and half as many rows, rounded up, of plane 1 (07 R275, R276). -/
def imageBytes (format w rows : Nat) : Nat := rows * (rowBytes format w).1 + ceilDiv rows 2 * (rowBytes format w).2

/-- last_output_band_bytes (02 R780). -/
def bandBytes (cfg : StreamCfg) : Nat :=
  (cfg.descs.map (fun e => imageBytes e.2.format e.2.outW (ceilDiv (16 * e.2.outH) (max 1 e.2.cropH)))).sum

/-- Outputs of one descriptor per input period, rounded up, when every output starves (05 R217). -/
def outsPerPeriod (cfg : StreamCfg) (rateDiv : Nat) : Nat :=
  ceilDiv (cfg.outNum * cfg.inDen) (cfg.outDen * cfg.inNum * max 1 rateDiv)

/-- sys_bytes (02 R780): hold-buffer writes under HOLD_LAST (05 R217), the statistics record (06 R234), the plan's own. -/
def sysBytesOf (p : Plan) (cfg : StreamCfg) : Nat :=
  (if cfg.starve = 1 then (cfg.descs.map (fun e => imageBytes e.2.format e.2.outW e.2.outH * outsPerPeriod cfg e.2.rateDiv)).sum else 0)
    + (if cfg.sourceKind = 2 then 0x5804 else 0) + p.sysBytes

/-- PERIOD_NS (02 R30): the input period, rounded down. -/
def periodNs (cfg : StreamCfg) : Nat := cfg.inDen * 1000000000 / max 1 cfg.inNum

/-- Bands of the network output that meet the stripes of the core at a position (07 R299). -/
def bandsOf (p : Plan) (cfg : StreamCfg) (sh : Option (Nat × Nat)) (n i : Nat) : Nat :=
  let t := p.sets.getD ((p.layers.getLast?.map (·.set)).getD 0) { mul := 1, div := 1, granule := 1, perCore := 1, guard := 0 }
  let h := (setDims t cfg.inW cfg.inH).1
  let net := cfg.inH * p.factor
  let cut := cutRows h net sh
  let ch := stripeChoice cut.2 (max 1 t.granule) t.guard t.perCore n
  let bands : List Nat := (coreStripes cut.2 (max 1 t.granule) ch.1 ch.2 i).flatMap (fun x =>
    let a := (cut.1 + x.1) * net / max 1 h / 16
    let b := ((cut.1 + x.1 + x.2) * net / max 1 h + 15) / 16
    (List.range (b - a)).map (fun k => k + a))
  bands.dedup.length

/-- Positions of the FI cores (07 R289). -/
def fiPositions (p : Plan) (n : Nat) : List Nat := if p.fiCores.isEmpty then List.range n else p.fiCores

/-- L_F (07 R299) at a clock of f MHz, with the PCIe share split nh ways. -/
def leadNs (p : Plan) (cfg : StreamCfg) (sh : Option (Nat × Nat)) (n f nh : Nat) : Nat :=
  let bands := (fiPositions p n).foldl (fun m i => max m (bandsOf p cfg sh n i)) 0
  ceilDiv (bands * ceilDiv (3 * (3 * cfg.inW * p.factor * 16)) 64 * 1000) f + ceilDiv (bandBytes cfg * nh * 10) 64

/-- The smallest offset of an interpolated output into its interval, ns (07 R278), rounded down. -/
def minDeltaNs (cfg : StreamCfg) : Nat :=
  Nat.gcd (cfg.inDen * cfg.outNum) (cfg.outDen * cfg.inNum) * 1000000000 / max 1 (cfg.inNum * cfg.outNum)

/-- What an evaluation yields: the record's figures, whether it passes R40, and the fallback lead. -/
structure Eval where
  cert : Cert
  pass : Bool
  lead : Nat
  shapes : List Nat
  /-- per halo boundary in order: the term of R36 in ns, rounded up (09 R386) -/
  halo : List Nat
deriving DecidableEq, Repr

/-- What an evaluation is made of. -/
structure EvalIn where
  plan : Plan
  cfg : StreamCfg
  variants : List Nat
  cadences : List Nat
  cores : List Nat
  op : Nat
  q : Nat
  /-- streams with host traffic (02 R39) -/
  hosts : Nat
  /-- BW_CERT times 8533, B/s (02 R37) -/
  bw : Nat
  /-- the share of bands of a pack stream, whether it has a band neighbour on another member, hops from the leader, MAX_PACKET, t_flit in
  tenths of a ns, and the flits of the largest boundaries of the other pack streams (14 R589, R592) -/
  share : Option (Nat × Nat) := none
  edges : Bool := false
  hops : Nat := 0
  maxPacket : Nat := 512
  tFlit : Nat := 25
  others : Nat := 0

/-- The work of each core position in a frame, with its FI part (02 R36, 07 R289). -/
def tallies (e : EvalIn) (pl : List Placed) : List Tally :=
  let fi := e.plan.interpolates && interpolating e.cfg
  (List.range e.cores.length).map (fun i =>
    let t := pl.foldl (fun a x => a.add (placedTally x e.variants i)) {}
    if fi && (fiPositions e.plan e.cores.length).contains i then
      t.add { cycles := e.plan.flow + e.plan.recompute + (if e.cfg.lowLatency then e.plan.confirm + e.plan.speculate else 0),
              bytes := e.plan.fiDram + (if e.cfg.lowLatency then e.plan.specDram else 0),
              trips := e.plan.fiTrips + (if e.cfg.lowLatency then e.plan.specTrips else 0) }
    else t)

/-- The layers of the FI work that the stream does: normal mode has no speculative pass (07 R289). -/
def fiLayers (e : EvalIn) : List Layer :=
  if e.plan.interpolates && interpolating e.cfg then
    (e.plan.fiHalos.filter (fun h => e.cfg.lowLatency || h.1 != .speculate)).map (·.2)
  else []

/-- first_input_tile_row_bytes (02 R36): on every core that carries a stripe of the first layer, the rows of its first tile row at the
input's resolution with the input rows on both sides, in the run-time width and input format (DEDUCED, assumption 78). -/
def firstRowBytes (e : EvalIn) (pl : List Placed) : Nat :=
  match pl.head? with
  | none => 0
  | some x =>
    let t := e.plan.sets.getD x.layer.set { mul := 1, div := 1, granule := 1, perCore := 1, guard := 0 }
    let rows := ceilDiv ((tileDims x.tile.shape).1 * max 1 x.layer.scale * t.div) (max 1 t.mul) + 2 * e.plan.inHalo
    x.per.countP (fun r => !r.isEmpty) * imageBytes e.cfg.inFormat e.cfg.inW (min rows e.cfg.inH)

/-- T_HALO in ns times 12,000 f (02 R36; 14 R592): each boundary's producer tile row in cycles, and its FyxLink flits, none for a boundary
inside the device. -/
def haloKey (f tFlit : Nat) (b : Nat × Option Nat) : Nat :=
  10 * ((b.1 * 1000 + 4000) * 1200 + 20000 * f) + (match b.2 with | some n => (n * tFlit + 6000) * 1200 * f | none => 0)

/-- The exact sum of a core's three terms, times a common factor, for comparison (02 R36). -/
def tallyKey (f q bw : Nat) (t : Tally) : Nat :=
  t.cycles * 1000 * 1200 * bw * 24 + t.bytes * q * 8533 * 1000000000 * 1200 * f + t.trips * 5000 * (1200 + f) * bw * 24

/-- The position of the largest key, the first among equals (02 R36). -/
def worstIndex (l : List Nat) : Nat := l.idxOf (l.foldl max 0)

/-- 02 R36, R40: evaluate a certificate at one operating point. TOTAL_NS stands for the completion bound of phase 0, for which no rule
gives a formula, and BW_CERT and PCIE_SHARE become whole MB/s by rounding down (DESIGN CHOICE, assumption 78). -/
def evaluate (e : EvalIn) : Eval :=
  let f := mhz e.op
  let n := e.cores.length
  let on (ls : List Layer) (n : Nat) : List Placed :=
    if n = 0 then [] else place { f := f, q := e.q, bw := e.bw } e.plan ls e.variants e.cfg.inW e.cfg.inH n e.share
  let pl := on e.plan.layers n
  let fiPl := on (fiLayers e) (min n (fiPositions e.plan n).length)
  let ts := tallies e pl
  let wi := worstIndex (ts.map (tallyKey f e.q e.bw))
  let t := ts.getD wi {}
  let fi := e.plan.interpolates && interpolating e.cfg
  let cross (x : Placed) : Bool := e.edges && x.layer.feedsHalo && x.layer.fyxBytes != 0
  let bounds := ((pl ++ fiPl).filter (fun x => x.feeds || cross x)).map (fun x =>
    (x.rowCycles e.variants, if cross x then some (boundaryFlits e.maxPacket x.layer.fyxBytes + e.others) else none))
  let keys := bounds.map (haloKey f e.tFlit)
  let sys := sysBytesOf e.plan e.cfg
  let tCompute := ceilDiv (t.cycles * 1000) f
  let tDram := ceilDiv ((t.bytes * 64 + sys * 24) * e.q * 8533 * 1000000000) (e.bw * 24 * 64)
  let tCross := ceilDiv (t.trips * 5000 * (1200 + f)) (1200 * f)
  let tHalo := ceilDiv keys.sum (12000 * f)
  let first := if e.cfg.sourceKind = 1 then firstRowBytes e (pl ++ fiPl) else 0
  let tHost := ceilDiv ((first + bandBytes e.cfg) * e.hosts * 10) 64 + 2000 + (if e.cfg.descs.isEmpty then 0 else 800 * e.hops)
  let tStart := 20000 + 400 * e.hops
  let total := tCompute + tDram + tCross + tHalo + tHost + tStart
  let period := periodNs e.cfg
  let d0 := e.plan.d0.getD period
  let lead := if fi then leadNs e.plan e.cfg e.share n f e.hosts else 0
  let film := e.cadences.all (fun c => c == 0 ||
    (if c = 1 then 3 else 2) * period + ceilDiv (e.plan.flow * 1000) f + ceilDiv (e.plan.confirm * 1000) f + lead ≤ d0)
  let pass := e.bw != 0 && total ≤ 9 * period / 10 && total ≤ d0
    && (!fi || (if e.cfg.lowLatency then total + lead else period + total) ≤ d0 + minDeltaNs e.cfg) && (!fi || film)
  { cert := { state := .valid, permille := (2000 * total + period) / max 1 (2 * period), period := period, total := total,
              tCompute := tCompute, tDram := tDram, tCross := tCross, tHalo := tHalo, tHost := tHost, tStart := tStart,
              coreMask := toMask e.cores, floorOp := e.op, worst := e.cores.getD wi 0, qStream := 24 * n, qTotal := e.q,
              bwCert := e.bw / 8533 / 1000000, pcieShare := 6400 / max 1 e.hosts },
    pass := pass, lead := lead, shapes := pl.map (·.tile.shape),
    halo := keys.map (fun k => ceilDiv k (12000 * f)) }

/-! ### The device's shares (02 R36 to R40, R45) -/

/-- The stream is admitted: it holds its cores (02 R45). -/
def admitted (s : State) (sc : Nat) : Bool :=
  match (s.stream sc).state with | .running | .draining | .faulted => true | _ => false

/-- Stream contexts that are admitted. -/
def admittedList (s : State) : List Nat := (List.range 32).filter (admitted s)

/-- Active jobs. -/
def activeJobs (s : State) : List Nat := (List.range 16).filter (fun j => (s.job j).active)

/-- A core is held by a stream or an active job (02 R45); cores reserved by an outstanding change of plan count from its staging on
(DESIGN CHOICE, assumption 79). -/
def coreHeld (s : State) (c : Nat) : Bool :=
  (List.range 32).any (fun i => (s.stream i).cores.contains c || (((s.stream i).nextCores).getD []).contains c) || (activeJobs s).any (fun j => bit (s.job j).coreMask c)

/-- A core is free (02 R45). -/
def coreFree (s : State) (c : Nat) : Bool := !coreHeld s c && (profCores s.pwr.profile).contains c

/-- Q (02 R36, 04 R152): 24 for each core of an admitted stream or active job, and 64. -/
def qTotal (s : State) : Nat := 24 * ((List.range 16).filter (coreHeld s)).length + 64

/-- Streams with host traffic (02 R39): every admitted stream delivers outputs to the host. -/
def hostStreams (s : State) : Nat := (admittedList s).length

/-- BW_CERT times 8533, in B/s (02 R37). -/
def bwCert (s : State) : Nat := (if s.dram.inlineEcc then 84080000000 else 95550000000) * s.dram.rate

/-- Add the fractions a/b and c/d. -/
def fracAdd (x y : Nat × Nat) : Nat × Nat := (x.1 * y.2 + y.1 * x.2, x.2 * y.2)

/-- The plans of the admitted pack streams but one (14 R592). -/
def packPlans (s : State) (skip : Option Nat) : List (Plan × StreamCfg) :=
  if s.pack.state == .single then []
  else (admittedList s).filterMap (fun i => if skip = some i then none
    else ((planOf s (s.stream i).cfg).filter (fun p => 1 < p.members)).map (fun p => (p, (s.stream i).cfg)))

/-- Flits of a plan's largest cross-member boundary, and of all of them. -/
def largestFlits (s : State) (p : Plan) : Nat := p.layers.foldl (fun m l => max m (boundaryFlits (maxPacket s) l.fyxBytes)) 0
def frameFlits (s : State) (p : Plan) : Nat := (p.layers.map (fun l => boundaryFlits (maxPacket s) l.fyxBytes)).sum

/-- 14 R592: on each link direction the flits per second of all admitted pack streams, times t_flit, stay at or below 0.9. -/
def fyxOk (s : State) : Bool :=
  let r := (packPlans s none).foldl (fun a e => fracAdd a (frameFlits s e.1 * e.2.inNum, max 1 e.2.inDen)) (0, 1)
  r.1 * tFlit s * 10 ≤ 9 * 10000000000 * r.2

/-- The evaluation of a stream as a configuration at an operating point, under the shares of s. -/
def evalAt (s : State) (x : Stream) (op : Nat) : Option Eval :=
  (planOf s x.cfg).map (fun p => let pack := (shareOf s p x.cfg).isSome; evaluate
    { plan := p
      share := shareOf s p x.cfg
      edges := pack && ((bandNeighbour s true).isSome || (bandNeighbour s false).isSome)
      hops := if pack then hopsTo s s.glb.packPos.toNat else 0
      maxPacket := maxPacket s
      tFlit := tFlit s
      others := if pack then ((packPlans s ((List.range 32).find? (fun i => s.stream i == x))).map (fun e => largestFlits s e.1)).sum else 0
      cfg := x.cfg
      variants := tableVariants x.table
      cadences := (x.table.entries.map (fun e => cadenceOf s x.cfg.handle e.2)).dedup
      cores := x.cores
      op := op
      q := qTotal s
      hosts := hostStreams s
      bw := bwCert s })

/-- The evaluation passes. -/
def passes (e : Option Eval) : Bool := (e.map (·.pass)).getD false

/-- Host bytes of one input frame and of one output frame of each descriptor (02 R40). -/
def hostIn (cfg : StreamCfg) : Nat := if cfg.sourceKind = 1 then imageBytes cfg.inFormat cfg.inW cfg.inH else 0

/-- 02 R40, third condition: host bytes per second of all admitted streams, each direction at most 6.4 GB/s. -/
def hostOk (s : State) : Bool :=
  let cfgs := (admittedList s).map (fun i => (s.stream i).cfg)
  let rd := cfgs.foldl (fun a c => fracAdd a (hostIn c * c.inNum, max 1 c.inDen)) (0, 1)
  let wr := cfgs.foldl (fun a c => c.descs.foldl (fun a e =>
    fracAdd a (imageBytes e.2.format e.2.outW e.2.outH * c.outNum, max 1 (c.outDen * max 1 e.2.rateDiv))) a) (0, 1)
  rd.1 ≤ 6400000000 * rd.2 && wr.1 ≤ 6400000000 * wr.2

/-- W of 13 R537 for an ensemble, ns. -/
def voteTime (s : State) (e : Ensemble) : Nat :=
  let node := ceilDiv (qTotal s * 128 * 8533 * 1000000000) (bwCert s) + 170
  ceilDiv (5 * e.entries) 2 + (ceilDiv e.depths.sum 32 + e.depths.foldl max 0) * node + 100

/-- 13 R538: the TVE schedule passes over the bindings of every stream that is not FREE. -/
def tveOk (s : State) : Bool :=
  let bound := (List.range 32).filterMap (fun i =>
    let x := s.stream i
    if x.state == .free then none else x.bind.ensemble.map (fun e => (x, voteTime s (s.ensemble e))))
  bound.isEmpty || (let sum := (bound.map (·.2)).sum
    bound.all (fun b => sum ≤ 9 * (b.1.bind.voteEvery * periodNs b.1.cfg) / 10))

/-- Every valid certificate but one passes at its own floor under the shares of s (02 R43). -/
def othersPass (s : State) (skip : Nat) : Bool :=
  (admittedList s).all (fun i => i == skip || (s.stream i).cert.state != .valid
    || passes (evalAt s (s.stream i) (s.stream i).cert.floorOp))

/-- The state with every stream's outstanding changes committed, for the checks of 02 R46. -/
def settledState (s : State) : State :=
  { s with streams := Tab.map (fun i x => ({ settled s i with
      state := x.state
      cores := x.nextCores.getD x.cores } : Stream)) s.streams }

/-- 02 R41: the lowest operating point from lo to the cap that passes, with its evaluation. -/
def findFloor (s : State) (x : Stream) (lo cap : Nat) : Option Eval :=
  ((List.range (cap + 1)).drop lo).findSome? (fun op => (evalAt s x op).bind (fun e => if e.pass then some e else none))

/-- 02 R45: the cores a plan gets: those it names, or the lowest-numbered free ones. A change of plan of a running stream, for which 02 R45
gives no assignment, keeps its own cores first (DESIGN CHOICE, assumption 79). -/
def assignCores (s : State) (p : Plan) (own : List Nat) : Option (List Nat) :=
  let ok (c : Nat) : Bool := own.contains c || coreFree s c
  if !p.cores.isEmpty then (if p.cores.all ok then some p.cores else none)
  else
    let l := (own.filter ok ++ (List.range 16).filter (fun c => coreFree s c && !own.contains c)).take p.coreCount
    if l.length = p.coreCount then some (l.mergeSort (· ≤ ·)) else none

/-! ### Changes of certificates -/

/-- Keep the figures of an evaluation and give it its state, cause and FRAME_ISSUED. -/
def Eval.record (e : Eval) (st : CertState) (cause : Nat) (issued : U32) : Cert :=
  { e.cert with state := st, cause := cause, issued := issued }

/-- 02 R46: when Q or the PCIe shares have changed, every admitted stream's record takes the new figures at its floor. -/
def refreshCerts (s : State) : State :=
  (admittedList s).foldl (fun s i =>
    let x := s.stream i
    match evalAt s x x.cert.floorOp with
    | some e => if e.cert.qTotal = x.cert.qTotal && e.cert.pcieShare = x.cert.pcieShare && e.cert.bwCert = x.cert.bwCert then s
                else s.setStream i { x with cert := e.record x.cert.state x.cert.cause x.nextFrame }
    | none => s) s

/-- 02 R47: each valid certificate's lower floor, if one passes, waits for that stream's next boundary. -/
def relaxFloors (s : State) : State :=
  (admittedList s).foldl (fun s i =>
    let x := s.stream i
    match planOf s x.cfg with
    | none => s
    | some p =>
      if x.cert.state == .valid then
        match findFloor s x p.floorOp x.cert.floorOp with
        | some e => if e.cert.floorOp < x.cert.floorOp then s.setStream i { x with nextFloor := some e.cert.floorOp } else s
        | none => s
      else s) s

/-- 02 R47, R46: a stream or job left: the shares shrink. -/
def sharesShrink (s : State) : State := relaxFloors (refreshCerts s)

/-- 02 R50: revoke the valid certificates of a set of streams, one CERT_REVOKED each. -/
def revokeCerts (cause : Nat) (which : Nat → Bool) (s : State) : State :=
  (List.range 32).foldl (fun s i =>
    let x := s.stream i
    if which i && x.cert.state == .valid then
      emit (srcSc i) 0x0200 (le 1 cause ++ le 3 0 ++ le 4 x.lastAccepted.toNat)
        (s.setStream i { x with cert := { x.cert with state := .revoked, cause := cause }, nextFloor := none,
                                origFloor := x.cert.floorOp })
    else s) s

/-- Streams in priority order, highest first (05 R222). -/
def byPriority (s : State) : List Nat :=
  (List.range 8).reverse.flatMap (fun p => (List.range 32).filter (fun i => (s.stream i).cfg.priority == p && (s.stream i).state != .free))

/-- 02 R53: re-certify the revoked streams in priority order at their original floors; each that passes emits CERT_RESTORED. The certificate
holds from the next frame on: outputs of earlier frames stay without one. A stream that lost a member to an ejection stays revoked (14 R602). -/
def recertify (s : State) : State :=
  (byPriority s).foldl (fun s i =>
    let x := s.stream i
    if admitted s i && x.cert.state == .revoked && x.cert.cause != 3 && !lostMember s x.cfg then
      match evalAt s x x.origFloor with
      | some e =>
        if e.pass then
          emit (srcSc i) 0x0201 (le 1 x.origFloor ++ le 1 0 ++ le 2 e.cert.permille ++ le 4 x.nextFrame.toNat)
            (s.setStream i { x with cert := e.record .valid 0 x.nextFrame
                                    outputs := x.outputs.map (fun o => { o with uncertified := true })
                                    hold := Tab.map (fun _ o => { o with uncertified := true }) x.hold })
        else s
      | none => s
    else s) s

/-- The clock a core runs at, MHz: the lower of the old and the new one while its operating point changes (02 R31). -/
def Core.clock (k : Core) : Nat := mhz (match k.opNext with | some e => min k.op e.1 | none => k.op)

/-- 02 R31, R32: set a core's operating point, at least its floor and at most the cap; the change takes at most 10 us. -/
def setOp (c op : Nat) (s : State) : State :=
  let k := s.core c
  if k.op = op then s.setCore c { k with opNext := none } else s.setCore c { k with opNext := some (op, s.now + 10000) }

/-- 02 R32: bring every core to its floor or above and to the cap or below. -/
def settleOps (s : State) : State :=
  (List.range 16).foldl (fun s c =>
    let k := s.core c
    let target := min (clockCap s) (max (coreFloor s c) ((k.opNext.map (·.1)).getD k.op))
    if target = (k.opNext.map (·.1)).getD k.op then s else setOp c target s) s

end Sys2Proof.Machine
end

