-- ==== Sys2Proof/Machine/Chain.lean ====
section
/-! DEFINITION. Chained commands as words (08 R314 to R338): their fields, what makes one legal, the steps of its stages and the bound on
its cycles. -/
namespace Sys2Proof.Machine

/-! ### Fields (08 R329, R330) -/

def cStages (b : Bytes) : Nat := bits (fld b 0 1) 0 3
def cQueue (b : Bytes) : Nat := bits (fld b 0 1) 3 1
def cShape (b : Bytes) : Nat := bits (fld b 1 1) 0 3
def cSeq (b : Bytes) : U16 := BitVec.ofNat 16 (fld b 2 2)
def cIn (b : Bytes) : Nat := fld b 4 4
def cOut (b : Bytes) : Nat := fld b 8 4
def cAux (b : Bytes) : Nat := fld b 12 4

/-- A stage word (08 R330). -/
structure StageWord where
  op : Nat
  inFmt : Nat
  outFmt : Nat
  mode : Nat
  src : Nat
  kernel : Nat
  stride : Nat
  transposed : Bool
  /-- the DILATION code -/
  dil : Nat
  param : Nat
  cin : Nat
  cout : Nat
deriving DecidableEq, Repr

/-- Stage word s of a chained command. -/
def stageOf (b : Bytes) (s : Nat) : StageWord :=
  let o := 16 + 12 * s
  { op := fld b o 1, inFmt := bits (fld b (o + 1) 1) 0 4, outFmt := bits (fld b (o + 1) 1) 4 4, mode := bits (fld b (o + 2) 1) 0 4,
    src := bits (fld b (o + 2) 1) 4 2, kernel := 2 * bits (fld b (o + 3) 1) 0 2 + 1, stride := 1 + bits (fld b (o + 3) 1) 2 1,
    transposed := bit (fld b (o + 3) 1) 3, dil := bits (fld b (o + 3) 1) 4 2, param := fld b (o + 4) 4, cin := fld b (o + 8) 2,
    cout := fld b (o + 10) 2 }

/-- The stages of a chained command, in order. -/
def stagesOf (b : Bytes) : List StageWord := (List.range (min 4 (cStages b))).map (stageOf b)

/-- d of the DILATION code (08 R330). -/
def StageWord.d (w : StageWord) : Nat := 2 ^ w.dil

/-- Bytes of an element of a format (08 R314). -/
def fmtBytes (f : Nat) : Nat := if f ≤ 1 then 1 else if f ≤ 3 then 2 else 4

/-! ### Shapes (08 R320; 09 R359, R360) -/

/-- Rows, columns and channels. -/
structure Dims where
  h : Nat
  w : Nat
  c : Nat
deriving DecidableEq, Repr

/-- The output extent of a chained command's tile: its shape, with the channels of its last stage (09 R359, R360). -/
def tileExtent (shape : Nat) (l : List StageWord) : Dims :=
  let t := tileDims shape
  { h := t.1, w := t.2.1, c := min t.2.2 ((l.getLast?.map (·.cout)).getD 0) }

/-- Side of a D2S operation's block, and whether it gathers (08 R328). -/
def d2sSide (mode : Nat) : Nat := if mode = 1 then 3 else 2

/-- The extent a stage reads from the stage before it, given what it writes: D2S alone changes it (08 R328). -/
def before (w : StageWord) (d : Dims) : Dims :=
  if w.op = 0x15 then
    let k := d2sSide w.mode
    if w.mode = 2 then { h := d.h * k, w := d.w * k, c := d.c / (k * k) } else { h := d.h / k, w := d.w / k, c := d.c * k * k }
  else d

/-- The output extents of the stages of a chain, first stage first. -/
def extents (shape : Nat) (l : List StageWord) : List Dims :=
  (l.reverse.foldl (fun (r : List Dims × Dims) w => (r.2 :: r.1, before w r.2)) ([], tileExtent shape l)).1

/-! ### Steps and rates (08 R315, R321, R324, R326 to R328) -/

/-- P, K and N of a dense mode (08 R320). -/
def arrayShape (mode : Nat) : Nat × Nat × Nat :=
  match mode with | 0 => (1, 64, 64) | 1 => (4, 16, 64) | 2 => (4, 64, 16) | _ => (16, 16, 16)

/-- Group size of a BD mode (08 R320). -/
def groupSize (mode : Nat) : Nat := if mode = 5 then 8 else if mode = 6 then 16 else 32

/-- Steps of a dense convolution of kh x kw over px pixels (08 R321). -/
def denseSteps (w : StageWord) (px cout kh kw : Nat) : Nat :=
  let s := arrayShape w.mode
  ceilDiv px s.1 * ceilDiv w.cin s.2.1 * ceilDiv cout s.2.2 * kh * kw

/-- Steps of one quarter of a CONV stage that writes an extent (08 R321, R324, R326, R327). -/
def convSteps (w : StageWord) (d : Dims) : Nat :=
  let px := d.h * d.w / 4
  let k := w.kernel
  if w.mode ≤ 3 then
    if w.transposed then
      let hi := (k + 1) / 2
      let lo := k / 2
      denseSteps w (px / 4) d.c hi hi + denseSteps w (px / 4) d.c hi lo + denseSteps w (px / 4) d.c lo hi + denseSteps w (px / 4) d.c lo lo
    else denseSteps w px d.c k k
  else if w.mode = 4 then px / 8 * (d.c / 8) * k * ceilDiv (8 * w.stride + w.d * (k - 1)) 8
  else px * ceilDiv d.c 64 * k * k

/-- Cycles of one array step (08 R315). -/
def convRate (w : StageWord) : Nat := if w.inFmt = 2 then 2 else if w.inFmt = 3 then 4 else 1

/-- Cycles of one quarter of a VXE stage that writes n elements (08 R328). -/
def vxeCycles (w : StageWord) (n : Nat) : Nat :=
  let wide := fmtBytes w.inFmt != 1
  match w.op with
  | 0x12 => ceilDiv n (if wide then 64 else 128)
  | 0x13 => ceilDiv n (if wide then 64 else 128)
  | 0x14 => ceilDiv n (if w.mode ≤ 1 then 64 else 32)
  | 0x15 => ceilDiv n (if wide then 64 else 128)
  | 0x16 => ceilDiv n (if w.mode ≤ 2 then 64 else 16)
  | 0x17 => ceilDiv n 16
  | 0x19 => ceilDiv (n * fmtBytes w.inFmt) 128
  | _ => ceilDiv n 64

/-- Steps times rate of one quarter of a stage (08 R328, R337); DWCONV takes a pixel of 64 channels per cycle, or per three. -/
def stageCycles (w : StageWord) (d : Dims) : Nat :=
  if w.op = 1 then convSteps w d * convRate w
  else if w.op = 0x18 then d.h * d.w / 4 * ceilDiv d.c 64 * (if w.mode = 0 then 1 else 3)
  else vxeCycles w (d.h * d.w * d.c / 4)

/-! ### The bound (08 R335, R337) -/

/-- The ends of a quarter's stages, from the ends of the previous quarter (p1) and of the one before it (p2); prev is the end of the
previous stage (08 R337). -/
def quarterEnds (p1 p2 : List Nat) : Nat → Nat → List Nat → List Nat
  | _, _, [] => []
  | s, prev, t :: ts =>
    let start := max prev (nth 0 p1 s)
    let start := if ts.isEmpty then start else max start (nth 0 p2 (s + 1))
    let e := start + t + 16
    e :: quarterEnds p1 p2 (s + 1) e ts

/-- The bound on the cycles of a chained command at a tile shape (08 R337). -/
def tileBound (b : Bytes) (shape : Nat) : Nat :=
  let l := stagesOf b
  let ts := (l.zip (extents shape l)).map (fun e => stageCycles e.1 e.2)
  let q0 := quarterEnds [] [] 0 0 ts
  let q1 := quarterEnds q0 [] 0 0 ts
  let q2 := quarterEnds q1 q0 0 0 ts
  let q3 := quarterEnds q2 q1 0 0 ts
  q3.getLastD 0 + 16

/-! ### What may be performed (08 R314, R315, R322, R327, R328, R330, R333) -/

/-- The stage word's reserved bits are 0. -/
def stageClean (b : Bytes) (s : Nat) : Bool :=
  let o := 16 + 12 * s
  bits (fld b (o + 2) 1) 6 2 == 0 && bits (fld b (o + 3) 1) 6 2 == 0

/-- The operand pair of a CONV and its accumulator (08 R315, R333). -/
def convFormats (w : StageWord) : Bool := (w.inFmt ≤ 2 && w.outFmt == 4) || (w.inFmt == 3 && w.outFmt == 5)

/-- A CONV of the menu (08 R320, R322, R327, R333). -/
def convOk (w : StageWord) : Bool :=
  w.mode ≤ 7 && convFormats w && w.dil ≤ 2 && w.cin % 16 == 0 && w.cout % 16 == 0 && 1 ≤ w.cin && 1 ≤ w.cout
    && (w.stride == 1 || w.transposed || w.dil == 0)
    && (!w.transposed || (w.stride == 2 && w.mode ≤ 3 && 3 ≤ w.kernel && w.dil == 0))
    && (w.mode ≤ 4 || (w.cin == w.cout && w.cin % groupSize w.mode == 0))

/-- Modes of a VXE operation (08 R328). -/
def vxeModes (op : Nat) : Option (List Nat) :=
  match op with
  | 0x10 => some [0] | 0x11 => some [0, 1] | 0x12 => some [0, 1] | 0x13 => some [0, 1, 2, 3, 4, 5, 6] | 0x14 => some [0, 1, 2, 3]
  | 0x15 => some [0, 1, 2] | 0x16 => some [0, 1, 2, 4, 5, 6] | 0x17 => some [0, 1] | 0x18 => some [0, 1] | 0x19 => some [0]
  | _ => none

/-- A VXE stage that the tables of 08 list; REQUANT and COPY have no mode. -/
def vxeOk (w : StageWord) : Bool :=
  !w.transposed && (match vxeModes w.op with
    | some l => w.op == 0x10 || w.op == 0x19 || l.contains w.mode
    | none => false)

/-- Operations that read a CM slot (08 R333). -/
def readsSlot (op : Nat) : Bool := op == 0x18 || op == 0x14 || op == 0x16 || op == 0x17

/-- A chained command is legal (08 R329, R330, R333) and of the menus. -/
def chainLegal (b : Bytes) : Bool :=
  let n := cStages b
  let l := stagesOf b
  let ex := extents (cShape b) l
  1 ≤ n && n ≤ 4 && bits (fld b 0 1) 4 4 == 0 && bits (fld b 1 1) 3 5 == 0 && cShape b ≤ 5
    && cIn b % 128 == 0 && cOut b % 128 == 0 && zeros b (16 + 12 * n) (48 - 12 * n)
    && (List.range n).all (stageClean b)
    && l.zipIdx.all (fun e =>
      let w := e.1
      let s := e.2
      let d := nth { h := 0, w := 0, c := 0 } ex s
      w.inFmt ≤ 5 && w.outFmt ≤ 5 && w.src ≤ 2
        && (if w.op = 1 then s == 0 && convOk w && 2 ≤ n else vxeOk w)
        && (s != 0 || w.src != 0)
        && (!readsSlot w.op || w.src != 0)
        && (s + 1 == n || d.h * d.w * d.c / 4 ≤ 8192)
        && (match l[s - 1]? with
            | some v => s == 0 || v.op != 1 || (w.src == 0 && (w.op == 0x10 || w.op == 0x11))
            | none => true))

/-- A layer's chained command and declared cycles pass what MODEL_LOAD checks of them (08 R322, R327, R333, R338, R347; 09 R368). -/
def layerOk (l : Layer) : Bool :=
  chainLegal l.chain
    && l.candidates.all (fun c => c.shape ≤ 5 && c.cycles.all (fun v => tileBound l.chain c.shape ≤ v.2))
    && 1 ≤ l.candidates.length && l.candidates.length ≤ 6
    && (match l.candidates with | c :: _ => c.fitsCm && (!l.nextToOverlap || c.weightSet ≤ 65536) | [] => false)

/-- The first candidate of a layer is eligible at every input height within the plan's bound (09 R364 to R368). -/
def firstEligible (p : Plan) (l : Layer) : Bool :=
  match p.sets[l.set]?, l.candidates.head? with
  | some t, some c =>
    let n := if p.cores.isEmpty then p.coreCount else p.cores.length
    let g := max 1 t.granule
    let hs := ((List.range p.maxH).map (fun h => ceilDiv ((h + 1) * t.mul) (max 1 t.div)))
    hs.all (fun h =>
      let ch := stripeChoice h g t.guard t.perCore n
      eligible l c ((List.range (ch.1 * ch.2)).map (fun i => ceilDiv (stripe h g (ch.1 * ch.2) i).2 (max 1 l.scale))))
  | _, _ => false

end Sys2Proof.Machine
end

