-- ==== Sys2Proof/Config.lean ====
section
/-! DEFINITION. What the spec leaves open: free values, opaque constants that nothing in the model evaluates, and the two
cryptographic functions, whose standards the spec names and does not repeat. -/
namespace Sys2Proof.Config

/-- Free value number n of a run (assumption 6): whatever a rule leaves open takes the next one. -/
opaque freeValue : Nat → Nat

/-- Byte i of free data number n of a run (assumption 6): pixels, samples and buffer contents no rule fixes. -/
opaque freeByte : Nat → Nat → Byte

/-- A sample of a network's output (assumption 83), of which 07 R287 gives the size and no formula: handle, plan, model variant and tuning;
the input frame's number among the free pictures of a run; whether the output is interpolated, its phase and FILM_POS, row, column and
channel (0 to 2 the colour components, 3 the IR plane). -/
opaque network : List Nat → Nat → List Nat → Nat

/-- A sample of an input frame converted into the network domain (assumption 83), which the plan's first microprogram stage makes (07 R277):
the frame's number among the free pictures of a run; row, column, channel. -/
opaque inputSample : Nat → Nat → Nat → Nat → Nat

/-- A sample of an input frame's picture at quarter resolution in the network domain (assumption 83), whose filter 13 R520 does not give: the
frame's number among the free pictures of a run; 0 luma, 1 Cb, 2 Cr; row, column. -/
opaque quarterSample : Nat → Nat → Nat → Nat → Nat

/-- What the first pass measures of a picture and 13 R519 gives no formula for (assumption 83): the frame's number among the free pictures
of a run; the raw index, or 64 more for the way its fraction is rounded. -/
opaque pictureFeature : Nat → Nat → Nat

/-- The mean (0) and the 95th percentile (1) of the magnitude of a flow, in 1/16 pixel (assumption 83): its vectors in quarter-pixels. -/
opaque motion : List (Int × Int) → Nat → Nat

/-- A sample of the flow between two frames (assumption 83), which the flow network computes (07 R279, R280): the two frames' numbers among
the free pictures of a run; column i and row j of the grid. DX and DY in quarter-pixels, before the clamp to the margins, and the
occlusion bit. -/
opaque flow : Nat → Nat → Nat → Nat → Int × Int × Bool

/-- The zone of a sample, 0 to 191 modulo 192, zy * 16 + zx (assumption 23): 06 R234 names 12 rows of 16 zones, and gives no borders. Frame
width and height; x and y. -/
opaque zone : Nat → Nat → Nat → Nat → Nat

/-- What the flicker detector finds in row means (assumption 23): 06 R266 gives what it measures, and no formula. The rows it evaluates, each
its time in ps, the sum of its samples and their number; the field: 0 CONFIDENCE, 1 FREQ, 2 AMPLITUDE, 3 PHASE, and 4 which of two mains
families that both fit it takes. -/
opaque flicker : List (Nat × Nat × Nat) → Nat → Nat

/-- SHA-256 (04 R122, R125, 16 R646): the standard's function, left uninterpreted (assumption 7). -/
opaque sha256 : Bytes → Bytes

/-- The ECDSA P-256 verification of a signature over a message under a public key (16 R646, R653): the standard's function,
left uninterpreted (assumption 7). Arguments: key, message, signature. -/
opaque ecdsa : Bytes → Bytes → Bytes → Bool

/-- The SHA-256 of Sheoltur's public key that the boot ROM holds (16 R646), which the spec does not print. -/
opaque romHash : Bytes

/-- Where an element lies in its slot, in bytes (assumption 24): the spec gives slots, extents and formats, and no order of elements.
Arguments: the chained command, 0 to 3 the stage that reads it, 4 to 7 the stage whose second operand it is, 8 the output; row, column,
channel. -/
opaque slotOffset : Bytes → Nat → Nat → Nat → Nat → Nat

/-- Where a weight lies in WB from the stage's PARAM_OFFSET, in bytes (assumption 24): the chained command; output channel, input
channel, kernel row, kernel column. -/
opaque weightOffset : Bytes → Nat → Nat → Nat → Nat → Nat

/-- An element, as bits, that an engine makes where 08 gives the operation and not the arithmetic on these operands (assumption 97): the
chained command, the stage, the operands' elements, the element's number; the same operands give the same bits (08 R317). -/
opaque engine : Bytes → Nat → List Int → Nat → Nat

/-- How many saturations that stage counts (assumption 97). -/
opaque engineSaturations : Bytes → Nat → List Int → Nat

/-- The FP32 accumulator after an array step of more than one product (assumption 97): 08 R316 and R317 order the steps, and no rule orders
the additions within one. The accumulator's bits; the step's (activation, weight) FP16 patterns. -/
opaque fp16Step : Nat → List (Nat × Nat) → Nat

/-- The kernel rows (or columns) of one phase of a transposed convolution and the input row each meets, from half the output row
(assumption 97): 08 R324 gives how many there are. Kernel size; parity of the output row. -/
opaque phaseTaps : Nat → Nat → List (Nat × Nat)

/-- Where a DWCONV weight lies in CM, task-relative (assumption 97): the chained command, the stage; channel, kernel row, kernel column. -/
opaque depthwiseOffset : Bytes → Nat → Nat → Nat → Nat → Nat

/-- SH of an ELTW multiply, and the bounds of an ELTW clamp (assumption 97), whose places in the parameters no rule gives: the chained
command, the stage, the 64 bytes at PARAM_OFFSET. -/
opaque eltShift : Bytes → Nat → Bytes → Nat
opaque eltBounds : Bytes → Nat → Bytes → Int × Int

/-- The row and column of the output tile's first element within the factor of a RESAMPLE (assumption 97): the chained command. -/
opaque resampleOrigin : Bytes → Nat × Nat

/-- TRAP_CAUSE of BAD_CHAIN (08 R333), which 10 R400 gives no code (assumption 25). -/
opaque badChain : Nat

end Sys2Proof.Config
end

