-- ==== Sys2Proof/Machine/Curve.lean ====
section
/-! DEFINITION. The order in which a core visits the tiles of a stripe (09 R370). -/
namespace Sys2Proof.Machine

/-- 1, 0 or -1 (09 R370). -/
def sgn (v : Int) : Int := if 0 < v then 1 else if v < 0 then -1 else 0

/-- curveWalk of 09 R370: the tiles (column, row) of a block from (x, y) along a and b, in order; fuel bounds the halvings. -/
def curveWalk : Nat → Int → Int → Int → Int → Int → Int → List (Int × Int)
  | 0, _, _, _, _, _, _ => []
  | fuel + 1, x, y, ax, ay, bx, by_ =>
    let w := (ax + ay).natAbs
    let h := (bx + by_).natAbs
    let (dax, day, dbx, dby) := (sgn ax, sgn ay, sgn bx, sgn by_)
    if h = 1 then (List.range w).map (fun i => (x + i * dax, y + i * day))
    else if w = 1 then (List.range h).map (fun i => (x + i * dbx, y + i * dby))
    else
      let (ax2, ay2, bx2, by2) := (ax / 2, ay / 2, bx / 2, by_ / 2)
      let w2 := (ax2 + ay2).natAbs
      let h2 := (bx2 + by2).natAbs
      if 3 * h < 2 * w then
        let (ax2, ay2) := if w2 % 2 = 1 && 2 < w then (ax2 + dax, ay2 + day) else (ax2, ay2)
        curveWalk fuel x y ax2 ay2 bx by_ ++ curveWalk fuel (x + ax2) (y + ay2) (ax - ax2) (ay - ay2) bx by_
      else
        let (bx2, by2) := if h2 % 2 = 1 && 2 < h then (bx2 + dbx, by2 + dby) else (bx2, by2)
        curveWalk fuel x y bx2 by2 ax2 ay2
          ++ curveWalk fuel (x + bx2) (y + by2) ax ay (bx - bx2) (by_ - by2)
          ++ curveWalk fuel (x + (ax - dax) + (bx2 - dbx)) (y + (ay - day) + (by2 - dby)) (-bx2) (-by2) (-(ax - ax2)) (-(ay - ay2))

/-- curve of 09 R370: the tiles (column, row) of a grid in visiting order. -/
def curve (cols rows : Nat) : List (Nat × Nat) :=
  (if rows ≤ cols then curveWalk (cols + rows) 0 0 cols 0 0 rows else curveWalk (cols + rows) 0 0 0 rows cols 0).map (fun e => (e.1.toNat, e.2.toNat))

end Sys2Proof.Machine
end

