-- ==== Sys2Proof/Machine/Features.lean ====
section
/-! DEFINITION. What the first pass measures of a host frame (07 R303; 13 R519, R520): a picture at quarter resolution, its luma histogram,
means, borders and the difference to the frame before. Functions of a picture's number among the free pictures of a run. -/
namespace Sys2Proof.Machine

/-- Rows and columns of a picture at quarter resolution (13 R520; the grid of 07 R279, assumption 83). -/
def quarterDims (w h : Nat) : Nat × Nat := ((h + 3) / 4, (w + 3) / 4)

/-- A 10-bit sample of the picture at quarter resolution. -/
def quarterAt (pic ch r c : Nat) : Nat := Config.quarterSample pic ch r c % 1024

/-- The samples of a channel, row by row. -/
def quarterRows (pic ch w h : Nat) : List (List Nat) :=
  (List.range (quarterDims w h).1).map (fun r => (List.range (quarterDims w h).2).map (quarterAt pic ch r))

/-- k / n of a picture; which way a fraction goes is the picture's i-th open rounding (assumption 83). -/
def roundedShare (pic i k n : Nat) : Nat :=
  let n := max 1 n
  k / n + (if k % n = 0 then 0 else Config.pictureFeature pic (64 + i) % 2)

/-- The mean absolute difference of two pictures' luma, in 1/16 of an 8-bit code, a quarter of a 10-bit one (07 R303). -/
def frameDiff (a b w h : Nat) : Nat :=
  let l := ((quarterRows a 0 w h).flatten.zip (quarterRows b 0 w h).flatten).map (fun e => max e.1 e.2 - min e.1 e.2)
  roundedShare b 11 (4 * l.sum) l.length

/-- The 256-bin histogram of 10-bit luma on the 16-bit scale (13 R519). -/
def lumaBins (l : List Nat) : List Nat := (List.range 256).map (fun b => l.countP (fun v => v / 4 == b))

/-- A percentile of a histogram as bin index * 256 (13 R519): the lowest bin up to which that part of the samples lies (DEDUCED,
assumption 23). -/
def percentile (bins : List Nat) (p : Nat) : Nat :=
  256 * ((List.range 256).find? (fun b => p * bins.sum ≤ 100 * (bins.take (b + 1)).sum)).getD 255

/-- A share of a histogram's samples in 1/65,536 (13 R519). -/
def share (bins part : List Nat) : Nat := part.sum * 65536 / max 1 bins.sum

/-- Lines from the start whose luma is at most 80 on every sample (13 R519). -/
def borderLines (l : List (List Nat)) : Nat := (l.takeWhile (fun r => r.all (· ≤ 80))).length

/-- The columns of rows. -/
def columnsOf (l : List (List Nat)) (n : Nat) : List (List Nat) := (List.range n).map (fun c => l.map (fun r => nth 0 r c))

/-- Raw features 0 to 10 and 17 to 20 of a host frame, from its picture (13 R519, R520); 6 to 8 and 10, whose filters no rule gives, are
functions of the picture that nothing evaluates. -/
def pictureFeature (pic w h i : Nat) : Nat :=
  let rows := quarterRows pic 0 w h
  let luma := rows.flatten
  let bins := lumaBins luma
  let cols := columnsOf rows (quarterDims w h).2
  match i with
  | 0 => roundedShare pic 0 (64 * luma.sum) luma.length
  | 1 => percentile bins 5 | 2 => percentile bins 50 | 3 => percentile bins 95
  | 4 => share bins (bins.take 16) | 5 => share bins (bins.drop 240)
  | 9 =>
    let off (v : Nat) : Nat := max v 512 - min v 512
    let cb := (quarterRows pic 1 w h).flatten
    let cr := (quarterRows pic 2 w h).flatten
    roundedShare pic 9 ((cb.map off).sum + (cr.map off).sum) cb.length
  | 17 => borderLines rows | 18 => borderLines rows.reverse | 19 => borderLines cols | 20 => borderLines cols.reverse
  | _ => Config.pictureFeature pic i % 65536

end Sys2Proof.Machine
end

