-- ==== Sys2Proof/Machine/Tasks.lean ====
section
/-! DEFINITION. Tasks and their memory (10 R412 to R447, 17 R678, R679): domains, allocation and zero fill, windows, orphans, the
stop of a core, the end of streams and jobs, kills and faults. -/
namespace Sys2Proof.Machine

/-! ### FyxLink packets out (14 R560) -/

/-- Send a packet to a pack position. -/
def sendPkt (dst kind index : Nat) (arg : U32) (data : Bytes) (s : State) : State :=
  sendFyx dst { kind := kind, src := s.glb.packPos.toNat, dst := dst, index := index
                epoch := if 4 ≤ kind && kind ≤ 0x15 then s.pack.epoch else 0, arg := arg, data := data } s

/-- The pack's members but this device. -/
def otherMembers (s : State) : List Nat := (maskBits s.pack.members 8).filter (· != s.glb.packPos.toNat)

/-- The device is single: nothing of a pack or of its formation is left (14 R572, R603). -/
def becomeSingle (s : State) : State :=
  { s with pack := { links := s.pack.links, timeout := s.pack.timeout, leaderPos := s.glb.packPos.toNat } }

/-! ### Word and line bits (10 R398, R431) -/

/-- Which memory a poison or held entry names: its code and core. -/
def memKey (m : Mem) : Nat × Nat := match m with | .cm c => (0, c) | .kennel => (1, 0) | .dram => (3, 0)

/-- Forget the entries of a list of word or line marks that lie in a range; g is the mark's granule in bytes. -/
def clearMarks (m : Mem) (a n g : Nat) (l : List (Nat × Nat × Nat)) : List (Nat × Nat × Nat) :=
  l.filter (fun e => !(e.1 == (memKey m).1 && e.2.1 == (memKey m).2 && a ≤ e.2.2 * g && e.2.2 * g < a + n))

/-- A zero FILL (10 R417, R431): zeros, no poison, no held bits. -/
def zeroFill (m : Mem) (a n : Nat) (s : State) : State :=
  let s := zeroMem m a n s
  { s with mem := { s.mem with poison := clearMarks m a n 8 s.mem.poison, rewritten := clearMarks m a n 8 s.mem.rewritten,
                               held := clearMarks m a n 128 s.mem.held } }

/-- Any line of a range is held. -/
def anyHeld (s : State) (m : Mem) (a n : Nat) : Bool :=
  s.mem.held.any (fun e => e.1 == (memKey m).1 && e.2.1 == (memKey m).2 && a < (e.2.2 + 1) * 128 && e.2.2 * 128 < a + n)

/-- The word at a byte address is poisoned. -/
def poisoned (s : State) (m : Mem) (a : Nat) : Bool := s.mem.poison.contains ((memKey m).1, (memKey m).2, a / 8)

/-- A write of data into a range (10 R398, R431): the bytes, the poison of wholly written words cleared and remembered, and
the held bit of every touched line set or cleared. -/
def putData (m : Mem) (a : Nat) (bs : Bytes) (held : Bool) (s : State) : State :=
  let n := bs.length
  let s := writeMem m a bs s
  let whole (w : Nat) : Bool := a ≤ w * 8 && w * 8 + 8 ≤ a + n
  let hit := s.mem.poison.filter (fun e => e.1 == (memKey m).1 && e.2.1 == (memKey m).2 && whole e.2.2)
  let lines := (List.range ((a + n + 127) / 128 - a / 128)).map (fun k => ((memKey m).1, (memKey m).2, a / 128 + k))
  let keep := s.mem.held.filter (fun e => !lines.contains e)
  { s with mem := { s.mem with
      poison := s.mem.poison.filter (fun e => !hit.contains e),
      rewritten := s.mem.rewritten ++ hit.filter (fun e => !s.mem.rewritten.contains e),
      held := if n = 0 then s.mem.held else if held && (memKey m).1 != 3 then keep ++ lines else keep } }

/-! ### Domains (17 R660, R678, R679; 10 R421, R422) -/

/-- Set or clear the bit of a domain. -/
def setDomain (d : Nat) (on : Bool) (s : State) : State :=
  { s with pwr := { s.pwr with
      domains := if on then s.pwr.domains ||| BitVec.ofNat 32 (2 ^ d) else s.pwr.domains &&& ~~~(BitVec.ofNat 32 (2 ^ d)),
      poweringUp := Tab.del s.pwr.poweringUp d } }

/-- Free the units of an owner. -/
def freeOwner (o : Nat) (s : State) : State :=
  { s with mem := { s.mem with cmOwner := s.mem.cmOwner.filter (fun e => e.2 != o),
                               knOwner := s.mem.knOwner.filter (fun e => e.2 != o) } }

/-- Owner number of an orphan. -/
def orphanOwner (id : U32) : Nat := 1000 + id.toNat

/-- End an orphan (10 R444): its remaining units become free; ORPHAN_ENDED with its cause. -/
def endOrphan (cause : Nat) (id : U32) (s : State) : State :=
  let s := freeOwner (orphanOwner id) { s with mem := { s.mem with orphans := s.mem.orphans.filter (fun o => o.id != id) } }
  emit srcDevice 0x0503 (le 4 id.toNat ++ le 1 cause) s

/-- End every orphan that satisfies p. -/
def endOrphans (cause : Nat) (p : Orphan → Bool) (s : State) : State :=
  (s.mem.orphans.filter p).foldl (fun s o => endOrphan cause o.id s) s

/-- A core domain switches on (17 R678): its CM reads zero, its operand buffers and registers are clear. -/
def coreOn (c : Nat) (s : State) : State :=
  if domainOn s c then { s with pwr := { s.pwr with idleSince := Tab.del s.pwr.idleSince c } }
  else
    let s := setDomain c true (zeroFill (.cm c) 0 786432 s)
    ({ s with pwr := { s.pwr with idleSince := Tab.del s.pwr.idleSince c } }).setCore c { (s.core c) with state := .idle }

/-- A core domain switches off (17 R660, R679): everything in it is lost, and every orphan with a CM unit in it ends. -/
def coreOff (c : Nat) (s : State) : State :=
  if domainOn s c then
    let s := endOrphans 2 (fun o => o.regions.any (fun r => r.mem == .cm c)) s
    let s := setDomain c false (zeroFill (.cm c) 0 786432 s)
    ({ s with pwr := { s.pwr with idleSince := Tab.del s.pwr.idleSince c } }).setCore c {}
  else s

/-- The Kennel domain of a 128 KiB unit (10 R396). -/
def unitDomain (u : Nat) : Nat := u / 32

/-- Kennel domain d starts to power up (10 R422): ready at most 48 us later. -/
def kennelOn (d : Nat) (s : State) : State :=
  if domainOn s (16 + d) then s
  else
    let s := setDomain (16 + d) true s
    { s with mem := { s.mem with kennelUp := Tab.put s.mem.kennelUp d (s.now + 48000) } }

/-- Kennel domain d holds a weight extent or a task region (10 R421); in flat mode a task has its cores' slices. -/
def kennelUsed (s : State) (d : Nat) : Bool :=
  s.mem.knOwner.any (fun e => unitDomain e.1 == d && e.2 < 1000)
    || (s.mem.flat && s.mem.cmOwner.any (fun e => e.1 / 12 / 2 == d && e.2 < 1000))

/-- Kennel domain d switches off (10 R421): contents lost, its orphans end. -/
def kennelOff (d : Nat) (s : State) : State :=
  let s := endOrphans 2 (fun o => o.regions.any (fun r => r.mem == .kennel && r.base / 4194304 ≤ d && d ≤ (r.base + r.len - 1) / 4194304)) s
  let s := setDomain (16 + d) false (zeroFill .kennel (d * 4194304) 4194304 s)
  { s with mem := { s.mem with kennelUp := Tab.del s.mem.kennelUp d } }

/-! ### Allocation (10 R415 to R417) -/

/-- Cost of a run of units (10 R416): units in powered-off domains, units of orphans, the newest orphan among them. -/
structure RunCost where
  off : Nat
  orphan : Nat
  newest : Nat
deriving DecidableEq, Repr

/-- a is a strictly better run than b. -/
def RunCost.better (a b : RunCost) : Bool :=
  a.off < b.off || (a.off == b.off && (a.orphan < b.orphan || (a.orphan == b.orphan && a.newest < b.newest)))

/-- The cost of a run, none when a unit of it belongs to a task or a variant. owner gives the owner of a unit, on says whether
its domain is powered. -/
def runCost (owner : Nat → Option Nat) (on : Nat → Bool) (first n : Nat) : Option RunCost :=
  (List.range n).foldl (fun acc k => acc.bind (fun c =>
    match owner (first + k) with
    | none => some { c with off := c.off + b2n (!on (first + k)) }
    | some o => if 1000 ≤ o then some { c with orphan := c.orphan + 1, newest := max c.newest o } else none))
    (some { off := 0, orphan := 0, newest := 0 })

/-- 10 R416: the first unit of the chosen run of n units among a total. -/
def chooseRun (owner : Nat → Option Nat) (on : Nat → Bool) (total n : Nat) : Option Nat :=
  ((List.range (total + 1 - n)).foldl (fun (b : Option (Nat × RunCost)) i =>
    match runCost owner on i n, b with
    | some c, some (j, d) => if c.better d then some (i, c) else some (j, d)
    | some c, none => some (i, c)
    | none, _ => b) none).map (·.1)

/-- Owner of an entry of a unit table. -/
def ownerOf (t : Tab Nat) (u : Nat) : Option Nat := (t.find? (fun e => e.1 == u)).map (·.2)

/-- The run of Kennel units for n units, none when it cannot be placed. -/
def kennelRun (s : State) (n : Nat) : Option Nat :=
  chooseRun (ownerOf s.mem.knOwner) (fun u => domainOn s (16 + unitDomain u)) 256 n

/-- The run of CM units of a core. -/
def cmRun (s : State) (c n : Nat) : Option Nat := chooseRun (fun u => ownerOf s.mem.cmOwner (c * 12 + u)) (fun _ => true) 12 n

/-- Orphans that own one of some units. -/
def orphansIn (t : Tab Nat) (units : List Nat) : List Nat :=
  ((units.filterMap (ownerOf t)).filter (1000 ≤ ·)).dedup

/-- Give Kennel units to an owner: orphans there end, domains power up, every unit awaits its zero fill (10 R416, R417). -/
def takeKennel (o first n : Nat) (s : State) : State :=
  let units := (List.range n).map (first + ·)
  let s := (orphansIn s.mem.knOwner units).foldl (fun s x => endOrphan 1 (BitVec.ofNat 32 (x - 1000)) s) s
  let s := ((units.map unitDomain).dedup).foldl (fun s d => kennelOn d s) s
  { s with mem := { s.mem with knOwner := units.foldl (fun t u => Tab.put t u o) s.mem.knOwner,
                               filling := s.mem.filling ++ (units.map (1000 + ·)).filter (fun u => !s.mem.filling.contains u) } }

/-- Give CM units of a core to an owner. -/
def takeCm (o c first n : Nat) (s : State) : State :=
  let units := (List.range n).map (c * 12 + first + ·)
  let s := (orphansIn s.mem.cmOwner units).foldl (fun s x => endOrphan 1 (BitVec.ofNat 32 (x - 1000)) s) s
  { s with mem := { s.mem with cmOwner := units.foldl (fun t u => Tab.put t u o) s.mem.cmOwner,
                               filling := s.mem.filling ++ units.filter (fun u => !s.mem.filling.contains u) } }

/-- 1 MiB units of DRAM below the reserved 16 MiB (17 R675, 11 R460). -/
def dramUnits (s : State) : Nat := s.dram.size / 1048576 - 16

/-- A 1 MiB DRAM unit is given out or not yet zero-filled. -/
def dramBusy (s : State) (u : Nat) : Bool :=
  s.dram.alloc.any (fun e => e.1 ≤ u && u < e.1 + e.2.1) || s.dram.filling.any (fun e => e.1 ≤ u && u < e.1 + e.2)

/-- The lowest run of n free DRAM units: after unit 0 or after the end of a busy range. -/
def dramRun (s : State) (n : Nat) : Option Nat :=
  let busy := s.dram.alloc.map (fun e => (e.1, e.2.1)) ++ s.dram.filling
  let starts := (0 :: busy.map (fun e => e.1 + e.2)).mergeSort (· ≤ ·)
  starts.find? (fun i => i + n ≤ dramUnits s && busy.all (fun e => e.1 + e.2 ≤ i || i + n ≤ e.1))

/-- Give DRAM units to an owner. -/
def takeDram (o first n : Nat) (s : State) : State :=
  if n = 0 then s else { s with dram := { s.dram with alloc := s.dram.alloc ++ [(first, n, o)] } }

/-- Free an owner's DRAM units: each range awaits its background zero fill (10 R446). -/
def freeDram (o : Nat) (s : State) : State :=
  { s with dram := { s.dram with
      filling := s.dram.filling ++ (s.dram.alloc.filter (fun e => e.2.2 == o)).map (fun e => (e.1, e.2.1)),
      alloc := s.dram.alloc.filter (fun e => e.2.2 != o) } }

/-- The regions of a task on cores, with the state in which they are taken; none when the Kennel region or CM cannot be
placed (10 R415, R416), where DRAM counts as well. -/
def allocTask (o : Nat) (cores : List Nat) (p : Plan) (s : State) : Except Status (List Region × State) :=
  if s.mem.flat then
    match dramRun s p.dramUnits with
    | none => .error .noResource
    | some d =>
      let s := cores.foldl (fun s c => kennelOn (c / 2) (takeCm o c 0 12 s)) s
      .ok (cores.flatMap (fun c => [{ mem := .cm c, base := 0, len := 786432, rel := 0 },
              { mem := .kennel, base := c * 2097152, len := 2097152, rel := 786432 }])
            ++ (if p.dramUnits = 0 then [] else [{ mem := .dram, base := d * 1048576, len := p.dramUnits * 1048576, rel := 0 }]),
          takeDram o d p.dramUnits s)
  else
    match (if p.kennelUnits = 0 then some 0 else kennelRun s p.kennelUnits), dramRun s p.dramUnits,
          cores.mapM (fun c => (cmRun s c p.cmUnits).map (fun u => (c, u))) with
    | some k, some d, some cm =>
      let s := if p.kennelUnits = 0 then s else takeKennel o k p.kennelUnits s
      let s := cm.foldl (fun s e => takeCm o e.1 e.2 p.cmUnits s) s
      .ok (cm.map (fun e => { mem := .cm e.1, base := e.2 * 65536, len := p.cmUnits * 65536, rel := 0 })
            ++ (if p.kennelUnits = 0 then [] else [{ mem := .kennel, base := k * 131072, len := p.kennelUnits * 131072, rel := 0 }])
            ++ (if p.dramUnits = 0 then [] else [{ mem := .dram, base := d * 1048576, len := p.dramUnits * 1048576, rel := 0 }]),
          takeDram o d p.dramUnits s)
    | none, _, _ => .error .kennelFull
    | _, _, _ => .error .noResource

/-- Free a task's counters (09 R361, 10 R442). -/
def freeCounters (x : Option (Nat × Nat)) (s : State) : State :=
  match x with
  | none => s
  | some e => { s with mem := { s.mem with counterAlloc := s.mem.counterAlloc.filter (· != e) } }

/-- Allocate n counters: the lowest free run; every field is written 0 (09 R361). -/
def allocCounters (n : Nat) (s : State) : Option (Nat × Nat) × State :=
  let starts := (0 :: s.mem.counterAlloc.map (fun e => e.1 + e.2)).mergeSort (· ≤ ·)
  match starts.find? (fun i => i + n ≤ 4096 && s.mem.counterAlloc.all (fun e => e.1 + e.2 ≤ i || i + n ≤ e.1)) with
  | none => (none, s)
  | some i => (some (i, n), { s with mem := { s.mem with
      counterAlloc := s.mem.counterAlloc ++ [(i, n)],
      counters := s.mem.counters.filter (fun e => e.1 < i || i + n ≤ e.1) } })

/-! ### Windows (04 R155, R156, 14 R587) -/

/-- The event source of a window's owner (15 R609). -/
def windowSource (w : Window) : Nat := if w.ownerKind = 0 then srcSc w.owner else srcDevice

/-- Close a window: WINDOW_CLOSED with its cause, and WIN_CLOSED to every member for a remote kind. -/
def closeWindow (cause : Nat) (i : Nat) (s : State) : State :=
  let w := s.window i
  if w.isOpen then
    let s := s.setWindow i {}
    let s := if w.kind = 0 then s
             else (otherMembers s).foldl (fun s m => sendPkt m 0x44 i (BitVec.ofNat 32 i) [] s) s
    emit (windowSource w) 0x0504 (le 1 i ++ le 1 w.kind ++ le 1 cause ++ le 1 w.peer) s
  else s

/-- Close every open window that satisfies p. -/
def closeWindows (cause : Nat) (p : Window → Bool) (s : State) : State :=
  (List.range 64).foldl (fun s i => if p (s.window i) then closeWindow cause i s else s) s

/-! ### Cores (08 R352, R354, R355) -/

/-- SIDE of a fetch descriptor: 0 load, 1 store (11 R448). -/
def dSide (b : Bytes) : Nat := bits (fld b 0 1) 4 1

/-- 08 R354: abandon a core's work: stores already started go on, everything else is dropped. -/
def Core.abandon (k : Core) : Core :=
  { k with draining := k.draining ++ k.fetching.filter (fun e => dSide e.bytes == 1 && !e.pieces.isEmpty),
           fetchQueue := [], fetching := [], queue0 := [], queue1 := [], running := none, loads := [], busyRegs := [], heldRegs := [],
           slots := [], wait := .none, stopped := true, trapPending := none,
           state := if k.state == .off then .off else .idle }

/-- 08 R354, 05 R187: stop at the next tile boundary: the tile that runs goes on to its end, everything else is dropped. -/
def Core.stopAtTile (k : Core) : Core :=
  { k.abandon with state := k.state, running := k.running.map (fun r => { r with abandoned := true }) }

/-- 08 R355: a kill also zeroes the operand buffers and the SCU's registers. -/
def Core.wipe (k : Core) : Core := { k.abandon with buffers := [], regs := [], stores := [] }

/-- Release a core from its task; 1 s later its domain may switch off (17 R679). -/
def releaseCore (c : Nat) (s : State) : State :=
  let s := s.setCore c { s.core c with task := none, cmBase := 0, cmUnits := 0, knBase := 0, knUnits := 0, wext := [], flat := false,
                                       dramBase := 0, dramUnits := 0, ctrBase := 0, ctrCount := 0 }
  { s with pwr := { s.pwr with idleSince := Tab.put s.pwr.idleSince c s.now } }

/-- On-chip regions of a list. -/
def onChip (l : List Region) : List Region := l.filter (fun r => r.mem != .dram)

/-- 10 R442 step 4, R443: a killed task's on-chip regions become one orphan, whose ID is returned (0 for none). -/
def makeOrphan (o : Nat) (l : List Region) (s : State) : U32 × State :=
  let regs := onChip l
  if regs.isEmpty then (0, freeOwner o s)
  else
    let id := s.mem.nextOrphan
    let next := if id + 1 = 0 then 1 else id + 1
    let own (t : Tab Nat) : Tab Nat := Tab.map (fun _ x => if x = o then orphanOwner id else x) t
    (id, { s with mem := { s.mem with cmOwner := own s.mem.cmOwner, knOwner := own s.mem.knOwner, nextOrphan := next,
                                      orphans := s.mem.orphans ++ [{ id := id, regions := regs }] } })

/-! ### The end of a stream (04 R133, R176; 05 R217, R221; 13 R550; 15 R626) -/

/-- Buffers of a stream that go back to the host: queued, and bound without FRAME_DONE. -/
def buffersLeft (x : Stream) : Nat :=
  x.inBufs.length + (x.outBufs.map (fun e => e.2.length)).sum + (x.outputs.filter (fun o => o.buf.isSome)).length

/-- The configuration in force once the shadow set has been applied at the end of the stream (04 R176). -/
def applyShadow (x : Stream) : Stream := x.shadow.foldl applyPure x

/-- An RFE_SET or IRLED_SET change of the shadow set takes effect; what it names is not the stream itself. -/
abbrev SideChange := Change → State → State

/-- 04 R176: staged and group changes that involve the stream end ABORTED. -/
def abortStaged (sc : Nat) (s : State) : State :=
  let hit (e : Staged) : Bool := match e.change with
    | .group m _ => bit (groupMask s e m) sc
    | .config _ | .output _ _ | .pin _ | .bind _ | .table _ | .rfe _ _ _ | .irled _ _ _ _ => e.target == sc
    | _ => false
  let gone := s.staged.filter hit
  gone.foldl (fun s e => stagedOutcome e.ring e.tag e.opcode.toNat .aborted 0 [] s)
    { s with staged := s.staged.filter (fun e => !hit e) }

/-- Owner number of the memory taken for an outstanding change of plan. -/
def nextOwner (sc : Nat) : Nat := 50 + sc

/-- Owner number of a stream and of a job. -/
def scOwner (sc : Nat) : Nat := 1 + sc
def jobOwner (j : Nat) : Nat := 100 + j

/-! ### Group frames and routes of a stream that leaves RUNNING (05 R199, R209, R212) -/

/-- Members of a group. -/
def Group.list (g : Group) : List Nat := maskBits g.members 32

/-- A member's part of a group frame is finished: no phase-0 output of its frame is left (05 R209). -/
def memberDone (s : State) (f : GroupFrame) (sc : Nat) : Bool :=
  let n := Tab.get 0 f.frames sc
  !(s.stream sc).outputs.any (fun o => o.frame = n && o.phase == 0 && !o.held)

/-- GROUP_FRAME_DONE for every group frame whose members have all finished (05 R209). -/
def groupFinish (g : Nat) (s : State) : State :=
  (s.group g).frames.foldl (fun s f =>
    let ms := (f.present ++ f.substituted).mergeSort (· ≤ ·)
    if f.windowClosed && ms.all (memberDone s f) then
      let x := s.group g
      let s := s.setGroup g { x with frames := x.frames.filter (fun e => e.number != f.number) }
      match ms.head? with
      | some lowest => emit (srcSc lowest) 0x010A
          (le 1 g ++ le 3 0 ++ le 4 f.number.toNat ++ le 4 (toMask f.present) ++ le 4 (toMask f.substituted)) s
      | none => s
    else s) s

/-- The stream leaves the group frames that are being collected (05 R212). -/
def leaveGroupFrames (sc : Nat) (s : State) : State :=
  match (s.stream sc).group with
  | none => s
  | some g =>
    let x := s.group g
    groupFinish g (s.setGroup g { x with frames := x.frames.map (fun f => { f with present := f.present.filter (· != sc),
                                                                                   substituted := f.substituted.filter (· != sc) }) })

/-- 05 R199: a ROUTE_SET whose old stream has left RUNNING commits now. -/
def commitRoute (src : Nat) (target : Option Nat) (s : State) : State :=
  let old := Tab.get none (Tab.map (fun _ x => some x) s.routes) src
  let s := { s with routes := Tab.del s.routes src }
  let s := match old with
    | some a => if (s.stream a).route = some src then s.setStream a { s.stream a with route := none } else s
    | none => s
  let s := s.setSource src { s.source src with routing := none, starts := [] }
  match target with
  | none => s
  | some b =>
    let s := { s with routes := (Tab.put s.routes src b).filter (fun e => e.1 == src || e.2 != b) }
    s.setStream b { s.stream b with route := some src, cfg := { (s.stream b).cfg with port := src / 16, vc := src % 16 } }

/-- The outcome of a ROUTE_SET that waited for its commit (05 R200): within 20 ms of its fetch it completes OK with EFFECTIVE_FRAME; later its
COMMITTED follows its PENDING record. -/
def routeOutcome (src : Nat) (frame : Nat) (s : State) : State :=
  match s.staged.find? (fun e => match e.change with | .route x _ => x == src | _ => false) with
  | some e =>
    let s := { s with staged := s.staged.filter (fun x => x != e) }
    match (s.inFlight e.ring).find? (fun f => f.tag == e.tag && f.phase == .started) with
    | some f =>
      let h : Hdr := { ring := e.ring, tag := e.tag, crc := f.crc }
      if s.now ≤ f.fetchedAt + 20000000 then complete h e.opcode.toNat .ok (le 4 0 ++ le 4 frame) s
      else stagedOutcome e.ring e.tag e.opcode.toNat .ok frame [] (complete h e.opcode.toNat .pending stagedResult s)
    | none => stagedOutcome e.ring e.tag e.opcode.toNat .ok frame [] s
  | none => s

/-- Routes that waited for a frame start of a stream that has left RUNNING commit at that moment (05 R199). -/
def settleRoutes (sc : Nat) (s : State) : State :=
  match (s.stream sc).route with
  | none => s
  | some src =>
    match (s.source src).routing with
    | none => s
    | some t =>
      let f := match t with
        | some b => if (s.stream b).state == .running then (s.stream b).nextFrame.toNat else 0
        | none => 0
      routeOutcome src f (commitRoute src t s)

/-- When no stream is RUNNING or DRAINING any more, the OFM domain has lost its last user (17 R660). -/
def noteOfmIdle (s : State) : State :=
  if (List.range 32).any (fun i => (s.stream i).state == .running || (s.stream i).state == .draining) then s
  else { s with pwr := { s.pwr with idleSince := Tab.put s.pwr.idleSince 30 s.now } }

/-- The stream becomes CONFIGURED and emits STREAM_STOPPED; its windows close first (15 R626). killed tells a kill, whose
regions become an orphan; otherwise they are freed (10 R445). side applies the changes of the shadow set that are not the
stream's own; fin writes the completion of the command that ends it (10 R442 step 5). -/
def endStream (killed : Bool) (side : SideChange) (sc : Nat) (s : State) (fin : State → State := id) : State :=
  let x := s.stream sc
  let shadow := x.shadow
  let s := closeWindows (if killed then 2 else 1) (fun w => w.isOpen && w.ownerKind == 0 && w.owner == sc) s
  let s := abortStaged sc s
  let s := shadow.foldl (fun s c => side c s) s
  let s := leaveGroupFrames sc s
  let s := x.cores.foldl (fun s c => releaseCore c (s.setCore c (if killed then (s.core c).wipe else (s.core c).abandon))) s
  let s := freeCounters x.counterBase (freeDram (scOwner sc) s)
  let s := freeDram (nextOwner sc) (freeOwner (nextOwner sc) s)
  let (orphan, s) := if killed then makeOrphan (scOwner sc) x.regions s else (0, freeOwner (scOwner sc) s)
  let n := buffersLeft x
  let x := applyShadow (s.stream sc)
  let x : Stream := { x with
    state := .configured, shadow := [], cores := [], inBufs := [], outBufs := [], frames := [], outputs := [],
    hold := [], holdReserved := [], regions := [], counterBase := none, votes := [], nextCores := none, nextRegions := none, waitingClass := none, tiles := [],
    bands := [], draining := none, nextFloor := none, level := 0, exposures := [],
    cert := { x.cert with state := .none, cause := 0 } }
  let s := s.setStream sc x
  let s := { s with tve := { s.tve with ready := s.tve.ready.filter (fun v => v.sc != sc),
                                        running := s.tve.running.filter (fun v => v.sc != sc) } }
  let s := emit (srcSc sc) 0x0105 (le 1 (b2n killed) ++ le 1 (min 255 n) ++ le 2 0 ++ le 4 x.lastAccepted.toNat ++ le 4 orphan.toNat) (fin s)
  noteOfmIdle (sharesShrink s)

/-- 05 R186, R187: the stream becomes FAULTED, and its engines stop at the next tile boundary; STREAM_FAULTED once. It leaves the group frames,
and a route that waited for it commits (05 R199, R212). -/
def faultStream (cause core trap : Nat) (sc : Nat) (s : State) : State :=
  let x := s.stream sc
  if x.state == .running || x.state == .draining then
    let s := x.cores.foldl (fun s c => s.setCore c (s.core c).stopAtTile) s
    let s := s.setStream sc { s.stream sc with state := .faulted, faultCause := cause }
    let s := noteOfmIdle (emit (srcSc sc) 0x0106 (le 1 cause ++ le 1 core ++ le 1 trap ++ le 1 0 ++ le 4 x.lastAccepted.toNat) s)
    settleRoutes sc (leaveGroupFrames sc s)
  else s

/-- 04 R152, R153: a job ends with a status; killed, its regions become an orphan. fin writes the completion of the command that ends it
(10 R442 step 5). -/
def endJob (killed : Bool) (status : Nat) (j : Nat) (s : State) (fin : State → State := id) : State :=
  let x := s.job j
  if x.active then
    let cs := maskBits x.coreMask 16
    let s := closeWindows (if killed then 2 else 1) (fun w => w.isOpen && w.ownerKind == 1 && w.owner == j) s
    let s := cs.foldl (fun s c => releaseCore c (s.setCore c (if killed then (s.core c).wipe else (s.core c).abandon))) s
    let s := freeCounters x.counterBase (freeDram (jobOwner j) s)
    let (orphan, s) := if killed then makeOrphan (jobOwner j) x.regions s else (0, freeOwner (jobOwner j) s)
    let s := s.setJob j {}
    let s := emit srcDevice 0x0400 (le 1 j ++ le 1 0 ++ le 2 status ++ le 1 (b2n x.degraded) ++ le 3 0 ++ le 4 orphan.toNat
      ++ le 4 x.batches) (fin s)
    sharesShrink s
  else s

/-- 08 R356, R357, 10 R413: a core's fault: its stream is FAULTED, or its job ends ABORTED. -/
def coreFault (c cause trap : Nat) (s : State) : State :=
  match (s.core c).task with
  | some (0, sc) => faultStream cause c trap sc s
  | some (_, j) => endJob false Status.aborted.code j s
  | none => s

end Sys2Proof.Machine
end

