-- ==== Sys2Proof/Machine/Operands.lean ====
section
/-! DEFINITION. The operand forms: what the parameters of a command spell, and the checks of form that 03 R73 makes before any
check of state (04 R109 to R169, 06 R227 to R233, R257, R779). -/
namespace Sys2Proof.Machine

/-! ### Stream configurations (04 R129, R130) -/

/-- The output descriptor at byte o (04 R130). -/
def descOf (p : Bytes) (o : Nat) : Desc :=
  { format := fld p o 1, cropX := fld p (o + 4) 2, cropY := fld p (o + 6) 2, cropW := fld p (o + 8) 2, cropH := fld p (o + 10) 2,
    outW := fld p (o + 12) 2, outH := fld p (o + 14) 2, rateDiv := fld p (o + 16) 2 }

/-- The named bits of a descriptor (04 R130). -/
def descMask : List Nat := [0xFF] ++ rsv 3 ++ full 14 ++ rsv 14

/-- Form of a descriptor: its format and RATE_DIV (04 R130). -/
def descForm (d : Desc) : Bool := 1 ≤ d.format && d.format ≤ 6 && 1 ≤ d.rateDiv && d.rateDiv ≤ 256

/-- The configuration a STREAM_CONFIG spells (04 R129). -/
def configOf (p : Bytes) : StreamCfg :=
  { sourceKind := fld p 1 1, port := bits (fld p 2 1) 0 2, vc := bits (fld p 2 1) 4 4, priority := fld p 3 1, handle := fld p 4 1,
    plan := fld p 5 1, lowLatency := bit (fld p 6 1) 0, edgeFill := bit (fld p 6 1) 1, dropShort := bit (fld p 6 1) 2,
    specTol := fld p 7 1, inW := fld p 8 2, inH := fld p 10 2, inFormat := fld p 12 1, starve := fld p 13 1,
    inNum := fld p 16 2, inDen := fld p 18 2, outNum := fld p 20 2, outDen := fld p 22 2,
    edgeValue := BitVec.ofNat 32 (fld p 24 4),
    descs := (List.range (fld p 14 1)).map (fun d => (d, descOf p (64 + 32 * d))) }

/-- The named bits of STREAM_CONFIG with n descriptors (04 R129). -/
def configMask (n : Nat) : List Nat :=
  [0x1F, 0xFF, 0xF3, 0x07, 0x3F, 0x0F, 0x07, 0x0F] ++ full 7 ++ rsv 1 ++ full 12 ++ rsv 36 ++ (List.replicate n descMask).flatten

/-- The enumerated values and ranges of 04 R129 and R130 that need no plan. -/
def configForm (c : StreamCfg) : Bool :=
  (c.sourceKind == 1 || c.sourceKind == 2) && (c.sourceKind == 2 || (c.port == 0 && c.vc == 0))
    && (if c.sourceKind = 1 then 1 ≤ c.inFormat && c.inFormat ≤ 4 else c.inFormat == 0)
    && c.starve ≤ 1 && 1 ≤ c.descs.length && c.descs.length ≤ 8
    && c.inW != 0 && c.inH != 0 && c.inNum != 0 && c.inDen != 0 && c.outNum != 0 && c.outDen != 0
    && c.descs.all (fun e => descForm e.2)

/-- 04 R129, 07 R278: the output rate lies from the source rate to 10 times it. -/
def ratioOk (c : StreamCfg) : Bool :=
  c.inNum * c.outDen ≤ c.outNum * c.inDen && c.outNum * c.inDen ≤ 10 * (c.inNum * c.outDen)

/-- 07 R278: the plan supports the ratio; a ratio of 1 needs no interpolation. -/
def ratioPlanned (p : Plan) (c : StreamCfg) : Bool :=
  c.inNum * c.outDen == c.outNum * c.inDen
    || (p.interpolates && p.ratios.any (fun r => c.outNum * c.inDen * r.2 == c.inNum * c.outDen * r.1))

/-- Width and height of the plan's network output (07 R287). -/
def netDims (p : Plan) (c : StreamCfg) : Nat × Nat := (c.inW * p.factor, c.inH * p.factor)

/-- Formats with 2 x 2 chroma (07 R275). -/
def chroma420 (format : Nat) : Bool := format == 1 || format == 2

/-- 04 R130, 07 R275: crop, ratios, IR formats and even sizes of a descriptor against the network output. -/
def descFits (p : Plan) (c : StreamCfg) (d : Desc) : Bool :=
  1 ≤ d.cropW && 1 ≤ d.cropH && d.cropX + d.cropW ≤ (netDims p c).1 && d.cropY + d.cropH ≤ (netDims p c).2
    && d.cropW ≤ 8 * d.outW && d.outW ≤ 4 * d.cropW && d.cropH ≤ 8 * d.outH && d.outH ≤ 4 * d.cropH
    && (c.sourceKind == 2 || d.format ≤ 4)
    && (!chroma420 d.format || (d.outW % 2 == 0 && d.outH % 2 == 0))

/-- 07 R275: even input sizes for the formats with 2 x 2 chroma. -/
def inputEven (c : StreamCfg) : Bool := !chroma420 c.inFormat || (c.inW % 2 == 0 && c.inH % 2 == 0)

/-- 04 R131: the source fits the plan. -/
def shapeOk (p : Plan) (c : StreamCfg) : Bool := c.inW ≤ p.maxW && c.inH ≤ p.maxH

/-- A posted buffer (04 R135). -/
def bufOf (p : Bytes) : Buf :=
  { cookie := BitVec.ofNat 32 (fld p 4 4), plane0 := fld p 8 8, plane1 := fld p 16 8, pitch0 := fld p 24 4, pitch1 := fld p 28 4 }

/-- 04 R135: addresses and pitches for a picture of a format, w pixels wide. -/
def bufOk (b : Buf) (format w : Nat) : Bool :=
  b.plane0 % 256 == 0 && b.plane1 % 256 == 0 && b.pitch0 % 64 == 0 && (rowBytes format w).1 ≤ b.pitch0
    && (if chroma420 format then b.pitch1 % 64 == 0 && (rowBytes format w).2 ≤ b.pitch1 else b.plane1 == 0 && b.pitch1 == 0)

/-- A profile table (04 R161). -/
def tableOf (p : Bytes) : ProfileTable :=
  { defaultClass := fld p 1 1,
    entries := (List.range 16).map (fun c => (fld p (8 + 4 * c) 1, fld p (10 + 4 * c) 2)) }

/-- The named bits of PROFILE_TABLE_SET (04 R161). -/
def tableMask : List Nat := [0x1F, 0x0F] ++ rsv 6 ++ (List.replicate 16 [0x0F, 0, 0xFF, 0xFF]).flatten

/-! ### Sensor profiles (06 R227 to R229, R779) -/

/-- The CSI-2 data types of 06 R225 but embedded data. -/
def dataTypes : List Nat := [0x2A, 0x2B, 0x2C, 0x2D, 0x2E, 0x1E]

/-- Bit time in ns of a speed code (06 R779). -/
def bitTime (speed : Nat) : Nat := if speed = 0 then 10000 else if speed = 1 then 2500 else if speed = 2 then 1000 else 80

/-- 06 R779: time of a transaction of some bytes and some STARTs, ns. -/
def busTime (speed bytes starts : Nat) : Nat := (9 * bytes + starts + 1) * bitTime speed + 4000

/-- 06 R779: time of an SCTL_XFER, ns. -/
def xferTime (speed wr rd : Nat) : Nat :=
  if rd = 0 then busTime speed (1 + wr) 1
  else if wr = 0 then busTime speed (1 + rd) 1
  else busTime speed (2 + wr + rd) 2

/-- Sensor profile fields (06 R227). -/
def spSpeed (p : Bytes) : Nat := bits (fld p 5 1) 4 2
def spReg16 (p : Bytes) : Bool := bit (fld p 5 1) 3
def spCount (p : Bytes) : Nat := fld p 43 1
def spWidth (p : Bytes) : Nat := fld p 12 2
def spHeight (p : Bytes) : Nat := fld p 14 2
def spLineTime (p : Bytes) : Nat := fld p 8 4
def spFrameLines (p : Bytes) : Nat := fld p 16 2
def spGuard (p : Bytes) : Nat := fld p 40 2
def spMosaic (p : Bytes) : Nat := fld p 3 1
def spLatency (p : Bytes) : Nat := fld p 7 1
def spBus (p : Bytes) : Nat := bits (fld p 5 1) 0 2
def spMaxLines (p : Bytes) : Nat := spFrameLines p - fld p 20 2

/-- Byte offset of template t (06 R227, R228). -/
def spTemplate (t : Nat) : Nat := 64 + 8 * t

/-- The named bits of a sensor profile with n templates (06 R227, R228). -/
def profileMask (n : Nat) : List Nat :=
  full 4 ++ [0x1F, 0x3F, 0x7F, 0x07] ++ full 20 ++ [0x1F, 0x1F] ++ full 12 ++ [0, 0xFF, 0x83, 0x83] ++ rsv 2 ++ full 4 ++ rsv 12
    ++ (List.replicate n [0xFF, 0xFF, 0x0F, 0xFF, 0x1F, 0, 0xFF, 0xFF]).flatten

/-- Time of template t on the bus, ns (06 R779). -/
def templateTime (p : Bytes) (t : Nat) : Nat :=
  busTime (spSpeed p) (1 + (if spReg16 p then 2 else 1) + bits (fld p (spTemplate t + 2) 1) 0 3) 1

/-- Time of an exposure set, ns (06 R779). -/
def exposureTime (p : Bytes) : Nat := ((List.range (spCount p)).map (templateTime p)).sum

/-- Vertical blanking in ns, rounded down (06 R229). -/
def blanking (p : Bytes) : Nat := (spFrameLines p - spHeight p) * spLineTime p / 1000 - spGuard p * 1000

/-- A register template (06 R228). -/
def templateOk (p : Bytes) (t : Nat) : Bool :=
  let o := spTemplate t
  let b := fld p (o + 2) 1
  (spReg16 p || fld p (o + 1) 1 == 0) && 1 ≤ bits b 0 3 && bits b 0 3 ≤ 4 && (bit b 3 == (t + 1 == spCount p)) && fld p (o + 3) 1 ≤ 3

/-- 06 R229: every check of a sensor profile of a given length but its reserved bits. -/
def profileOk (p : Bytes) : Bool :=
  let range (o n lo hi : Nat) : Bool := lo ≤ fld p o n && fld p o n ≤ hi
  fld p 0 2 == 64 + 8 * spCount p && fld p 0 2 == p.length
    && dataTypes.contains (fld p 2 1) && spMosaic p ≤ 4 && ((spMosaic p == 4) == (fld p 2 1 == 0x1E))
    && (if bit (fld p 5 1) 2 then spSpeed p == 3 else spSpeed p ≤ 2)
    && range 7 1 1 4 && range 12 2 16 8192 && range 14 2 16 8192 && 1 ≤ fld p 18 2
    && 0x100 ≤ fld p 22 2 && 0x100 ≤ fld p 24 2 && range 40 2 20 2000 && range 43 1 2 32
    && (List.range (spCount p)).all (templateOk p)
    && fld p 18 2 ≤ spMaxLines p && exposureTime p ≤ blanking p

/-! ### Exposure sets (04 R143, 06 R257) -/

/-- Lines of an exposure time (06 R257). -/
def exposureLines (p : Bytes) (us : Nat) : Nat := ceilDiv (us * 1000000) (max 1 (spLineTime p))

/-- The gain codes (06 R227). -/
def againCode (p : Bytes) (g : Nat) : Nat := min (fld p 32 2) (g * fld p 26 2 / 2 ^ bits (fld p 28 1) 0 5)
def dgainCode (p : Bytes) (g : Nat) : Nat := min (fld p 34 2) (g * fld p 30 2 / 2 ^ bits (fld p 29 1) 0 5)

/-- 06 R257: the exposure and the gains fit the profile. -/
def exposureOk (p : Bytes) (us again dgain : Nat) : Bool :=
  fld p 18 2 ≤ exposureLines p us && exposureLines p us ≤ spMaxLines p && again ≤ fld p 22 2 && dgain ≤ fld p 24 2

/-! ### RFE sections (04 R146, 06 R230 to R233) -/

/-- Length of section k of RFE_SET when it starts at byte o (06 R230 to R233). -/
def rfeLen (p : Bytes) (o k : Nat) : Nat :=
  if k = 0 then 68 else if k = 1 then 2660 else if k = 2 then 8 else 8 + 4 * fld p (o + 2) 2

/-- Start of each selected section, from byte o. -/
def rfeStarts (p : Bytes) (mask : Nat) : List Nat → Nat → List (Nat × Nat)
  | [], _ => []
  | k :: ks, o => if bit mask k then (k, o) :: rfeStarts p mask ks (o + rfeLen p o k) else rfeStarts p mask ks o

/-- The selected sections (number, first byte). -/
def rfeSections (p : Bytes) (mask : Nat) : List (Nat × Nat) := rfeStarts p mask [0, 1, 2, 3] 0

/-- Total length of the selected sections. -/
def rfeTotal (p : Bytes) (mask : Nat) : Nat := ((rfeSections p mask).map (fun e => rfeLen p e.2 e.1)).sum

/-- The named bits of a section. -/
def rfeMask (p : Bytes) (e : Nat × Nat) : List Nat :=
  if e.1 = 0 then full 66 ++ rsv 2 else if e.1 = 1 then [0x01] ++ full 2659
  else if e.1 = 2 then [0x01, 0] ++ full 4 ++ rsv 2 else [0x03, 0] ++ full 4 ++ rsv 2 ++ full (4 * fld p (e.2 + 2) 2)

/-- The defect list of a section at byte o (06 R233). -/
def defectsOf (p : Bytes) (o : Nat) : List (Nat × Nat) :=
  (List.range (fld p (o + 2) 2)).map (fun k => (fld p (o + 8 + 4 * k) 2, fld p (o + 10 + 4 * k) 2))

/-- Sorted by Y, then X, without duplicates (06 R233). -/
def defectsSorted : List (Nat × Nat) → Bool
  | a :: b :: l => (a.2 < b.2 || (a.2 == b.2 && a.1 < b.1)) && defectsSorted (b :: l)
  | _ => true

/-- The values of a section (06 R230 to R233). -/
def rfeForm (p : Bytes) (e : Nat × Nat) : Bool :=
  if e.1 = 0 then fld p (e.2 + 64) 2 ≤ 4095
  else if e.1 = 1 then
    let n := fld p (e.2 + 1) 1
    n ≤ 6 && (List.range n).all (fun k =>
      let b := fld p (e.2 + 2 + k) 1
      bits b 0 4 ≤ 3 && bits b 4 4 ≤ 3 && bits b 0 4 != bits b 4 4)
  else if e.1 = 2 then fld p (e.2 + 4) 2 ≤ 256
  else fld p (e.2 + 2) 2 ≤ 1020 && defectsSorted (defectsOf p e.2)

/-- Set one section of a source's RFE (06 R230 to R233). -/
def rfeSection (p : Bytes) (r : Rfe) (e : Nat × Nat) : Rfe :=
  let o := e.2
  if e.1 = 0 then { r with bl := (List.range 16).map (fun k => fld p (o + 2 * k) 2)
                           norm := (List.range 16).map (fun k => fld p (o + 32 + 2 * k) 2), pedestal := fld p (o + 64) 2 }
  else if e.1 = 1 then
    { r with xtEnable := bit (fld p o 1) 0
             xtSlots := (List.range (fld p (o + 1) 1)).map (fun k => (bits (fld p (o + 2 + k) 1) 0 4, bits (fld p (o + 2 + k) 1) 4 4))
             xtCoef := (List.range 1326).map (fun k => fld p (o + 8 + 2 * k) 2) }
  else if e.1 = 2 then { r with grEnable := bit (fld p o 1) 0, grThreshold := fld p (o + 2) 2, grStrength := fld p (o + 4) 2 }
  else { r with dfStatic := bit (fld p o 1) 0, dfDynamic := bit (fld p o 1) 1, dfThreshold := fld p (o + 4) 2, defects := defectsOf p o }

/-- 04 R146, 06 R253: set the selected sections; one that does not apply to the mosaic has no effect. -/
def rfeApply (mosaic mask : Nat) (p : Bytes) (r : Rfe) : Rfe :=
  ((rfeSections p mask).filter (fun e => mosaic != 4 && !(mosaic == 3 && (e.1 == 1 || e.1 == 2)))).foldl (rfeSection p) r

/-! ### Model packages (04 R125) -/

/-- Fields of section entry i of a package's table. -/
def secOff (i : Nat) : Nat := 64 + 32 * i

/-- Ranges of section entries, as (first, length). -/
def secRange (p : Bytes) (i : Nat) : Nat × Nat := (fld p (secOff i + 4) 8, fld p (secOff i + 12) 4)

/-- How many entries have a TYPE and INDEX. -/
def secCount (p : Bytes) (type index : Nat) : Nat :=
  ((List.range (fld p 14 2)).filter (fun i => fld p (secOff i) 1 == type && fld p (secOff i + 1) 1 == index)).length

/-- One section entry is valid (04 R125). -/
def secOk (p : Bytes) (i : Nat) : Bool :=
  let t := fld p (secOff i) 1
  let x := fld p (secOff i + 1) 1
  let r := secRange p i
  let n := fld p 14 2
  1 ≤ t && t ≤ 5 && zeros p (secOff i + 2) 2 && zeros p (secOff i + 24) 8
    && (if t = 1 || t = 5 then x < fld p 12 1 else if t = 2 then x < fld p 13 1 else x == 0)
    && r.1 % 64 == 0 && 64 + 32 * n ≤ r.1 && r.1 + r.2 ≤ fld p 16 4
    && (t == 1 || t == 5 || fld p (secOff i + 16) 4 == 0) && (t == 2 || fld p (secOff i + 20) 4 == 0)
    && (List.range n).all (fun j => j == i || r.2 == 0 || (secRange p j).2 == 0 || r.1 + r.2 ≤ (secRange p j).1
          || (secRange p j).1 + (secRange p j).2 ≤ r.1)
    && secCount p t x == 1

/-- 04 R124 step 3: the header and every section entry (04 R125). -/
def packageOk (p : Bytes) (length : Nat) : Bool :=
  fld p 0 4 == 0x50564441 && fld p 4 2 == 3 && fld p 7 1 < 4 && 1 ≤ fld p 12 1 && fld p 12 1 ≤ 16 && 1 ≤ fld p 13 1
    && fld p 13 1 ≤ 16 && 1 ≤ fld p 14 2 && fld p 14 2 ≤ 256 && fld p 16 4 == length && fld p 20 2 ≤ 1024 && zeros p 22 2
    && (List.range (fld p 14 2)).all (secOk p)
    && (List.range (fld p 12 1)).all (fun v => secCount p 1 v == 1)
    && (List.range (fld p 13 1)).all (fun v => secCount p 2 v == 1)
    && secCount p 4 0 == (if fld p 20 2 = 0 then 0 else 1)

/-- KENNEL_KIB of a variant: the sum over its type 1 and type 5 entries (04 R125). -/
def variantKib (p : Bytes) (v : Nat) : Nat :=
  ((List.range (fld p 14 2)).map (fun i =>
    if (fld p (secOff i) 1 == 1 || fld p (secOff i) 1 == 5) && fld p (secOff i + 1) 1 == v then fld p (secOff i + 16) 4 else 0)).sum

/-- Kennel units of a variant's weight extent (10 R415). -/
def variantUnits (p : Bytes) (v : Nat) : Nat := ceilDiv (variantKib p v) 128

/-- The header of the package under a handle. -/
def headOf (s : State) (h : Nat) : Bytes := (((s.model h).package).map (·.head)).getD []

/-- A variant of a model is resident and not being rewritten (05 R196, 13 R546). -/
def variantReady (s : State) (h v : Nat) : Bool :=
  bit (s.model h).resident v
    && !((s.residency ++ s.residing.toList).any (fun o => o.rewrite && o.handle == h && bit o.mask v))

end Sys2Proof.Machine
end

