-- ==== Sys2Proof/Machine/Flags.lean ====
section
/-! DEFINITION. The flags: FRAME_DONE's (15 R610), those of a statistics record (06 R234), of a VOTE (15 R609), and the SCU's
SAT_FLAGS (08 R319). -/
namespace Sys2Proof.Machine

/-- The FRAME_DONE flags (15 R610). -/
inductive FFlag where
  | short | long | width | degraded | repeated | black | gap | stale | fallback
deriving DecidableEq, Repr

/-- Bit of a flag in FRAME_DONE (15 R610). -/
def FFlag.bit : FFlag → Nat
  | .short => 0 | .long => 1 | .width => 2 | .degraded => 3 | .repeated => 4 | .black => 5 | .gap => 6 | .stale => 7 | .fallback => 8

/-- A flags word with a flag set. -/
def setFlag (w : U16) (f : FFlag) : U16 := w ||| BitVec.ofNat 16 (2 ^ f.bit)

/-- A flag of a flags word. -/
def hasFlag (w : U16) (f : FFlag) : Bool := w.getLsbD f.bit

/-- FLAGS of a statistics record (06 R234): SHORT, LONG, WIDTH and DEGRADED as in FRAME_DONE, SATURATED, IR_FIRED, IR_CLIPPED,
EMB_TRUNCATED. -/
def recordFlags (w : U16) (saturated fired clipped truncated : Bool) : Nat :=
  w.toNat % 16 + 16 * b2n saturated + 32 * b2n fired + 64 * b2n clipped + 128 * b2n truncated

/-- Byte 24 of VOTE (15 R609). -/
def voteFlags (applied pinned degraded changed candidate : Bool) : Nat :=
  b2n applied + 2 * b2n pinned + 4 * b2n degraded + 8 * b2n changed + 16 * b2n candidate

end Sys2Proof.Machine
end

