-- ==== Sys2Proof/Machine/Ofm.lean ====
section
/-! DEFINITION. The output formatter's arithmetic (07 R275, R277, R308, R309): where an output pixel reads, the averages and the polyphase
filter, the colour conversion, the chroma filter and the bytes of a row. Functions of numbers alone. -/
namespace Sys2Proof.Machine

/-- A picture: its sample at a row, a column and a channel (0 to 2 the colour components, 3 the IR plane), 10 bits (07 R277). -/
abbrev Pix := Nat → Nat → Nat → Nat

/-! ### Positions (07 R308, R309) -/

/-- One axis of a descriptor: the crop's first sample and length, the output length, the filter's taps. -/
structure Axis where
  first : Nat
  len : Nat
  out : Nat
  taps : Nat
deriving DecidableEq, Repr

/-- The axes of a descriptor: 8 taps horizontally and 6 vertically (07 R309). -/
def axisX (d : Desc) : Axis := { first := d.cropX, len := d.cropW, out := max 1 d.outW, taps := 8 }
def axisY (d : Desc) : Axis := { first := d.cropY, len := d.cropH, out := max 1 d.outH, taps := 6 }

/-- How many samples are averaged first: the least of 1, 2 and 4 that brings the ratio to 1/2 or above (07 R309). -/
def Axis.average (a : Axis) : Nat := if a.len ≤ 2 * a.out then 1 else if a.len ≤ 4 * a.out then 2 else 4

/-- The position output sample i reads, in 1/64 of an averaged sample, rounded to the nearest (07 R308). Averages start at the first sample
of the network output (DESIGN CHOICE, assumption 82). -/
def Axis.position (a : Axis) (i : Nat) : Int :=
  let den : Int := 2 * a.out * a.average
  (128 * (2 * a.out * a.first + (2 * i + 1) * a.len - a.average * a.out : Int) + den) / (2 * den)

/-- The averaged sample before the first tap (07 R309). -/
def Axis.base (a : Axis) (i : Nat) : Int := a.position i / 64 - (a.taps / 2 - 1 : Nat)

/-- A coordinate drawn into the valid extent: beyond it the nearest valid sample is repeated (07 R308). -/
def clampTo (n : Nat) (i : Int) : Nat := min i.toNat (n - 1)

/-- Averaged sample k of a line of n samples, rounded half up (07 R309). -/
def averaged (m n : Nat) (line : Nat → Nat) (k : Int) : Nat :=
  (((List.range m).map (fun t => line (clampTo n (m * k + t)))).sum + m / 2) / m

/-! ### The filter's weights (07 R309) -/

/-- pi times 2^80, rounded. -/
def piQ : Int := 3797952473636338580787994

/-- sin(pi n / d) times 2^80 for n / d from 0 to 1/2: the series' first terms. -/
def sinSmall (n d : Int) : Int :=
  let t := piQ * n / d
  let t2 := t * t / 2 ^ 80
  ((List.range 16).foldl (fun (acc : Int × Int) k => (acc.1 + acc.2, -(acc.2 * t2) / 2 ^ 80 / ((2 * k + 2) * (2 * k + 3)))) (0, t)).1

/-- sin(pi n / d) times 2^80 for n of at least 0. -/
def sinQ (n d : Int) : Int :=
  let m := n % (2 * d)
  let s : Int := if d ≤ m then -1 else 1
  let m := if d ≤ m then m - d else m
  s * sinSmall (if d < 2 * m then d - m else m) d

/-- sinc(n / d) times 2^80 (07 R309). -/
def sincQ (n d : Int) : Int :=
  let m := if n < 0 then -n else n
  if m = 0 then 2 ^ 80 else sinQ m d * 2 ^ 80 / (piQ * m / d)

/-- The weight of a tap at a distance of n / 64 samples, in 1/1,024, rounded to nearest: s sinc(s x) sinc(x / a) with s = min(1, r) (07 R309);
r is p / q. -/
def tapWeight (a p q : Nat) (n : Int) : Int :=
  let sn : Int := min p q
  let w := sn * (sincQ (sn * n) (64 * q) * sincQ n (64 * a) / 2 ^ 80) / q
  (w * 1024 + 2 ^ 79) / 2 ^ 80

/-- The weights of a phase, normalised to a sum of 1,024 by adding the difference to the largest tap (07 R309). -/
def tapWeights (x : Axis) (phase : Int) : List Int :=
  let w := (List.range x.taps).map (fun k => tapWeight x.taps (x.out * x.average) x.len (64 * (k : Int) - 64 * ((x.taps / 2 - 1 : Nat) : Int) - phase))
  let big := w.idxOf (w.foldl max (w.headD 0))
  modNth (· + (1024 - w.sum)) big w

/-- Filter a line of averaged samples for output sample i: rounded half up, clamped to 10 bits (07 R309). -/
def filterAt (x : Axis) (n : Nat) (line : Nat → Nat) (i : Nat) : Nat :=
  let w := tapWeights x (x.position i % 64)
  let v := ((w.zipIdx.map (fun e => e.1 * (averaged x.average n line (x.base i + e.2) : Int))).sum + 512) / 1024
  min v.toNat 1023

/-- The scaled sample of an output pixel from a network output of w x h samples: along the row first, then down the column (the order is
DEDUCED from 07 R309's, assumption 82). -/
def scaled (d : Desc) (w h : Nat) (pic : Pix) (y x ch : Nat) : Nat :=
  filterAt (axisY d) h (fun r => filterAt (axisX d) w (fun c => pic r c ch) x) y

/-- Bilinear interpolation of a line of n samples at output sample i, weights in 1/1,024, rounded half up (07 R308, 08 R328). -/
def linearAt (x : Axis) (n : Nat) (line : Nat → Nat) (i : Nat) : Nat :=
  let p := x.position i
  let f := (p % 64).toNat * 16
  (line (clampTo n (p / 64)) * (1024 - f) + line (clampTo n (p / 64 + 1)) * f + 512) / 1024

/-- The bilinear upscale of a picture of w x h samples by a factor (14 R600): along the row, then down the column. -/
def upscaled (factor w h : Nat) (pic : Pix) : Pix := fun r c ch =>
  linearAt { first := 0, len := h, out := h * factor, taps := 2 } h
    (fun k => linearAt { first := 0, len := w, out := w * factor, taps := 2 } w (fun j => pic k j ch) c) r

/-! ### Colour (07 R277) -/

/-- A coefficient in signed 2.14, rounded to nearest. -/
def q14 (n d : Int) : Int := (2 * n * 16384 + d) / (2 * d)

/-- Kr and Kb of BT.709 and BT.2020 in 1/10,000 (PRESUMED from the two standards, assumption 82). -/
def lumaWeights (bt2020 : Bool) : Int × Int := if bt2020 then (2627, 593) else (2126, 722)

/-- One component: coefficients over the three input components, their offsets, the output offset, and the output range. -/
def matRow (c : Int × Int × Int) (off : Int × Int × Int) (outOff lo hi : Int) (v : Nat × Nat × Nat) : Nat :=
  let r := (c.1 * (v.1 - off.1) + c.2.1 * (v.2.1 - off.2.1) + c.2.2 * (v.2.2 - off.2.2) + 8192) / 16384 + outOff
  (max lo (min hi r)).toNat

/-- Full-range RGB from the network domain. -/
def toRgb (rgb bt2020 full : Bool) (v : Nat × Nat × Nat) : Nat × Nat × Nat :=
  let k := lumaWeights bt2020
  let g := 10000 - k.1 - k.2
  let yr : Int := if full then 1023 else 876
  let cr : Int := if full then 1023 else 896
  let o : Int := if full then 0 else 64
  if rgb then
    let c := q14 1023 yr
    (matRow (c, 0, 0) (o, o, o) 0 0 1023 v, matRow (0, c, 0) (o, o, o) 0 0 1023 v, matRow (0, 0, c) (o, o, o) 0 0 1023 v)
  else
    let y := q14 1023 yr
    (matRow (y, 0, q14 (2 * (10000 - k.1) * 1023) (10000 * cr)) (o, 512, 512) 0 0 1023 v,
     matRow (y, q14 (-(2 * k.2 * (10000 - k.2) * 1023)) (10000 * g * cr), q14 (-(2 * k.1 * (10000 - k.1) * 1023)) (10000 * g * cr)) (o, 512, 512) 0 0 1023 v,
     matRow (y, q14 (2 * (10000 - k.2) * 1023) (10000 * cr), 0) (o, 512, 512) 0 0 1023 v)

/-- Limited-range YUV from the network domain. -/
def toYuv (rgb bt2020 full : Bool) (v : Nat × Nat × Nat) : Nat × Nat × Nat :=
  let k := lumaWeights bt2020
  let g := 10000 - k.1 - k.2
  let o : Int := if full then 0 else 64
  if rgb then
    let rr : Int := if full then 1023 else 876
    (matRow (q14 (k.1 * 876) (10000 * rr), q14 (g * 876) (10000 * rr), q14 (k.2 * 876) (10000 * rr)) (o, o, o) 64 64 940 v,
     matRow (q14 (-(k.1 * 896)) (2 * (10000 - k.2) * rr), q14 (-(g * 896)) (2 * (10000 - k.2) * rr), q14 896 (2 * rr)) (o, o, o) 512 64 960 v,
     matRow (q14 896 (2 * rr), q14 (-(g * 896)) (2 * (10000 - k.1) * rr), q14 (-(k.2 * 896)) (2 * (10000 - k.1) * rr)) (o, o, o) 512 64 960 v)
  else
    let y := if full then q14 876 1023 else 16384
    let c := if full then q14 896 1023 else 16384
    (matRow (y, 0, 0) (o, 512, 512) 64 64 940 v, matRow (0, c, 0) (o, 512, 512) 512 64 960 v, matRow (0, 0, c) (o, 512, 512) 512 64 960 v)

/-- A pixel of an output in its format's colour, 10 bits a component (07 R277, step 1). -/
def outPixel (p : Plan) (d : Desc) (w h : Nat) (pic : Pix) (y x : Nat) : Nat × Nat × Nat :=
  let v := (scaled d w h pic y x 0, scaled d w h pic y x 1, scaled d w h pic y x 2)
  if d.format ≤ 2 then toYuv p.rgb p.bt2020 p.fullRange v else toRgb p.rgb p.bt2020 p.fullRange v

/-- The 8-bit reduction (07 R277, step 3). -/
def to8 (v : Nat) : Nat := min 255 ((v + 2) / 4)

/-- A chroma sample of a 4:2:0 output: columns outside the crop repeat the nearest inside (07 R277, step 2). -/
def chromaAt (w : Nat) (c : Nat → Nat → Nat) (x y : Nat) : Nat :=
  let at_ (i : Int) (r : Nat) : Nat := c (clampTo w i) r
  let col (r : Nat) : Nat := at_ (2 * x - 1) r + 2 * at_ (2 * x) r + at_ (2 * x + 1) r
  min 1023 ((col (2 * y) + col (2 * y + 1) + 4) / 8)

/-- The bytes of row y of plane 0 of an output (07 R275, R277). -/
def plane0Row (p : Plan) (d : Desc) (w h : Nat) (pic : Pix) (y : Nat) : Bytes :=
  (List.range d.outW).flatMap (fun x =>
    let v := outPixel p d w h pic y x
    match d.format with
    | 1 => le 1 (to8 v.1)
    | 2 => le 2 (64 * v.1)
    | 3 => le 1 (to8 v.1) ++ le 1 (to8 v.2.1) ++ le 1 (to8 v.2.2)
    | 4 => le 4 (v.1 + 1024 * v.2.1 + 1048576 * v.2.2 + 3 * 1073741824)
    | 5 => le 1 (to8 (scaled d w h pic y x 3))
    | _ => le 2 (64 * scaled d w h pic y x 3))

/-- The bytes of row y of plane 1 of a 4:2:0 output (07 R275, R277). -/
def plane1Row (p : Plan) (d : Desc) (w h : Nat) (pic : Pix) (y : Nat) : Bytes :=
  (List.range (d.outW / 2)).flatMap (fun x =>
    let cb := chromaAt d.outW (fun c r => (outPixel p d w h pic r c).2.1) x y
    let cr := chromaAt d.outW (fun c r => (outPixel p d w h pic r c).2.2) x y
    if d.format = 1 then le 1 (to8 cb) ++ le 1 (to8 cr) else le 2 (64 * cb) ++ le 2 (64 * cr))

end Sys2Proof.Machine
end

