-- ==== Sys2Proof/Machine/Streams.lean ====
section
/-! DEFINITION. Streams at work (05, 07, 13 R540 to R549, 02 R43 to R57): the output timeline, pictures in host memory, the bind
point, FRAME_DONE in order, alignment groups, votes, the commit of changes and the frame boundary. -/
namespace Sys2Proof.Machine

/-! ### Free data (assumption 6) -/

/-- n free bytes. -/
def freeBytes (n : Nat) (s : State) : Bytes × State := ((List.range n).map (Config.freeByte s.drawn), { s with drawn := s.drawn + 1 })

/-- A free number below a bound. -/
def freeNat (bound : Nat) (s : State) : Nat × State := (Config.freeValue s.drawn % max 1 bound, { s with drawn := s.drawn + 1 })

/-! ### Pictures (05 R207, 07 R275, R276) -/

/-- Bytes of a row of a plane. -/
def planeBytes (format w plane : Nat) : Nat := if plane = 0 then (rowBytes format w).1 else (rowBytes format w).2

/-- Rows of a plane (07 R275). -/
def planeRows (format h plane : Nat) : Nat := if plane = 0 then h else if chroma420 format then h / 2 else 0

/-- A black row (05 R207). -/
def blackRow (format w plane : Nat) : Bytes :=
  match format with
  | 1 => List.replicate w (if plane = 0 then 16 else 128)
  | 2 => (List.replicate w (if plane = 0 then ([0x00, 0x10] : Bytes) else [0x00, 0x80])).flatten
  | 3 => List.replicate (3 * w) 0
  | 4 => (List.replicate w ([0, 0, 0, 0xC0] : Bytes)).flatten
  | _ => List.replicate (planeBytes format w plane) 0

/-- The bytes of one EDGE_FILL pixel of a plane (07 R276). -/
def edgePixel (format plane v : Nat) : Bytes :=
  match format with
  | 1 => if plane = 0 then le 1 (bits v 0 8) else le 1 (bits v 8 8) ++ le 1 (bits v 16 8)
  | 2 => if plane = 0 then le 2 (64 * bits v 0 10) else le 2 (64 * bits v 10 10) ++ le 2 (64 * bits v 20 10)
  | 3 => le 3 v
  | 4 => le 4 v
  | 5 => le 1 v
  | _ => le 2 v

/-- The fill between a row's end and the end of its pitch (07 R276). -/
def edgeBytes (c : StreamCfg) (format plane used pitch : Nat) : Bytes :=
  let px := edgePixel format plane c.edgeValue.toNat
  if c.edgeFill then (List.replicate ((pitch - used) / max 1 px.length) px).flatten else []

/-- Give the bits that a format fixes their value: P010's low bits 0, RGBA1010102's alpha 3 (07 R275). -/
def formatBytes (format : Nat) (row : Bytes) : Bytes :=
  row.zipIdx.map (fun e => if format = 2 && e.2 % 2 = 0 then e.1 &&& 0xC0#8 else if format = 4 && e.2 % 4 = 3 then e.1 ||| 0xC0#8 else e.1)

/-- Write row r of a plane of a picture into a buffer (07 R276). -/
def writeRow (c : StreamCfg) (b : Buf) (d : Desc) (plane r : Nat) (row : Bytes) (s : State) : State :=
  let pitch := if plane = 0 then b.pitch0 else b.pitch1
  s.send (.host ((if plane = 0 then b.plane0 else b.plane1) + r * pitch) (row ++ edgeBytes c d.format plane row.length pitch))

/-- What fills a substitute picture: black (05 R207), or the rows of planes 0 and 1 of an earlier output. -/
inductive Pic where
  | black
  | rows (r0 r1 : Tab Bytes)
deriving DecidableEq, Repr

/-- Row r of a plane of a substitute picture; a row that this device does not hold, since another member made it, is free. -/
def picRow (f : Pic) (d : Desc) (plane r : Nat) (s : State) : Bytes × State :=
  match f with
  | .black => (blackRow d.format d.outW plane, s)
  | .rows r0 r1 =>
    match (if plane = 0 then r0 else r1).find? (fun e => e.1 == r) with
    | some e => (e.2, s)
    | none => let (row, s) := freeBytes (planeBytes d.format d.outW plane) s; (formatBytes d.format row, s)

/-- Write a plane's rows. -/
def writePlane (c : StreamCfg) (b : Buf) (d : Desc) (f : Pic) (plane : Nat) (s : State) : State :=
  (List.range (planeRows d.format d.outH plane)).foldl (fun s r => writeRow c b d plane r (picRow f d plane r s).1 (picRow f d plane r s).2) s

/-- Write a whole picture. -/
def writePicture (c : StreamCfg) (b : Buf) (d : Desc) (f : Pic) (s : State) : State :=
  writePlane c b d f 1 (writePlane c b d f 0 s)

/-- The rows of a plane that a substitute picture leaves as an output's content. -/
def Pic.kept (f : Pic) (d : Desc) (plane : Nat) : Tab Bytes :=
  match f with
  | .black => (List.range (planeRows d.format d.outH plane)).map (fun r => (r, blackRow d.format d.outW plane))
  | .rows r0 r1 => if plane = 0 then r0 else r1

/-! ### The output timeline (07 R278, R305, R311) -/

/-- p_out over p_in as a fraction. -/
def stepRatio (c : StreamCfg) : Nat × Nat := (max 1 (c.outDen * c.inNum), max 1 (c.outNum * c.inDen))

/-- One output instant: its number j, its phase, its position and its offset into its interval, ns rounded down (07 R278). -/
structure Instant where
  j : Nat
  phase : Nat
  pos : Nat
  delta : Nat
deriving DecidableEq, Repr

/-- The instants with frame number n (07 R278). -/
def instants (c : StreamCfg) (n : Nat) : List Instant :=
  let a := (stepRatio c).1
  let b := (stepRatio c).2
  let j0 := ceilDiv (n * b) a
  let j1 := ceilDiv ((n + 1) * b) a
  let off := if j0 * a % b = 0 then 0 else 1
  (List.range (j1 - j0)).map (fun k =>
    let j := j0 + k
    { j := j, phase := k + off, pos := 256 * (j * a % b) / b, delta := (j * a % b) * c.inDen * 1000000000 / (b * max 1 c.inNum) })

/-- FILM_POS of output j under a lock (07 R305): C is 5/2 or 2 input periods. -/
def filmPosOf (cadence anchor : Nat) (c : StreamCfg) (j : Nat) : Nat :=
  let a := (stepRatio c).1
  let b := (stepRatio c).2
  let num := j * a - anchor * b
  let cn := if cadence = 1 then 5 else 4
  256 * (2 * num % (cn * b)) / (cn * b)

/-- Number k of the unique frames from the anchor on, counted without wrapping (07 R305): the 3:2 pattern begins with its 3-run. -/
def filmFrame (cadence anchor k : Nat) : Nat := if cadence = 1 then anchor + 5 * (k / 2) + 3 * (k % 2) else anchor + 2 * k

/-- The frames output j of frame number n is made from: the one before its interval, the interval's first and its second, the unique frames
under a lock (07 R280, R305). -/
def spanOf (cadence anchor : Nat) (c : StreamCfg) (n j : Nat) : Nat × Nat × Nat :=
  if cadence = 0 then (n - 1, n, n + 1)
  else
    let a := (stepRatio c).1
    let b := (stepRatio c).2
    let k := 2 * (j * a - anchor * b) / ((if cadence = 1 then 5 else 4) * b)
    (if k = 0 then anchor - 2 else filmFrame cadence anchor (k - 1), filmFrame cadence anchor k, filmFrame cadence anchor (k + 1))

/-- The descriptors of a configuration that emit output j (07 R311). -/
def dueDescs (c : StreamCfg) (j : Nat) : Tab Desc := c.descs.filter (fun e => j % max 1 e.2.rateDiv == 0)

/-- D0 of a plan, or the input period (07 R299). -/
def deadlineBase (p : Plan) (c : StreamCfg) : Nat := p.d0.getD (periodNs c)

/-- An output at a phase follows the rules for interpolated outputs: any phase above 0, and every one under a film lock (07 R288, R305). -/
def interpPhase (x : Stream) (phase : Nat) : Bool := phase != 0 || (x.cadence != 0 && interpolating x.cfg)

/-- The outputs with frame number n, whose number counted without wrapping is wide, accepted at an instant, under the stream's configuration
and cadence (07 R278, R299); cause is the fault of 02 R55 that already holds its work up, 0 for none. -/
def newOutputs (p : Plan) (x : Stream) (n : U32) (wide at_ cause : Nat) (flags esid : U16) : List Output :=
  (instants x.cfg wide).flatMap (fun i => (dueDescs x.cfg i.j).map (fun e =>
    { frame := n, phase := i.phase, pos := i.pos, desc := e.1, d := e.2, interp := interpPhase x i.phase,
      cadence := x.cadence, filmPos := if x.cadence = 0 then 0 else filmPosOf x.cadence x.anchor x.cfg i.j,
      span := spanOf x.cadence x.anchor x.cfg wide i.j, deadline := at_ + deadlineBase p x.cfg + i.delta, buf := none, bound := false, flags := flags, rowsDone := 0,
      fallbackBands := 0, esid := esid, held := false, faultCause := cause, complete := false }))

/-- L_F at the stream's floor (07 R299). -/
def streamLead (s : State) (x : Stream) : Nat :=
  match planOf s x.cfg with
  | some p => leadNs p x.cfg (shareOf s p x.cfg) x.cores.length (mhz x.cert.floorOp) (hostStreams s)
  | none => 0

/-- The OPEN bands of the interpolated outputs with frame number n (07 R282, R299). -/
def newBands (s : State) (p : Plan) (x : Stream) (n : U32) (wide at_ : Nat) : List Band :=
  ((instants x.cfg wide).filter (fun i => interpPhase x i.phase)).flatMap (fun i =>
    (match shareOf s p x.cfg with | some e => (List.range e.2).map (e.1 + ·) | none => List.range (ceilDiv (netDims p x.cfg).2 16)).map (fun b =>
      { interval := n, phase := i.phase, index := b, state := .open_,
        releaseBy := at_ + deadlineBase p x.cfg + i.delta - streamLead s x }))

/-! ### Outputs of a stream -/

/-- Change the outputs of one identity on one descriptor. -/
def Stream.onOutput (x : Stream) (f : U32) (ph d : Nat) (g : Output → Output) : Stream :=
  { x with outputs := x.outputs.map (fun o => if o.frame = f && o.phase == ph && o.desc == d then g o else o) }

/-- The output of an identity on a descriptor. -/
def Stream.output (x : Stream) (f : U32) (ph d : Nat) : Option Output :=
  x.outputs.find? (fun o => o.frame = f && o.phase == ph && o.desc == d)

/-- Drop an output. -/
def Stream.dropOutput (x : Stream) (f : U32) (ph d : Nat) : Stream :=
  { x with outputs := x.outputs.filter (fun o => !(o.frame = f && o.phase == ph && o.desc == d)) }

/-- Set a flag on every output with a frame number. -/
def Stream.flagFrame (x : Stream) (f : U32) (fl : FFlag) : Stream :=
  { x with outputs := x.outputs.map (fun o => if o.frame = f then { o with flags := setFlag o.flags fl } else o) }

/-- An output that a fault of 02 R55 can make late: neither starved nor STALE nor a group substitute (05 R208, R218). -/
def Output.atRisk (o : Output) : Bool := !o.held && !o.sub && !o.complete && !hasFlag o.flags .stale

/-- The outputs whose work a run for frame f does: those numbered f, and those of the interval before it (07 R289). -/
def runOutput (f : U32) (o : Output) : Bool := o.frame = f || o.frame = f - 1

/-- A fault of 02 R55 meets the outputs that satisfy p: the first cause counts (15 R618), and what they lack is substituted when hurt holds. -/
def Stream.meetFault (x : Stream) (cause : Nat) (hurt : Bool) (p : Output → Bool) : Stream :=
  { x with outputs := x.outputs.map (fun o => if o.atRisk && p o then
      { o with flags := if hurt then setFlag o.flags .degraded else o.flags, faultCause := if o.faultCause = 0 then cause else o.faultCause } else o) }

/-- A fault of 02 R55 strikes the work of a stream: its outputs in work are DEGRADED, and the first cause counts (15 R618). -/
def strike (sc cause : Nat) (s : State) : State := s.setStream sc ((s.stream sc).meetFault cause true (fun _ => true))

/-- A fault of 02 R55 that only delays the work: the first cause counts (15 R618). -/
def delayBy (sc cause : Nat) (s : State) : State := s.setStream sc ((s.stream sc).meetFault cause false (fun _ => true))

/-- The fault of 02 R55 that holds up work accepted now: a DRAM channel that is retraining (cause 2), 0 for none. -/
def standingFault (s : State) : Nat := if s.dram.channels.any (fun e => e.2.retrainingSince.isSome) then 2 else 0

/-- The stream runs on a pack (14 R588). -/
def packStream (s : State) (sc : Nat) : Bool :=
  (s.pack.state == .formed || s.pack.state == .degraded) && ((planOf s (s.stream sc).cfg).map (fun p => decide (1 < p.members))).getD false

/-- This device is a follower that carries part of the stream (14 R593 to R595). -/
def followsPack (s : State) (sc : Nat) : Bool := packStream s sc && !s.pack.leader

/-- Send a packet to every other member (14). -/
def toMembers (kind index : Nat) (arg : U32) (data : Bytes) (s : State) : State :=
  (otherMembers s).foldl (fun s m => sendPkt m kind index arg data s) s

/-! ### FRAME_DONE (01 R21, R27; 15 R610) -/

/-- 15 R610: the payload. -/
def frameDoneBytes (camera : Bool) (o : Output) (flags : U16) : Bytes :=
  le 4 o.frame.toNat ++ le 1 o.phase ++ le 1 o.pos ++ le 2 flags.toNat ++ le 4 ((o.buf.map (fun b => b.cookie.toNat)).getD 0)
    ++ le 1 (o.desc + 8 * o.cadence) ++ le 1 o.filmPos ++ le 2 (if camera then o.esid.toNat else o.fallbackBands)

/-- Issue FRAME_DONE for an output with its flags, DEGRADED while the certificate is revoked and for a frame accepted before it was
restored (02 R52, R53). Its rows stay as the descriptor's last completed output (02 R56). -/
def frameDone (sc : Nat) (o : Output) (s : State) : State :=
  let x := s.stream sc
  let fl := if x.cert.state == .revoked || o.uncertified then setFlag o.flags .degraded else o.flags
  let x := { x with delivered := Tab.put x.delivered o.desc true, lastDone := o.frame, lastDonePhase := o.phase
                    lastPic := if o.rows0.isEmpty then x.lastPic else Tab.put x.lastPic o.desc (o.rows0, o.rows1) }
  let x := if hasFlag fl .degraded then x.count .degraded else x
  let x := if hasFlag fl .stale then x.count .stale else x
  emit (srcSc sc) 0x0100 (frameDoneBytes (x.cfg.sourceKind == 2) o fl) (s.setStream sc x)

/-- The first output of a descriptor leaves: FRAME_DONE, or the hold buffer (05 R216, R217). -/
def leave (sc : Nat) (o : Output) (s : State) : State :=
  let s := s.setStream sc ((s.stream sc).dropOutput o.frame o.phase o.desc)
  if o.held then s.setStream sc { s.stream sc with hold := Tab.put (s.stream sc).hold o.desc o } else frameDone sc o s

/-- 01 R21: issue FRAME_DONE for finished outputs of a descriptor up to the first unfinished one; fuel bounds the outputs. -/
def flushDesc (sc d : Nat) : Nat → State → State
  | 0, s => s
  | fuel + 1, s =>
    match (s.stream sc).outputs.find? (fun o => o.desc == d) with
    | some o => if o.complete then flushDesc sc d fuel (leave sc o s) else s
    | none => s

/-- Issue what is finished on every descriptor. -/
def flush (sc : Nat) (s : State) : State :=
  (List.range 8).foldl (fun s d => flushDesc sc d (s.stream sc).outputs.length s) s

/-! ### Alignment groups (05 R203 to R212) -/

/-- P_g: the longest input period among the members, ns (05 R203). -/
def groupPeriod (s : State) (g : Group) : Nat := (g.list.map (fun m => periodNs (s.stream m).cfg)).foldl max 0

/-- m of a member: its rate over the lowest member rate (05 R203). -/
def memberMultiple (s : State) (g : Group) (sc : Nat) : Nat :=
  let p := max 1 (periodNs (s.stream sc).cfg)
  (groupPeriod s g + p / 2) / p

/-- Every member rate is an integer multiple from 1 to 8 of the lowest (05 R203). -/
def ratesAlign (cfgs : List StreamCfg) : Bool :=
  let slow := cfgs.foldl (fun (b : Nat × Nat) c => if c.inNum * b.2 < b.1 * c.inDen then (c.inNum, c.inDen) else b) (65535, 1)
  cfgs.all (fun c => (c.inNum * slow.2) % (max 1 (slow.1 * c.inDen)) == 0 && 1 ≤ c.inNum * slow.2 / max 1 (slow.1 * c.inDen)
    && c.inNum * slow.2 / max 1 (slow.1 * c.inDen) ≤ 8)

/-! ### After an output has left: the drain and the group (05 R209, R221) -/

/-- The current mosaic of a source (06 R226). -/
def sourceMosaic (s : State) (src : Nat) : Nat := spMosaic (s.source src).profile

/-- A change of the shadow set that is not the stream's own: RFE sections, an IRLED channel (04 R146, R147). -/
def applySide (c : Change) (s : State) : State :=
  match c with
  | .rfe src mask p => s.setSource src { s.source src with rfe := rfeApply (sourceMosaic s src) mask p (s.source src).rfe }
  | .irled ch ma src duty =>
    s.setIrled ch { mode := 1, current := ma, source := src, maxDuty := duty, sinking := false, pulse := none, faulted := false, fresh := true }
  | _ => s

/-- The drain of a stream is complete once nothing is left of its outputs (05 R221). -/
def drainDone (sc : Nat) (s : State) : State :=
  if (s.stream sc).state == .draining && (s.stream sc).outputs.isEmpty then endStream false applySide sc s else s

/-- What follows when outputs of a stream may have left. -/
def afterOutputs (sc : Nat) (s : State) : State :=
  let s := flush sc s
  let s := match (s.stream sc).group with | some g => groupFinish g s | none => s
  drainDone sc s

/-! ### The bind point (05 R213, R216; 14 R593) -/

/-- The output is starved: SKIP_OUTPUT discards it, HOLD_LAST writes it into the hold buffer, where it replaces any earlier held output
(05 R216). In a pack every member discards it, the leader too (14 R593; DEDUCED, assumption 95). -/
def starve (sc : Nat) (f : U32) (ph d : Nat) (s : State) : State :=
  let x := s.stream sc
  let first := !(Tab.get false x.starved d)
  let x : Stream := { x.count .skipped with starved := Tab.put x.starved d true }
  let x : Stream :=
    if x.cfg.starve = 1 && !packStream s sc then
      let x : Stream := { x with hold := Tab.del x.hold d, outputs := x.outputs.filter (fun o => !(o.desc == d && o.held)) }
      x.onOutput f ph d (fun o => { o with bound := true, held := true })
    else x.dropOutput f ph d
  let s := s.setStream sc x
  if first then emit (srcSc sc) 0x0104 (le 4 f.toNat ++ le 1 ph ++ le 1 d ++ le 1 x.cfg.starve) s else s

/-- The bind point of an output: the oldest buffer of its descriptor, or starvation. On a follower the leader is asked. -/
def bindOutput (sc : Nat) (f : U32) (ph d : Nat) (s : State) : State :=
  let x := s.stream sc
  match x.output f ph d with
  | none => s
  | some o =>
    if o.bound then s
    else if followsPack s sc then
      if s.pack.bindAsked.contains (sc, f, ph, d) then s
      else sendPkt s.pack.leaderPos 0x29 sc f (le 1 ph ++ le 1 d) { s with pack := { s.pack with bindAsked := s.pack.bindAsked ++ [(sc, f, ph, d)] } }
    else
      match Tab.get [] x.outBufs d with
      | b :: bs =>
        let x := { x with outBufs := Tab.put x.outBufs d bs, starved := Tab.put x.starved d false }
        let s := s.setStream sc (x.onOutput f ph d (fun o => { o with bound := true, buf := some b }))
        if packStream s sc then toMembers 0x2A sc f (le 1 ph ++ le 1 d ++ le 1 0) s else s
      | [] =>
        let s := starve sc f ph d s
        if packStream s sc then toMembers 0x2A sc f (le 1 ph ++ le 1 d ++ le 1 0xFF) s else s

/-! ### The content of outputs (07 R277, R287, R300) -/

/-- The record of a frame. -/
def Stream.frameOf (x : Stream) (n : U32) : Option FrameIn := x.frames.find? (fun e => e.frame = n)

/-- The configuration that the outputs of interval n to n + 1 are made with: that of frame n (07 R291, 01 R17). -/
def Stream.cfgOf (x : Stream) (n : U32) : StreamCfg := ((x.frameOf n).map (·.cfg)).getD x.cfg

/-- Frame n is in the stream and carries processed content (07 R292). -/
def Stream.present (x : Stream) (n : U32) : Bool := ((x.frameOf n).map (fun e => !e.absent)).getD false

/-- The frame of a number counted without wrapping, where it carries processed content (07 R292). -/
def Stream.frameAt (x : Stream) (w : Nat) : Option FrameIn := x.frames.find? (fun e => e.wide == w && !e.absent)

/-- Phase 0 of a frame is the frame itself in the network domain: an interpolating plan without SR, or one without a network (07 R287;
06 R253). -/
def plainPhase (p : Plan) : Bool := p.factor == 1 && (p.interpolates || p.layers.isEmpty)

/-- Phase 0 of frame n in the network domain: its SR output, or the frame itself (07 R287), under the model, variant and tuning of frame n
(01 R17). Its samples are free values of 10 bits (assumption 83). -/
def netPicture (p : Plan) (f : FrameIn) : Pix := fun r c ch =>
  (if plainPhase p then Config.inputSample f.token r c ch
   else Config.network [f.cfg.handle, f.cfg.plan, f.variant, f.tuning] f.token [r, c, ch]) % 1024

/-- What the refine network makes for an output of frame n (07 R280, R287, R305): of the frames of its span, at its position. Its samples are
free values of 10 bits (assumption 83). -/
def betweenPicture (x : Stream) (f : FrameIn) (o : Output) : Pix := fun r c ch =>
  let token (w : Nat) : Nat := ((x.frameAt w).map (·.token)).getD f.token
  Config.network [f.cfg.handle, f.cfg.plan, f.variant, f.tuning] (token o.span.2.1)
    [token o.span.2.2, o.phase, o.pos, o.filmPos, r, c, ch] % 1024

/-- The network picture an output is cut from: its rows in FALLBACK bands hold the blend of the phase-0 outputs of frames n and n + 1, or
those of n (07 R300); the others what the network makes. -/
def outputPicture (s : State) (sc : Nat) (p : Plan) (o : Output) : Pix := fun r c ch =>
  let x := s.stream sc
  match x.frameOf o.frame with
  | none => 0
  | some f =>
    let fill := if o.interp then (x.bands.find? (fun b => b.interval = o.frame && b.phase == o.phase && b.index == r / 16)).bind (·.fill) else none
    let base := netPicture p f r c ch
    match fill, x.frameOf (o.frame + 1) with
    | some .blend, some g => (base * (256 - o.pos) + netPicture p g r c ch * o.pos + 128) / 256
    | some _, _ => base
    | none, _ => if o.interp then betweenPicture x f o r c ch else base

/-- Row r of a plane of an output is written: into its bound buffer, or into the hold buffer (05 R216), and kept as its content. -/
def putRow (sc : Nat) (o : Output) (plane r : Nat) (row : Bytes) (s : State) : State :=
  let s := match o.buf with | some b => writeRow ((s.stream sc).cfgOf o.frame) b o.d plane r row s | none => s
  s.setStream sc ((s.stream sc).onOutput o.frame o.phase o.desc (fun o =>
    if plane = 0 then { o with rows0 := Tab.put o.rows0 r row } else { o with rows1 := Tab.put o.rows1 r row }))

/-- Write row y of an output cut from a network picture: its luma row, and after each second row the chroma row (07 R275, R276, R277). -/
def writeRowOf (sc : Nat) (o : Output) (pic : Plan → Pix) (y : Nat) (s : State) : State :=
  let cfg := (s.stream sc).cfgOf o.frame
  match planOf s cfg with
  | none => s
  | some p =>
    let dims := netDims p cfg
    let pic := pic p
    let s := putRow sc o 0 y (plane0Row p o.d dims.1 dims.2 pic y) s
    if chroma420 o.d.format && y % 2 = 1 then putRow sc o 1 (y / 2) (plane1Row p o.d dims.1 dims.2 pic (y / 2)) s else s

/-- Write output row y. -/
def writeOutputRow (sc : Nat) (o : Output) (y : Nat) (s : State) : State := writeRowOf sc o (outputPicture s sc · o) y s

/-! ### Outputs of a pack (14 R589, R593, R594, R600) -/

/-- Rows of a descriptor's output that a member makes: those that lie in its bands of the network output (14 R589; DEDUCED, assumption 28). -/
def memberRows (s : State) (sc : Nat) (d : Desc) (pos : Nat) : List Nat :=
  let cfg := (s.stream sc).cfg
  match planOf s cfg with
  | none => []
  | some p =>
    let e := bandShare (ceilDiv (cfg.inH * p.factor) 16) p.members (packPlace s pos)
    (List.range d.outH).filter (fun y =>
      let b := (d.cropY + y * d.cropH / max 1 d.outH) / 16
      e.1 ≤ b && b < e.1 + e.2)

/-- Rows of an output that this device makes. -/
def ownRows (s : State) (sc : Nat) (d : Desc) : List Nat :=
  if packStream s sc then memberRows s sc d s.glb.packPos.toNat else List.range d.outH

/-- The network picture of the pack fill (14 R600): phase 0 is a bilinear upscale of the source rows, and interpolated bands repeat it. -/
def fillPicture (x : Stream) (o : Output) (p : Plan) : Pix :=
  match x.frameOf o.frame with
  | some f => fun r c ch => upscaled p.factor f.cfg.inW f.cfg.inH (Config.inputSample f.token) r c ch % 1024
  | none => fun _ _ _ => 0

/-- The pack fill of a member's bands of an output (14 R600); the output is DEGRADED. -/
def fillPart (sc : Nat) (f : U32) (ph d : Nat) (s : State) (pos : Nat) : State :=
  match (s.stream sc).output f ph d with
  | none => s
  | some o =>
    let s := (memberRows s sc o.d pos).foldl (fun s y => writeRowOf sc o (fillPicture (s.stream sc) o) y s) s
    s.setStream sc ((s.stream sc).onOutput f ph d (fun o => { o with flags := setFlag o.flags .degraded }))

/-- A member's part of an output is written; with the fills due and every other part it is complete (14 R594, R600). -/
def outputPart (sc : Nat) (f : U32) (ph d pos : Nat) (s : State) : State :=
  let same (e : Nat × U32 × Nat × Nat × Nat) : Bool := e.1 == sc && e.2.1 == f && e.2.2.1 == ph && e.2.2.2.1 == d
  let mask := (((s.pack.reports.find? same).map (·.2.2.2.2)).getD 0) ||| 2 ^ pos
  let due := (maskBits s.pack.members 8).filter (fun p => (s.member p).state == 3 && (s.member p).filled && !bit mask p)
  let s := due.foldl (fillPart sc f ph d) s
  let mask := mask ||| toMask due
  let rest := s.pack.reports.filter (fun e => !same e)
  if (maskBits s.pack.members 8).all (bit mask) then
    afterOutputs sc ({ s with pack := { s.pack with reports := rest } }.setStream sc ((s.stream sc).onOutput f ph d (fun o => { o with complete := true })))
  else { s with pack := { s.pack with reports := rest ++ [(sc, f, ph, d, mask)] } }

/-- This device's part of an output is written: it is complete, or in a pack reported (01 R27, 14 R594). -/
def finishOutput (sc : Nat) (f : U32) (ph d : Nat) (s : State) : State :=
  match (s.stream sc).output f ph d with
  | none => s
  | some o =>
    if followsPack s sc then
      let s := s.setStream sc ((s.stream sc).dropOutput f ph d)
      sendPkt s.pack.leaderPos 0x2B sc f (le 1 ph ++ le 1 d ++ le 4 o.flags.toNat ++ le 2 o.fallbackBands ++ le 1 0) s
    else if packStream s sc then outputPart sc f ph d s.glb.packPos.toNat s
    else afterOutputs sc (s.setStream sc ((s.stream sc).onOutput f ph d (fun o => { o with complete := true })))

/-- The repeat of a descriptor's last completed output, or black before there is one (02 R56, 05 R206). -/
def lastPicture (x : Stream) (d : Nat) : Pic :=
  match x.lastPic.find? (fun e => e.1 == d) with
  | some e => .rows e.2.1 e.2.2
  | none => .black

/-- Complete an output at once with a substitute picture (05 R206, 02 R56): bind it, write the picture, finish it. -/
def substitute (sc : Nat) (f : U32) (ph d : Nat) (fill : Option Pic) (flags : List FFlag) (s : State) : State :=
  let s := s.setStream sc ((s.stream sc).onOutput f ph d (fun o => { o with flags := flags.foldl setFlag o.flags }))
  let s := bindOutput sc f ph d s
  match (s.stream sc).output f ph d with
  | none => afterOutputs sc s
  | some o =>
    let s := match fill with
      | some k =>
        let s := match o.buf with | some b => writePicture ((s.stream sc).cfgOf f) b o.d k s | none => s
        s.setStream sc ((s.stream sc).onOutput f ph d (fun o => { o with rows0 := k.kept o.d 0, rows1 := k.kept o.d 1 }))
      | none => s
    finishOutput sc f ph d s

/-- Complete an interpolated output at once with what its bands hold: bind it, write the rows that are missing, finish it (02 R56,
07 R300). -/
def completeNow (sc : Nat) (f : U32) (ph d : Nat) (s : State) : State :=
  let s := bindOutput sc f ph d s
  match (s.stream sc).output f ph d with
  | none => afterOutputs sc s
  | some o => finishOutput sc f ph d (((ownRows s sc o.d).drop o.rowsDone).foldl (fun s y => writeOutputRow sc o y s) s)

/-! ### Frames dropped, absent and substituted (05 R193, R206, R208; 07 R292) -/

/-- FRAME_DROPPED (15 R609). -/
def frameDropped (sc : Nat) (frame : U32) (reason : Nat) (numbered : Bool) (sensorFrame : Nat) (s : State) : State :=
  emit (srcSc sc) 0x0102 (le 4 frame.toNat ++ le 1 reason ++ le 1 (b2n numbered) ++ le 2 sensorFrame) (scAdd sc .dropped 1 s)

/-- The buffers bound to outputs that are dropped go back to the heads of their queues: each still ends in one of the ways of 05 R215
(DEDUCED, assumption 84). -/
def Stream.rebind (x : Stream) (p : Output → Bool) : Stream :=
  { x with outputs := x.outputs.filter (fun o => !p o)
           outBufs := (x.outputs.filter p).foldr (fun o t => match o.buf with | some b => Tab.put t o.desc (b :: Tab.get [] t o.desc) | none => t) x.outBufs }

/-- Tiles of the DISCARDED bands of an interval are DISCARDED too (07 R281). -/
def Stream.discardInterval (x : Stream) (n : U32) : Stream :=
  { x with bands := x.bands.map (fun b => if b.interval = n && b.state == .open_ then { b with state := .discarded } else b)
           tiles := x.tiles.map (fun t => if t.interval = n then { t with state := .discarded } else t) }

/-- An accepted frame becomes absent: no output is made of it, and its work is abandoned (05 R193, 07 R292). -/
def dropFrame (sc : Nat) (f : U32) (s : State) : State :=
  let x := ((s.stream sc).rebind (fun o => o.frame = f)).discardInterval f
  afterOutputs sc (s.setStream sc { x with frames := x.frames.map (fun e => if e.frame = f then { e with absent := true } else e) })

/-- A member has released an input frame; INPUT_DONE once every member has (05 R214; 14 R594). -/
def releasePart (sc : Nat) (f : U32) (pos : Nat) (s : State) : State :=
  let same (e : Nat × U32 × Nat) : Bool := e.1 == sc && e.2.1 == f
  let mask := (((s.pack.released.find? same).map (·.2.2)).getD 0) ||| 2 ^ pos
  let rest := s.pack.released.filter (fun e => !same e)
  match (s.stream sc).frames.find? (fun e => e.frame = f) with
  | none => s
  | some e =>
    if (maskBits s.pack.members 8).all (fun p => bit mask p || (s.member p).state == 3) then
      let x := s.stream sc
      let s := s.setStream sc { x with frames := x.frames.map (fun g => if g.frame = f then { g with inUse := false } else g) }
      emit (srcSc sc) 0x0101 (le 4 f.toNat ++ le 4 e.cookie.toNat) { s with pack := { s.pack with released := rest } }
    else { s with pack := { s.pack with released := rest ++ [(sc, f, mask)] } }

/-- INPUT_DONE for a frame whose buffer no core reads again (05 R214). -/
def inputDone (sc : Nat) (f : U32) (s : State) : State :=
  let x := s.stream sc
  match x.frames.find? (fun e => e.frame = f) with
  | none => s
  | some e =>
    if e.inUse && x.cfg.sourceKind == 1 then
      if packStream s sc && !followsPack s sc then releasePart sc f s.glb.packPos.toNat s
      else
        let s := s.setStream sc { x with frames := x.frames.map (fun g => if g.frame = f then { g with inUse := false } else g) }
        if followsPack s sc then sendPkt s.pack.leaderPos 0x2B sc f (le 1 0 ++ le 1 0 ++ le 4 0 ++ le 2 0 ++ le 1 1) s
        else emit (srcSc sc) 0x0101 (le 4 f.toNat ++ le 4 e.cookie.toNat) s
    else s

/-- The stream's next frame number is taken (05 R193). -/
def Stream.takeNumber (x : Stream) : Stream :=
  { x with nextFrame := x.nextFrame + 1, lastAccepted := x.nextFrame, wraps := if x.nextFrame + 1 = 0 then x.wraps + 1 else x.wraps }

/-- The next frame number, counted without wrapping (07 R278). -/
def Stream.wideNext (x : Stream) : Nat := x.wraps * 2 ^ 32 + x.nextFrame.toNat

/-- The substitutes of a member that underran: phase 0 and, repeating it, the interpolated outputs of its frame (05 R206, 07 R292). No
exposure produced the frame: the outputs carry the stream's last ESID (DESIGN CHOICE, assumption 81). -/
def substituteFrame (sc : Nat) (f : U32) (wide policy : Nat) (s : State) : State :=
  let x := s.stream sc
  match planOf s x.cfg with
  | none => s
  | some p =>
    let outs := (newOutputs p x f wide s.now 0 0 x.esid).map (fun o => { o with sub := true })
    let hasZero (d : Nat) : Bool := outs.any (fun o => o.phase == 0 && o.desc == d)
    let outs := outs.filter (fun o => o.phase == 0 || hasZero o.desc)
    let s := s.setStream sc { x with outputs := x.outputs ++ outs }
    outs.foldl (fun s o =>
      let black := policy == 1 || !(Tab.get false (s.stream sc).delivered o.desc)
      let extra := if o.phase = 0 then [] else [FFlag.fallback]
      if policy = 2 then substitute sc f o.phase o.desc none (FFlag.gap :: extra) s
      else if black then substitute sc f o.phase o.desc (some .black) (FFlag.black :: extra) s
      else substitute sc f o.phase o.desc (some (lastPicture (s.stream sc) o.desc)) (FFlag.repeated :: extra) s) s

/-- A member underruns: it takes its next frame number, and the policy applies; STRICT substitutes nothing (05 R206, R209). No exposure
produced the frame: its record carries the stream's last ESID (DESIGN CHOICE, assumption 81). -/
def underrun (g sc : Nat) (gf : U32) (s : State) : State :=
  let policy := (s.group g).policy
  let x := s.stream sc
  let f := x.nextFrame
  let wide := x.wideNext
  let e : FrameIn := { frame := f, cookie := 0, acceptedAt := s.now, esid := x.esid, flags := 0, sensorFrame := 0, hostBuf := none,
                       inUse := false, cfg := x.cfg, variant := x.variant, tuning := 0, absent := true, coresDone := [], wide := wide }
  let x : Stream := (x.count .gaps).takeNumber
  let s := s.setStream sc { x with frames := x.frames ++ [e] }
  let s := emit (srcSc sc) 0x0109 (le 1 g ++ le 1 policy ++ le 2 0 ++ le 4 gf.toNat ++ le 4 f.toNat) s
  if policy = 3 then s
  else
    let y := s.group g
    let s := s.setGroup g { y with frames := y.frames.map (fun r => if r.number = gf then
      { r with substituted := r.substituted ++ [sc], frames := Tab.put r.frames sc f } else r) }
    substituteFrame sc f wide policy s

/-- W of a group (05 R203). -/
def groupWindow (s : State) (g : Group) : Nat := groupPeriod s g / 16

/-- The next group frame may open (05 R204). -/
def groupMayOpen (s : State) (g : Group) : Bool :=
  match g.openedAt with
  | none => true
  | some t => t + 15 * groupPeriod s g / 16 ≤ s.now

/-- Members of a pending group change. -/
def groupChange (c : Change) : Option (Nat × Nat) := match c with | .group m p => some (m, p) | _ => none

/-- Give a group its members and policy (04 R138, 05 R210). -/
def setGroupMembers (g members policy : Nat) (s : State) : State :=
  let x := s.group g
  let s := (List.range 32).foldl (fun s i =>
    let y := s.stream i
    if bit members i then s.setStream i { y with group := some g }
    else if y.group = some g then s.setStream i { y with group := none } else s) s
  if members = 0 then s.setGroup g {}
  else s.setGroup g { x with members := members, policy := policy
                             next := if x.members = 0 then 0 else x.next
                             openedAt := if x.members = 0 then none else x.openedAt }

/-- A member of a group change is FAULTED or has an outstanding staged change of its own (05 R211), staged before it: one staged behind it waits
for it (04 R173; DEDUCED, assumption 87). -/
def groupBlocked (s : State) (e : Staged) (members : Nat) : Bool :=
  (maskBits members 32).any (fun i => (s.stream i).state == .faulted
    || (s.staged.takeWhile (· != e)).any (fun k => (stagedChanges s i).contains k))

/-- Group changes of a group commit, or count a boundary toward BUSY_NONATOMIC, when a group frame opens (05 R211). -/
def commitGroup (g sc : Nat) (frame : U32) (s : State) : State :=
  (s.staged.filter (fun e => e.target == g && (groupChange e.change).isSome)).foldl (fun s e =>
    match groupChange e.change with
    | none => s
    | some (m, p) =>
      let named := if m = 0 then (s.group g).members else m
      if groupBlocked s e named then s
      else
        let low := (maskBits named 32).headD 0
        let s := setGroupMembers g m p { s with staged := s.staged.filter (· != e) }
        stagedOutcome e.ring e.tag e.opcode.toNat .ok (if low = sc then frame else (s.stream low).nextFrame).toNat [] s) s

/-- Count a boundary of the fastest member of a pending group change; 8 end it BUSY_NONATOMIC (04 R174). -/
def countGroup (sc : Nat) (s : State) : State :=
  let hit (e : Staged) : Bool := match groupChange e.change with
    | some (m, _) =>
      let l := maskBits (if m = 0 then (s.group e.target).members else m) 32
      l.contains sc && l.all (fun i => periodNs (s.stream sc).cfg < periodNs (s.stream i).cfg
        || (periodNs (s.stream sc).cfg == periodNs (s.stream i).cfg && sc ≤ i))
    | none => false
  let s := { s with staged := s.staged.map (fun e => if hit e then { e with boundaries := e.boundaries + 1 } else e) }
  (s.staged.filter (fun e => hit e && 8 ≤ e.boundaries)).foldl (fun s e =>
    stagedOutcome e.ring e.tag e.opcode.toNat .busyNonatomic 0 [] { s with staged := s.staged.filter (· != e) }) s

/-- The group a stream's boundary concerns: its own, or one that a pending change forms with it. -/
def boundaryGroup (s : State) (sc : Nat) : Option Nat :=
  match (s.stream sc).group with
  | some g => some g
  | none => (s.staged.find? (fun e => match groupChange e.change with
      | some (m, _) => bit m sc && (s.group e.target).members == 0
      | none => false)).map (·.target)

/-- 05 R204, R211, R212: the boundary of a running member opens a group frame, or joins the one whose window is open if it opened after the
member's start. -/
def groupBoundary (sc : Nat) (frame : U32) (s : State) : State :=
  match boundaryGroup s sc with
  | none => s
  | some g =>
    let s := if groupMayOpen s (s.group g) then commitGroup g sc frame s else s
    let x := s.group g
    if !bit x.members sc then s
    else if groupMayOpen s x then
      let f : GroupFrame := { number := x.next, openedAt := s.now, windowClosed := false, present := [sc], substituted := [],
                              finished := [], frames := [(sc, frame)] }
      s.setGroup g { x with next := x.next + 1, openedAt := some s.now, frames := x.frames ++ [f] }
    else
      s.setGroup g { x with frames := x.frames.map (fun f =>
        if !f.windowClosed && s.now ≤ f.openedAt + groupWindow s x && (s.stream sc).startedAt ≤ f.openedAt && !f.present.contains sc then
          { f with present := f.present ++ [sc], frames := Tab.put f.frames sc frame } else f) }

/-- 05 R205: a member with m = 1 whose group frame's window has passed may not join before the next one opens. -/
def lateForGroup (s : State) (sc : Nat) : Bool :=
  match (s.stream sc).group with
  | none => false
  | some g =>
    let x := s.group g
    memberMultiple s x sc == 1 && !groupMayOpen s x
      && (match x.openedAt with | some t => t + groupWindow s x < s.now | none => false)

/-! ### Votes (13 R540 to R549) -/

/-- The profile table's entry of a class. -/
def classEntry (x : Stream) (c : Nat) : Nat × Nat := x.table.entries.getD c (0, 0)

/-- The stream takes the variant of its class in force (13 R544). -/
def Stream.settleVariant (x : Stream) : Stream := { x with variant := (classEntry x x.cls).1 }

/-- Hysteresis (13 R542): class in force, candidate, run, and the class decided. -/
def hysteresis (k c : Nat) (cand : Option Nat) (run w : Nat) : Option Nat × Nat × Option Nat :=
  if w = c then (none, 0, none)
  else
    let r := if cand = some w then run + 1 else 1
    if k ≤ r then (none, 0, some w) else (some w, r, none)

/-- Apply one completed vote and emit VOTE (13 R541 to R547). -/
def applyVote (sc : Nat) (frame : U32) (s : State) (v : VoteResult) : State :=
  let x := s.stream sc
  let pinned := x.pin.isSome
  let plain := !pinned && !v.degraded
  let h := hysteresis x.bind.hystK x.cls x.candidate x.run v.winner
  let ready (w : Nat) : Bool := variantReady s x.cfg.handle (classEntry x w).1
  let y : Stream :=
    if pinned then { x with candidate := none, run := 0 }
    else if v.degraded then x
    else
      let y := { x with candidate := h.1, run := h.2.1 }
      match h.2.2 with
      | some w => if ready w then { y with cls := w, waitingClass := none } else { y with waitingClass := some w }
      | none => if v.winner = x.cls then { y with waitingClass := none } else y
  let changed := y.cls != x.cls
  let y := if plain then y.count .votes else y
  emit (srcSc sc) 0x0600
    (le 4 frame.toNat ++ le 1 (min 255 (frame - v.frame).toNat) ++ le 1 (v.winner + 16 * v.runnerUp)
      ++ le 1 (y.cls + 16 * y.candidate.getD 0) ++ le 1 y.run
      ++ le 1 (voteFlags plain pinned v.degraded changed y.candidate.isSome) ++ le 3 v.winnerSum ++ le 3 v.runnerUpSum)
    (s.setStream sc y)

/-- Step 2 of 05 R195: a waiting class whose variant is ready, then the completed votes in order of their frames. -/
def applyVotes (sc : Nat) (frame : U32) (s : State) : State :=
  let x := s.stream sc
  let s := match x.waitingClass with
    | some w => if variantReady s x.cfg.handle (classEntry x w).1 then s.setStream sc { x with cls := w, waitingClass := none } else s
    | none => s
  let votes := (s.stream sc).votes
  votes.foldl (applyVote sc frame) (s.setStream sc { s.stream sc with votes := [] })

/-- Discard the votes of a stream that are queued, running or unapplied, counting them (13 R528). -/
def discardVotes (sc : Nat) (s : State) : State :=
  let x := s.stream sc
  let n := x.votes.length + (s.tve.ready.filter (fun v => v.sc == sc)).length + (s.tve.running.toList.filter (fun v => v.sc == sc)).length
  let s := { s with tve := { s.tve with ready := s.tve.ready.filter (fun v => v.sc != sc), running := s.tve.running.filter (fun v => v.sc != sc) } }
  let y : Stream := { x with votes := [], waitingClass := none, candidate := none, run := 0 }
  s.setStream sc (y.count .votesDiscarded n)

/-! ### The commit of changes (04 R172 to R177, 05 R195; 02 R46) -/

/-- Hand the memory of one owner to another. -/
def renameOwner (a b : Nat) (s : State) : State :=
  let f (_ : Nat) (o : Nat) : Nat := if o = a then b else o
  { s with mem := { s.mem with cmOwner := Tab.map f s.mem.cmOwner, knOwner := Tab.map f s.mem.knOwner }
           dram := { s.dram with alloc := s.dram.alloc.map (fun e => if e.2.2 = a then (e.1, e.2.1, b) else e) } }

/-- Counters of a plan on n cores: one per stripe of every layer, and those of boundary 0 (09 R361); a pack plan's mirror counters too
(14 R591). -/
def counterNeed (p : Plan) (c : StreamCfg) (sh : Option (Nat × Nat)) (n : Nat) : Nat :=
  let stripes (i : Nat) : Nat :=
    let t := p.sets.getD i { mul := 1, div := 1, granule := 1, perCore := 1, guard := 0 }
    let ch := stripeChoice (cutRows (setDims t c.inW c.inH).1 (c.inH * p.factor) sh).2 (max 1 t.granule) t.guard t.perCore n
    ch.1 * ch.2
  if n = 0 then 0 else max (p.exports.foldl (fun m e => max m (e.mirror + 1)) 0) <| (p.layers.map (fun l => stripes l.set)).sum + (if c.sourceKind = 2 then stripes 0 else 0)

/-- No unit of a region list awaits its zero fill (10 R417). -/
def fillsDone (s : State) (l : List Region) : Bool :=
  l.all (fun r => match r.mem with
    | .cm c => !s.mem.filling.any (fun u => u / 12 == c && r.base / 65536 ≤ u % 12 && u % 12 < (r.base + r.len) / 65536 && u < 1000)
    | .kennel => !s.mem.filling.any (fun u => 1000 + r.base / 131072 ≤ u && u < 1000 + (r.base + r.len) / 131072)
    | .dram => true)

/-- The parameter block of a core's task, whose content no rule fixes, is written once its CM units are zero-filled (08 R352,
10 R417). -/
def writeParams (c : Nat) (s : State) : State :=
  let k := s.core c
  let base := k.cmBase * 65536 + k.paramBase.toNat
  if k.params = 0 || s.mem.filling.any (fun u => u / 12 == c && u < 1000 && k.cmBase ≤ u % 12 && u % 12 < k.cmBase + k.cmUnits) then s
  else if k.cmUnits * 65536 < k.paramBase.toNat + k.params then s.setCore c { k with params := 0 }
  else
    let (b, s) := freeBytes k.params s
    putData (.cm c) base b false (s.setCore c { k with params := 0 })

/-- The bounds of a core for a task: its regions and the weight extents of the model (10 R397, 11 R460, 09 R361). -/
def boundCore (kind num handle : Nat) (regs : List Region) (ctr : Option (Nat × Nat)) (p : Plan) (c : Nat) (s : State) : State :=
  let s := coreOn c s
  let k := s.core c
  let cm := regs.find? (fun r => r.mem == .cm c)
  let kn := regs.find? (fun r => r.mem == .kennel)
  let dr := regs.find? (fun r => r.mem == .dram)
  let flat := s.mem.flat
  writeParams c (s.setCore c { k with
    task := some (kind, num), flat := flat
    cmBase := (cm.map (·.base / 65536)).getD 0, cmUnits := (cm.map (·.len / 65536)).getD 0
    knBase := if flat then 0 else (kn.map (·.base / 131072)).getD 0, knUnits := if flat then 0 else (kn.map (·.len / 131072)).getD 0
    dramBase := (dr.map (·.base / 1048576)).getD 0, dramUnits := (dr.map (·.len / 1048576)).getD 0
    ctrBase := (ctr.map (·.1)).getD 0, ctrCount := (ctr.map (·.2)).getD 0
    wext := (s.mem.extents.filter (fun e => e.1 / 16 == handle)).map (fun e => (e.1 % 16, (e.2.1, e.2.2)))
    microprogram := p.code.zipIdx.map (fun e => (e.2, BitVec.ofNat 32 e.1)), paramBase := BitVec.ofNat 32 p.paramBase, params := min 4096 p.paramLen })

/-- Give a stream its cores and regions: counters, bounds, operating points at the floor (02 R45, 08 R352). -/
def installTask (sc : Nat) (p : Plan) (cores : List Nat) (regs : List Region) (s : State) : State :=
  let x := s.stream sc
  let (ctr, s) := allocCounters (counterNeed p x.cfg (shareOf s p x.cfg) cores.length) s
  let s := s.setStream sc { s.stream sc with cores := cores, regions := regs, counterBase := ctr }
  cores.foldl (fun s c => boundCore 0 sc x.cfg.handle regs ctr p c s) s

/-- An outstanding change of plan takes its cores and regions, and the old ones are freed (02 R46, 10 R415). -/
def swapTask (sc : Nat) (s : State) : State :=
  let x := s.stream sc
  match x.nextCores, planOf s x.cfg with
  | some cs, some p =>
    let s := (x.cores.filter (fun c => !cs.contains c)).foldl (fun s c => releaseCore c (s.setCore c (s.core c).abandon)) s
    let s := freeCounters x.counterBase (freeDram (scOwner sc) (freeOwner (scOwner sc) s))
    let s := renameOwner (nextOwner sc) (scOwner sc) s
    let s := s.setStream sc { s.stream sc with nextCores := none, nextRegions := none }
    installTask sc p cs (x.nextRegions.getD []) s
  | _, _ => s

/-- Everything that belongs to a removed descriptor goes: its queue returns to the host, its outputs are discarded, and the bands that no
output is left to use are DISCARDED with their tiles (04 R137, 05 R215, 07 R281, R282, R291). -/
def dropDesc (x : Stream) (d : Nat) : Stream :=
  { x with cfg := { x.cfg with descs := Tab.del x.cfg.descs d }, outBufs := Tab.del x.outBufs d, hold := Tab.del x.hold d
           starved := Tab.del x.starved d, delivered := Tab.del x.delivered d, lastPic := Tab.del x.lastPic d, holdReserved := x.holdReserved.filter (· != d)
           outputs := x.outputs.filter (fun o => o.desc != d)
           bands := x.bands.map (fun b => if b.state == .open_ && !x.outputs.any (fun o => o.desc != d && o.frame = b.interval && o.phase == b.phase)
                                          then { b with state := .discarded } else b)
           tiles := x.tiles.map (fun t => if t.phase != 0 && !x.outputs.any (fun o => o.desc != d && o.frame = t.interval && o.phase == t.phase)
                                          && t.state != .confirmed && t.state != .recomputed then { t with state := .discarded } else t) }

/-- A new configuration takes effect (04 R131; 05 R217). -/
def commitConfig (sc : Nat) (cfg : StreamCfg) (s : State) : State :=
  let x := s.stream sc
  let gone := (x.cfg.descs.map (·.1)).filter (fun d => !(cfg.descs.map (·.1)).contains d)
  let x := gone.foldl dropDesc x
  let x : Stream := { x with cfg := { cfg with port := x.cfg.port, vc := x.cfg.vc }, hold := if cfg.starve = 0 then [] else x.hold }
  swapTask sc (s.setStream sc x)

/-- One change commits. -/
def commitChange (sc : Nat) (s : State) (c : Change) : State :=
  let x := s.stream sc
  match c with
  | .config cfg => commitConfig sc cfg s
  | .output d (some e) => s.setStream sc { applyPure x (.output d (some e)) with delivered := Tab.del x.delivered d, lastPic := Tab.del x.lastPic d }
  | .output d none => s.setStream sc (dropDesc x d)
  | .pin (some k) => s.setStream sc { x with pin := some k, cls := k, candidate := none, run := 0, waitingClass := none }
  | .pin none => s.setStream sc { x with pin := none, candidate := none, run := 0 }
  | .bind b =>
    let s := discardVotes sc s
    let x := s.stream sc
    s.setStream sc { x with bind := b, featureSets := 0,
                            cls := if b.ensemble.isNone && x.pin.isNone then x.table.defaultClass else x.cls }
  | .table t => s.setStream sc { x with table := t }
  | c => applySide c s

/-- A change alters an input of the certificate (02 R46). -/
def certChange (c : Change) : Bool := match c with | .config _ | .output _ _ | .table _ => true | _ => false

/-- The cause that PROFILE_CHANGED names for a committed change (13 R549). -/
def profileCause (c : Change) : Option Nat :=
  match c with | .pin _ => some 2 | .bind b => if b.ensemble.isNone then some 3 else none | .table _ => some 4 | _ => none

/-- The new certificate of a stream whose configuration has just committed: the lowest floor that passes, its state kept
(02 R46). -/
def recertCommitted (sc : Nat) (frame : U32) (s : State) : State :=
  let x := s.stream sc
  match planOf s x.cfg with
  | none => s
  | some p =>
    match findFloor s x p.floorOp (profCap s.pwr.profile) with
    | none => s
    | some e =>
      s.setStream sc { x with cert := e.record x.cert.state x.cert.cause frame, shapes := e.shapes, nextFloor := none
                              origFloor := if x.cert.state == .revoked then e.cert.floorOp else x.origFloor }

/-- Variants a change names (05 R196). -/
def changeVariants (x : Stream) (c : Change) : List (Nat × Nat) :=
  match c with
  | .config cfg => (tableVariants x.table).map (fun v => (cfg.handle, v))
  | .pin (some k) => [(x.cfg.handle, (classEntry x k).1)]
  | .table t => (tableVariants t).map (fun v => (x.cfg.handle, v))
  | _ => []

/-- The resources of a change are there, for the stream as the changes ahead of it leave it (05 R196, 10 R417). -/
def readyFor (s : State) (x : Stream) (c : Change) : Bool :=
  (changeVariants x c).all (fun e => variantReady s e.1 e.2)
    && (match c with | .config _ => fillsDone s (x.nextRegions.getD []) | _ => true)

/-- The resources of a change that comes behind every outstanding one are there. -/
def changeReady (s : State) (sc : Nat) (c : Change) : Bool := readyFor s (settled s sc) c

/-- Mark the staged changes of streams whose resources have become ready. -/
def markReady (s : State) : State :=
  { s with staged := s.staged.map (fun e =>
      if (stagedChanges s e.target).contains e && !e.ready && readyFor s (settledBefore s e.target e) e.change then { e with ready := true } else e) }

/-- What the steps 3 and 4 of 05 R195 leave to do: whether a certificate input changed, and the last profile cause. -/
structure Commits where
  cert : Bool := false
  cause : Option Nat := none

/-- Note a committed change. -/
def Commits.note (k : Commits) (c : Change) : Commits :=
  { cert := k.cert || certChange c, cause := match profileCause c with | some n => some n | none => k.cause }

/-- Step 4: ready staged changes commit in order, up to the first that is not ready (05 R195, R173). -/
def commitStaged (sc : Nat) (frame : U32) : List Staged → Commits → State → Commits × State
  | [], k, s => (k, s)
  | e :: es, k, s =>
    if e.ready then
      let s := commitChange sc { s with staged := s.staged.filter (· != e) } e.change
      commitStaged sc frame es (k.note e.change) (stagedOutcome e.ring e.tag e.opcode.toNat .ok frame.toNat [] s)
    else (k, s)

/-- A boundary passes for the ready changes that are still blocked; 8 end them BUSY_NONATOMIC (04 R174). -/
def countStaged (sc : Nat) (s : State) : State :=
  let mine := stagedChanges s sc
  let s := { s with staged := s.staged.map (fun e => if mine.contains e && e.ready then { e with boundaries := e.boundaries + 1 } else e) }
  ((stagedChanges s sc).filter (fun e => 8 ≤ e.boundaries)).foldl (fun s e =>
    let s := { s with staged := s.staged.filter (· != e) }
    let s := match e.change with
      | .config _ => (freeDram (nextOwner sc) (freeOwner (nextOwner sc) s)).setStream sc { s.stream sc with nextCores := none, nextRegions := none }
      | _ => s
    stagedOutcome e.ring e.tag e.opcode.toNat .busyNonatomic 0 [] s) s

/-- 13 R549: PROFILE_CHANGED when the class in force differs. -/
def profileChanged (sc old cause : Nat) (frame : U32) (s : State) : State :=
  let x := (s.stream sc).settleVariant
  let s := s.setStream sc x
  if x.cls = old then s
  else emit (srcSc sc) 0x0601 (le 4 frame.toNat ++ le 1 old ++ le 1 x.cls ++ le 1 x.variant ++ le 1 cause ++ le 2 (classEntry x x.cls).2) s

/-- A lower floor that a smaller Q allows is taken at the stream's own boundary (02 R47). -/
def takeFloor (sc : Nat) (frame : U32) (s : State) : State :=
  let x := s.stream sc
  match x.nextFloor with
  | none => s
  | some f =>
    let s := s.setStream sc { x with nextFloor := none }
    if x.cert.state == .valid then
      match evalAt s x f with
      | some e => if e.pass then s.setStream sc { x with nextFloor := none, cert := e.record .valid 0 frame, shapes := e.shapes } else s
      | none => s
    else s

/-- Steps 2 to 4 of 05 R195 at the boundary of a frame. -/
def commitAll (sc : Nat) (frame : U32) (s : State) : State :=
  let old := (s.stream sc).cls
  let s := applyVotes sc frame s
  let voted := (s.stream sc).cls
  let shadow := (s.stream sc).shadow
  let s := shadow.foldl (commitChange sc) (s.setStream sc { s.stream sc with shadow := [] })
  let k := shadow.foldl Commits.note { cause := if voted != old then some 1 else none }
  let s := markReady s
  let (k, s) := commitStaged sc frame (ownChanges s sc) k s
  let s := countStaged sc s
  let s := if k.cert then refreshCerts (recertCommitted sc frame s) else takeFloor sc frame s
  settleOps (profileChanged sc old (k.cause.getD 1) frame s)

/-- Staged changes of a stream that does not run commit, in order, once their resources are there (04 R161, R172, R173). -/
def commitIdle (sc : Nat) (s : State) : State :=
  if (s.stream sc).state == .configured then let s := markReady s; (commitStaged sc 0 (ownChanges s sc) {} s).2 else s

/-! ### Cores at a boundary (08 R352, R354) -/

/-- Start the SCU of a core for a run (08 R352). -/
def startCore (first base : Nat) (c : Nat) (s : State) : State :=
  let k := s.core c
  s.setCore c { k with
    state := .running, regs := [(1, BitVec.ofNat 32 first), (2, BitVec.ofNat 32 base)], busyRegs := [], heldRegs := [], pc := 0, stopped := false, wait := .none
    slots := [], loads := []
    frame := BitVec.ofNat 32 first, paramBase := BitVec.ofNat 32 base, tilesDone0 := 0, tilesDone1 := 0, none0 := true, none1 := true
    started0 := 0, started1 := 0, tileAt := s.now, scuAt := s.now }

/-! ### Film cadence (07 R303 to R306) -/

/-- The bits (newest first) match the 3:2 pattern: the last 10 are a rotation of 0, 1, 1, 0, 1 twice. -/
def is32 (l : List Bool) : Bool :=
  let p := [false, true, true, false, true, false, true, true, false, true]
  l.length == 10 && (List.range 5).any (fun r => l.reverse == (p.drop r ++ p.take r))

/-- The last 8 bits alternate. -/
def is22 (l : List Bool) : Bool :=
  let m := l.take 8
  m.length == 8 && (m == [true, false, true, false, true, false, true, false] || m == [false, true, false, true, false, true, false, true])

/-- CADENCE and REPEAT_THRESHOLD of the tuning of a stream's class in force (07 R283). -/
def tuningOf (s : State) (x : Stream) : Nat × Nat :=
  (((s.model x.cfg.handle).package.bind (fun p => p.tunings[(classEntry x x.cls).2]?))).getD (0, 0)

/-- The film anchor among the bits, counted back from the newest frame n (07 R305). -/
def anchorOf (cadence n : Nat) (l : List Bool) : Nat :=
  if cadence = 1 then
    n - ((List.range l.length).find? (fun i => 2 ≤ i && !(nth true l i) && nth false l (i - 1) && nth false l (i - 2))).getD 0
  else n - ((List.range l.length).find? (fun i => !(nth true l i))).getD 0

/-- The lock is lost at frame e: outputs from it on are video outputs, and those before it have it as their next unique frame (07 R306). -/
def unlock (e : FrameIn) (o : Output) : Output :=
  if o.frame = e.frame then
    { o with cadence := 0, filmPos := 0, interp := o.phase != 0, span := (e.wide - 1, e.wide, e.wide + 1) }
  else if o.cadence != 0 && e.wide < o.span.2.2 then { o with span := (o.span.1, o.span.2.1, e.wide) }
  else o

/-- Frame e is a repeat of the frame before it (07 R303): their difference is at most the threshold; never frame 0, nor a frame after an
absent one. A pack's members judge none: the leader's Router alone does (assumption 28). -/
def isRepeat (s : State) (sc threshold : Nat) (e : FrameIn) : Bool :=
  match (s.stream sc).frameAt (e.wide - 1) with
  | some b => e.wide != 0 && !e.absent && !b.absent && !followsPack s sc && frameDiff b.token e.token e.cfg.inW e.cfg.inH ≤ threshold
  | none => false

/-- The repeat bit of frame n from its measured difference, and the lock after it (07 R303, R304); a stream of ratio 1 never locks (07
R288). -/
def cadenceStep (sc : Nat) (s : State) : State :=
  let x := s.stream sc
  match x.frames.getLast? with
  | none => s
  | some e =>
    let t := tuningOf s x
    let rep := isRepeat s sc t.2 e
    let l := (rep :: x.repeats).take 10
    let fits := if t.1 = 1 then is32 l else if t.1 = 2 then is22 l else false
    let new := if fits && interpolating x.cfg then t.1 else 0
    let x := { x with repeats := l }
    if new = x.cadence then s.setStream sc x
    else
      let x : Stream := { x with cadence := new, anchor := if new = 0 then 0 else anchorOf new e.wide l
                                 outputs := if new = 0 then x.outputs.map (unlock e) else x.outputs
                                 bands := if new = 0 then x.bands.filter (fun b => !(b.interval = e.frame && b.phase == 0)) else x.bands }
      emit (srcSc sc) 0x010D (le 4 e.frame.toNat ++ le 1 new) (s.setStream sc x)

/-- Under a lock the next frame is expected to be a repeat, so the work of the unique frame goes on (07 R306). -/
def expectRepeat (x : Stream) : Bool :=
  if x.cadence = 1 then nth false x.repeats 4 else if x.cadence = 2 then !(nth true x.repeats 0) else false

/-! ### The frame boundary (05 R195) -/

/-- Kennel bytes of band b of phase ph of interval n's network output (07 R282): address and length, where the plan places them. -/
def bandRange (s : State) (sc : Nat) (n : U32) (ph b : Nat) : Option (Nat × Nat) :=
  let x := s.stream sc
  match planOf s (x.cfgOf n), x.regions.find? (fun r => r.mem == .kennel) with
  | some p, some r =>
    let h := (netDims p (x.cfgOf n)).2
    let o := p.outBase + (ph * h + 16 * b) * p.outPitch
    let len := min 16 (h - 16 * b) * p.outPitch
    if p.outPitch = 0 || r.len < o + len then none else some (r.base + o, len)
  | _, _ => none

/-- The rows of a band lose the held state in one step (07 R282, 10 R432). -/
def clearHeld (sc : Nat) (n : U32) (ph b : Nat) (s : State) : State :=
  match bandRange s sc n ph b with
  | some e => { s with mem := { s.mem with held := clearMarks .kennel e.1 e.2 128 s.mem.held } }
  | none => s

/-- The tiles that cover a row, and the row as bytes of the network output: three 16-bit samples a pixel from the row's first byte, cut or
filled with zeros to the pitch (DESIGN CHOICE, assumption 83). -/
def netRowBytes (w pitch : Nat) (pic : Pix) (r : Nat) : Bytes :=
  pad pitch ((List.range w).flatMap (fun c => le 2 (pic r c 0) ++ le 2 (pic r c 1) ++ le 2 (pic r c 2)))

/-- The fallback content of a band is written to its rows, which are then readable by the OFM (07 R282, R300). -/
def fallbackRows (sc : Nat) (n : U32) (ph b : Nat) (s : State) : State :=
  let x := s.stream sc
  match planOf s (x.cfgOf n), bandRange s sc n ph b, x.outputs.find? (fun o => o.frame = n && o.phase == ph) with
  | some p, some e, some o =>
    let w := (netDims p (x.cfgOf n)).1
    putData .kennel e.1 ((List.range (e.2 / max 1 p.outPitch)).flatMap (fun k => netRowBytes w p.outPitch (outputPicture s sc p o) (16 * b + k))) false s
  | _, some e, _ => { s with mem := { s.mem with held := clearMarks .kennel e.1 e.2 128 s.mem.held } }
  | _, none, _ => s

/-- The tiles of the network output (09 R359 to R365): each tile row as (first row, rows, core position), each stripe as (first tile row, tile
rows, core position), tile columns and channel tiles. Tile i lies in tile row i / (cols * chans), row by row from the left, the channel
tiles of a place in increasing c0. -/
structure TileGrid where
  rows : List (Nat × Nat × Nat) := []
  stripes : List (Nat × Nat × Nat) := []
  cols : Nat := 1
  width : Nat := 1
  chans : Nat := 1
deriving DecidableEq, Repr

/-- Tiles per tile row. -/
def TileGrid.perRow (g : TileGrid) : Nat := max 1 (g.cols * g.chans)

/-- How many tiles a grid has. -/
def TileGrid.count (g : TileGrid) : Nat := g.rows.length * g.perRow

/-- Rows (first, count) of the network output that tile i covers, and the position of its core. -/
def TileGrid.span (g : TileGrid) (i : Nat) : Nat × Nat × Nat := nth (0, 0, 0) g.rows (i / g.perRow)

/-- Columns (first, count) of the network output that tile i covers. -/
def TileGrid.columns (g : TileGrid) (i : Nat) : Nat × Nat := (i % g.perRow / max 1 g.chans * g.width, g.width)

/-- 09 R365, R370: the tiles of the core at a position in visiting order. -/
def TileGrid.order (g : TileGrid) (pos : Nat) : List Nat :=
  (g.stripes.filter (fun e => e.2.2 == pos)).flatMap (fun e =>
    (curve g.cols e.2.1).flatMap (fun t => (List.range g.chans).map (fun ch => (e.1 + t.2) * g.perRow + t.1 * g.chans + ch)))

/-- A stripe set's stripes as tile rows: each stripe's first row, rows and core position, tile by tile of a height (09 R364, R365). -/
def addStripes (h : Nat) (g : TileGrid) (e : Nat × Nat × Nat) : TileGrid :=
  let n := ceilDiv e.2.1 (max 1 h)
  { g with stripes := g.stripes ++ [(g.rows.length, n, e.2.2)]
           rows := g.rows ++ (List.range n).map (fun r => (e.1 + r * h, min h (e.2.1 - r * h), e.2.2)) }

/-- The tiles of the network output of interval n, made with frame n's configuration, cores and shapes (07 R291, 09 R359 to R366). -/
def outputTiles (s : State) (sc : Nat) (n : U32) : TileGrid :=
  let x := s.stream sc
  let cfg := x.cfgOf n
  let cores := ((x.frameOf n).map (·.cores)).getD x.cores
  let shapes := ((x.frameOf n).map (·.shapes)).getD x.shapes
  match planOf s cfg with
  | none => {}
  | some p =>
    match p.layers.getLast?, shapes.getLast? with
    | some l, some shape =>
      let t := p.sets.getD l.set { mul := 1, div := 1, granule := 1, perCore := 1, guard := 0 }
      let d := setDims t cfg.inW cfg.inH
      let cut := cutRows d.1 (cfg.inH * p.factor) (shareOf s p cfg)
      let ch := stripeChoice cut.2 (max 1 t.granule) t.guard t.perCore cores.length
      let k := max 1 l.scale
      let w := (tileDims shape).2.1
      let stripes := (List.range (ch.1 * ch.2)).map (fun i =>
        let e := stripe cut.2 (max 1 t.granule) (ch.1 * ch.2) i
        ((cut.1 + e.1) / k, ceilDiv e.2 k, i % max 1 ch.2))
      stripes.foldl (addStripes (tileDims shape).1)
        { cols := ceilDiv (ceilDiv d.2 k) w, width := w, chans := ceilDiv l.padC (tileDims shape).2.2 }
    | _, _ => {}

/-- Rows (first, count) of the network output that tile i of interval n covers, and the position of its core. -/
def tileSpan (s : State) (sc : Nat) (n : U32) (i : Nat) : Nat × Nat × Nat := (outputTiles s sc n).span i

/-- Rows (first, count) and band b, of 16 rows, meet. -/
def meetsBand (e : Nat × Nat × Nat) (b : Nat) : Bool := e.1 < 16 * (b + 1) && 16 * b < e.1 + e.2.1

/-- Tiles whose every band is FALLBACK or DISCARDED are DISCARDED; CONFIRMED and RECOMPUTED ones are final (07 R281). -/
def discardTiles (sc : Nat) (n : U32) (ph : Nat) (s : State) : State :=
  let x := s.stream sc
  let bands := x.bands.filter (fun e => e.interval = n && e.phase == ph)
  let gone (i : Nat) : Bool :=
    let span := tileSpan s sc n i
    (bands.filter (fun e => meetsBand span e.index)).all (fun e => e.state == .fallback || e.state == .discarded)
  s.setStream sc { x with tiles := x.tiles.map (fun t =>
    if t.interval = n && t.phase == ph && t.state != .confirmed && t.state != .recomputed && gone t.index then { t with state := .discarded } else t) }

/-- The tiles that cover band b of interval n. -/
def bandTiles (s : State) (sc : Nat) (n : U32) (b : Nat) : List Nat :=
  let t := outputTiles s sc n
  (List.range t.count).filter (fun i => meetsBand (t.span i) b)

/-- The state of a tile, none before it has an entry. -/
def tileOf (x : Stream) (n : U32) (ph i : Nat) : Option TileState :=
  (x.tiles.find? (fun t => t.interval = n && t.phase == ph && t.index == i)).map (·.state)

/-- Phase 0 of frame n is computed on some rows of the network output: every tile over them is, where cores make it (07 R300, R310). -/
def phaseZeroReady (s : State) (sc : Nat) (n : U32) (lo hi : Nat) : Bool :=
  let x := s.stream sc
  let t := outputTiles s sc n
  x.present n && (List.range t.count).all (fun i =>
    let e := t.span i
    hi ≤ e.1 || e.1 + e.2.1 ≤ lo || tileOf x n 0 i == some .computed)

/-- Which fallback content a band takes (07 R300): the blend once frame n + 1 is accepted and its phase-0 network output is complete on the
band's rows and one row above and below, else the repeat of n. -/
def bandFill (s : State) (sc : Nat) (n : U32) (b : Nat) : Fallback :=
  let h := ((planOf s ((s.stream sc).cfgOf n)).map (fun p => (netDims p ((s.stream sc).cfgOf n)).2)).getD 0
  if phaseZeroReady s sc (n + 1) (16 * b - 1) (min h (16 * b + 17)) then .blend else .repeatOf

/-- A band goes to FALLBACK (07 R282, R300): its content is fixed and written to its rows, its outputs carry FALLBACK and count it, and tiles
under fallen bands alone are DISCARDED. -/
def fallBand (sc : Nat) (n : U32) (ph b : Nat) (s : State) : State :=
  let k := bandFill s sc n b
  let x := (s.stream sc).count .fallback
  let x := { x with
    bands := x.bands.map (fun e => if e.interval = n && e.phase == ph && e.index == b then { e with state := .fallback, fill := some k } else e)
    outputs := x.outputs.map (fun o => if o.frame = n && o.phase == ph then
      { o with flags := setFlag o.flags .fallback, fallbackBands := o.fallbackBands + 1 } else o) }
  discardTiles sc n ph (fallbackRows sc n ph b (s.setStream sc x))

/-- INPUT_DONE for every input buffer that its cores read no more (05 R214). -/
def releaseInputs (sc : Nat) (s : State) : State :=
  ((s.stream sc).frames.filter (·.inUse)).foldl (fun s e => inputDone sc e.frame s) s

/-- The OPEN bands whose interval ends with a frame up to wide number w: their outputs' span ends there, or where no output is left to tell,
their interval is the one before frame n (07 R290, R306). -/
def Stream.closingBands (x : Stream) (n : U32) (w : Nat) : List Band :=
  x.bands.filter (fun b => b.state == .open_ && (match x.outputs.find? (fun o => o.frame = b.interval && o.phase == b.phase) with
    | some o => decide (o.span.2.2 ≤ w)
    | none => decide (b.interval = n - 1)))

/-- The work of the previous frame n is abandoned at the next tile boundary: SPECULATING tiles go to RECOMPUTE, OPEN bands of interval n - 1 to
n to FALLBACK (02 R57, 07 R290), and its input is read no more (05 R214). -/
def abandonWork (sc : Nat) (s : State) : State :=
  match (s.stream sc).frames.getLast? with
  | none => s
  | some e =>
    let s := ((s.stream sc).closingBands e.frame e.wide).foldl (fun s b => fallBand sc b.interval b.phase b.index s) s
    let x := s.stream sc
    let s := s.setStream sc { x with tiles := x.tiles.map (fun t => if t.state == .speculating then { t with state := .recompute } else t) }
    releaseInputs sc (x.cores.foldl (fun s c => s.setCore c (s.core c).stopAtTile) s)

/-- Frames kept: those with outputs or a buffer in use, those that an output is made from, and the last three. -/
def trimFrames (x : Stream) : Stream :=
  let last := (x.frames.reverse.take 3).map (·.frame)
  let x : Stream := { x with frames := x.frames.filter (fun e => e.inUse || last.contains e.frame
    || x.outputs.any (fun o => o.frame = e.frame || o.span.1 == e.wide || o.span.2.1 == e.wide || o.span.2.2 == e.wide)) }
  { x with bands := x.bands.filter (fun b => x.frames.any (fun e => e.frame = b.interval)),
           tiles := x.tiles.filter (fun t => x.frames.any (fun e => e.frame = t.interval)) }

/-- The degrade level at which the stream's cores do no network work (17 R672). -/
def levelRepeats (x : Stream) : Bool := 3 ≤ x.level

/-- Accept a frame (05 R190, R191, R193): identity, the boundary's commits in their order, its outputs, and the start of the
microprograms. Its picture is the one named, else one of its own (assumption 83). -/
def acceptFrame (sc : Nat) (buf : Option Buf) (picture : Option Nat) (esid flags : U16) (sensorFrame : Nat) (s : State) : State :=
  let x := s.stream sc
  let n := x.nextFrame
  let lost := x.lost
  let s := if expectRepeat x then s else abandonWork sc s
  let s := cadenceStep sc s
  let wide := x.wideNext
  let s := s.setStream sc { (s.stream sc).takeNumber with
    sourceFrame := n, accepted := true, lastAcceptAt := s.now, lost := false, haloTimedOut := [], dmaFault := none }
  let s := if lost then emit (srcSc sc) 0x0108 (le 4 n.toNat) s else s
  let s := commitAll sc n s
  let s := countGroup sc (groupBoundary sc n s)
  let x := s.stream sc
  match planOf s x.cfg with
  | none => s
  | some p =>
    let e : FrameIn := { frame := n, cookie := (buf.map (·.cookie)).getD 0, acceptedAt := s.now, esid := esid, flags := flags,
                         sensorFrame := sensorFrame, hostBuf := buf, inUse := buf.isSome
                         cfg := x.cfg, variant := x.variant, tuning := (classEntry x x.cls).2, absent := false, coresDone := []
                         wide := wide, token := match picture with | some p => 2 * p | none => 2 * s.drawn + 1, cores := x.cores, shapes := x.shapes }
    let x := trimFrames { x with frames := x.frames ++ [e], outputs := x.outputs ++ newOutputs p x n wide s.now (standingFault s) flags esid
                                 bands := x.bands ++ newBands s p x n wide s.now }
    let s := { s with drawn := s.drawn + 1 }.setStream sc x
    if levelRepeats x || x.cores.isEmpty then releaseInputs sc s else x.cores.foldl (fun s c => startCore n.toNat p.paramBase c s) s

/-- Reject the accepted frame for its shape (09 R374): it keeps its number and makes nothing. -/
def rejectShape (sc w h : Nat) (s : State) : State :=
  let f := (s.stream sc).lastAccepted
  let s := releaseInputs sc (dropFrame sc f s)
  emit (srcSc sc) 0x0103 (le 4 f.toNat ++ le 2 w ++ le 2 h) (scAdd sc .dropped 1 s)

/-- Earliest instant of the next acceptance of a stream (05 R189). -/
def nextAcceptAt (x : Stream) : Nat := if x.accepted then x.lastAcceptAt + 15 * periodNs x.cfg / 16 else x.startedAt

end Sys2Proof.Machine
end

