-- ==== Sys2Proof/Machine/Ecc.lean ====
section
/-! DEFINITION. Errors of the memories (10 R394, R395, R399, R424 to R433; 11 R461, R486, R488): banks and rows, remaps, correctable
and uncorrectable errors, and reads that meet them. -/
namespace Sys2Proof.Machine

/-! ### Banks and rows (10 R394, R395) -/

/-- Bank and row of a physical address: memory 0 CM, 1 the Kennel. -/
def bankRow (memory a : Nat) : Nat × Nat :=
  let l := a / 128
  if memory = 0 then ((bits l 0 3) ^^^ (bits l 3 3) ^^^ (bits l 6 3), l / 8) else ((bits l 0 5) ^^^ (bits l 5 5) ^^^ (bits l 10 5), l / 32)

/-- The channel of a DRAM address (11 R461). -/
def dramChannel (a : Nat) : Nat := (List.range 14).foldl (fun c k => c ^^^ bits (a / 128) (2 * k) 2) 0

/-- The memory of a code. -/
def memOf (memory core : Nat) : Mem := if memory = 0 then .cm core else if memory = 1 then .kennel else .dram

/-- The owner of a physical address as MEMORY_UNCORRECTABLE names it (15 R609): 0 none, 1 stream, 2 job, and its number. -/
def addrOwner (s : State) (m : Mem) (a : Nat) : Nat × Nat :=
  let o : Option Nat := match m with
    | .cm c => ownerOf s.mem.cmOwner (c * 12 + a / 65536)
    | .kennel => ownerOf s.mem.knOwner (a / 131072)
    | .dram => (s.dram.alloc.find? (fun e => e.1 ≤ a / 1048576 && a / 1048576 < e.1 + e.2.1)).map (·.2.2)
  match o with
  | some o => if 1 ≤ o && o ≤ 32 then (1, o - 1) else if 50 ≤ o && o ≤ 81 then (1, o - 50) else if 100 ≤ o && o ≤ 115 then (2, o - 100) else (0, 0)
  | none => (0, 0)

/-! ### Remaps (10 R399, R428 to R430) -/

/-- Spares of a bank of a row's domain: the indices SPARE can take (10 R399). -/
def spareList (memory : Nat) : List Nat := if memory = 0 then List.range 8 else [0, 1]

/-- A spare is in use: for the Kennel, of the row's own domain. -/
def spareUsed (s : State) (memory core bank row spare : Nat) : Bool :=
  s.mem.remaps.any (fun e => e.1 == memory && (memory == 1 || e.2.1 == core) && e.2.2.1 == bank && e.2.2.2.2 == spare
    && (memory == 0 || e.2.2.2.1 / 1024 == row / 1024))

/-- An entry of the remap table (10 R399). -/
def remapEntry (memory core bank row spare reason : Nat) : U64 :=
  BitVec.ofNat 64 (1 + 2 * memory + 256 * core + 65536 * bank + 2 ^ 24 * spare + 2 ^ 32 * row + 2 ^ 48 * reason)

/-- REMAP_EXHAUSTED, once per row (10 R430). -/
def remapFails (memory core bank row lack : Nat) (s : State) : State :=
  if s.mem.exhausted.contains (memory, core, bank, row) then s
  else emit srcDevice 0x0502 (le 1 memory ++ le 1 core ++ le 1 bank ++ le 1 0 ++ le 2 row ++ le 1 lack)
    { s with mem := { s.mem with exhausted := s.mem.exhausted ++ [(memory, core, bank, row)] } }

/-- A field remap (10 R428, R429): the lowest free spare, an entry of the keep table and ROW_REMAPPED. The row's bytes, poison and
held bits go with it: they are kept by address. -/
def remapRow (memory core bank row reason : Nat) (s : State) : State :=
  match (List.range 64).find? (fun i => !(Tab.get 0 s.keep.remap i).getLsbD 0) with
  | none => remapFails memory core bank row 0 s
  | some i =>
    match (spareList memory).find? (fun k => !spareUsed s memory core bank row k) with
    | none => remapFails memory core bank row 1 s
    | some k =>
      let s := { s with keep := { s.keep with remap := Tab.put s.keep.remap i (remapEntry memory core bank row k reason) }
                        mem := { s.mem with remaps := s.mem.remaps ++ [(memory, core, bank, row, k)] } }
      let s := { s with keep := { s.keep with remapCrc := crc32c (remapBytes s) } }
      emit srcDevice 0x0501 (le 1 memory ++ le 1 core ++ le 1 bank ++ le 1 k ++ le 2 row ++ le 1 reason ++ le 1 i) s

/-! ### Errors (10 R424 to R428) -/

/-- A correctable error (10 R424, R428): counted; its row is tracked, and four within 86,400 s remap it. -/
def correctable (memory core a : Nat) (s : State) : State :=
  let br := bankRow memory a
  let s := errAdd (if memory = 0 then 4 * core else 0x140) 1 s
  let same (e : RowErrors) : Bool := e.mem == memory && e.core == core && e.bank == br.1 && e.row == br.2
  let now := windowClock s
  let times := now :: (((s.mem.tracked.find? same).map (·.times)).getD []).filter (fun t => now < t + 86400)
  let rest := s.mem.tracked.filter (fun e => !same e)
  if 4 ≤ times.length then remapRow memory core br.1 br.2 0 { s with mem := { s.mem with tracked := rest } }
  else { s with mem := { s.mem with tracked := ({ mem := memory, core := core, bank := br.1, row := br.2, times := times } :: rest).take 256 } }

/-- Classes of 15 R609: 0 weights, 1 held, 2 stream data, 3 job data, 4 DEBUG_READ, 5 scrubber. -/
def dataClass (s : State) (m : Mem) (a : Nat) : Nat :=
  if s.mem.held.contains ((memKey m).1, (memKey m).2, a / 128) then 1
  else match addrOwner s m a with | (1, _) => 2 | (2, _) => 3 | _ => 0

/-- An uncorrectable error is found (10 R425): the word is poisoned and counted, MEMORY_UNCORRECTABLE once per poisoning; an error
that recurs in a word written after it was poisoned remaps its row (R428). -/
def uncorrectable (m : Mem) (a cls : Nat) (s : State) : State :=
  let k := memKey m
  let w := (k.1, k.2, a / 8)
  if s.mem.poison.contains w then s
  else
    let br := if k.1 = 3 then (0, 0) else bankRow k.1 a
    let own := addrOwner s m a
    let recurs := s.mem.rewritten.contains w
    let s := { s with mem := { s.mem with poison := s.mem.poison ++ [w], rewritten := s.mem.rewritten.filter (· != w) } }
    let s := errAdd (if k.1 = 0 then 0x40 + 4 * k.2 else if k.1 = 1 then 0x144 else 0x158) 1 s
    let s := emit srcDevice 0x0500 (le 1 k.1 ++ le 1 (if k.1 = 3 then dramChannel a else k.2) ++ le 1 br.1 ++ le 1 cls ++ le 2 br.2
      ++ le 1 own.1 ++ le 1 own.2 ++ le 8 (a / 128 * 128)) s
    if recurs && k.1 != 3 then remapRow k.1 k.2 br.1 br.2 1 s else s

/-- A task reads a poisoned word (10 R425): a stream's outputs are DEGRADED, a job carries ECC_UNCORRECTABLE. -/
def poisonStrikes (task : Option (Nat × Nat)) (s : State) : State :=
  match task with
  | some (0, sc) => strike sc 1 s
  | some (_, j) => let x := s.job j; if x.status = 0 then s.setJob j { x with status := Status.eccUncorrectable.code } else s
  | none => s

/-- A byte delivers zero: its word is poisoned, or its DRAM channel is down (10 R425, 11 R488). -/
def deadByte (s : State) (m : Mem) (a : Nat) : Bool :=
  poisoned s m a || (match m with | .dram => let c := s.channel (dramChannel a); !c.up && c.retrainingSince.isNone | _ => false)

/-- Bytes of a memory as a task reads them (10 R425, 11 R488): poisoned words read as zeros, and so do lines of a DRAM channel that
is down; the reading task is struck, but not by a held line, whose tile goes to RECOMPUTE instead. -/
def taskRead (task : Option (Nat × Nat)) (m : Mem) (a n : Nat) (s : State) : Bytes × State :=
  let dead (k : Nat) : Bool := deadByte s m (a + k)
  let hit := (List.range n).any (fun k => dead k && !s.mem.held.contains ((memKey m).1, (memKey m).2, (a + k) / 128))
  ((readMem s m a n).zipIdx.map (fun e => if dead e.2 then 0 else e.1), if hit then poisonStrikes task s else s)

/-- Bytes of a memory as a requester outside the owning job reads them (10 R433): held lines read as zeros and are counted. -/
def outsideRead (m : Mem) (a n : Nat) (s : State) : Bytes × State :=
  let held (k : Nat) : Bool := s.mem.held.contains ((memKey m).1, (memKey m).2, (a + k) / 128)
  ((readMem s m a n).zipIdx.map (fun e => if held e.2 || deadByte s m (a + e.2) then 0 else e.1),
   if anyHeld s m a n then errAdd 0x148 1 s else s)

end Sys2Proof.Machine
end

