-- ==== Sys2Proof/Machine/Iac.lean ====
section
/-! DEFINITION. The irregular access cache (12 R492 to R518): lookups, allocation, fills, packing, writes and errors. -/
namespace Sys2Proof.Machine

/-! ### Addresses and replacement (12 R492, R493) -/

/-- Set index of a DRAM line (12 R493). -/
def iacIndex (l : Nat) : Nat := (bits l 0 11) ^^^ (bits l 11 11) ^^^ (bits l 22 6)

/-- Tag of a DRAM line (12 R492). -/
def iacTag (l : Nat) : Nat := bits l 11 17

/-- The line that a tag names in a set: tag and set together determine it (12 R493). -/
def iacLineOf (index tag : Nat) : Nat := tag * 2048 + (index ^^^ (bits tag 0 11) ^^^ (bits tag 11 6))

/-- The ways below node n of the tree, the pseudo-LRU one first; k levels lie below the node (12 R492). -/
def plruOrder (t : BitVec 15) : Nat → Nat → List Nat
  | 0, n => [n - 15]
  | k + 1, n =>
    let l := plruOrder t k (2 * n + 1)
    let r := plruOrder t k (2 * n + 2)
    if t.getLsbD n then r ++ l else l ++ r

/-- A use of the leaf n of the tree turns every node above it away from it; k levels lie above. -/
def plruTouch : Nat → Nat → BitVec 15 → BitVec 15
  | 0, _, t => t
  | k + 1, n, t =>
    let p := (n - 1) / 2
    let b : BitVec 15 := BitVec.ofNat 15 (2 ^ p)
    plruTouch k p (if n % 2 = 1 then t ||| b else t &&& ~~~b)

/-- Way w of a set. -/
def IacSet.way (x : IacSet) (w : Nat) : Way := Tab.get {} x.ways w

/-- Change way w. -/
def IacSet.setWay (x : IacSet) (w : Nat) (y : Way) : IacSet := { x with ways := Tab.put x.ways w y }

/-- Way w has just been used. -/
def IacSet.use (x : IacSet) (w : Nat) : IacSet :=
  { x with tree := plruTouch 4 (w + 15) x.tree, recent := w :: x.recent.filter (· != w) }

/-- The set of an index. -/
def State.iacSet (s : State) (i : Nat) : IacSet := Tab.get {} s.iac.sets i

/-- Replace a set. -/
def State.setIacSet (s : State) (i : Nat) (x : IacSet) : State := { s with iac := { s.iac with sets := Tab.put s.iac.sets i x } }

/-- The detector of a requester. -/
def State.detector (s : State) (r : Nat) : Detector := Tab.get {} s.iac.detectors r

/-- Replace the detector of a requester. -/
def State.setDetector (s : State) (r : Nat) (d : Detector) : State := { s with iac := { s.iac with detectors := Tab.put s.iac.detectors r d } }

/-- The way that holds a tag. -/
def IacSet.find (x : IacSet) (tag : Nat) : Option Nat :=
  (List.range 16).find? (fun w => (x.way w).state != .invalid && (x.way w).lines.any (fun l => l.tag == tag))

/-- The logical line of a tag in a way. -/
def Way.line (y : Way) (tag : Nat) : Line := (y.lines.find? (fun l => l.tag == tag)).getD { tag := tag }

/-- Change the logical line of a tag. -/
def Way.setLine (y : Way) (l : Line) : Way := { y with lines := y.lines.map (fun e => if e.tag = l.tag then l else e) }

/-- State of sector k of a line. -/
def Line.sector (l : Line) (k : Nat) : SectorState := nth .absent l.sectors k

/-- Change sector k of a line. -/
def Line.setSector (l : Line) (k : Nat) (st : SectorState) (d : Bytes) : Line :=
  { l with sectors := modNth (fun _ => st) k l.sectors, data := modNth (fun _ => d) k l.data, compressible := false }

/-- A way holds a PENDING sector. -/
def Way.pending (y : Way) : Bool := y.lines.any (fun l => l.sectors.contains .pending)

/-- A logical line whose four sectors are VALID. -/
def Line.full (l : Line) : Bool := l.sectors.all (· == .valid)

/-! ### Compression (12 R495, R506 to R508) -/

/-- The n-byte little-endian words of a line. -/
def lineWords (n : Nat) (b : Bytes) : List Nat := (List.range (128 / n)).map (fun i => fld b (n * i) n)

/-- Every word differs from word 0 by -d to d - 1. -/
def deltaForm (n d : Nat) (b : Bytes) : Bool :=
  let l := lineWords n b
  l.all (fun v => -(d : Int) ≤ (v : Int) - (l.headD 0 : Int) && (v : Int) - (l.headD 0 : Int) ≤ (d : Int) - 1)

/-- A full line is compressible (12 R495). -/
def compressibleBytes (b : Bytes) : Bool :=
  b.all (· == b.headD 0) || deltaForm 2 64 b || deltaForm 4 128 b || deltaForm 8 32768 b

/-- A line that has just become full: pack it with the lowest other SINGLE way that holds a full compressible line, or mark it
(12 R506, R507); not on stepping A0 (R508). -/
def packLine (i w : Nat) (s : State) : State :=
  let x := s.iacSet i
  match (x.way w).lines with
  | [l] =>
    if s.glb.stepping = 0xA0#8 || !l.full || !compressibleBytes (l.data.flatten) then s
    else
      let l := { l with compressible := true }
      match (List.range 16).find? (fun v => v != w && (x.way v).state == .single && (x.way v).lines.all (fun e => e.full && e.compressible)
          && !(x.way v).lines.isEmpty) with
      | none => s.setIacSet i (x.setWay w { state := .single, lines := [l] })
      | some v =>
        let newer := if (x.recent.idxOf v) < (x.recent.idxOf w) then v else w
        let older := if newer = v then w else v
        perfAdd 0x540 1 (s.setIacSet i ((x.setWay newer { state := .packed, lines := [l] ++ (x.way v).lines }).setWay older {}))
  | _ => s

/-! ### Lookups (12 R498 to R502, R505, R509, R515) -/

/-- What a lookup answers. -/
inductive Lookup where
  /-- the sector's bytes at once -/
  | bytes (b : Bytes)
  /-- the number of the fill that will bring them -/
  | fill (id : Nat)
deriving DecidableEq, Repr

/-- A DRAM channel that was taken down (11 R488). -/
def channelDown (s : State) (a : Nat) : Bool := let c := s.channel (dramChannel a); !c.up && c.retrainingSince.isNone

/-- The detector after a lookup of a sector: a requester leaves bypass at its 64th non-sequential lookup (12 R509). -/
def Detector.look (d : Detector) (sector : Nat) : Detector :=
  let seq := match d.prev with | some p => sector == p || sector == p + 32 | none => false
  let n := if d.bypass && !seq then d.nonSeq + 1 else d.nonSeq
  if d.bypass && 64 ≤ n then { prev := some sector } else { d with prev := some sector, nonSeq := n }

/-- The detector after a miss: it enters bypass at the 8th of consecutive misses in successive sectors (12 R509). -/
def Detector.miss (d : Detector) (sector : Nat) : Detector :=
  let n := if d.lastMiss = some (sector - 32) && 32 ≤ sector then d.misses + 1 else 1
  if !d.bypass && 8 ≤ n then { d with misses := 0, lastMiss := some sector, bypass := true, nonSeq := 0 }
  else { d with misses := n, lastMiss := some sector }

/-- Allocation for a miss (12 R500): the way whose line awaits the fill, and the sets after it. -/
def allocate (i tag k : Nat) (s : State) : Option Nat × State :=
  let x := s.iacSet i
  match x.find tag with
  | some w =>
    let l := (x.way w).line tag
    let l := if l.sector k == .absent then l.setSector k .pending [] else l
    (some w, s.setIacSet i ((x.setWay w ((x.way w).setLine l)).use w))
  | none =>
    let fresh : Way := { state := .single, lines := [({ tag := tag } : Line).setSector k .pending []] }
    match (List.range 16).find? (fun w => (x.way w).state == .invalid) with
    | some w => (some w, s.setIacSet i ((x.setWay w fresh).use w))
    | none =>
      match (plruOrder x.tree 4 0).find? (fun w => !(x.way w).pending) with
      | some w => (some w, perfAdd 0x548 1 (s.setIacSet i ((x.setWay w fresh).use w)))
      | none => (none, perfAdd 0x538 1 s)

/-- A miss: its counters, its allocation unless in bypass, and its fill (12 R500, R502, R509). -/
def lookupMiss (r sector : Nat) (s : State) : Lookup × State :=
  let i := iacIndex (sector / 128)
  let tag := iacTag (sector / 128)
  let k := sector / 32 % 4
  let d := s.detector r
  let x := s.iacSet i
  let dup : Bool := match x.find tag with | some w => ((x.way w).line tag).sector k == .pending | none => false
  let s := perfAdd 0x510 1 s
  let s := if dup then perfAdd 0x518 1 s else s
  let s := if d.bypass then perfAdd 0x528 1 s else s
  let d' := d.miss sector
  let s := if d'.bypass && !d.bypass then perfAdd 0x530 1 s else s
  let (w, s) := if d.bypass then (none, s) else allocate i tag k s
  let id := s.iac.nextId
  let s := s.setDetector r d'
  (.fill id, { s with iac := { s.iac with
    nextId := id + 1
    fills := s.iac.fills ++ [{ id := id, sector := sector, requester := r, way := w, written := false, data := none, bad := false }] } })

/-- A lookup of one sector by a requester (12 R498 to R502, R509, R515). -/
def lookup (r sector : Nat) (s : State) : Lookup × State :=
  if channelDown s sector then (.bytes (List.replicate 32 0), s)
  else
    let s := perfAdd (0x400 + 8 * r) 1 s
    let s := s.setDetector r ((s.detector r).look sector)
    let i := iacIndex (sector / 128)
    let tag := iacTag (sector / 128)
    let k := sector / 32 % 4
    let x := s.iacSet i
    match x.find tag with
    | some w =>
      let l := (x.way w).line tag
      if l.sector k == .valid then
        let s := perfAdd (0x488 + 8 * r) 1 (s.setIacSet i (x.use w))
        (.bytes (nth [] l.data k), s.setDetector r { s.detector r with misses := 0, lastMiss := none })
      else lookupMiss r sector s
    | none => lookupMiss r sector s

/-! ### Fills (12 R501, R503, R513) -/

/-- The fill may be installed: no write since its issue, its line still in its way, not in bypass, and good data. -/
def installable (s : State) (f : Fill) : Bool :=
  !f.written && !f.bad && (match f.way with
    | some w => let y := (s.iacSet (iacIndex (f.sector / 128))).way w
                y.state != .invalid && y.lines.any (fun l => l.tag == iacTag (f.sector / 128))
    | none => false)

/-- A fill that is not installed leaves its sector ABSENT unless another fill of it is in flight (12 R503). -/
def dropFill (f : Fill) (s : State) : State :=
  let i := iacIndex (f.sector / 128)
  let tag := iacTag (f.sector / 128)
  let k := f.sector / 32 % 4
  let s := if f.way.isSome && !f.bad then perfAdd 0x520 1 s else s
  let x := s.iacSet i
  match x.find tag with
  | some w =>
    let l := (x.way w).line tag
    if l.sector k == .pending && !s.iac.fills.any (fun g => g.sector == f.sector && g.way == some w) then
      s.setIacSet i (x.setWay w ((x.way w).setLine (l.setSector k .absent [])))
    else s
  | none => s

/-- A fill returns: it is installed, and its line perhaps packed, or dropped (12 R503, R506). In a line that has been packed meanwhile it
overwrites a sector with the bytes that it holds (12 R503). -/
def landFill (f : Fill) (s : State) : State :=
  let s := { s with iac := { s.iac with fills := s.iac.fills.filter (fun g => g.id != f.id) } }
  let i := iacIndex (f.sector / 128)
  let tag := iacTag (f.sector / 128)
  match f.way with
  | some w =>
    if installable s f then
      let x := s.iacSet i
      if (x.way w).state == .packed then s else
      let l := ((x.way w).line tag).setSector (f.sector / 32 % 4) .valid (f.data.getD [])
      packLine i w (s.setIacSet i (x.setWay w ((x.way w).setLine l)))
    else dropFill f s
  | none => s

/-! ### Writes and invalidation (12 R504, R511, R515 to R517) -/

/-- One logical line loses the sectors (given by number) that a write touches, or, packed, goes (12 R504). -/
def snoopWay (tag : Nat) (ks : List Nat) (y : Way) : Way × Nat :=
  if !(y.lines.any (fun l => l.tag == tag)) then (y, 0)
  else match y.state with
  | .packed =>
    let rest := y.lines.filter (fun l => l.tag != tag)
    (if rest.isEmpty then {} else { y with lines := rest }, 1)
  | .single =>
    let l := y.line tag
    let hit := ks.filter (fun k => l.sector k == .valid)
    (y.setLine (hit.foldl (fun l k => l.setSector k .absent []) l), hit.length)
  | .invalid => (y, 0)

/-- A write of DRAM bytes is applied to the IAC before it counts as accepted (12 R504). -/
def iacWriteLine (line : Nat) (ks : List Nat) (s : State) : State :=
  let i := iacIndex line
  let x := s.iacSet i
  let s := { s with iac := { s.iac with fills := s.iac.fills.map (fun f =>
    if f.sector / 128 = line && ks.contains (f.sector / 32 % 4) then { f with written := true } else f) } }
  match x.find (iacTag line) with
  | some w =>
    let r := snoopWay (iacTag line) ks (x.way w)
    let s := s.setIacSet i (x.setWay w r.1)
    if r.2 = 0 then s else perfAdd 0x550 r.2 s
  | none => s

/-- A write of n bytes at a DRAM address is applied to the IAC (12 R504). -/
def iacWrite (a n : Nat) (s : State) : State :=
  if !s.iac.on || n = 0 then s
  else (List.range ((a + n + 127) / 128 - a / 128)).foldl (fun s j =>
    let line := a / 128 + j
    iacWriteLine line ((List.range 4).filter (fun k => line * 128 + 32 * k < a + n && a < line * 128 + 32 * k + 32)) s) s

/-- INVALIDATE_ALL (12 R516). -/
def iacClear (s : State) : State := { s with iac := { s.iac with sets := [], detectors := [] } }

/-- INVALIDATE_CHANNEL (12 R515, R516). -/
def iacDropChannel (ch : Nat) (s : State) : State :=
  { s with iac := { s.iac with sets := Tab.map (fun i (x : IacSet) => { x with ways := Tab.map (fun _ (y : Way) =>
      if y.lines.any (fun l => dramChannel (iacLineOf i l.tag * 128) == ch) then {} else y) x.ways }) s.iac.sets } }

/-- An error in a cached sector (12 R511): corrected and counted, or the sector, or with a tag error or in a packed line the whole way, is
dropped and will be fetched again. -/
def iacError (sector : Nat) (uncorrectable tagError : Bool) (s : State) : State :=
  if !uncorrectable && !tagError then errAdd 0x14C 1 s
  else
    let i := iacIndex (sector / 128)
    let tag := iacTag (sector / 128)
    let x := s.iacSet i
    let s := errAdd 0x150 1 s
    match x.find tag with
    | some w =>
      let y := x.way w
      if tagError || y.state == .packed then s.setIacSet i (x.setWay w {})
      else s.setIacSet i (x.setWay w (y.setLine ((y.line tag).setSector (sector / 32 % 4) .absent [])))
    | none => s

/-- Write bytes of DRAM for anyone but a Fetcher's own transaction: memory, poison and the IAC (11 R466, 12 R504). -/
def putDram (a : Nat) (bs : Bytes) (s : State) : State := iacWrite a bs.length (putData .dram a bs false s)

/-- Zero DRAM: the IAC's copies of what it holds go (10 R446, 12 R504, R517). -/
def zeroDram (a n : Nat) (s : State) : State := iacWrite a n (zeroFill .dram a n s)

/-- The errors that the banks show for words a command reads (10 R424, R425; 12 R511); cls names the reader's class, or the data's own
class. -/
def foundErrors (cls : Option Nat) (l : List ReadError) (s : State) : State :=
  l.foldl (fun s e =>
    let m := memOf e.memory e.core
    if e.memory = 2 then iacError (e.addr / 32 * 32) e.uncorrectable e.tag s
    else if e.uncorrectable then uncorrectable m e.addr (cls.getD (dataClass s m e.addr)) s
    else if e.memory = 3 then errAdd 0x154 1 s
    else correctable e.memory e.core e.addr s) s

end Sys2Proof.Machine
end

