-- ==== Sys2Proof/Machine/StreamCmd.lean ====
section
/-! DEFINITION. The stream group of the host commands (04 R129 to R140). -/
namespace Sys2Proof.Machine

/-! ### Shared by the commands that change a stream -/

/-- The stream is RUNNING. -/
def runs (s : State) (i : Nat) : Bool := (s.stream i).state == .running

/-- RESULT of a frame-boundary command: EFFECTIVE_FRAME in bytes 20 to 23 (04 R112, R172). -/
def effective (frame : Nat) : Bytes := le 4 0 ++ le 4 frame

/-- The stream has an outstanding staged change, or a group change involves it (04 R173). -/
def outstanding (s : State) (sc : Nat) : Bool :=
  !(stagedChanges s sc).isEmpty || s.staged.any (groupTouches s sc)

/-- Put a residency operation into the queue: rewrites go ahead of every other operation (05 R196). -/
def enqueueResidency (o : ResidencyOp) (s : State) : State :=
  if o.rewrite then { s with residency := s.residency.filter (·.rewrite) ++ [o] ++ s.residency.filter (fun x => !x.rewrite) }
  else { s with residency := s.residency ++ [o] }

/-- The variants that a change names and that are not resident enter the residency queue for a command (05 R196). -/
def enqueueMissing (h : Hdr) (sc : Nat) (c : Change) (s : State) : State :=
  let need := (changeVariants (settled s sc) c).filter (fun e => !bit (s.model e.1).resident e.2)
  match need with
  | [] => s
  | (m, _) :: _ => enqueueResidency { handle := m, mask := toMask (need.map (·.2)), rewrite := false, forCmd := some (h.ring, h.tag) } s

/-- Complete a frame-boundary command on a stream (04 R172, R173): staged while a resource it needs is not ready or its target has an
outstanding staged or group change; otherwise at once when it does not run, or into the shadow set. -/
def boundaryCommand (op : Nat) (h : Hdr) (sc : Nat) (c : Change) (s : State) : State :=
  let x := s.stream sc
  if outstanding s sc || !changeReady s sc c then stage h op sc (changeReady s sc c) c (enqueueMissing h sc c s)
  else if x.state != .running then complete h op .ok (effective 0) (commitChange sc s c)
  else complete h op .ok (effective x.nextFrame.toNat) (s.setStream sc { x with shadow := x.shadow ++ [c] })

/-- The stream as it will stand once its outstanding changes and one more have committed (03 R73). -/
def settledWith (s : State) (sc : Nat) (c : Change) : Stream := applyPure (settled s sc) c

/-- The descriptors a stream is charged for: those in force and those of every outstanding change (05 R197). -/
def charged (s : State) (sc : Nat) (more : List Change) : Nat :=
  let x := s.stream sc
  let cs := x.shadow ++ (stagedChanges s sc).map (·.change) ++ more
  ((cs.foldl (fun (a : Stream × List Nat) c => let y := applyPure a.1 c; (y, a.2 ++ y.cfg.descs.map (·.1)))
    (x, x.cfg.descs.map (·.1))).2.dedup).length

/-- 05 R197: descriptors charged across the device with a change added. -/
def descriptorsOk (s : State) (sc : Nat) (c : Change) : Bool :=
  ((List.range 32).map (fun i => if (s.stream i).state == .free && i != sc then 0 else charged s i (if i = sc then [c] else []))).sum ≤ 64

/-- The state in which a stream stands as a change would leave it, every other stream with its outstanding changes. -/
def trialState (s : State) (sc : Nat) (x : Stream) : State := (settledState s).setStream sc x

/-- 02 R46, R40, R43, 13 R538: a stream so configured passes at some floor up to the profile's cap, and so does everything
else; the other streams count with their outstanding, uncommitted configurations at their present floors (DESIGN CHOICE, assumption 80). -/
def certOk (s : State) (sc : Nat) (x : Stream) : Bool :=
  let t := trialState s sc x
  match planOf t x.cfg with
  | none => false
  | some p => (findFloor t x p.floorOp (profCap s.pwr.profile)).isSome && hostOk t && fyxOk t && othersPass t sc && tveOk t

/-- The configuration names another plan than the one that will stand. -/
def planChanges (x : Stream) (c : StreamCfg) : Bool := x.cfg.handle != c.handle || x.cfg.plan != c.plan

/-- Take cores and regions for an outstanding change of plan (02 R46, 10 R415). -/
def reserveNext (sc : Nat) (p : Plan) (cores : List Nat) (s : State) : Except Status State :=
  match allocTask (nextOwner sc) cores p s with
  | .error e => .error e
  | .ok (regs, s) => .ok (s.setStream sc { s.stream sc with nextCores := some cores, nextRegions := some regs })

/-! ### STREAM_CONFIG (04 R129 to R131) -/

/-- Defaults of a stream context that leaves FREE (13 R529). -/
def leaveFree (x : Stream) : Stream :=
  if x.state == .free then { x with table := {}, pin := none, bind := {}, state := .configured } else { x with state := .configured }

/-- A camera source and a stream are routed to each other (05 R198). -/
def routeTo (sc src : Nat) (s : State) : State :=
  let s := { s with routes := (Tab.put s.routes src sc).filter (fun e => e.1 == src || e.2 != sc) }
  s.setStream sc { s.stream sc with route := some src }

/-- Unroute a stream. -/
def unroute (sc : Nat) (s : State) : State :=
  { s with routes := s.routes.filter (fun e => e.2 != sc) }.setStream sc { s.stream sc with route := none }

/-- The stream context, if any, that a camera source feeds. -/
def feeds (s : State) (src : Nat) : Option Nat := Tab.get none (Tab.map (fun _ x => some x) s.routes) src

/-- 04 R131: the immediate form, on a FREE or CONFIGURED stream. -/
def configureNow (sc : Nat) (c : StreamCfg) (s : State) : State :=
  let x := leaveFree (s.stream sc)
  let x : Stream := if x.cfg.sourceKind = c.sourceKind then x else { x with inBufs := [] }
  let s := commitConfig sc c (s.setStream sc x)
  let s := s.setStream sc { s.stream sc with cfg := { (s.stream sc).cfg with port := c.port, vc := c.vc } }
  if c.sourceKind = 2 then routeTo sc (c.port * 16 + c.vc) (unroute sc s) else unroute sc s

/-- Rates, frames/s as fractions, are equal. -/
def rateEq (a b : Nat × Nat) : Bool := a.1 * b.2 == b.1 * a.2

/-- The lowest input rate among configurations, as a fraction (05 R203). -/
def lowestRate (l : List StreamCfg) : Nat × Nat :=
  l.tail.foldl (fun b c => if c.inNum * b.2 < b.1 * c.inDen then (c.inNum, c.inDen) else b)
    ((l.headD {}).inNum, (l.headD {}).inDen)

/-- The member lists a stream belongs to: its group's, and those of pending group changes that name it (05 R203). -/
def groupLists (s : State) (sc : Nat) : List (List Nat) :=
  (match (s.stream sc).group with | some g => [(s.group g).list] | none => [])
    ++ s.staged.filterMap (fun e => match groupChange e.change with | some (m, _) => if bit m sc then some (maskBits m 32) else none | none => none)

/-- 05 R203: a member's new input rate keeps its group's rates aligned and the lowest of them unchanged, for the group as it stands and as every
pending change will leave it. -/
def groupRateOk (s : State) (sc : Nat) (c : StreamCfg) : Bool :=
  (groupLists s sc).all (fun l =>
    let cfgs := l.map (fun i => if i = sc then c else (settled s i).cfg)
    ratesAlign cfgs && rateEq (lowestRate cfgs) (lowestRate (l.map (fun i => (settled s i).cfg))))

/-- 04 R131: the checks of state and resources. -/
def configState (sc : Nat) (c : StreamCfg) (s : State) : List (Bool × Status) :=
  let x := s.stream sc
  let run := x.state == .running
  let y := settled s sc
  let plan := planOf s c
  let fit (f : Plan → Bool) : Bool := (plan.map f).getD true
  let src := c.port * 16 + c.vc
  [ (x.state == .free || x.state == .configured || run, .badState),
    (!run || (c.sourceKind == y.cfg.sourceKind && c.port == x.cfg.port && c.vc == x.cfg.vc), .badState),
    (groupRateOk s sc c, .badState),
    ((s.model c.handle).state != 0, .notFound), ((s.model c.handle).state == 2, .badState),
    (inputEven c && fit (fun p => c.descs.all (fun e => descFits p c e.2)), .badField),
    (fit (fun p => shapeOk p c), .shapeOverPlan),
    (plan.isSome, .planMismatch), (fit (fun p => ratioPlanned p c), .planMismatch),
    (fit (fun p => p.members ≤ 1 || (s.pack.state == .formed && p.members == popcount s.pack.members 8)), .planMismatch),
    (fit (fun p => p.members ≤ 1 || c.sourceKind == 1), .planMismatch),
    (descriptorsOk s sc (.config c), .noResource),
    (c.sourceKind == 1 || run || (x.state == .configured && x.cfg.sourceKind == 2)
      || (List.range 32).countP (fun i => (s.stream i).state != .free && (s.stream i).cfg.sourceKind == 2) < 16, .noResource),
    (c.sourceKind == 1 || run || (feeds s src).isNone || feeds s src == some sc, .badState) ]

/-- 04 R131, 02 R46: the form on a running stream. -/
def configureRunning (h : Hdr) (sc : Nat) (c : StreamCfg) (s : State) : State :=
  let y := settledWith s sc (.config c)
  match planOf s c with
  | none => complete h 0x0200 .planMismatch [] s
  | some p =>
    if planChanges (settled s sc) c then
      match assignCores s p ((s.stream sc).nextCores.getD (s.stream sc).cores) with
      | none => complete h 0x0200 .noResource [] s
      | some cores =>
        if !certOk s sc { y with cores := cores } then complete h 0x0200 .certOverBudget [] s
        else match reserveNext sc p cores s with
          | .error e => complete h 0x0200 e [] s
          | .ok s => boundaryCommand 0x0200 h sc (.config c) s
    else if certOk s sc y then boundaryCommand 0x0200 h sc (.config c) s
    else complete h 0x0200 .certOverBudget [] s

/-- STREAM_CONFIG (04 R129 to R131; 05 R185, R197, R198, R203; 02 R46). -/
def execStreamConfig (h : Hdr) (p : Bytes) (s : State) : Out :=
  let sc := bits (fld p 0 1) 0 5
  let c := configOf p
  command 0x0200 h p [(p.length == 64 + 32 * fld p 14 1, .badLength)]
    [(resOk p (configMask (fld p 14 1)), .reservedNonzero), (configForm c, .badField), (ratioOk c, .badField)]
    (configState sc c s)
    (fun s => if (s.stream sc).state == .running then configureRunning h sc c s
              else complete h 0x0200 .ok (effective 0) (configureNow sc c s)) s

/-! ### STREAM_START (04 R132) -/

/-- The variants of the stream's profile table are resident (04 R132). -/
def tableResident (s : State) (x : Stream) : Bool := (tableVariants x.table).all (fun v => bit (s.model x.cfg.handle).resident v)

/-- The sensor profile has the mosaic and phase the plan was compiled for (06 R247). -/
def mosaicOk (s : State) (x : Stream) (p : Plan) : Bool :=
  match x.route with
  | none => true
  | some src =>
    let sp := (s.source src).profile
    !sp.isEmpty && spMosaic sp == p.mosaic && bits (fld sp 4 1) 0 2 == p.phaseX && bits (fld sp 4 1) 2 2 == p.phaseY

/-- The stream as STREAM_START leaves it, its certificate apart (04 R132; 05 R193; 13 R529). -/
def startedStream (s : State) (x : Stream) : Stream :=
  { x with state := .running, nextFrame := 0, wraps := 0, lastAccepted := 0, sourceFrame := 0, lastPic := [], accepted := false, startedAt := s.now, lastAcceptAt := s.now, lost := false
           lastDone := 0, lastDonePhase := 0, frames := [], outputs := [], hold := [], starved := [], delivered := []
           holdReserved := if x.cfg.starve = 1 then x.cfg.descs.map (·.1) else []
           cls := x.pin.getD x.table.defaultClass, candidate := none, run := 0, waitingClass := none, featureSets := 0, votes := []
           esid := 0, nextEsid := 1, exposures := [], landed := none, cadence := 0, anchor := 0, repeats := [], tiles := [], bands := []
           faultCause := 0, dmaFault := none, haloTimedOut := [], draining := none, nextFloor := none, level := 0, flicker := [] }

/-- 1 MiB DRAM units of the hold buffers (05 R217). -/
def holdUnits (c : StreamCfg) : Nat :=
  if c.starve = 1 then (c.descs.map (fun e => ceilDiv (imageBytes e.2.format e.2.outW e.2.outH) 1048576)).sum else 0

/-- A frame in progress is no frame of a stream that starts now (05 R191). -/
def forgetFrames (sc : Nat) (s : State) : State :=
  { s with cam := { s.cam with sources := Tab.map (fun _ (x : Source) =>
      { x with open_ := x.open_.map (fun f => if (f.accepted.map (·.1)) = some sc then { f with accepted := none } else f)
               closed := x.closed.filter (fun f => (f.accepted.map (·.1)) != some sc) }) s.cam.sources } }

/-- A start that has its certificate and its regions: the task is installed and the stream runs (05 R185, 02 R45, R47). -/
def beginStream (h : Hdr) (sc : Nat) (p : Plan) (cores : List Nat) (regs : List Region) (e : Eval) (x : Stream) (s : State) : State :=
  let s := s.setStream sc (startedStream s x).settleVariant
  let s := installTask sc p cores regs s
  let s := s.setStream sc { s.stream sc with cert := e.record .valid 0 0, origFloor := e.cert.floorOp, shapes := e.shapes }
  let s := forgetFrames sc (setDomain 30 true s)
  let s := { s with pwr := { s.pwr with idleSince := Tab.del s.pwr.idleSince 30 } }
  let s := match x.route with | some src => s.setSource src { s.source src with starts := [], endedAt := none, fired := [] } | none => s
  let s := settleOps (refreshCerts s)
  let r := if packStream s sc then freeNat 65536 s else (0, s)
  complete h 0x0201 .ok (le 2 (max e.cert.permille r.1) ++ le 1 e.cert.floorOp) r.2

/-- Certify a stream and, when everything passes, make it RUNNING (02 R35, R41, R43, R45; 10 R415, R416). The largest TOTAL_PERMILLE of a
pack (02 R49) takes in the other members', which no packet carries: a free value (assumption 28). At thermal critical no start passes (02
R52, 17 R696). -/
def startStream (h : Hdr) (sc : Nat) (s : State) : State :=
  let x := s.stream sc
  match planOf s x.cfg with
  | none => complete h 0x0201 .planMismatch [] s
  | some p =>
    match assignCores s p [] with
    | none => complete h 0x0201 .noResource [] s
    | some cores =>
      let y : Stream := { x with state := .running, cores := cores }
      let t := s.setStream sc y
      match findFloor t y p.floorOp (profCap s.pwr.profile) with
      | none => complete h 0x0201 .certOverBudget [] s
      | some e =>
        if s.pwr.thermal == .critical || !(hostOk t && fyxOk t && othersPass t sc && tveOk t && certOk s sc y) then complete h 0x0201 .certOverBudget [] s
        else match allocTask (scOwner sc) cores { p with dramUnits := p.dramUnits + holdUnits x.cfg } s with
          | .error st => complete h 0x0201 st [] s
          | .ok (regs, s) => beginStream h sc p cores regs e x s

/-- STREAM_START (04 R132; 02 R35 to R45; 06 R247). -/
def execStreamStart (h : Hdr) (p : Bytes) (s : State) : Out :=
  let sc := bits (fld p 0 1) 0 5
  let x := s.stream sc
  command 0x0201 h p [] [(resOk p [0x1F], .reservedNonzero)]
    [ (x.state == .configured, .badState), (tableResident s x, .badState),
      (x.cfg.sourceKind == 1 || (s.port x.cfg.port).enable, .badState),
      (((planOf s x.cfg).map (mosaicOk s x)).getD true, .badState) ]
    (startStream h sc) s

/-! ### STREAM_STOP (04 R133; 05 R220; 08 R355; 15 R624) -/

/-- 05 R220: begin a drain: the outputs of the interval after the last accepted frame are discarded with its bands and tiles; buffers they had
bound stay queued (07 R313). -/
def beginDrain (sc : Nat) (s : State) : State :=
  let x := s.stream sc
  let n := x.lastAccepted
  let x := if x.accepted then x.rebind (fun o => o.frame = n && o.phase != 0) else x
  let x : Stream := { x with
    state := .draining, draining := some s.now
    bands := x.bands.map (fun b => if b.interval = n && b.phase != 0 && b.state == .open_ then { b with state := .discarded } else b)
    tiles := x.tiles.map (fun t => if t.interval = n && t.phase != 0 then { t with state := .discarded } else t)
    votes := [], waitingClass := none }
  let s := { s with tve := { s.tve with ready := s.tve.ready.filter (fun v => v.sc != sc), running := s.tve.running.filter (fun v => v.sc != sc) } }
  settleRoutes sc (leaveGroupFrames sc (s.setStream sc x))

/-! ### STREAM_RELEASE (04 R134) -/

/-- STREAM_RELEASE: FREE again, with descriptors, route, counters and certificate cleared (04 R134, R140; 05 R224; 13 R529). -/
def execStreamRelease (h : Hdr) (p : Bytes) (s : State) : Out :=
  let sc := bits (fld p 0 1) 0 5
  let x := s.stream sc
  command 0x0203 h p [] [(resOk p [0x1F], .reservedNonzero)]
    [(x.state == .configured, .badState), (x.group.isNone, .badState)]
    (fun s => complete h 0x0203 .ok [] ((unroute sc (abortStaged sc s)).setStream sc {})) s

/-! ### BUFFER_POST (04 R135; 05 R217) -/

/-- 05 R217: a buffer posted to a descriptor with a held output receives it at once, flagged STALE. -/
def staleDelivery (sc d : Nat) (o : Output) (b : Buf) (s : State) : State :=
  let x := s.stream sc
  let s := s.setStream sc { x with hold := Tab.del x.hold d, starved := Tab.put x.starved d false }
  let s := writePicture x.cfg b o.d (.rows o.rows0 o.rows1) s
  frameDone sc { o with buf := some b, flags := setFlag o.flags .stale, held := false } s

/-- 05 R217, 01 R21: the same for a held output that is still among the stream's outputs: it is bound, what it holds is copied, and FRAME_DONE
follows in its turn. -/
def staleBinding (sc : Nat) (o : Output) (b : Buf) (s : State) : State :=
  let x := s.stream sc
  let s := s.setStream sc { (x.onOutput o.frame o.phase o.desc (fun o => { o with buf := some b, flags := setFlag o.flags .stale, held := false }))
    with starved := Tab.put x.starved o.desc false }
  let put (plane : Nat) (t : Tab Bytes) (s : State) : State := t.foldl (fun s e => writeRow (x.cfgOf o.frame) b o.d plane e.1 e.2 s) s
  afterOutputs sc (put 1 o.rows1 (put 0 o.rows0 s))

/-- The held output of a descriptor, once it has left the stream's outputs. -/
def heldOutput (x : Stream) (d : Nat) : Option Output := Tab.get none (Tab.map (fun _ o => some o) x.hold) d

/-- The held output of a descriptor among the stream's outputs. -/
def holding (x : Stream) (d : Nat) : Option Output := x.outputs.find? (fun o => o.desc == d && o.held)

/-- BUFFER_POST (04 R135; 05 R213, R217). -/
def execBufferPost (h : Hdr) (p : Bytes) (s : State) : Out :=
  let sc := bits (fld p 0 1) 0 5
  let kind := fld p 1 1
  let d := bits (fld p 2 1) 0 3
  let x := s.stream sc
  let b := bufOf p
  let c := (settled s sc).cfg
  let desc := Tab.get none (Tab.map (fun _ e => some e) c.descs) d
  command 0x0204 h p []
    [(resOk p ([0x1F, 0xFF, 0x07, 0] ++ full 28), .reservedNonzero), (kind ≤ 1, .badField), (kind == 1 || d == 0, .badField),
     (b.plane0 % 256 == 0 && b.plane1 % 256 == 0 && b.pitch0 % 64 == 0 && b.pitch1 % 64 == 0, .badField)]
    [ (x.state == .configured || x.state == .running || x.state == .draining, .badState),
      ((if kind = 0 then x.inBufs.length else (Tab.get [] x.outBufs d).length) < 16, .queueFull),
      (kind == 1 || x.cfg.sourceKind == 1, .badField),
      (kind == 1 || x.state != .draining, .badState),
      (kind == 0 || desc.isSome, .notFound),
      ((if kind = 0 then bufOk b c.inFormat c.inW else (desc.map (fun e => bufOk b e.format e.outW)).getD true), .badField) ]
    (fun s =>
      let x := s.stream sc
      if kind = 0 then complete h 0x0204 .ok [] (s.setStream sc { x with inBufs := x.inBufs ++ [b] })
      else match heldOutput x d with
        | some o => staleDelivery sc d o b (complete h 0x0204 .ok [] s)
        | none => match holding x d with
          | some o => staleBinding sc o b (complete h 0x0204 .ok [] s)
          | none => complete h 0x0204 .ok [] (s.setStream sc { x with outBufs := Tab.put x.outBufs d (Tab.get [] x.outBufs d ++ [b]) })) s

/-! ### ROUTE_SET (04 R136; 05 R198 to R202) -/

/-- Some other uncommitted ROUTE_SET names the source or the target (05 R201). -/
def routePending (s : State) (src : Nat) (target : Option Nat) : Bool :=
  s.cam.sources.any (fun e => match e.2.routing with
    | some t => e.1 == src || (t.isSome && t == target)
    | none => false)

/-- ROUTE_SET: at once, or at the source's next frame start while it feeds a running stream (05 R199). It then stays in flight: it completes OK
when that commit falls within 20 ms of its fetch, and PENDING at that bound otherwise (05 R200). -/
def execRouteSet (h : Hdr) (p : Bytes) (s : State) : Out :=
  let src := bits (fld p 0 1) 0 2 * 16 + bits (fld p 0 1) 4 4
  let t := fld p 1 1
  let target : Option Nat := if t = 0xFF then none else some t
  command 0x0205 h p [] [(resOk p [0xF3, 0xFF], .reservedNonzero), (t == 0xFF || t < 32, .badField)]
    [ (t == 0xFF || (s.stream t).state != .free, .badState), (t == 0xFF || (s.stream t).cfg.sourceKind == 2, .badState),
      (t == 0xFF || (s.stream t).state == .configured || (s.stream t).state == .running, .badState),
      (!routePending s src target, .badState) ]
    (fun s =>
      let busy := ((feeds s src).map (runs s)).getD false
      if busy then
        let e : Staged := { ring := h.ring, tag := h.tag, opcode := 0x0205#16, target := 32 + src, ready := true, boundaries := 0, change := .route src target }
        markStarted h ({ s with staged := s.staged ++ [e] }.setSource src { s.source src with routing := some target })
      else
        let f := (target.map (fun b => if runs s b then (s.stream b).nextFrame.toNat else 0)).getD 0
        complete h 0x0205 .ok (effective f) (commitRoute src target s)) s

/-! ### OUTPUT_SET (04 R137) -/

/-- OUTPUT_SET (04 R130, R137; 02 R46; 05 R197). -/
def execOutputSet (h : Hdr) (p : Bytes) (s : State) : Out :=
  let sc := bits (fld p 0 1) 0 5
  let d := fld p 1 1
  let op := fld p 2 1
  let e := descOf p 4
  let x := s.stream sc
  let y := settled s sc
  let c : Change := .output d (if op = 0 then some e else none)
  let has := (y.cfg.descs.any (fun q => q.1 == d))
  command 0x0206 h p []
    [ (resOk p ([0x1F, 0x07, 0xFF, 0] ++ (if op = 0 then descMask else full 32)), .reservedNonzero), (op ≤ 1, .badField),
      (op != 0 || descForm e, .badField) ]
    [ (x.state != .free, .badState), (x.state == .configured || x.state == .running, .badState),
      (op != 0 || ((planOf s y.cfg).map (fun pl => descFits pl y.cfg e)).getD true, .badField),
      (op != 1 || has, .notFound), (op != 1 || y.cfg.descs.length != 1, .badState),
      (op != 0 || descriptorsOk s sc c, .noResource),
      (x.state != .running || certOk s sc (applyPure y c), .certOverBudget) ]
    (boundaryCommand 0x0206 h sc c) s

/-! ### GROUP_SET (04 R138; 05 R203, R210, R211) -/

/-- GROUP_SET: immediate without a running member, otherwise a group change that commits at the common boundary. -/
def execGroupSet (h : Hdr) (p : Bytes) (s : State) : Out :=
  let g := bits (fld p 0 1) 0 3
  let policy := fld p 1 1
  let m := fld p 4 4
  let l := maskBits m 32
  let old := (s.group g).members
  command 0x0207 h p [] [(resOk p ([0x07, 0xFF, 0, 0] ++ full 4), .reservedNonzero), (policy ≤ 3, .badField)]
    [ (l.all (fun i => (s.stream i).state != .free && ((s.stream i).group.isNone || (s.stream i).group == some g)), .badState),
      (l.all (fun i => (s.stream i).state == .configured || (s.stream i).state == .running), .badState),
      (m == 0 || ratesAlign (l.map (fun i => (settled s i).cfg)), .badState),
      (m != 0 || old != 0, .notFound) ]
    (fun s =>
      if (l ++ maskBits old 32).any (runs s) then stage h 0x0207 g true (.group m policy) s
      else complete h 0x0207 .ok (effective 0) (setGroupMembers g m policy s)) s

/-! ### SET_PROFILE, CERT_READ (04 R139, R140) -/

/-- SET_PROFILE: pin a class or follow the vote (04 R139; 13 R547). -/
def execSetProfile (h : Hdr) (p : Bytes) (s : State) : Out :=
  let sc := bits (fld p 0 1) 0 5
  let mode := fld p 1 1
  let c : Change := .pin (if mode = 1 then some (bits (fld p 2 1) 0 4) else none)
  let x := s.stream sc
  command 0x0208 h p [] [(resOk p [0x1F, 0xFF, 0x0F], .reservedNonzero), (mode ≤ 1, .badField)]
    [(x.state == .configured || x.state == .running, .badState)]
    (boundaryCommand 0x0208 h sc c) s

/-- CERT_READ: the 64 B record to host memory (04 R140; 02 R30). -/
def execCertRead (h : Hdr) (p : Bytes) (s : State) : Out :=
  let sc := bits (fld p 0 1) 0 5
  let dest := fld p 4 8
  command 0x0209 h p [] [(resOk p ([0x1F, 0, 0, 0] ++ full 8), .reservedNonzero), (destOk h dest, .badField)] []
    (fun s => complete h 0x0209 .ok [] (deliverData h dest (certBytes sc (s.stream sc).cert) s)) s

end Sys2Proof.Machine
end

