-- ==== Sys2Proof/Machine/ModelCmd.lean ====
section
/-! DEFINITION. Models and the residency queue (04 R124 to R128; 05 R196; 10 R415 to R421, R425). -/
namespace Sys2Proof.Machine

/-- Owner number of a model handle. -/
def handleOwner (h : Nat) : Nat := 200 + h

/-- A stream that is not FREE, or a job, names a model, in its configuration, its shadow set or a staged change (04 R127, R178). -/
def modelNamed (s : State) (h : Nat) : Bool :=
  (List.range 32).any (fun i =>
    let x := s.stream i
    x.state != .free && (x.cfg.handle == h || x.shadow.any (fun c => match c with | .config g => g.handle == h | _ => false)
      || (stagedChanges s i).any (fun e => match e.change with | .config g => g.handle == h | _ => false)))
  || (activeJobs s).any (fun j => (s.job j).handle == h)

/-- The profile tables a stream names: in force, in its shadow set and staged. -/
def namedTables (s : State) (i : Nat) : List ProfileTable :=
  (s.stream i).table :: ((s.stream i).shadow ++ (stagedChanges s i).map (·.change)).filterMap (fun c => match c with | .table t => some t | _ => none)

/-- A variant is named by the profile table or the shadow set of a stream that is not FREE, or by an active job (04 R126). -/
def variantNamed (s : State) (h v : Nat) : Bool :=
  (List.range 32).any (fun i => (s.stream i).state != .free && (settled s i).cfg.handle == h && (namedTables s i).any (fun t => (tableVariants t).contains v))
  || (List.range 32).any (fun i => (s.stream i).state != .free && (s.stream i).cfg.handle == h && (namedTables s i).any (fun t => (tableVariants t).contains v))
  || (activeJobs s).any (fun j => (s.job j).handle == h && (s.job j).variant == v)

/-- Evict a variant (04 R126): its extent is free. -/
def evict (h v : Nat) (s : State) : State :=
  let hit (e : Nat × Nat × Nat) : Bool := e.1 == h * 16 + v
  let units := (s.mem.extents.filter hit).flatMap (fun e =>
    if s.mem.flat then (List.range 16).flatMap (fun c => (List.range e.2.2).map (fun k => c * 16 + e.2.1 + k)) else (List.range e.2.2).map (e.2.1 + ·))
  let s := { s with mem := { s.mem with extents := s.mem.extents.filter (fun e => !hit e)
                                        knOwner := s.mem.knOwner.filter (fun e => !(units.contains e.1 && e.2 == handleOwner h)) } }
  let m := s.model h
  s.setModel h { m with resident := m.resident - (if bit m.resident v then 2 ^ v else 0) }

/-- An operation of the residency queue without the variants of a mask of a model. -/
def ResidencyOp.without (h mask : Nat) (o : ResidencyOp) : ResidencyOp :=
  if o.handle = h then { o with mask := toMask ((maskBits o.mask 16).filter (fun v => !bit mask v)) } else o

/-- Evict the variants of a mask (04 R126). An operation of an earlier command that has yet to make one of them resident makes it so no
longer: the two commands take effect in fetch order (03 R74). -/
def evictMask (h mask : Nat) (s : State) : State :=
  (maskBits mask 16).foldl (fun s v => evict h v s)
    { s with residency := s.residency.map (·.without h mask), residing := s.residing.map (·.without h mask) }

/-- The MODEL_RESIDE commands of a model that have not ended are aborted (DESIGN CHOICE, assumption 90). -/
def abortResides (h : Nat) (s : State) : State :=
  (s.staged.filter (fun e => match e.change with | .reside g _ => g == h | _ => false)).foldl (fun s e =>
    stagedOutcome e.ring e.tag e.opcode.toNat .aborted 0 [] { s with staged := s.staged.filter (· != e) }) s

/-- Drop a model: its operations, its variants, its package's DRAM, and the handle (04 R127). -/
def dropModel (h : Nat) (s : State) : State :=
  let s := freeDram (handleOwner h) (evictMask h 0xFFFF (abortResides h s))
  ({ s with residency := s.residency.filter (fun o => o.handle != h), residing := s.residing.filter (fun o => o.handle != h) }).setModel h {}

/-! ### Residency (05 R196, 10 R415 to R420) -/

/-- Place the weight extent of one variant, none when no run is left (04 R126, 10 R416, R420). -/
def placeVariant (h v : Nat) (s : State) : Option State :=
  let n := variantUnits (headOf s h) v
  if bit (s.model h).resident v || s.mem.extents.any (fun e => e.1 == h * 16 + v) then some s
  else if n = 0 then some { s with mem := { s.mem with extents := s.mem.extents ++ [(h * 16 + v, 0, 0)] } }
  else if s.mem.flat then
    match (List.range 17).find? (fun i => i + n ≤ 16 && s.mem.extents.all (fun e => e.2.1 + e.2.2 ≤ i || i + n ≤ e.2.1)) with
    | none => none
    | some i =>
      let s := (List.range 16).foldl (fun s c => takeKennel (handleOwner h) (c * 16 + i) n s) s
      some { s with mem := { s.mem with extents := s.mem.extents ++ [(h * 16 + v, i, n)] } }
  else
    match kennelRun s n with
    | none => none
    | some i =>
      let s := takeKennel (handleOwner h) i n s
      some { s with mem := { s.mem with extents := s.mem.extents ++ [(h * 16 + v, i, n)] } }

/-- Place every variant of an operation, or none. -/
def placeAll (h : Nat) : List Nat → State → Option State
  | [], s => some s
  | v :: l, s => (placeVariant h v s).bind (placeAll h l)

/-- Kennel need, in KiB, of the variants of a mask of a model. -/
def maskKib (s : State) (h mask : Nat) : Nat := ((maskBits mask 16).map (variantKib (headOf s h))).sum

/-- Kennel need of every resident variant of every model, with a mask added to one of them (04 R126). -/
def residentKib (s : State) (h mask : Nat) : Nat :=
  ((List.range 64).map (fun i => maskKib s i ((s.model i).resident ||| (if i = h then mask else 0)))).sum

/-- The variants can be made resident: the sum fits the Kennel, or a slice in flat mode (04 R126). -/
def residentFits (s : State) (h mask : Nat) : Bool := residentKib s h mask ≤ (if s.mem.flat then 2048 else 32768)

/-- The command that an operation served ends with a status: its staged change is dropped, and nothing changes (04 R174); a load
leaves its handle empty (04 R124). -/
def failStaged (ring : Nat) (tag : U16) (st : Status) (s : State) : State :=
  match s.staged.find? (fun e => e.ring == ring && e.tag == tag) with
  | none => s
  | some e =>
    let s := { s with staged := s.staged.filter (· != e) }
    let s := match e.change with
      | .load h => dropModel h s
      | .config _ => (freeDram (nextOwner e.target) (freeOwner (nextOwner e.target) s)).setStream e.target { s.stream e.target with nextCores := none, nextRegions := none }
      | _ => s
    stagedOutcome ring tag e.opcode.toNat st 0 [] s

/-- An operation ends: a MODEL_RESIDE or MODEL_LOAD completes; a stream's change becomes ready at its boundary (05 R196). -/
def residencyEnded (o : ResidencyOp) (s : State) : State :=
  match o.forCmd with
  | none => s
  | some (ring, tag) =>
    match s.staged.find? (fun e => e.ring == ring && e.tag == tag) with
    | none => s
    | some e =>
      match e.change with
      | .load h => stagedOutcome ring tag e.opcode.toNat .ok 0 [] (({ s with staged := s.staged.filter (· != e) }).setModel h { s.model h with state := 2 })
      | .reside _ _ => stagedOutcome ring tag e.opcode.toNat .ok 0 [] { s with staged := s.staged.filter (· != e) }
      | _ => commitIdle e.target s

/-- The next operation of the residency queue starts (05 R196): it takes its extents, or ends KENNEL_FULL. That of a MODEL_LOAD with
RESIDE_ALL waits at its place until the package is in DRAM (04 R124 step 9). -/
def execResidencyOperationStart (s : State) : Out :=
  .next (
    match s.residing, s.residency with
    | none, o :: rest =>
      if !s.running || (s.model o.handle).package.isNone then s
      else
        let s := { s with residency := rest }
        if o.rewrite then { s with residing := some o }
        else
          match (if residentFits s o.handle o.mask then placeAll o.handle (maskBits o.mask 16) s else none) with
          | some s => { s with residing := some o }
          | none => match o.forCmd with | some (r, t) => failStaged r t .kennelFull s | none => s
    | _, _ => s)

/-- The bytes of an extent arrive from the model's DRAM copy; what the package's sections hold is Adevar's (04 R125), so the bytes
are free data (assumption 6). -/
def fillExtent (h v : Nat) (s : State) : State :=
  (s.mem.extents.filter (fun e => e.1 == h * 16 + v)).foldl (fun s e =>
    let (b, s) := freeBytes (e.2.2 * 131072) s
    if s.mem.flat then (List.range 16).foldl (fun s c => putData .kennel (c * 2097152 + e.2.1 * 131072) b false s) s
    else putData .kennel (e.2.1 * 131072) b false s) s

/-- The Kennel units of an operation still await their zero fill or their domain (10 R417, R422). -/
def extentWaits (s : State) (o : ResidencyOp) : Bool :=
  let us := (s.mem.extents.filter (fun e => e.1 / 16 == o.handle && bit o.mask (e.1 % 16))).flatMap (fun e =>
    if s.mem.flat then (List.range 16).flatMap (fun c => (List.range e.2.2).map (fun k => c * 16 + e.2.1 + k)) else (List.range e.2.2).map (e.2.1 + ·))
  us.any (fun u => s.mem.filling.contains (1000 + u) || s.mem.kennelUp.any (fun e => e.1 == unitDomain u))

/-- Running or draining streams and active jobs whose model is h and that use a variant of the mask lose their weights (10 R425). -/
def weightsLost (h mask : Nat) (s : State) : State :=
  let s := (List.range 32).foldl (fun s i =>
    let x := s.stream i
    if x.cfg.handle == h && bit mask x.variant then faultStream 1 (x.cores.headD 0) 0 i s else s) s
  (activeJobs s).foldl (fun s j => if (s.job j).handle == h && bit mask (s.job j).variant then endJob false Status.eccUncorrectable.code j s else s) s

/-- The operation in progress ends. ok tells that the weights were written, and for a rewrite that it corrected the line. -/
def execResidencyOperationDone (ok : Bool) (s : State) : Out :=
  .next (
    match s.residing with
    | none => s
    | some o =>
      if !s.running || extentWaits s o then s
      else
        let s := { s with residing := none }
        if ok then
          let s := (maskBits o.mask 16).foldl (fun s v => fillExtent o.handle v s) s
          let m := s.model o.handle
          residencyEnded o (s.setModel o.handle { m with resident := m.resident ||| o.mask })
        else if o.rewrite then weightsLost o.handle o.mask s
        else
          let gone := (maskBits o.mask 16).filter (fun v => !bit (s.model o.handle).resident v)
          let s := gone.foldl (fun s v => evict o.handle v s) s
          match o.forCmd with | some (r, t) => failStaged r t .eccUncorrectable s | none => s)

/-! ### The model commands -/

/-- MODEL_LOAD (04 R124). -/
def execModelLoad (h : Hdr) (p : Bytes) (s : State) : Out :=
  let handle := fld p 0 1
  let len := fld p 4 4
  command 0x0100 h p [] [(resOk p ([0x3F, 1, 0, 0] ++ full 12), .reservedNonzero),
      (128 ≤ len && len ≤ 268435456 && fld p 8 8 % 4096 == 0, .badField)]
    [((s.model handle).state == 0, .badState)]
    (fun s =>
      let all := bit (fld p 1 1) 0
      let s := s.setModel handle { state := 1, resideAll := all, length := len }
      stage h 0x0100 handle false (.load handle)
        (if all then enqueueResidency { handle := handle, mask := 0, rewrite := false, forCmd := some (h.ring, h.tag) } s else s)) s

/-- Granules, scales and candidates of a plan's layers, and the menus it passes (04 R124 step 8; 09 R363, R368). -/
def planOk (p : Plan) : Bool :=
  p.paramLen ≤ 4096 && p.sets.all (fun t => t.granule == 1 || t.granule == 2 || t.granule == 4)
    && p.layers.all (fun l =>
      (match p.sets[l.set]? with | some t => l.scale ≤ t.granule | none => false)
        && layerOk l && firstEligible p l)

/-- Steps 2 to 4, and 5's placement, of 04 R124: the status of the first that fails. -/
def loadChecks (s : State) (h : Nat) (k : Package) : Option Status :=
  let len := (s.model h).length
  firstFail [
    (crc32c (k.head.take 60) == BitVec.ofNat 32 (fld k.head 60 4), .badParamCrc),
    (packageOk k.head len, .badField),
    (fld k.head 6 1 ≤ s.glb.stepping.toNat && bit (fld k.head 7 1) (b2n s.mem.flat), .planMismatch),
    ((dramRun s (ceilDiv len 1048576)).isSome, .noResource),
    (k.copied, .hostReadFailed),
    (k.crc == BitVec.ofNat 32 (fld k.head 56 4) && k.hash == (k.head.drop 24).take 32, .badParamCrc),
    (k.plans.length == fld k.head 13 1 && k.tunings.length == fld k.head 20 2 && k.plans.all planOk, .badField)]

/-- A package that passed its checks lies in DRAM from unit d (04 R124, R125): the model is loaded, or its variants become resident first
(RESIDE_ALL). -/
def packagePlaced (handle : Nat) (e : Staged) (k : Package) (d : Nat) (s : State) : State :=
  let m := s.model handle
  let (b, s) := freeBytes (m.length - k.head.length) (takeDram (handleOwner handle) d (ceilDiv m.length 1048576) s)
  let s := putDram (d * 1048576) (k.head ++ b) s
  let s := s.setModel handle { m with package := some k, dram := some (d * 1048576, m.length) }
  if m.resideAll then
    { s with residency := s.residency.map (fun o => if o.forCmd == some (e.ring, e.tag) then { o with mask := 2 ^ fld k.head 12 1 - 1 } else o) }
  else
    stagedOutcome e.ring e.tag e.opcode.toNat .ok 0 []
      (({ s with staged := s.staged.filter (· != e) }).setModel handle { s.model handle with state := 2 })

/-- MODEL_LOAD's checks and copy end (04 R124): pkg is what the reads of host memory showed, none when step 1's read failed. -/
def execModelLoadCopyDone (handle : Nat) (pkg : Option Package) (s : State) : Out :=
  .next (
    let m := s.model handle
    match s.staged.find? (fun e => e.change == .load handle) with
    | none => s
    | some e =>
      if !s.running || m.state ≠ 1 || m.package.isSome then s
      else
        match pkg with
        | none => failStaged e.ring e.tag .hostReadFailed s
        | some k =>
          match loadChecks s handle k, dramRun s (ceilDiv m.length 1048576) with
          | none, some d => packagePlaced handle e k d s
          | some st, _ => failStaged e.ring e.tag st s
          | none, none => failStaged e.ring e.tag .noResource s)

/-- Checks of a command on a loaded model (04 R126, R127). -/
def loadedChecks (s : State) (h : Nat) : List (Bool × Status) := [((s.model h).state != 0, .notFound), ((s.model h).state == 2, .badState)]

/-- MODEL_RESIDE (04 R126). -/
def execModelReside (h : Hdr) (p : Bytes) (s : State) : Out :=
  let handle := fld p 0 1
  let mask := fld p 2 2
  let mode := fld p 4 1
  command 0x0101 h p [] [(resOk p [0x3F, 0, 0xFF, 0xFF, 0xFF, 0, 0, 0], .reservedNonzero), (decide (mode ≤ 1), .badField)]
    (loadedChecks s handle ++ [(decide (mask < 2 ^ fld (headOf s handle) 12 1), .badField),
      (mode == 0 || (maskBits mask 16).all (fun v => !variantNamed s handle v), .badState)])
    (fun s =>
      if mode = 1 then complete h 0x0101 .ok [] (evictMask handle mask s)
      else stage h 0x0101 handle false (.reside handle mask)
        (enqueueResidency { handle := handle, mask := mask, rewrite := false, forCmd := some (h.ring, h.tag) } s)) s

/-- MODEL_UNLOAD (04 R127). -/
def execModelUnload (h : Hdr) (p : Bytes) (s : State) : Out :=
  let handle := fld p 0 1
  command 0x0102 h p [] [(resOk p [0x3F, 0, 0, 0], .reservedNonzero)]
    (loadedChecks s handle ++ [(!modelNamed s handle, .badState)])
    (fun s => complete h 0x0102 .ok [] (dropModel handle s)) s

/-- MODEL_QUERY (04 R128). -/
def execModelQuery (h : Hdr) (p : Bytes) (s : State) : Out :=
  let handle := fld p 0 1
  command 0x0103 h p [] [(resOk p [0x3F, 0, 0, 0], .reservedNonzero)] []
    (fun s =>
      let m := s.model handle
      let hd := headOf s handle
      complete h 0x0103 .ok (le 1 m.state ++ le 1 0 ++ le 2 m.resident ++ le 4 (maskKib s handle m.resident) ++ le 4 (fld hd 56 4)
        ++ le 1 (fld hd 12 1) ++ le 1 (fld hd 13 1)) s) s

end Sys2Proof.Machine
end

