-- ==== Sys2Proof/Machine/MemCmd.lean ====
section
/-! DEFINITION. The memory commands (04 R154 to R157; 10 R418 to R420; 14 R584). -/
namespace Sys2Proof.Machine

/-- The mode may change (04 R108, R154): no stream RUNNING or DRAINING, no job, not in a pack. -/
def modeFree (s : State) : Bool :=
  (List.range 32).all (fun i => !(runs s i || (s.stream i).state == .draining)) && (activeJobs s).isEmpty && s.pack.state == .single

/-- 10 R419: a change of memory mode. -/
def changeMode (flat : Bool) (s : State) : State :=
  let s := (List.range 64).foldl (fun s h => evictMask h 0xFFFF s) s
  let s := endOrphans 3 (fun _ => true) s
  let s := (List.range 8).foldl (fun s d => if domainOn s (16 + d) then kennelOff d s else s) s
  let s := { s with
    iac := { s.iac with sets := [], detectors := [], fills := [], on := !flat }
    mem := { s.mem with flat := flat, cmOwner := [], knOwner := [], filling := [], kennelUp := [], extents := [] }
    residency := (s.residing.toList ++ s.residency).filter (fun o => !o.rewrite), residing := none
    streams := Tab.map (fun _ (x : Stream) => { x with regions := x.regions.filter (fun r => r.mem == .dram) }) s.streams }
  setDomain 24 (!flat) s

/-- MEMORY_MODE_SET (04 R154). -/
def execMemoryModeSet (h : Hdr) (p : Bytes) (s : State) : Out :=
  let mode := fld p 0 1
  command 0x0500 h p [] [(resOk p [0xFF, 0, 0, 0], .reservedNonzero), (decide (mode ≤ 1), .badField)] [(modeFree s, .badState)]
    (fun s => complete h 0x0500 .ok [] (if (mode == 1) = s.mem.flat then s else changeMode (mode == 1) s)) s

/-- The regions of an owner in a window's memory: 0 Kennel, 1 DRAM. -/
def ownerRegion (s : State) (ownerKind owner memory : Nat) : Option Region :=
  (if ownerKind = 0 then (s.stream owner).regions else (s.job owner).regions).find? (fun r => if memory = 0 then r.mem == .kennel else r.mem == .dram)

/-- The owner exists (04 R155 step 1). -/
def ownerLive (s : State) (kind owner : Nat) : Bool :=
  if kind = 0 then owner < 32 && admitted s owner && !(s.stream owner).regions.isEmpty else owner < 16 && (s.job owner).active

/-- Ranges of the owner's plan that may hold held data (04 R155 step 3). -/
def heldRanges (s : State) (kind owner : Nat) : List (Nat × Nat) :=
  ((if kind = 0 then planOf s (s.stream owner).cfg
    else ((s.model (s.job owner).handle).package).bind (fun k => k.plans[(s.job owner).plan]?)).map (·.held)).getD []

/-- The window a WINDOW_OPEN spells. -/
def windowOf (p : Bytes) : Window :=
  { isOpen := true, kind := fld p 1 1, ownerKind := fld p 2 1, owner := fld p 3 1, memory := fld p 4 1, peer := fld p 5 1
    read := bit (fld p 6 1) 0, write := bit (fld p 6 1) 1, offset := fld p 8 4, length := fld p 12 4, bar2 := fld p 16 8 }

/-- The range checks of 04 R155 step 2, 14 R584. -/
def windowRange (s : State) (w : Window) : Bool :=
  (match ownerRegion s w.ownerKind w.owner w.memory with | some r => w.offset + w.length ≤ r.len | none => false)
    && (if w.kind = 0 then w.length % 4096 == 0 && w.bar2 % 4096 == 0 && w.bar2 + w.length ≤ 268435456
        else if w.kind = 1 then w.length % 128 == 0 && w.length ≤ 16777216 else 8 ≤ w.length && w.length ≤ 256)

/-- The range may hold held data. -/
def windowHeld (s : State) (w : Window) : Bool :=
  w.memory == 0 && (heldRanges s w.ownerKind w.owner).any (fun e => w.offset < e.1 + e.2 && e.1 < w.offset + w.length)

/-- WINDOW_OPEN (04 R155). -/
def execWindowOpen (h : Hdr) (p : Bytes) (s : State) : Out :=
  let i := fld p 0 1
  let w := windowOf p
  command 0x0501 h p [] [(resOk p ([0x3F, 0xFF, 0xFF, 0xFF, 0xFF, 7, 3, 0] ++ full 16 ++ rsv 8), .reservedNonzero),
      (w.kind ≤ 2 && w.ownerKind ≤ 1 && w.memory ≤ 1, .badField)]
    [(ownerLive s w.ownerKind w.owner, .notFound), (windowRange s w, .badField),
     (!(s.window i).isOpen && !windowHeld s w && (w.kind == 0 || w.ownerKind == 0), .badState),
     (w.kind == 0 || s.pack.state == .formed, .packNotFormed),
     (w.kind != 0 || (List.range 64).all (fun k => let v := s.window k
        !v.isOpen || v.kind != 0 || v.bar2 + v.length ≤ w.bar2 || w.bar2 + w.length ≤ v.bar2), .noResource)]
    (fun s => complete h 0x0501 .ok [] (s.setWindow i w)) s

/-- WINDOW_CLOSE (04 R156). -/
def execWindowClose (h : Hdr) (p : Bytes) (s : State) : Out :=
  let i := fld p 0 1
  command 0x0502 h p [] [(resOk p [0x3F, 0, 0, 0], .reservedNonzero)] [((s.window i).isOpen, .notFound)]
    (fun s => complete h 0x0502 .ok [] (closeWindow 1 i s)) s

/-- SCRUB_SET (04 R157). 0 disables scrubbing and is no interval below 64 (assumption 14). -/
def execScrubSet (h : Hdr) (p : Bytes) (s : State) : Out :=
  let m := fld p 0 1
  let us := fld p 4 4
  command 0x0503 h p [] [(resOk p ([0xFF, 0, 0, 0] ++ full 4), .reservedNonzero),
      (m ≤ 2 && (us == 0 || (16 ≤ us && us ≤ 65535)), .badField)]
    [(us == 0 || 64 ≤ us || !anyCert s .valid, .badState)]
    (fun s => complete h 0x0503 .ok [] { s with mem := { s.mem with scrubInterval := Tab.put s.mem.scrubInterval m us } }) s

end Sys2Proof.Machine
end

