-- ==== Sys2Proof/Machine/Outputs.lean ====
section
/-! DEFINITION. Outputs on their way (02 R55, R56; 05 R206, R209; 07 R281, R282, R295 to R302, R308 to R310; 10 R432): tiles and bands,
the OFM's rows, completion, deadlines, the windows of group frames. -/
namespace Sys2Proof.Machine

/-! ### Tiles and bands (07 R281, R282, R298) -/

/-- Set the state of a tile. -/
def setTile (x : Stream) (n : U32) (ph i : Nat) (st : TileState) : Stream :=
  { x with tiles := x.tiles.filter (fun t => !(t.interval = n && t.phase == ph && t.index == i))
                      ++ [{ interval := n, phase := ph, index := i, state := st }] }

/-- The state of a band. -/
def bandOf (x : Stream) (n : U32) (ph b : Nat) : Option BandState :=
  (x.bands.find? (fun e => e.interval = n && e.phase == ph && e.index == b)).map (·.state)

/-- Set the state of a band. -/
def setBand (x : Stream) (n : U32) (ph b : Nat) (st : BandState) : Stream :=
  { x with bands := x.bands.map (fun e => if e.interval = n && e.phase == ph && e.index == b then { e with state := st } else e) }

/-! ### Flow and the states of tiles (07 R279 to R281, R289, R295, R297, R312) -/

/-- A flow component clamped to a margin, pixels, in quarter-pixels (07 R279). -/
def clampFlow (margin : Nat) (v : Int) : Int := max (-(4 * margin : Nat)) (min (4 * margin : Nat) v)

/-- F(a to b) and O(a to b) at sample (i, j) of the grid (07 R279, R280): DX, DY and the occlusion bit. -/
def flowAt (p : Plan) (a b : FrameIn) (i j : Nat) : Int × Int × Bool :=
  let v := Config.flow a.token b.token i j
  (clampFlow p.marginX v.1, clampFlow p.marginY v.2.1, v.2.2)

/-- F_x and O_x of an output's interval (07 R280, R312): the flow of the interval before, zero and clear where it has none: for the first
frame, after an absent frame, and where the interval before was not in low-latency mode. -/
def specFlow (p : Plan) (x : Stream) (o : Output) (i j : Nat) : Int × Int × Bool :=
  match x.frameAt o.span.1, x.frameAt o.span.2.1 with
  | some a, some b => if o.span.1 < o.span.2.1 && a.cfg.lowLatency then flowAt p a b i j else (0, 0, false)
  | _, _ => (0, 0, false)

/-- The flow samples (i, j) whose position (4 i + 1.5, 4 j + 1.5) lies in a tile's footprint: its rows and columns extended by REACH on every
side (07 R279, R295). The grid has ceil(W / 4) by ceil(H / 4) samples. -/
def footprint (w h reach : Nat) (rows cols : Nat × Nat) : List (Nat × Nat) :=
  let inside (e : Nat × Nat) (k : Nat) : Bool := 2 * e.1 ≤ 8 * k + 3 + 2 * reach && 8 * k + 3 ≤ 2 * (e.1 + e.2 - 1 + reach)
  ((List.range (ceilDiv h 4)).filter (inside rows)).flatMap (fun j => ((List.range (ceilDiv w 4)).filter (inside cols)).map (fun i => (i, j)))

/-- The output of an identity, whichever its descriptor. -/
def Stream.anyOutput (x : Stream) (n : U32) (ph : Nat) : Option Output := x.outputs.find? (fun o => o.frame = n && o.phase == ph)

/-- 07 R295: at every sample of a tile's footprint the true flow of its interval agrees with F_x within SPEC_TOL, and the occlusion bits are
equal. -/
def tileAgrees (s : State) (sc : Nat) (n : U32) (o : Output) (i : Nat) : Bool :=
  let x := s.stream sc
  let cfg := x.cfgOf n
  match planOf s cfg, x.frameAt o.span.2.1, x.frameAt o.span.2.2 with
  | some p, some a, some b =>
    let d := netDims p cfg
    let g := outputTiles s sc n
    (footprint d.1 d.2 p.reach ((g.span i).1, (g.span i).2.1) (g.columns i)).all (fun e =>
      let t := flowAt p a b e.1 e.2
      let f := specFlow p x o e.1 e.2
      (t.1 - f.1).natAbs ≤ cfg.specTol && (t.2.1 - f.2.1).natAbs ≤ cfg.specTol && t.2.2 == f.2.2)
  | _, _, _ => false

/-- The interval that an output lies in has ended: the frame at its end is accepted and present (07 R290, R292). -/
def intervalEnded (x : Stream) (o : Output) : Bool := (x.frameAt o.span.2.2).isSome

/-- 07 R312: in a pack, a tile whose layers need halo rows that another member holds: it lies within the guard depths of the plan's exports of
an edge of the member's rows inside the frame (DEDUCED, assumption 85). -/
def crossesPack (s : State) (sc : Nat) (n : U32) (i : Nat) : Bool :=
  let cfg := (s.stream sc).cfgOf n
  match packStream s sc, planOf s cfg with
  | true, some p =>
    match shareOf s p cfg with
    | none => false
    | some e =>
      let depth (bottom : Bool) : Nat := ((p.exports.filter (fun h => h.bottom == bottom)).map (·.rows)).sum
      let h := (netDims p cfg).2
      let t := tileSpan s sc n i
      (0 < e.1 && t.1 < 16 * e.1 + depth false) || (16 * (e.1 + e.2) < h && 16 * (e.1 + e.2) < t.1 + t.2.1 + depth true)
  | _, _ => false

/-- The state of a tile of an interpolated output in low-latency mode (07 R281): one that is never speculated is in RECOMPUTE from the start in
a pack (R312), and where its interval ended before the speculative pass reached it (DEDUCED, assumption 85). -/
def tileState (s : State) (sc : Nat) (o : Output) (i : Nat) : Option TileState :=
  match tileOf (s.stream sc) o.frame o.phase i with
  | some t => some t
  | none => if crossesPack s sc o.frame i || intervalEnded (s.stream sc) o then some .recompute else none

/-- TILE_CHECK (07 R295, R281): a HELD tile whose interval has its true flow is CONFIRMED when every flow sample of its footprint agrees within
SPEC_TOL; otherwise, and on an uncorrectable error in its held data, it goes to RECOMPUTE. The reads of the flow may find errors (10 R424,
R425; 11 R486). -/
def execTileCheck (sc frame phase tile : Nat) (eccError : Bool) (errors : List ReadError) (s : State) : Out :=
  .next (
    let x := s.stream sc
    let n : U32 := BitVec.ofNat 32 frame
    match x.anyOutput n phase with
    | none => s
    | some o =>
      if (x.state == .running || x.state == .draining) && tileOf x n phase tile == some .held && (eccError || intervalEnded x o) then
        let s := foundErrors none errors s
        let x := s.stream sc
        if tileOf x n phase tile != some .held then s
        else if !eccError && tileAgrees s sc n o tile then s.setStream sc ((setTile x n phase tile .confirmed).count .confirmed)
        else s.setStream sc (setTile x n phase tile .recompute)
      else s)

/-! ### The order of a core's tiles (01 R24; 07 R289, R297; 09 R370) -/

/-- The tiles of a list up to the tile i have all been started. -/
def startedBefore (l : List Nat) (i : Nat) (started : Nat → Bool) : Bool := (l.takeWhile (· != i)).all started

/-- The outputs of stream sc that are interpolated, one for each identity, in the order of frame and phase. -/
def Stream.interpolated (x : Stream) : List Output :=
  x.outputs.foldl (fun l o => if o.interp && !l.any (fun e => e.frame = o.frame && e.phase == o.phase) then l ++ [o] else l) []

/-- A tile of a core that waits for its check or its recomputation, its interval ended (07 R289). -/
def tilePending (s : State) (sc : Nat) (o : Output) (i : Nat) : Bool :=
  let t := tileState s sc o i
  intervalEnded (s.stream sc) o && (t == some .held || t == some .recompute || t == some .recomputing)

/-- 07 R297: what a core's RECOMPUTE tiles are ordered by: the release deadline of the earliest band a tile covers, then its row, then its
column. -/
def recomputeKey (s : State) (sc : Nat) (o : Output) (i : Nat) : Nat × Nat :=
  let bands := (s.stream sc).bands.filter (fun b => b.interval = o.frame && b.phase == o.phase && meetsBand (tileSpan s sc o.frame i) b.index)
  (bands.foldl (fun m b => min m b.releaseBy) (bands.headD { interval := 0, phase := 0, index := 0, state := .open_, releaseBy := 0 }).releaseBy, i)

/-- a comes before b. -/
def keyBefore (a b : Nat × Nat) : Bool := a.1 < b.1 || (a.1 == b.1 && a.2 < b.2)

/-- 07 R297: no RECOMPUTE tile of the core at a position comes before tile i of an output. -/
def recomputeFirst (s : State) (sc pos : Nat) (o : Output) (i : Nat) : Bool :=
  (s.stream sc).interpolated.all (fun e =>
    !intervalEnded (s.stream sc) e || ((outputTiles s sc e.frame).order pos).all (fun j =>
      tileState s sc e j != some .recompute || !keyBefore (recomputeKey s sc e j) (recomputeKey s sc o i)))

/-- The output tile a chained command makes may start on a core now, in the order of 01 R24, 07 R289, R297 and 09 R370: tiles of phase 0, of
the speculative pass, and of normal mode in visiting order, phase after phase; RECOMPUTE tiles by release deadline; no speculation
while the core has work of an interval that has ended. -/
def tileMayStart (s : State) (core : Nat) (m : TileMark) : Bool :=
  let x := s.stream m.sc
  let n : U32 := BitVec.ofNat 32 m.frame
  let g := outputTiles s m.sc n
  match (s.core core).task == some (0, m.sc), x.frameOf n with
  | true, some f =>
    let pos := f.cores.idxOf core
    let mine := g.order pos
    if f.absent || !mine.contains m.index then false
    else
      match x.anyOutput n m.phase with
      | some o =>
        if !o.interp then !m.spec && (tileOf x n m.phase m.index).isNone && startedBefore mine m.index (fun i => (tileOf x n m.phase i).isSome)
        else if f.cfg.lowLatency && !m.spec then
          tileState s m.sc o m.index == some .recompute && intervalEnded x o && recomputeFirst s m.sc pos o m.index
        else
          let started (e : Output) (i : Nat) : Bool := (if m.spec then tileState s m.sc e i else tileOf x e.frame e.phase i).isSome
          m.spec == f.cfg.lowLatency && !(started o m.index) && (m.spec || intervalEnded x o)
            && startedBefore mine m.index (started o)
            && (x.interpolated.filter (fun e => e.frame = n && e.phase < m.phase)).all (fun e => mine.all (started e))
            && (!m.spec || x.interpolated.all (fun e => ((outputTiles s m.sc e.frame).order pos).all (fun i => !tilePending s m.sc e i)))
      | none => m.phase == 0 && !m.spec && (tileOf x n 0 m.index).isNone && startedBefore mine m.index (fun i => (tileOf x n 0 i).isSome)
  | _, _ => false

/-- The descriptors on which an output of an identity is in preparation. -/
def outputDescs (x : Stream) (n : U32) (ph : Nat) : List Nat := (x.outputs.filter (fun o => o.frame = n && o.phase == ph)).map (·.desc)

/-- A band may be released: every tile over its rows is CONFIRMED or RECOMPUTED, or in normal mode computed (07 R282). -/
def bandFinal (s : State) (sc : Nat) (n : U32) (ph b : Nat) : Bool :=
  (bandTiles s sc n b).all (fun i =>
    let t := tileOf (s.stream sc) n ph i
    t == some .confirmed || t == some .recomputed || t == some .computed || t == some .discarded)

/-- BAND_RELEASE: the band's held bits are cleared, it is RELEASED, and its first release is the bind point of its outputs (07 R298,
10 R432, 05 R213). -/
def execBandRelease (sc frame phase band : Nat) (s : State) : Out :=
  .next (
    let x := s.stream sc
    let n : U32 := BitVec.ofNat 32 frame
    if (x.state == .running || x.state == .draining) && bandOf x n phase band = some .open_ && bandFinal s sc n phase band then
      let s := clearHeld sc n phase band s
      let s := s.setStream sc (setBand (s.stream sc) n phase band .released)
      (outputDescs x n phase).foldl (fun s d => afterOutputs sc (bindOutput sc n phase d s)) s
    else s)

/-! ### Deadlines (02 R55, R56; 07 R300, R301) -/

/-- Frame n + 1 is in time for the interval of frame n (07 R301); a frame without content is missing (07 R292). -/
def nextInTime (x : Stream) (n : U32) : Bool :=
  match x.frameOf n, x.frameOf (n + 1) with
  | some a, some b => !b.absent && b.acceptedAt ≤ a.acceptedAt + periodNs x.cfg
  | _, _ => false

/-- 15 R609: the payload of DEADLINE_FAULT. -/
def deadlineBytes (o : Output) (sub : Nat) : Bytes := le 4 o.frame.toNat ++ le 1 o.phase ++ le 1 o.desc ++ le 1 o.faultCause ++ le 1 sub

/-- Raise the one DEADLINE_FAULT of an output, and flag it DEGRADED (02 R56). -/
def missDeadline (sc : Nat) (o : Output) (sub : Nat) (s : State) : State :=
  let x := s.stream sc
  let x := x.onOutput o.frame o.phase o.desc (fun o => { o with missed := true, flags := setFlag o.flags .degraded })
  emit (srcSc sc) 0x010B (deadlineBytes o sub) (s.setStream sc (x.count .deadline))

/-- Outputs of an identity whose lateness is a fault: struck by a fault of 02 R55 under a valid certificate, not yet reported, neither starved
nor a group substitute (05 R208, R218). -/
def faultedOutputs (x : Stream) (n : U32) (ph : Nat) : List Output :=
  if x.cert.state == .valid then x.outputs.filter (fun o => o.frame = n && o.phase == ph && o.faultCause != 0 && !o.missed && o.atRisk && !o.uncertified)
  else []

/-- A band goes to FALLBACK (07 R282, R300, R301); where a fault struck its interval while frame n + 1 was in time, its outputs are DEGRADED and
raise DEADLINE_FAULT. -/
def bandFalls (sc : Nat) (n : U32) (ph b : Nat) (s : State) : State :=
  let s := fallBand sc n ph b s
  let x := s.stream sc
  if nextInTime x n then (faultedOutputs x n ph).foldl (fun s o => missDeadline sc o 1 s) s else s

/-- BAND_RELEASE_DEADLINE: an OPEN band whose release deadline has come goes to FALLBACK (07 R300). -/
def execBandReleaseDeadline (sc frame phase band : Nat) (s : State) : Out :=
  .next (
    let x := s.stream sc
    let n : U32 := BitVec.ofNat 32 frame
    match x.bands.find? (fun e => e.interval = n && e.phase == phase && e.index == band) with
    | some e => if (x.state == .running || x.state == .draining) && e.state == .open_ && e.releaseBy ≤ s.now then bandFalls sc n phase band s else s
    | none => s)

/-- The cause DEADLINE_FAULT names for an output: the fault that struck its work first; where the model saw none, a free one of the causes 1 to
5 of 15 R618 (assumption 86). -/
def lateCause (sc : Nat) (o : Output) (s : State) : State :=
  if o.faultCause != 0 then s
  else
    let (k, s) := freeNat 5 s
    s.setStream sc ((s.stream sc).onOutput o.frame o.phase o.desc (fun o => { o with faultCause := k + 1 }))

/-- An output of a valid certificate is late: DEADLINE_FAULT with what replaces it (02 R56). -/
def lateOutput (sc : Nat) (o : Output) (sub : Nat) (s : State) : State :=
  let s := lateCause sc o s
  match (s.stream sc).output o.frame o.phase o.desc with
  | some o => if o.missed then s else missDeadline sc o sub s
  | none => s

/-- OUTPUT_DEADLINE: an output that is not complete at its deadline under a valid certificate is replaced (02 R56, R58): an interpolated one by
the fallback of its OPEN bands, any other by a repeat of the descriptor's last output or black. At degrade level 3 and above every output
is such a repeat, without DEADLINE_FAULT (17 R672, R695). Starved outputs and group substitutes are no lateness (05 R208, R218), nor is
fallback for a frame n + 1 that is not in time (07 R301). A follower's part is the leader's affair. -/
def execOutputDeadline (sc frame phase desc : Nat) (s : State) : Out :=
  .next (
    let x := s.stream sc
    let n : U32 := BitVec.ofNat 32 frame
    match x.output n phase desc with
    | none => s
    | some o =>
      let black := !(Tab.get false x.delivered desc)
      let fill := if black then Pic.black else lastPicture x desc
      let flags := if black then [FFlag.black] else []
      if !o.atRisk || s.now < o.deadline || followsPack s sc || !(x.state == .running || x.state == .draining) then s
      else if levelRepeats x then substitute sc n phase desc (some fill) flags s
      else if x.cert.state != .valid || o.uncertified then s
      else if o.interp then
        let s := if nextInTime x n then lateCause sc o s else s
        let s := (x.bands.filter (fun e => e.interval = n && e.phase == phase && e.state == .open_)).foldl (fun s e => bandFalls sc n phase e.index s) s
        let s := if nextInTime x n then lateOutput sc o 1 s else s
        completeNow sc n phase desc s
      else substitute sc n phase desc (some fill) flags (lateOutput sc o (if black then 2 else 0) s))

/-! ### The OFM (07 R308 to R310) -/

/-- Network rows that output row y reads (07 R308, R309): the six taps around its position, its phase rounded to 1/64; where rows are
averaged first, the taps' samples lie within 4 averaged rows. -/
def rowsRead (d : Desc) (netH y : Nat) : Nat × Nat :=
  let oh := max 1 d.outH
  let m := if d.cropH ≤ 2 * oh then 1 else if d.cropH ≤ 4 * oh then 2 else 4
  let at_ := (64 * (2 * oh * d.cropY + (2 * y + 1) * d.cropH - oh) + oh) / (128 * oh)
  let lo := if m = 1 then at_ - 2 else at_ - 3 * m
  (lo, min netH (at_ + (if m = 1 then 4 else 4 * m + 1)) - lo)

/-- Every band under the rows that an output row reads is RELEASED or FALLBACK; for phase 0 its rows are computed, where cores make them
(07 R310). -/
def rowReleased (s : State) (sc : Nat) (o : Output) (y : Nat) : Bool :=
  let x := s.stream sc
  match planOf s (x.cfgOf o.frame) with
  | none => false
  | some p =>
    let e := rowsRead o.d (netDims p (x.cfgOf o.frame)).2 y
    if o.interp then
      (x.bands.filter (fun b => b.interval = o.frame && b.phase == o.phase && meetsBand (e.1, e.2, 0) b.index)).all
        (fun b => b.state == .released || b.state == .fallback)
    else plainPhase p || phaseZeroReady s sc o.frame e.1 (e.1 + e.2)

/-- OFM_ROW_WRITE: the next row of an output, once the rows it reads are released; writing the first row is the bind point of an
output that is not released in bands (07 R310, 05 R213, R216). -/
def execOfmRowWrite (sc frame phase desc row : Nat) (s : State) : Out :=
  .next (
    let x := s.stream sc
    let n : U32 := BitVec.ofNat 32 frame
    match x.output n phase desc with
    | none => s
    | some o =>
      if !(x.state == .running || x.state == .draining) || o.complete || !rowReleased s sc o row
          || (ownRows s sc o.d)[o.rowsDone]? != some row then s
      else
        let s := bindOutput sc n phase desc s
        match (s.stream sc).output n phase desc with
        | none => afterOutputs sc s
        | some o =>
          if o.bound then
            let s := writeOutputRow sc o row s
            s.setStream sc ((s.stream sc).onOutput n phase desc (fun o => { o with rowsDone := o.rowsDone + 1 }))
          else s)

/-- OUTPUT_COMPLETE: the last row has reached host memory; FRAME_DONE follows in order (07 R310, 01 R21, R27). -/
def execOutputComplete (sc frame phase desc : Nat) (s : State) : Out :=
  .next (
    let x := s.stream sc
    let n : U32 := BitVec.ofNat 32 frame
    match x.output n phase desc with
    | none => s
    | some o =>
      if (x.state == .running || x.state == .draining) && o.bound && !o.complete && o.rowsDone == (ownRows s sc o.d).length then
        finishOutput sc n phase desc s
      else s)

/-! ### Group frames (05 R205, R206, R209, R212) -/

/-- STRICT: the frame a present member has in the group frame is dropped (05 R206). -/
def strictDrop (f : GroupFrame) (sc : Nat) (s : State) : State :=
  let n := Tab.get 0 f.frames sc
  frameDropped sc n 4 true ((((s.stream sc).frames.find? (fun e => e.frame = n)).map (·.sensorFrame)).getD 0) (dropFrame sc n s)

/-- GROUP_WINDOW_EXPIRY: W has passed for the group frame being collected: running members without a frame have underrun, and the
policy applies (05 R206). A member that started after the frame opened is not one of it (05 R212). -/
def execGroupWindowExpiry (group : Nat) (s : State) : Out :=
  .next (
    let g := s.group group
    match g.frames.find? (fun f => !f.windowClosed) with
    | none => s
    | some f =>
      if s.now < f.openedAt + groupWindow s g then s
      else
        let late := g.list.filter (fun m => runs s m && (s.stream m).startedAt ≤ f.openedAt && !f.present.contains m)
        let s := s.setGroup group { g with frames := g.frames.map (fun e => if e.number = f.number then { e with windowClosed := true } else e) }
        let s := late.foldl (fun s m => underrun group m f.number s) s
        let s := if g.policy = 3 && !late.isEmpty then f.present.foldl (fun s m => strictDrop f m s) s else s
        groupFinish group s)

end Sys2Proof.Machine
end

