-- ==== Sys2Proof/Machine/Formats.lean ====
section
/-! DEFINITION. What the Fetcher's streams are made of (11 R452 to R459, R469, R470): address-generation programs, index streams and the
block feature-map formats. Functions of bytes alone. -/
namespace Sys2Proof.Machine

/-! ### Address-generation programs (11 R452 to R454) -/

/-- A word of an AGP has a defined opcode and no unnamed bit set (11 R452). -/
def agpWordOk (w : Nat) : Bool :=
  match bits w 28 4 with
  | 0 => bits w 0 28 == 0
  | 1 => bits w 26 2 == 0 && bits w 20 4 == 0
  | 2 => bits w 26 2 == 0 && bits w 0 24 == 0
  | 3 | 4 => true
  | 5 => bits w 13 15 == 0
  | 6 | 7 => bits w 24 2 == 0
  | _ => false

/-- The state of the interpreter of 11 R453: added offsets, strides, counters, limits and starts of the four levels, depth, word, and
the bursts emitted, newest first. -/
structure Agp where
  fadd : Int := 0
  nadd : Int := 0
  fs : List Int := [0, 0, 0, 0]
  ns : List Int := [0, 0, 0, 0]
  i : List Nat := [0, 0, 0, 0]
  n : List Nat := [0, 0, 0, 0]
  start : List Nat := [0, 0, 0, 0]
  depth : Nat := 0
  pc : Nat := 0
  count : Nat := 0
  bursts : List (Int × Int × Nat) := []
deriving DecidableEq, Repr

/-- A signed immediate with its scale (11 R452). -/
def agpImm (w : Nat) : Int := signed 24 (bits w 0 24) * 2 ^ (4 * bits w 26 2)

/-- The sum over the open levels of iteration times stride (11 R453). -/
def agpSum (a : Agp) (stride : List Int) : Int :=
  ((List.range a.depth).map (fun l => (nth 0 a.i l : Int) * nth 0 stride l)).sum

/-- What one word does: the next state, none where the program is malformed (11 R453, R454). -/
def agpStep (far near : Int) (w : Nat) (a : Agp) : Option Agp :=
  let l := bits w 24 2
  let next := { a with pc := a.pc + 1 }
  match bits w 28 4 with
  | 1 =>
    if l ≠ a.depth then none
    else some { next with n := modNth (fun _ => bits w 0 20 + 1) l a.n, i := modNth (fun _ => 0) l a.i,
                          start := modNth (fun _ => a.pc + 1) l a.start, depth := a.depth + 1 }
  | 2 =>
    if a.depth = 0 || l + 1 ≠ a.depth then none
    else
      let k := nth 0 a.i l + 1
      if k < nth 0 a.n l then some { a with i := modNth (fun _ => k) l a.i, pc := nth 0 a.start l }
      else some { next with i := modNth (fun _ => 0) l a.i, depth := a.depth - 1 }
  | 3 => some { next with fs := modNth (fun _ => agpImm w) l a.fs }
  | 4 => some { next with ns := modNth (fun _ => agpImm w) l a.ns }
  | 5 =>
    if 65536 ≤ a.count then none
    else some { next with count := a.count + 1,
                          bursts := (far + a.fadd + agpSum a a.fs, near + a.nadd + agpSum a a.ns, bits w 0 13 + 1) :: a.bursts }
  | 6 => some { next with fadd := a.fadd + agpImm w }
  | 7 => some { next with nadd := a.nadd + agpImm w }
  | _ => none

/-- Run a program to its HALT or past word 15; the fuel exceeds what four loops of 2^20 iterations can take. -/
def agpRun (words : List Nat) (far near : Int) : Nat → Agp → Option (List (Int × Int × Nat))
  | 0, _ => none
  | fuel + 1, a =>
    if 16 ≤ a.pc || bits (nth 0 words a.pc) 28 4 = 0 then (if a.depth = 0 then some a.bursts.reverse else none)
    else (agpStep far near (nth 0 words a.pc) a).bind (agpRun words far near fuel)

/-- The bursts of a program in order, (far, near, length); none for a malformed one (11 R453, R454). -/
def agpBursts (words : List Nat) (far near : Int) : Option (List (Int × Int × Nat)) :=
  if words.all agpWordOk then agpRun words far near (2 ^ 90) {} else none

/-! ### Index streams (11 R455) -/

/-- A number held between two bounds. -/
def clampInt (lo hi v : Int) : Int := max lo (min hi v)

/-- Source position of index k of a REL stream: (x0, y0, x1, y1, fx, fy); the nearest form has fractions 0 and repeats its point. -/
def relPosition (word outX outY outW srcW srcH mx my k : Nat) (nearest : Bool) : Nat × Nat × Nat × Nat × Nat × Nat :=
  let ox := outX + k % max 1 outW
  let oy := outY + k / max 1 outW
  let dx := clampInt (-(32 * mx : Int)) (32 * mx) (signed 16 (bits word 0 16))
  let dy := clampInt (-(32 * my : Int)) (32 * my) (signed 16 (bits word 16 16))
  let px := (clampInt 0 (((srcW : Int) - 1) * 32) (32 * ox + dx)).toNat
  let py := (clampInt 0 (((srcH : Int) - 1) * 32) (32 * oy + dy)).toNat
  if nearest then ((px + 16) / 32, (py + 16) / 32, (px + 16) / 32, (py + 16) / 32, 0, 0)
  else (px / 32, py / 32, min (px / 32 + 1) (srcW - 1), min (py / 32 + 1) (srcH - 1), px % 32, py % 32)

/-! ### Block feature-map formats (11 R457 to R459) -/

/-- Compressed bytes of a 64 B block under a BFR mode (11 R457). -/
def bfrBlock (mode : Nat) : Nat := if mode = 1 then 40 else 32

/-- Bytes of a sub-block (11 R457). -/
def bfrSub (mode : Nat) : Nat := if mode = 1 then 10 else 8

/-- Smallest shift at which the range fits the code (11 R459). -/
def bfrShift (qb range : Nat) : Nat := ((List.range 9).find? (fun s => range / 2 ^ s ≤ 2 ^ qb - 1)).getD 8

/-- The value of an 8-bit element. -/
def elem8 (uns : Bool) (b : Byte) : Int := if uns then b.toNat else signed 8 b.toNat

/-- Encode one sub-block of 16 elements of 8 bits (11 R458, R459). -/
def encode8 (qb : Nat) (uns : Bool) (x : Bytes) : Bytes :=
  let v := x.map (elem8 uns)
  let lo := v.foldl min (v.headD 0)
  let hi := v.foldl max (v.headD 0)
  let s := bfrShift qb (hi - lo).toNat
  let q := (v.zipIdx.map (fun e => (e.1 - lo).toNat / 2 ^ s * 2 ^ (16 + qb * e.2))).sum
  le (if qb = 4 then 10 else 8) (twos 8 lo + 256 * s + q)

/-- Decode one sub-block of 8-bit elements (11 R459). -/
def decode8 (qb : Nat) (uns : Bool) (b : Bytes) : Bytes :=
  let w := leVal b
  let base := if uns then (bits w 0 8 : Int) else signed 8 (bits w 0 8)
  let s := bits w 8 3
  (List.range 16).map (fun i =>
    let y := base + bits w (16 + qb * i) qb * 2 ^ s + (if s = 0 then 0 else 2 ^ (s - 1))
    BitVec.ofInt 8 (if uns then clampInt 0 255 y else clampInt (-128) 127 y))

/-- An FP16 input as the encoder reads it: sign, biased exponent, fraction (11 R459). -/
def half (h : Nat) : Nat × Nat × Nat :=
  let sg := bits h 15 1
  let e := bits h 10 5
  let f := bits h 0 10
  if e = 31 then (if f = 0 then (sg, 30, 1023) else (0, 0, 0)) else if e = 0 then (sg, 0, 0) else (sg, e, f)

/-- a / 2^k rounded to the nearest integer, ties to even. -/
def roundEven (a k : Nat) : Nat :=
  let q := a / 2 ^ k
  let r := 2 * (a % 2 ^ k)
  if 2 ^ k < r || (r = 2 ^ k && q % 2 = 1) then q + 1 else q

/-- Encode one sub-block of 8 FP16 elements (11 R459). -/
def encodeHalf (x : Bytes) : Bytes :=
  let v := (List.range 8).map (fun i => half (fld x (2 * i) 2))
  let e := (v.map (fun h => h.2.1)).foldl max 0
  let code (h : Nat × Nat × Nat) : Nat :=
    let m := if e = 0 || h.2.1 = 0 then 0 else min 63 (roundEven (1024 + h.2.2) (e + 5 - h.2.1))
    64 * h.1 + m
  le 8 (e + (v.zipIdx.map (fun h => code h.1 * 2 ^ (8 + 7 * h.2))).sum)

/-- The FP16 pattern of sign, m times 2^(e - 20), zero below 2^-14 (11 R459). -/
def halfOf (sg m e : Nat) : Nat :=
  let k := ((List.range 6).filter (fun j => 2 ^ j ≤ m)).length
  if m = 0 || e + (k - 1) < 6 then 32768 * sg
  else 32768 * sg + 1024 * (e + (k - 1) - 5) + (m - 2 ^ (k - 1)) * 2 ^ (11 - k)

/-- Decode one sub-block of FP16 elements (11 R459). -/
def decodeHalf (b : Bytes) : Bytes :=
  let w := leVal b
  (List.range 8).flatMap (fun i => le 2 (halfOf (bits w (8 + 7 * i + 6) 1) (bits w (8 + 7 * i) 6) (bits w 0 5)))

/-- Encode one 64 B block (11 R457, R483). -/
def bfrEncode (mode : Nat) (uns : Bool) (b : Bytes) : Bytes :=
  (List.range 4).flatMap (fun j =>
    let x := pad 16 (b.drop (16 * j))
    if mode = 1 then encode8 4 uns x else if mode = 2 then encode8 3 uns x else encodeHalf x)

/-- Decode one compressed block into 64 B (11 R457, R483). -/
def bfrDecode (mode : Nat) (uns : Bool) (b : Bytes) : Bytes :=
  (List.range 4).flatMap (fun j =>
    let x := pad (bfrSub mode) (b.drop (bfrSub mode * j))
    if mode = 1 then decode8 4 uns x else if mode = 2 then decode8 3 uns x else decodeHalf x)

/-- Encode a range of whole blocks. -/
def bfrEncodeAll (mode : Nat) (uns : Bool) (b : Bytes) : Bytes :=
  (List.range (b.length / 64)).flatMap (fun i => bfrEncode mode uns ((b.drop (64 * i)).take 64))

/-- Decode a range of whole compressed blocks. -/
def bfrDecodeAll (mode : Nat) (uns : Bool) (b : Bytes) : Bytes :=
  (List.range (b.length / bfrBlock mode)).flatMap (fun i => bfrDecode mode uns ((b.drop (bfrBlock mode * i)).take (bfrBlock mode)))

/-- Cut a range of n bytes at a at every multiple of g: (start, length) of each piece (11 R469, R472). -/
def cutAt (g a n : Nat) : List (Nat × Nat) :=
  if n = 0 then []
  else (List.range ((a + n + (g - 1)) / g - a / g)).map (fun k =>
    let lo := max a ((a / g + k) * g)
    (lo, min (a + n) ((a / g + k + 1) * g) - lo))

end Sys2Proof.Machine
end

