-- ==== Sys2Proof/Machine/Fetch.lean ====
section
/-! DEFINITION. The Fetcher (11 R448 to R491; 09 R377 to R391; 10 R392, R393, R408 to R413): descriptors, row waits, transactions, the
merge buffer, gathers, publication. -/
namespace Sys2Proof.Machine

/-! ### Traps (08 R356, R358; 10 R413) -/

/-- A pending trap takes effect at a tile boundary: the core stops and its stream or job is handled (08 R356). -/
def settleTrap (c : Nat) (s : State) : State :=
  let k := s.core c
  match k.trapPending with
  | some cause =>
    if k.running.isSome then s
    else coreFault c 3 cause (errAdd (0xC0 + 4 * c) 1
      (s.setCore c { k with trapPending := none, stopped := true, state := .trapped, trapCause := cause % 256 }))
  | none => s

/-- A trap, an illegal or misaligned access, a bound fault or a malformed queue entry (08 R356, 10 R413): the SCU and the Executor stop at
the next tile boundary. -/
def raiseTrap (c cause : Nat) (s : State) : State :=
  let k := s.core c
  settleTrap c (s.setCore c { k with stopped := true, trapPending := some (k.trapPending.getD cause) })

/-- The units of a core's task are zero-filled: until then its accesses wait (10 R417). -/
def taskFilled (s : State) (c : Nat) : Bool :=
  match (s.core c).task with
  | some (0, sc) => fillsDone s (s.stream sc).regions
  | some (_, j) => fillsDone s (s.job j).regions
  | none => true

/-- The core runs a microprogram's work. -/
def coreBusy (s : State) (c : Nat) : Bool :=
  s.glb.boot == .running && !s.pwr.tripped && (s.core c).state == .running && (s.core c).trapPending.isNone && taskFilled s c

/-! ### Core addresses (10 R392, R393, R400, R412) -/

/-- Who makes an access. -/
inductive Who where
  | scu | fetchRead | fetchWrite
deriving DecidableEq, Repr

/-- Where bytes lie: in a memory, or in an operand buffer 0 IB, 1 WB. -/
inductive Place where
  | mem (m : Mem) (a : Nat)
  | buf (b a : Nat)
deriving DecidableEq, Repr

/-- The n bytes at a core address, as places with their lengths, or the cause of the fault (10 R392, R393, R400). -/
def coreAt (s : State) (c : Nat) (w : Who) (a n : Nat) : Except Nat (List (Place × Nat)) :=
  let k := s.core c
  let off := a % 2 ^ 28
  match a / 2 ^ 28 with
  | 0 =>
    if k.flat then
      if 0x2C0000 < off + n then .error 0x10
      else if off + n ≤ 0xC0000 then .ok [(.mem (.cm c) off, n)]
      else if 0xC0000 ≤ off then .ok [(.mem .kennel (c * 2097152 + (off - 0xC0000)), n)]
      else .ok [(.mem (.cm c) off, 0xC0000 - off), (.mem .kennel (c * 2097152), off + n - 0xC0000)]
    else if off + n ≤ k.cmUnits * 65536 then .ok [(.mem (.cm c) (k.cmBase * 65536 + off), n)] else .error 0x10
  | 1 => if w == .fetchWrite && off + n ≤ 0x10000 then .ok [(.buf 0 off, n)] else .error 0x12
  | 2 => if w == .fetchWrite && off + n ≤ 0x20000 then .ok [(.buf 1 off, n)] else .error 0x12
  | 8 =>
    if k.flat then .error 0x12
    else if off + n ≤ k.knUnits * 131072 then .ok [(.mem .kennel (k.knBase * 131072 + off), n)] else .error 0x11
  | 12 =>
    if w == .scu then .error 0x12
    else if w == .fetchWrite then .error 0x13
    else
      let e := Tab.get (0, 0) k.wext (off / 2 ^ 24)
      if off % 2 ^ 24 + n ≤ e.2 * 131072 then
        .ok [(.mem .kennel ((if k.flat then c * 2097152 else 0) + e.1 * 131072 + off % 2 ^ 24), n)]
      else .error 0x11
  | _ => .error 0x12

/-- Read places as the task of core c does. -/
def readPlaces (c : Nat) (l : List (Place × Nat)) (s : State) : Bytes × State :=
  l.foldl (fun (r : Bytes × State) e => match e.1 with
    | .mem m a => let (b, s) := taskRead (r.2.core c).task m a e.2 r.2; (r.1 ++ b, s)
    | .buf b a => (r.1 ++ memRead (Tab.get [] (r.2.core c).buffers b) a e.2, r.2)) ([], s)

/-- Write places. -/
def writePlaces (c : Nat) (l : List (Place × Nat)) (bs : Bytes) (held : Bool) (s : State) : State :=
  (l.foldl (fun (r : Bytes × State) e => (r.1.drop e.2, match e.1 with
    | .mem m a => putData m a (r.1.take e.2) held r.2
    | .buf b a =>
      let k := r.2.core c
      r.2.setCore c { k with buffers := Tab.put k.buffers b (memWrite (Tab.get [] k.buffers b) a (r.1.take e.2)) })) (bs, s)).2

/-- Any line of some places is held. -/
def placesHeld (s : State) (l : List (Place × Nat)) : Bool :=
  l.any (fun e => match e.1 with | .mem m a => anyHeld s m a e.2 | .buf _ _ => false)

/-- Read a checked core address; the empty string where the check fails. -/
def readCore (c a n : Nat) (s : State) : Bytes × State :=
  match coreAt s c .fetchRead a n with | .ok l => readPlaces c l s | .error _ => ([], s)

/-- Write a checked core address. -/
def writeCore (c a : Nat) (bs : Bytes) (held : Bool) (s : State) : State :=
  match coreAt s c .fetchWrite a bs.length with | .ok l => writePlaces c l bs held s | .error e => raiseTrap c e s

/-! ### Descriptor fields (11 R448 to R451) -/

def dKind (b : Bytes) : Nat := bits (fld b 0 1) 0 3
def dQueue (b : Bytes) : Nat := bits (fld b 0 1) 3 1
def dWait (b : Bytes) : Bool := bit (fld b 0 1) 5
def dBfr (b : Bytes) : Nat := bits (fld b 1 1) 0 2
def dUnsigned (b : Bytes) : Bool := bit (fld b 1 1) 2
def dAgp (b : Bytes) : Bool := bit (fld b 1 1) 3
def dSeq (b : Bytes) : U16 := BitVec.ofNat 16 (fld b 2 2)
def dWaitSeq (b : Bytes) : U16 := BitVec.ofNat 16 (fld b 4 2)
def dSpace (b : Bytes) : Nat := bits (fld b 16 1) 0 2
def dHostBuf (b : Bytes) : Nat := bits (fld b 17 1) 0 2

/-- The named bits of a descriptor (11 R448 to R451). -/
def descriptorMask (kind : Nat) : List Nat :=
  let wait := [0xFF, 0x3F, 0xFF, 0xFF]
  [0x3F, 0x0F] ++ full 4 ++ rsv 2 ++ wait ++ wait
    ++ (if kind ≤ 1 then [3, 3, 0, 0] ++ full 20 ++ rsv 24
        else if kind = 2 then [3, 3] ++ full 38 ++ rsv 8
        else if kind ≤ 4 then full 12 ++ rsv 36
        else [0xFF, 0x0F, 0, 0] ++ full 4 ++ rsv 40)

/-- The descriptor is well formed, for 0x19 BAD_DESCRIPTOR (11 R448 to R451, R462; 10 R408, R409). -/
def descriptorOk (b : Bytes) : Bool :=
  let k := dKind b
  k ≤ 5 && resOk b (descriptorMask k)
    && (if k = 0 || k = 2 then dSide b == 0 else if k = 1 || k = 5 then dSide b == 1 else true)
    && (dBfr b == 0 || (k ≤ 1 && dSpace b == 1))
    && (if k ≤ 1 then
          dSpace b ≤ 2 && (dSpace b != 0 || fld b 28 4 == 0)
            && (if dAgp b then fld b 32 4 % 64 == 0 else 1 ≤ fld b 36 4 && fld b 36 4 ≤ 2 ^ 24)
        else if k = 2 then
          let abs := fld b 17 1 == 0
          dSpace b ≤ 1 && fld b 17 1 ≤ 2 && 8 ≤ fld b 18 2 && fld b 18 2 ≤ 128 && fld b 18 2 % 8 == 0
            && fld b 40 4 % 128 == 0 && 1 ≤ fld b 44 2 && fld b 44 2 ≤ (if abs then 4096 else 1024)
            && (abs || (1 ≤ fld b 50 2 && 1 ≤ fld b 36 2 && 1 ≤ fld b 38 2 && fld b 52 2 ≤ 512 && fld b 54 2 ≤ 128))
        else if k = 3 then fld b 16 4 % 8 == 0 && fld b 20 4 % 8 == 0
        else if k = 4 then fld b 16 4 % 8 == 0 && fld b 20 4 % 8 == 0 && fld b 24 4 % 8 == 0 && fld b 16 4 / 2 ^ 28 == fld b 20 4 / 2 ^ 28
        else true)

/-- A row wait: counter, edge (bottom) and rows, where it applies (11 R448). -/
def rowWait (b : Bytes) (i : Nat) : Option (Nat × Bool × Nat) :=
  let w := fld b (8 + 4 * i) 4
  if bit w 13 then some (bits w 0 12, bit w 12, bits w 16 16) else none

/-- The row waits of a descriptor. -/
def rowWaits (b : Bytes) : List (Nat × Bool × Nat) := (rowWait b 0).toList ++ (rowWait b 1).toList

/-! ### Row waits (09 R384, R387 to R391) -/

/-- The run's generation: the frame number, or the micro-batch index of a job (09 R362, R372). -/
def runGen (s : State) (c : Nat) : U32 :=
  match (s.core c).task with
  | some (1, j) => BitVec.ofNat 32 (s.job j).batches
  | _ => (s.core c).frame

/-- The counter edges whose wait has timed out in the run (09 R388). -/
def runTimedOut (s : State) (c : Nat) : List (Nat × Bool) :=
  match (s.core c).task with
  | some (0, sc) => (s.stream sc).haloTimedOut
  | some (_, j) => (s.job j).timedOut
  | none => []

/-- The counter shows the rows a wait needs (09 R384). -/
def rowsMet (s : State) (c : Nat) (w : Nat × Bool × Nat) : Bool :=
  let v := s.counter ((s.core c).ctrBase + w.1)
  v.2.2 == runGen s c && w.2.2 ≤ (if w.2.1 then v.2.1 else v.1).toNat

/-- A wait no longer holds its descriptor back: it is met, it has timed out in this run, or its counter is not the task's, which faults
at the start (09 R384, R388, 10 R400). -/
def waitOver (s : State) (c : Nat) (w : Nat × Bool × Nat) : Bool :=
  (s.core c).ctrCount ≤ w.1 || rowsMet s c w || (runTimedOut s c).contains (w.1, w.2.1)

/-- A wait that ended without its rows: they are replicated (09 R387, R388). -/
def waitLost (s : State) (c : Nat) (b : Bytes) : Bool := (rowWaits b).any (fun w => !rowsMet s c w && (runTimedOut s c).contains (w.1, w.2.1))

/-! ### Which descriptor starts (08 R342 to R346, R351; 11 R463, R464, R468) -/

/-- Tile n of queue q has completed in this run. -/
def tileDone (k : Core) (q : Nat) (n : U16) : Bool :=
  if q = 0 then !k.none0 && !later n k.tilesDone0 else !k.none1 && !later n k.tilesDone1

/-- No store-side descriptor of a tile is left (11 R464). -/
def storesDone (k : Core) (q : Nat) (n : U16) : Bool :=
  !(k.fetchQueue ++ k.fetching).any (fun e => dSide e.bytes == 1 && dQueue e.bytes == q && dSeq e.bytes == n)

/-- The leash of 4 (08 R342): tile i starts loading once tile i - 4 has been started. -/
def leashOk (k : Core) (q : Nat) (n : U16) : Bool :=
  let d := n - BitVec.ofNat 16 (if q = 0 then k.started0 else k.started1)
  d.toNat < 4 || 2 ^ 15 ≤ d.toNat

/-- The descriptor may start (11 R464, R468). -/
def descriptorReady (s : State) (c : Nat) (e : FetchEntry) : Bool :=
  let k := s.core c
  let b := e.bytes
  let q := dQueue b
  (rowWaits b).all (waitOver s c)
    && (!dWait b || (tileDone k q (dWaitSeq b) && storesDone k q (dWaitSeq b)))
    && (if dSide b = 0 then leashOk k q (dSeq b) else tileDone k q (dSeq b))
    && (dKind b != 5 || (!k.fetching.any (fun f => dSide f.bytes == 1 && dQueue f.bytes == q) && !k.merge.any (fun m => m.queue == q)))

/-- The first descriptor of a class and side, which blocks only its own class and side (11 R463). -/
def headOf_ (k : Core) (q side : Nat) : Option FetchEntry := k.fetchQueue.find? (fun e => dQueue e.bytes == q && dSide e.bytes == side)

/-- The descriptors of a class that can start. -/
def readyHeads (s : State) (c q : Nat) : List FetchEntry :=
  ((headOf_ (s.core c) q 0).toList ++ (headOf_ (s.core c) q 1).toList).filter (descriptorReady s c)

/-- The descriptor of a kind that starts next: of the primary class when one of it can start (11 R463). -/
def nextDescriptor (s : State) (c kind : Nat) : Option FetchEntry :=
  let p := readyHeads s c 0
  (if p.isEmpty then readyHeads s c 1 else p).find? (fun e => dKind e.bytes == kind)

/-! ### Remote windows (14 R584, R585) -/

/-- The open remote window of core c's stream over a task-relative byte of the Kennel (0) or DRAM (1), owned elsewhere. -/
def windowAt (s : State) (c memory off : Nat) : Option Nat :=
  match (s.core c).task with
  | some (0, sc) => (List.range 64).find? (fun i =>
      let w := s.window i
      w.isOpen && w.kind != 0 && w.owner == sc && w.memory == memory && w.peer != s.glb.packPos.toNat && w.offset ≤ off && off < w.offset + w.length)
  | _ => none

/-- Send a packet with a fresh TAG. -/
def sendTagged (dst kind index : Nat) (arg : U32) (data : Bytes) (s : State) : U16 × State :=
  let t := s.pack.nextTag
  let s := { s with pack := { s.pack with nextTag := t + 1 } }
  (t, sendFyx dst { kind := kind, src := s.glb.packPos.toNat, dst := dst, index := index, tag := t, arg := arg, data := data } s)

/-! ### Transactions (11 R469 to R477) -/

/-- Places of a requester in use: its transactions that are not complete (11 R471). -/
def placesUsed (s : State) (r : Nat) : Nat :=
  ((List.range 4).map (fun k => ((s.channel k).queue.filter (fun t => t.requester == r)).length)).sum

/-- The limit of a requester (11 R471). -/
def placeLimit (r : Nat) : Nat := if r < 16 then 24 else 64

/-- Bytes within one aligned half of a line (11 R469). -/
def isLight (a n : Nat) : Bool := a / 64 == (a + n - 1) / 64

/-- Charged size of a transaction (11 R473). -/
def chargedSize (s : State) (light isWrite : Bool) : Nat := if light && !(isWrite && s.dram.inlineEcc) then 64 else 128

/-- Put a transaction at the end of its channel's queue; answers its number. -/
def enqueueTx (t : DramTx) (s : State) : Nat × State :=
  let id := s.dram.nextId
  let ch := dramChannel t.addr
  let x := s.channel ch
  let s := s.setChannel ch { x with queue := x.queue ++ [{ t with id := id, issuedAt := s.now }] }
  (id, { s with dram := { s.dram with nextId := id + 1 } })

/-- Charge a core's transaction (15 R615). -/
def charge (r : Nat) (light isWrite : Bool) (s : State) : State :=
  if r < 16 then perfAdd (0x40 * r + 0x28) (chargedSize s light isWrite) s else s

/-- Mask of n bytes from byte o of a line. -/
def byteMask (o n : Nat) : Nat := (2 ^ n - 1) * 2 ^ o

/-- The bytes of a merge entry lie within one half. -/
def MergeEntry.light (m : MergeEntry) : Bool := m.mask < 2 ^ 64 || m.mask % 2 ^ 64 == 0

/-- Issue an entry of the merge buffer (11 R477). -/
def issueMerge (c : Nat) (m : MergeEntry) (s : State) : State :=
  let k := s.core c
  let s := s.setCore c { k with merge := k.merge.filter (fun e => e != m) }
  (enqueueTx { id := 0, requester := c, addr := m.line * 128, light := m.light, isWrite := true, issuedAt := 0, data := m.data, mask := m.mask }
    (charge c m.light true s)).2

/-- Bytes [o, o + n) touch or adjoin an entry's. -/
def MergeEntry.touches (m : MergeEntry) (line o n : Nat) : Bool :=
  m.line == line && (List.range (n + 2)).any (fun i => 1 ≤ o + i && bit m.mask (o + i - 1))

/-- A light write enters the merge buffer (11 R477); none when it must wait for a place. -/
def mergeWrite (c q : Nat) (p : Piece) (s : State) : Option State :=
  let k := s.core c
  let line := p.far / 128
  let o := p.far % 128
  match k.merge.find? (fun m => m.touches line o p.len) with
  | some m =>
    let d := memWrite ((pad 128 m.data).zipIdx.foldl (fun t e => memPut t e.2 e.1) []) o p.data
    let m' := { m with data := memRead d 0 128, mask := m.mask ||| byteMask o p.len }
    some (s.setCore c { k with merge := k.merge.map (fun e => if e = m then m' else e) })
  | none =>
    let fresh : MergeEntry := { line := line, data := List.replicate o 0 ++ p.data, mask := byteMask o p.len, openedAt := s.now, queue := q }
    if k.merge.length < 4 then some (s.setCore c { k with merge := k.merge ++ [fresh] })
    else if placesUsed s c < 24 then
      match k.merge with
      | m :: _ =>
        let s := issueMerge c m s
        some (s.setCore c { s.core c with merge := (s.core c).merge ++ [fresh] })
      | [] => none
    else none

/-- Bytes reach the near side of a piece, or free data in place of rows that never came (09 R387). -/
def landNear (c : Nat) (p : Piece) (b : Bytes) (s : State) : State :=
  if p.replicated then let (f, s) := freeBytes p.len s; writeCore c p.near f false s else writeCore c p.near b false s

/-- A read of a sector through the IAC (12 R498, R500): a hit lands at once, a miss takes a place. -/
def issueGather (c : Nat) (p : Piece) (s : State) : Option Piece × State :=
  let sector := p.far / 32 * 32
  match lookup c sector s with
  | (.bytes b, s) => (none, landNear c p ((b.drop (p.far % 32)).take p.len) s)
  | (.fill id, s) =>
    (some { p with wait := .fill id },
     (enqueueTx { id := 0, requester := c, addr := sector / 64 * 64, light := true, isWrite := false, issuedAt := 0, fill := some id } s).2)

/-- Base address and extent of a host buffer that a task has: the input planes of the frame in progress, or a job's tensors
(11 R449, R462; 09 R380). -/
def hostBuffer (s : State) (c n : Nat) : Option (Nat × Nat) :=
  match (s.core c).task with
  | some (0, sc) =>
    match (s.stream sc).frames.find? (fun f => f.frame = (s.core c).frame) with
    | some f =>
      match f.hostBuf with
      | some b =>
        if n = 0 then some (b.plane0, b.pitch0 * f.cfg.inH)
        else if n = 1 && b.plane1 != 0 then some (b.plane1, b.pitch1 * planeRows f.cfg.inFormat f.cfg.inH 1) else none
      | none => none
    | none => none
  | some (_, j) =>
    let x := s.job j
    let p := (((s.model x.handle).package).bind (fun k => k.plans[x.plan]?)).getD {}
    let rows (scale guard : Nat) : Nat := ceilDiv (nth 0 x.shape 1 * scale) (32 * max 1 scale) * (32 * max 1 scale) + 2 * guard
    if n = 2 then some (x.inAddr, x.inPitch * rows p.inScale p.inGuard * nth 0 x.shape 0)
    else if n = 3 then some (x.outAddr, x.outPitch * rows p.outScale 0 * nth 0 x.shape 0) else none
  | none => none

/-- Pitch and row bytes of an input plane: no byte between a row's end and the pitch is read (07 R276). -/
def hostRow (s : State) (c n : Nat) : Option (Nat × Nat) :=
  match (s.core c).task with
  | some (0, sc) =>
    match (s.stream sc).frames.find? (fun f => f.frame = (s.core c).frame) with
    | some f => f.hostBuf.map (fun b => (if n = 0 then b.pitch0 else b.pitch1, planeBytes f.cfg.inFormat f.cfg.inW n))
    | none => none
  | _ => none

/-- The parts of bytes [a, a + n) of a plane that lie in its rows. -/
def rowParts (pitch row a n : Nat) : List (Nat × Nat) :=
  (List.range (n / max 1 pitch + 2)).filterMap (fun i =>
    let y := a / max 1 pitch + i
    let lo := max a (y * pitch)
    let hi := min (a + n) (y * pitch + row)
    if lo < hi then some (lo, hi - lo) else none)

/-- The host buffer of a core's run may still be read: a released one may not (05 R219). -/
def hostLive (s : State) (c : Nat) : Bool :=
  match (s.core c).task with
  | some (0, sc) => (s.stream sc).frames.any (fun f => f.frame = (s.core c).frame && f.inUse)
  | _ => true

/-- A read of a host buffer at an offset has failed: every output of the run is DEGRADED, and the first failed byte of the run is reported; a job
ends with HOST_READ_FAILED (11 R489; 03 R88). -/
def hostReadLost (c n off : Nat) (s : State) : State :=
  match (s.core c).task with
  | some (0, sc) =>
    let f := (s.core c).frame
    let x := (s.stream sc).meetFault 5 true (runOutput f)
    if x.dmaFault.isNone then
      emit (srcSc sc) 0x010E (le 4 f.toNat ++ le 1 n ++ le 3 0 ++ le 8 off) (s.setStream sc { x with dmaFault := some off })
    else s.setStream sc x
  | some (_, j) =>
    let x := s.job j
    if x.status = 0 then s.setJob j { x with status := Status.hostReadFailed.code } else s
  | none => s

/-- Issue a piece that waits for a place, if it can go now; none when it is done (11 R469 to R477; 14 R584). landed is false for a
BFR LOAD, whose bytes are decoded at its end. -/
def issuePiece (c q : Nat) (p : Piece) (s : State) : Option Piece × State :=
  if p.wait != .place then (some p, s)
  else match p.space with
  | 1 =>
    let light := isLight p.far p.len
    if p.isWrite && light then
      match mergeWrite c q p s with | some s => (some { p with wait := .merged }, s) | none => (some p, s)
    else if 24 ≤ placesUsed s c then (some p, s)
    else if !p.isWrite && (s.core c).merge.any (fun m => m.touches (p.far / 128) (p.far % 128) p.len) then
      (some p, ((s.core c).merge.filter (fun m => m.touches (p.far / 128) (p.far % 128) p.len)).foldl (fun s m => issueMerge c m s) s)
    else
      let (id, s) := enqueueTx { id := 0, requester := c, addr := p.far, light := light, isWrite := p.isWrite, issuedAt := 0,
                                 data := List.replicate (p.far % 128) 0 ++ p.data, mask := byteMask (p.far % 128) p.len } (charge c light p.isWrite s)
      (some { p with wait := .dram id }, s)
  | 2 =>
    if p.isWrite then (none, s.send (.host p.far p.data))
    else if !hostLive s c then
      (none, landNear c p (List.replicate p.len 0) (hostReadLost c p.window (p.far - ((hostBuffer s c p.window).getD (0, 0)).1) s))
    else if 8 ≤ (s.reads.filter (fun r => r.purpose == .fetch c)).length then (some p, s)
    else (some { p with wait := .host s.nextRead }, startRead (.fetch c) p.far p.len s)
  | 3 => if 24 ≤ placesUsed s c then (some p, s) else issueGather c p s
  | _ =>
    let w := s.window p.window
    if p.isWrite then (none, (sendTagged w.peer 0x40 p.window (BitVec.ofNat 32 (p.far - w.offset)) p.data s).2)
    else
      let (t, s) := sendTagged w.peer 0x41 p.window (BitVec.ofNat 32 (p.far - w.offset)) (le 4 p.len) s
      (some { p with wait := .window t }, s)

/-- Issue what can go of a list of pieces, in order. -/
def issuePieces (c q : Nat) : List Piece → State → List Piece × State
  | [], s => ([], s)
  | p :: l, s =>
    let (o, s) := issuePiece c q p s
    let (l, s) := issuePieces c q l s
    (o.toList ++ l, s)

/-- Issue what can go of a list of descriptors, in their order. -/
def issueEntries (c : Nat) : List FetchEntry → State → List FetchEntry × State
  | [], s => ([], s)
  | e :: l, s =>
    let (ps, s) := issuePieces c (dQueue e.bytes) e.pieces s
    let (l, s) := issueEntries c l s
    ({ e with pieces := ps } :: l, s)

/-- The Fetcher keeps its transactions in flight (11 R471, R475). -/
def pump (c : Nat) (s : State) : State :=
  let (d, s) := issueEntries c (s.core c).draining s
  let s := s.setCore c { s.core c with draining := d.filter (fun e => !e.pieces.isEmpty) }
  let (f, s) := issueEntries c (s.core c).fetching s
  s.setCore c { s.core c with fetching := f }

/-- Change the pieces of every descriptor in flight of a core. -/
def onPieces (c : Nat) (f : List Piece → List Piece) (s : State) : State :=
  let k := s.core c
  let g (e : FetchEntry) : FetchEntry := { e with pieces := f e.pieces }
  s.setCore c { k with fetching := k.fetching.map g, draining := (k.draining.map g).filter (fun e => !e.pieces.isEmpty) }

/-- The descriptor and piece that wait for something. -/
def pieceOf (s : State) (c : Nat) (w : PieceWait) : Option (FetchEntry × Piece) :=
  (s.core c).fetching.findSome? (fun e => (e.pieces.find? (fun p => p.wait == w)).map (fun p => (e, p)))

/-- Bytes of a frame's host input that a core has read, with the tile they are for (07 R286). -/
def countInput (c q : Nat) (seq : U16) (n : Nat) (s : State) : State :=
  match (s.core c).task with
  | some (0, sc) =>
    let x := s.stream sc
    let f := (s.core c).frame
    s.setStream sc { x with frames := x.frames.map (fun e => if e.frame = f then
      { e with fetched := Tab.put e.fetched c ((Tab.get (0, 0, 0) e.fetched c).1 + n, q, seq) } else e) }
  | _ => s

/-- A read piece has its bytes: they land at the near side, unless a BFR LOAD decodes them at its end. -/
def pieceArrives (c : Nat) (w : PieceWait) (b : Bytes) (s : State) : State :=
  match pieceOf s c w with
  | some (e, p) =>
    let s := if e.bursts.isEmpty then landNear c p (pad p.len b) s else s
    let s := if p.space = 2 then countInput c (dQueue e.bytes) (dSeq e.bytes) p.len s else s
    pump c (onPieces c (fun l => l.filter (fun x => x.wait != w)) s)
  | none => s

/-! ### Bursts (11 R449, R453, R454, R470, R481, R482) -/

/-- The bursts of a LOAD or STORE: (far, near, length). -/
def burstsOf (c : Nat) (b : Bytes) (s : State) : Except Nat (List (Int × Int × Nat)) :=
  if dAgp b then
    match coreAt s c .fetchRead (fld b 32 4) 64 with
    | .error e => .error e
    | .ok l =>
      let w := (readPlaces c l s).1
      match agpBursts ((List.range 16).map (fun i => fld w (4 * i) 4)) (fld b 24 8) (fld b 20 4) with
      | some l => .ok l
      | none => .error 0x1A
  else .ok [((fld b 24 8 : Int), (fld b 20 4 : Int), fld b 36 4)]

/-- The cause that stops a burst, if any (10 R400, R412; 11 R462, R470). -/
def burstFault (s : State) (c : Nat) (b : Bytes) (x : Int × Int × Nat) : Option Nat :=
  let store := dKind b == 1
  let near := match x.2.1 with
    | .ofNat a => (match coreAt s c (if store then .fetchRead else .fetchWrite) a x.2.2 with | .ok _ => none | .error e => some e)
    | .negSucc _ => some 0x10
  let far := match x.1 with
    | .negSucc _ => some (if dSpace b = 1 then 0x17 else if dSpace b = 2 then 0x18 else 0x10)
    | .ofNat a =>
      match dSpace b with
      | 0 => (match coreAt s c (if store then .fetchWrite else .fetchRead) a x.2.2 with | .ok _ => none | .error e => some e)
      | 1 =>
        let blk := bfrBlock (dBfr b)
        if dBfr b != 0 && (a % 64 != 0 || x.2.2 % 64 != 0) then some 0x1B
        else if (if dBfr b = 0 then a + x.2.2 else (a + x.2.2) / 64 * blk) ≤ (s.core c).dramUnits * 1048576 then none else some 0x17
      | _ =>
        (match hostBuffer s c (dHostBuf b) with
         | some h => if a + x.2.2 ≤ h.2 then none else some 0x18
         | none => some 0x19)
  near.orElse (fun _ => far)

/-- The cause that stops a LOAD's or STORE's bursts or row waits, if any: the counters, then the bursts in order. -/
def transferFault (s : State) (c : Nat) (b : Bytes) (l : List (Int × Int × Nat)) : Option Nat :=
  if (rowWaits b).any (fun w => (s.core c).ctrCount ≤ w.1) then some 0x14 else l.findSome? (burstFault s c b)

/-- The task-relative Kennel offset of a core address. -/
def kennelOff_ (a : Nat) : Option Nat := if a / 2 ^ 28 = 8 then some (a % 2 ^ 28) else none

/-- A weight line that a Fetcher finds poisoned is rewritten from the model's DRAM copy (10 R425). -/
def rewriteWeights (c a n : Nat) (s : State) : State :=
  match (s.core c).task, coreAt s c .fetchRead a n with
  | some t, .ok l =>
    let handle := if t.1 = 0 then (s.stream t.2).cfg.handle else (s.job t.2).handle
    let v := bits a 24 4
    let o : ResidencyOp := { handle := handle, mask := 2 ^ v, rewrite := true, forCmd := none }
    if a / 2 ^ 28 = 12 && l.any (fun e => match e.1 with | .mem m x => (List.range e.2).any (fun i => poisoned s m (x + i)) | .buf _ _ => false)
        && !s.residency.contains o && s.residing != some o then
      { s with residency := s.residency.filter (·.rewrite) ++ [o] ++ s.residency.filter (fun x => !x.rewrite) }
    else s
  | _, _ => s

/-- Move one line's worth of bytes between core addresses; a held source makes a held destination (10 R411, R431). -/
def moveCore (c src dst n : Nat) (lost : Bool) (s : State) : State :=
  match coreAt s c .fetchRead src n with
  | .error e => raiseTrap c e s
  | .ok l =>
    let held := placesHeld s l
    let (b, s) := readPlaces c l (rewriteWeights c src n s)
    let (b, s) := if lost then freeBytes n s else (b, s)
    writeCore c dst b held s

/-- The near bytes of a store to DRAM or the host: a held line gives zeros and is counted (11 R491). -/
def storeBytes (c a n : Nat) (s : State) : Bytes × State :=
  (cutAt 128 a n).foldl (fun (r : Bytes × State) e =>
    match coreAt r.2 c .fetchRead e.1 e.2 with
    | .error _ => (r.1 ++ List.replicate e.2 0, r.2)
    | .ok l =>
      if placesHeld r.2 l then (r.1 ++ List.replicate e.2 0, errAdd 0x148 1 r.2)
      else let (b, s) := readPlaces c l r.2; (r.1 ++ b, s)) ([], s)

/-- The pieces of a DRAM or host range [far, far + n), cut at g bytes, with near addresses from near and, of a store, its bytes. -/
def piecesOf (space g far near n : Nat) (isWrite lost : Bool) (data : Bytes) : List Piece :=
  (cutAt g far n).map (fun e =>
    { space := space, far := e.1, near := near + (e.1 - far), len := e.2, isWrite := isWrite,
      data := if isWrite then (data.drop (e.1 - far)).take e.2 else [], replicated := lost })

/-- Pieces of a range of a task region, those under a remote window made remote (14 R584): base is its physical address. -/
def regionPieces (s : State) (c memory base off near n : Nat) (isWrite lost : Bool) (data : Bytes) : List Piece :=
  (piecesOf 1 128 (base + off) near n isWrite lost data).map (fun p =>
    match windowAt s c memory (p.far - base) with
    | some w => { p with space := 4, far := p.far - base, window := w }
    | none => p)

/-- A remote window under the pieces lacks the access (14 R585). -/
def windowDenies (s : State) (ps : List Piece) : Bool :=
  ps.any (fun p => p.space == 4 && !(if p.isWrite then (s.window p.window).write else (s.window p.window).read))

/-- What one burst of a LOAD or STORE does at its start: on-chip bytes move now; for the rest, its pieces (11 R449, R469, R470, R482). -/
def startBurst (c : Nat) (b : Bytes) (lost : Bool) (x : Int × Int × Nat) (s : State) : List Piece × State :=
  let far := x.1.toNat
  let near := x.2.1.toNat
  let n := x.2.2
  let store := dKind b == 1
  let base := (s.core c).dramBase * 1048576
  match dSpace b with
  | 0 =>
    (cutAt 128 far n).foldl (fun (r : List Piece × State) e =>
      let na := near + (e.1 - far)
      match (kennelOff_ e.1).bind (windowAt r.2 c 0) with
      | some w =>
        let (d, s) := if store then storeBytes c na e.2 r.2 else ([], r.2)
        (r.1 ++ [{ space := 4, far := e.1 % 2 ^ 28, near := na, len := e.2, isWrite := store, data := d, window := w, replicated := lost }], s)
      | none => (r.1, if store then moveCore c na e.1 e.2 false r.2 else moveCore c e.1 na e.2 lost r.2)) ([], s)
  | 1 =>
    if dBfr b = 0 then
      let (d, s) := if store then storeBytes c near n s else ([], s)
      (regionPieces s c 1 base far near n store lost d, s)
    else
      let blk := bfrBlock (dBfr b)
      let cf := far / 64 * blk
      let cn := n / 64 * blk
      let (d, s) := if store then storeBytes c near n s else ([], s)
      (piecesOf 1 128 (base + cf) near cn store lost (if store then bfrEncodeAll (dBfr b) (dUnsigned b) d else []), s)
  | _ =>
    let h := ((hostBuffer s c (dHostBuf b)).getD (0, 0)).1
    let (d, s) := if store then storeBytes c near n s else ([], s)
    let parts := match hostRow s c (dHostBuf b) with | some r => rowParts r.1 r.2 far n | none => [(far, n)]
    ((parts.flatMap (fun e => piecesOf 2 1024 (h + e.1) (near + (e.1 - far)) e.2 store lost (d.drop (e.1 - far)))).map
      (fun p => { p with window := dHostBuf b }), s)

/-- A descriptor starts: it leaves the queue and is in flight with its pieces. -/
def launch (c : Nat) (e : FetchEntry) (ps : List Piece) (bursts : List (Nat × Nat × Nat)) (s : State) : State :=
  let k := s.core c
  pump c (s.setCore c { k with fetchQueue := k.fetchQueue.filter (fun f => f.id != e.id), fetching := k.fetching ++ [{ e with pieces := ps, bursts := bursts }] })

/-- Start a LOAD or a STORE. -/
def startTransfer (c : Nat) (e : FetchEntry) (s : State) : State :=
  match burstsOf c e.bytes s with
  | .error x => raiseTrap c x s
  | .ok l =>
    match transferFault s c e.bytes l with
    | some x => raiseTrap c x s
    | none =>
      let lost := waitLost s c e.bytes
      let r := l.foldl (fun (r : List Piece × State) x => let (ps, s) := startBurst c e.bytes lost x r.2; (r.1 ++ ps, s)) ([], s)
      if windowDenies s r.1 then raiseTrap c 0x11 s
      else launch c e r.1 (if dKind e.bytes = 0 && dBfr e.bytes != 0 then l.map (fun x => (x.2.1.toNat, x.2.2, x.1.toNat)) else []) r.2

/-- FETCH_LOAD (11 R449, R463, R464, R469; 09 R378, R384, R388). -/
def execFetchLoad (core : Nat) (errors : List ReadError) (s : State) : Out :=
  .next (
    if !coreBusy s core then s
    else match nextDescriptor s core 0 with
    | some e => startTransfer core e (foundErrors none errors s)
    | none => s)

/-- FETCH_STORE (11 R449, R463, R464, R469, R491). -/
def execFetchStore (core : Nat) (errors : List ReadError) (s : State) : Out :=
  .next (
    if !coreBusy s core then s
    else match nextDescriptor s core 1 with
    | some e => startTransfer core e (foundErrors none errors s)
    | none => s)

/-! ### Gathers (11 R450, R455, R456, R480, R481) -/

/-- Source offsets of the vectors of index k, in the order of 11 R456, with its weight word. -/
def gatherVectors (b : Bytes) (word k : Nat) : List Nat × Nat :=
  let eb := fld b 18 2
  let base := fld b 24 8
  if fld b 17 1 = 0 then ([base + word * eb], 0)
  else
    let q := relPosition word (fld b 46 2) (fld b 48 2) (fld b 50 2) (fld b 36 2) (fld b 38 2) (fld b 52 2) (fld b 54 2) k (fld b 17 1 == 2)
    let at_ (x y : Nat) : Nat := base + y * fld b 32 4 + x * eb
    let w := q.2.2.2.2.1 + 256 * q.2.2.2.2.2
    if fld b 17 1 = 2 then ([at_ q.1 q.2.1], 0)
    else ([at_ q.1 q.2.1, at_ q.2.2.1 q.2.1, at_ q.1 q.2.2.2.1, at_ q.2.2.1 q.2.2.2.1], w)

/-- The weight area's bytes (11 R456): none for ABS32. -/
def weightArea (b : Bytes) (ws : List Nat) : Bytes :=
  if fld b 17 1 = 0 then [] else pad (ceilDiv (4 * fld b 44 2) 128 * 128) (ws.flatMap (le 4))

/-- The fault of one source vector (11 R481; 10 R400). -/
def vectorFault (s : State) (c : Nat) (b : Bytes) (off : Nat) : Option Nat :=
  if dSpace b = 1 then (if off + fld b 18 2 ≤ (s.core c).dramUnits * 1048576 then none else some 0x17)
  else match coreAt s c .fetchRead off (fld b 18 2) with | .ok _ => none | .error e => some e

/-- Start a gather: the weight area is written, on-chip vectors move, DRAM vectors become pieces: through the IAC by sectors in tiered
mode, as transactions of their own in flat mode. -/
def startGather (c : Nat) (e : FetchEntry) (s : State) : State :=
  let b := e.bytes
  let n := fld b 44 2
  match coreAt s c .fetchRead (fld b 40 4) (4 * n) with
  | .error x => raiseTrap c x s
  | .ok l =>
    let (idx, s) := readPlaces c l s
    let vs := (List.range n).map (fun k => gatherVectors b (fld idx (4 * k) 4) k)
    let area := weightArea b (vs.map (·.2))
    let srcs := vs.flatMap (·.1)
    let eb := fld b 18 2
    let aux := fld b 20 4
    if (rowWaits b).any (fun w => (s.core c).ctrCount ≤ w.1) then raiseTrap c 0x14 s
    else if fld b 17 1 = 0 && (List.range n).any (fun k => fld b 36 2 * fld b 38 2 ≤ fld idx (4 * k) 4) then
      raiseTrap c (if dSpace b = 1 then 0x17 else 0x11) s
    else match coreAt s c .fetchWrite aux (area.length + srcs.length * eb), srcs.findSome? (vectorFault s c b) with
    | .error x, _ => raiseTrap c x s
    | .ok _, some x => raiseTrap c x s
    | .ok _, none =>
      let s := if area.isEmpty then s else writeCore c aux area false s
      let base := (s.core c).dramBase * 1048576
      let near (i : Nat) : Nat := aux + area.length + i * eb
      let lost := waitLost s c b
      if dSpace b = 1 then
        let ps := srcs.zipIdx.flatMap (fun v =>
          if s.mem.flat then piecesOf 1 (if isLight (base + v.1) eb then 64 else 128) (base + v.1) (near v.2) eb false lost []
          else piecesOf 3 32 (base + v.1) (near v.2) eb false lost [])
        let s := if s.mem.flat then s else srcs.foldl (fun s v => charge c (isLight (base + v) eb) false s) s
        launch c e ps [] s
      else launch c e [] [] (srcs.zipIdx.foldl (fun s v => moveCore c v.1 (near v.2) eb lost s) s)

/-- FETCH_GATHER (11 R450, R480; 12 R498 to R502, R511). -/
def execFetchGather (core : Nat) (errors : List ReadError) (s : State) : Out :=
  .next (
    if !coreBusy s core then s
    else match nextDescriptor s core 2 with
    | some e => startGather core e (foundErrors none errors s)
    | none => s)

/-! ### FILL, COPY and PUBLISH (10 R408 to R411; 11 R451, R468; 09 R381; 14 R591) -/

/-- FILL and COPY reach CM and the Kennel task region only. -/
def fillTarget (s : State) (c : Nat) (w : Who) (a n : Nat) : Option Nat :=
  if a / 2 ^ 28 ≠ 0 && a / 2 ^ 28 ≠ 8 then some 0x12
  else match coreAt s c w a n with | .ok _ => none | .error e => some e

/-- FETCH_FILL (10 R408, R411). -/
def execFetchFill (core : Nat) (s : State) : Out :=
  .next (
    if !coreBusy s core then s
    else match nextDescriptor s core 3 with
    | none => s
    | some e =>
      let a := fld e.bytes 16 4
      let n := fld e.bytes 20 4
      let pat := (e.bytes.drop 24).take 4
      match fillTarget s core .fetchWrite a n with
      | some x => raiseTrap core x s
      | none => launch core e [] [] (writeCore core a ((List.range n).map (fun i => nth 0 pat ((a + i) % 4))) false s))

/-- FETCH_COPY (10 R409, R411): ranges that overlap fault. -/
def execFetchCopy (core : Nat) (errors : List ReadError) (s : State) : Out :=
  .next (
    if !coreBusy s core then s
    else match nextDescriptor s core 4 with
    | none => s
    | some e =>
      let s := foundErrors none errors s
      let a := fld e.bytes 16 4
      let d := fld e.bytes 20 4
      let n := fld e.bytes 24 4
      match (fillTarget s core .fetchRead a n).orElse (fun _ => fillTarget s core .fetchWrite d n) with
      | some x => raiseTrap core x s
      | none =>
        if a < d + n && d < a + n then raiseTrap core 0x16 s
        else launch core e [] [] ((cutAt 128 a n).foldl (fun s x => moveCore core x.1 (d + (x.1 - a)) x.2 false s) s))

/-- Publish a counter: each field the larger of its value and the new one, GEN the run's (11 R468, 09 R381). A job notes the change
(09 R389). -/
def publish (c idx : Nat) (top bottom : U16) (s : State) : State :=
  let i := (s.core c).ctrBase + idx
  let v := s.counter i
  let g := runGen s c
  let keep (x y : U16) : U16 := if v.2.2 = g && y.toNat ≤ x.toNat then x else y
  let s := s.setCounter i (keep v.1 top, keep v.2.1 bottom, g)
  match (s.core c).task with
  | some (1, j) => s.setJob j { s.job j with countedAt := s.now }
  | _ => s

/-- Rows of an edge that a counter shows for a generation. -/
def edgeRows (v : U16 × U16 × U32) (g : U32) (bottom : Bool) : Nat := if v.2.2 = g then (if bottom then v.2.1 else v.1).toNat else 0

/-- The rows that a publication has released at the edges of a pack plan go to the band neighbour on another member, and after them, on the
same class, the counter, for its mirror (14 R591; 09 R385). -/
def exportRows (sc idx : Nat) (old new : U16 × U16 × U32) (s : State) : State :=
  let x := s.stream sc
  (((planOf s x.cfg).map (·.exports)).getD []).foldl (fun s e =>
    if e.counter ≠ idx then s
    else match bandNeighbour s e.bottom, x.regions.find? (fun r => r.mem == .kennel) with
    | some pos, some r =>
      let a := min e.rows (edgeRows old new.2.2 e.bottom)
      let b := min e.rows (edgeRows new new.2.2 e.bottom)
      let (bytes, s) := outsideRead .kennel (r.base + e.src + a * e.pitch) ((b - a) * e.pitch) s
      let parts := paramParts (maxPacket s) (bytes.length + 1) (e.dst + a * e.pitch) bytes
      let s := if bytes.isEmpty then s else parts.foldl (fun s q => sendPkt pos 0x30 sc (BitVec.ofNat 32 q.1) q.2 s) s
      sendPkt pos 0x31 sc (BitVec.ofNat 32 e.mirror) (le 2 new.1.toNat ++ le 2 new.2.1.toNat ++ le 4 new.2.2.toNat) s
    | _, _ => s) s

/-- FETCH_PUBLISH (11 R468): the merge buffer of its class is emptied first. In a pack the counter also goes to the band neighbours'
mirror counters (14 R591). -/
def execFetchPublish (core : Nat) (s : State) : Out :=
  .next (
    if !coreBusy s core then s
    else match nextDescriptor s core 5 with
    | some e =>
      let idx := bits (fld e.bytes 16 2) 0 12
      let k := s.core core
      if k.ctrCount ≤ idx then raiseTrap core 0x14 s
      else
        let s := s.setCore core { k with fetchQueue := k.fetchQueue.filter (fun f => f.id != e.id) }
        let before := s.counter (k.ctrBase + idx)
        let s := publish core idx (BitVec.ofNat 16 (fld e.bytes 20 2)) (BitVec.ofNat 16 (fld e.bytes 22 2)) s
        match k.task with
        | some (0, sc) => if packStream s sc then exportRows sc idx before (s.counter (k.ctrBase + idx)) s else s
        | _ => s
    | none =>
      let k := s.core core
      let q := (List.range 2).filter (fun q => ((headOf_ k q 1).map (fun e => dKind e.bytes == 5)).getD false)
      (k.merge.filter (fun m => q.contains m.queue)).foldl (fun s m => if placesUsed s core < 24 then issueMerge core m s else s) s)

/-! ### Ends (11 R465, R466, R474, R477, R486, R488; 12 R501, R503, R513) -/

/-- The tile at the head of queue q has its operands: every load descriptor that names it has completed (08 R343, R357). -/
def headPresent (k : Core) (q : Nat) : Bool :=
  match (if q = 0 then k.queue0 else k.queue1) with
  | t :: _ => !(k.fetchQueue ++ k.fetching).any (fun e => dSide e.bytes == 0 && dQueue e.bytes == q && dSeq e.bytes == BitVec.ofNat 16 (fld t.bytes 2 2))
  | [] => false

/-- The watchdog's time starts when a tile first has its operands (08 R357). -/
def notePresent (c : Nat) (before : Core) (s : State) : State :=
  let k := s.core c
  let any (k : Core) : Bool := k.running.isSome || headPresent k 0 || headPresent k 1
  if any k && !any before then s.setCore c { k with tileAt := s.now } else s

/-- FETCH_DESCRIPTOR_COMPLETE: a descriptor without a piece left completes; a BFR LOAD's blocks are decoded (11 R465, R466, R482). -/
def execFetchDescriptorComplete (core index : Nat) (s : State) : Out :=
  .next (
    let k := s.core core
    match k.fetching[index]? with
    | none => s
    | some e =>
      if !e.pieces.isEmpty then s
      else
        let base := k.dramBase * 1048576
        let mode := dBfr e.bytes
        let lost := waitLost s core e.bytes
        let s := e.bursts.foldl (fun s x =>
          let (b, s) := taskRead k.task .dram (base + x.2.2 / 64 * bfrBlock mode) (x.2.1 / 64 * bfrBlock mode) s
          let (f, s) := if lost then freeBytes x.2.1 s else (bfrDecodeAll mode (dUnsigned e.bytes) b, s)
          writeCore core x.1 f false s) s
        let k := s.core core
        notePresent core k (s.setCore core { k with fetching := k.fetching.filter (fun f => f.id != e.id) }))

/-- MERGE_ENTRY_TIMEOUT: entries 32 core cycles old are issued (11 R477). -/
def execMergeEntryTimeout (core : Nat) (s : State) : Out :=
  .next (
    let k := s.core core
    (k.merge.filter (fun m => m.openedAt + 32000 / k.clock ≤ s.now)).foldl (fun s m => if placesUsed s core < 24 then issueMerge core m s else s) s)

/-- A write transaction is accepted: its masked bytes, and the IAC's copies of them (11 R466, R488; 12 R504). -/
def acceptWrite (t : DramTx) (s : State) : State :=
  let line := t.addr / 128 * 128
  if channelDown s t.addr then s
  else (List.range 128).foldl (fun s i =>
    if bit t.mask i then putData .dram (line + i) [nth 0 t.data i] false s else s)
    (((List.range 4).filter (fun k => bits t.mask (32 * k) 32 != 0)).foldl (fun s k => iacWrite (line + 32 * k) 32 s) s)

/-- The pieces that an accepted write of a core covers are done: its own, and merged ones within its bytes. -/
def writeDone (t : DramTx) (s : State) : State :=
  if t.requester < 16 then
    onPieces t.requester (fun l => l.filter (fun p =>
      !(p.wait == .dram t.id || (p.wait == .merged && p.far / 128 == t.addr / 128
        && byteMask (p.far % 128) p.len &&& t.mask == byteMask (p.far % 128) p.len)))) s
  else s

/-- A transaction has left its channel's queue: a write is accepted, a read answers (11 R466, R474, R486, R488). error is what inline ECC
shows of a read: 0 nothing, 1 a corrected error, 2 one that stays after its retry, 3 one that is gone at its retry, which costs time (02 R55). -/
def finishTx (t : DramTx) (error : Nat) (s : State) : State :=
  if t.isWrite then
    let s := writeDone t (acceptWrite t s)
    if t.requester < 16 then pump t.requester s else s
  else
    let ecc := s.dram.inlineEcc && (s.channel (dramChannel t.addr)).up
    let task := if t.requester < 16 then (s.core t.requester).task else none
    match t.fill with
    | some id =>
      match s.iac.fills.find? (fun f => f.id == id) with
      | none => s
      | some f =>
        let s := if ecc && error = 1 then errAdd 0x154 1 s else if ecc && error = 2 then uncorrectable .dram f.sector (dataClass s .dram f.sector) s else s
        let (b, s) := taskRead task .dram f.sector 32 s
        let bad := channelDown s f.sector || (List.range 32).any (fun i => poisoned s .dram (f.sector + i))
        let s := { s with iac := { s.iac with fills := s.iac.fills.map (fun g => if g.id = id then { g with data := some b, bad := bad } else g) } }
        if t.requester < 16 then pump t.requester s else s
    | none =>
      match pieceOf s t.requester (.dram t.id) with
      | none => if t.requester < 16 then pump t.requester s else s
      | some (_, p) =>
        let s := if ecc && error = 3 then (match task with | some (0, sc) => delayBy sc 1 s | _ => s) else s
        let s := if ecc && error = 1 then errAdd 0x154 1 s else if ecc && error = 2 then uncorrectable .dram p.far (dataClass s .dram p.far) s else s
        let (b, s) := taskRead task .dram p.far p.len s
        pieceArrives t.requester (.dram t.id) b s

/-- DRAM_TRANSACTION_COMPLETE: the oldest transaction of a channel completes its burst (11 R466, R474, R486 to R488). -/
def execDramTransactionComplete (channel error : Nat) (s : State) : Out :=
  .next (
    let ch := s.channel channel
    match ch.queue with
    | [] => s
    | t :: rest =>
      if ch.retrainingSince.isSome then s
      else finishTx t error (perfAdd ((if t.isWrite then 0x580 else 0x560) + 8 * channel) (if t.light then 64 else 128)
        (s.setChannel channel { ch with queue := rest })))

/-- IAC_FILL_RETURN: the requester has its bytes, and the fill is installed or dropped (12 R501, R503, R506, R513). -/
def execIacFillReturn (id : Nat) (s : State) : Out :=
  .next (
    match s.iac.fills.find? (fun f => f.id == id) with
    | none => s
    | some f =>
      match f.data with
      | none => s
      | some b =>
        let s := landFill f s
        if f.requester < 16 then
          match pieceOf s f.requester (.fill id) with
          | some (_, p) => pieceArrives f.requester (.fill id) ((b.drop (p.far % 32)).take p.len) s
          | none => s
        else s)

/-- A load or store of the core waits for a row counter (08 R357; 09 R384). -/
def rowWaiting (s : State) (c : Nat) : Bool :=
  (List.range 2).any (fun q => (List.range 2).any (fun side => match headOf_ (s.core c) q side with
    | some e => (rowWaits e.bytes).any (fun w => !waitOver s c w)
    | none => false))

/-! ### Halo timeouts (09 R386 to R391; 14 R601) -/

/-- A load of a core waits at the head of its class for an edge of a counter. -/
def waitsFor (s : State) (c : Nat) (w : Nat × Bool) : Bool :=
  (List.range 2).any (fun q => (List.range 2).any (fun side => match headOf_ (s.core c) q side with
    | some e => (rowWaits e.bytes).any (fun r => r.1 == w.1 && r.2.1 == w.2 && !rowsMet s c r)
    | none => false))

/-- HALO_TIMEOUT: at its halo deadline an unmet wait of a stream times out: counted, the first of the run reported, the outputs of the run
DEGRADED, and later waits on the edge decided at issue (09 R387, R388); never at boundary 0 of a camera stream (09 R390). -/
def execHaloTimeout (core boundary consumer producer counter : Nat) (top : Bool) (s : State) : Out :=
  .next (
    match (s.core core).task with
    | some (0, sc) =>
      let x := s.stream sc
      if !coreBusy s core || !waitsFor s core (counter, !top) || x.haloTimedOut.contains (counter, !top)
          || (boundary = 0 && x.cfg.sourceKind = 2) then s
      else
        let first := x.haloTimedOut.isEmpty
        let f := (s.core core).frame
        let x : Stream := { x.count .halo with haloTimedOut := x.haloTimedOut ++ [(counter, !top)] }
        let s := s.setStream sc (x.meetFault 3 true (runOutput f))
        let nc := x.cores.length
        let owner := nth core x.cores (producer % max 1 nc)
        if first then
          emit (srcSc sc) 0x010C (le 4 f.toNat ++ le 1 boundary ++ le 1 consumer ++ le 1 producer ++ le 1 (owner + 16 * s.glb.packPos.toNat)) s
        else s
    | _ => s)

/-- JOB_HALO_TIMEOUT: a job's wait whose counters have not changed for 4 ms times out; the job goes on DEGRADED (09 R389). -/
def execJobHaloTimeout (core counter : Nat) (top : Bool) (s : State) : Out :=
  .next (
    match (s.core core).task with
    | some (1, j) =>
      let x := s.job j
      if !coreBusy s core || !waitsFor s core (counter, !top) || x.timedOut.contains (counter, !top) || s.now < x.countedAt + 4000000 then s
      else s.setJob j { x with timedOut := x.timedOut ++ [(counter, !top)], degraded := true }
    | _ => s)

end Sys2Proof.Machine
end

