-- ==== Sys2Proof/Machine/Tree.lean ====
section
/-! DEFINITION. The tree vote engine (13) and the tree group of the host commands (04 R158 to R161): ensembles, the front stage, the
traversal, the tally, bindings and profile tables. -/
namespace Sys2Proof.Machine

/-! ### Nodes and trees (13 R524, R525) -/

/-- Field of a node. -/
def nodeFld (n : U64) (lo w : Nat) : Nat := bits n.toNat lo w

/-- The node is a leaf. -/
def isLeaf (n : U64) : Bool := nodeFld n 56 8 == 0xFF

/-- Depth of the tree at a node, in nodes; none for a cycle or a tree deeper than the fuel. -/
def depthOf (nodes : List U64) : Nat → Nat → Option Nat
  | 0, _ => none
  | fuel + 1, i =>
    let n := nth 0 nodes i
    if isLeaf n then some 1
    else match depthOf nodes fuel (nodeFld n 20 20), depthOf nodes fuel (nodeFld n 0 20) with
      | some a, some b => some (1 + max a b)
      | _, _ => none

/-- A node is well formed for an ensemble of nc nodes and n slots (04 R158, 13 R524, R526). -/
def nodeOk (nc n : Nat) (x : U64) : Bool :=
  if isLeaf x then nodeFld x 40 8 ≤ 15 && nodeFld x 48 8 == 0 && nodeFld x 0 32 == 0
  else nodeFld x 56 8 < n && nodeFld x 20 20 < nc && nodeFld x 0 20 < nc

/-- The walk of a tree (13 R525, R535): class and weight of the leaf, none after 64 node reads without one. -/
def walk (nodes : List U64) (slots : List Nat) : Nat → Nat → Option (Nat × Nat)
  | 0, _ => none
  | fuel + 1, i =>
    let n := nth 0 nodes i
    if isLeaf n then some (nodeFld n 40 8, nodeFld n 32 8)
    else walk nodes slots fuel (if nth 0 slots (nodeFld n 56 8) < nodeFld n 40 16 then nodeFld n 20 20 else nodeFld n 0 20)

/-- The nodes that a walk reads, in their order (13 R525, R535). -/
def walkPath (nodes : List U64) (slots : List Nat) : Nat → Nat → List Nat
  | 0, _ => []
  | fuel + 1, i =>
    let n := nth 0 nodes i
    if isLeaf n then [i]
    else i :: walkPath nodes slots fuel (if nth 0 slots (nodeFld n 56 8) < nodeFld n 40 16 then nodeFld n 20 20 else nodeFld n 0 20)

/-- Threads whose tree has ended take the next unstarted ones (13 R534). -/
def refill : List (List Nat) → List (List Nat) → List (List Nat) × List (List Nat)
  | [], w => ([], w)
  | [] :: l, p :: w => let r := refill l w; (p :: r.1, r.2)
  | [] :: l, [] => refill l []
  | p :: l, w => let r := refill l w; (p :: r.1, r.2)

/-- The order of the node reads: every thread reads one node per step (13 R534). -/
def nodeReads : Nat → List (List Nat) → List (List Nat) → List Nat
  | 0, _, _ => []
  | n + 1, threads, waiting =>
    let r := refill (threads.map (fun p => p.drop 1)) waiting
    threads.filterMap (·.head?) ++ (if r.1.isEmpty then [] else nodeReads n r.1 r.2)

/-! ### The front stage (13 R521 to R523) -/

/-- Entry i of a front-stage table starts here. -/
def frontAt (i : Nat) : Nat := 16 + 16 * i

/-- One entry is well formed (13 R522, R526). -/
def entryOk (t : Bytes) (i : Nat) : Bool :=
  let o := frontAt i
  let b := fld t o 1
  let op := b % 4
  let a := fld t (o + 1) 1
  let b2 := fld t (o + 2) 1
  let mode := fld t (o + 3) 1
  let mul := fld t (o + 8) 2
  let sh := fld t (o + 10) 1
  let w := fld t (o + 12) 2
  let l := fld t (o + 14) 2
  b < 8 && sh < 64 && fld t (o + 11) 1 == 0
    && (match op with
      | 0 => a ≤ 63 && b2 == 0 && mode == 0 && sh ≤ 47 && w == 0 && l == 0
      | 1 => a ≤ 63 && b2 == 0 && 1 ≤ mode && mul == 0 && sh == 0 && 1 ≤ w && l == 0
      | 2 => a < i && b2 < i && mode ≤ 4 && sh ≤ 47 && w == 0 && l == 0
      | _ => a ≤ 63 && b2 == 0 && mode == 0 && fld t (o + 4) 4 == 0 && mul == 0 && sh == 0 && 1 ≤ l && l ≤ 256 && w + l ≤ fld t 2 2)

/-- Word k of the LUT area. -/
def lutWord (t : Bytes) (k : Nat) : Nat := fld t (16 + 16 * fld t 0 1 + 2 * k) 2

/-- 13 R521, R526: the whole table. -/
def frontOk (t : Bytes) : Bool :=
  let n := fld t 0 1
  let w := fld t 2 2
  3 ≤ n && n ≤ 255 && fld t 1 1 ≤ 1 && w ≤ 2016 && zeros t 4 12 && t.length == 16 + 16 * n + 2 * w
    && (List.range n).all (entryOk t) && (List.range w).all (fun k => lutWord t k != 0 && lutWord t k != 0xFFFF)

/-- Limit a value to the range of a slot (13 R523). -/
def slotClamp (v : Int) : Nat := (max 1 (min v 0xFFFE)).toNat

/-- The signed 64-bit value of an integer. -/
def wrap64 (v : Int) : Int := signed 64 (twos 64 v)

/-- CROSS functions (13 R523); a division by 0 cannot occur, since a slot that is not missing is at least 1. -/
def crossFn (f : Nat) (x y : Int) : Int :=
  match f with | 0 => x * y | 1 => x - y | 2 => (x * 65536) / y | 3 => min x y | _ => max x y

/-- Slot i from the raw features and the slots before it, none when missing (13 R523). -/
def slotValue (t : Bytes) (raw : List (Option Nat)) (done : List (Option Nat)) (i : Nat) : Option Nat :=
  let o := frontAt i
  let off := signed 32 (fld t (o + 4) 4)
  let mul : Int := fld t (o + 8) 2
  let sh := fld t (o + 10) 1
  let a := fld t (o + 1) 1
  let src := nth none raw a
  match fld t o 1 % 4 with
  | 0 => src.map (fun r => slotClamp (wrap64 (wrap64 (r - off) * mul) / 2 ^ sh))
  | 1 => src.map (fun r => 1 + min (((r : Int) - off).toNat / max 1 (fld t (o + 12) 2)) (fld t (o + 3) 1 - 1))
  | 2 =>
    match nth none done a, nth none done (fld t (o + 2) 1) with
    | some x, some y => some (slotClamp (wrap64 (wrap64 (crossFn (fld t (o + 3) 1) x y - off) * mul) / 2 ^ sh))
    | _, _ => none
  | _ => src.bind (fun r => if r < fld t (o + 14) 2 then some (lutWord t (fld t (o + 12) 2 + r)) else none)

/-- The slots as the nodes read them: a missing one is 0xFFFF with MISS_HIGH, else 0x0000 (13 R523). -/
def frontStage (t : Bytes) (raw : List (Option Nat)) : List Nat :=
  let n := fld t 0 1
  let vs := (List.range n).foldl (fun done i => done ++ [slotValue t raw done i]) []
  vs.zipIdx.map (fun e => e.1.getD (if bit (fld t (frontAt e.2) 1) 2 then 0xFFFF else 0))

/-! ### TREE_LOAD, TREE_UNLOAD (04 R158, R159; 13 R526, R527) -/

/-- The ensemble is bound to a stream that is not FREE, or named by a change of one (04 R158, R159, R178). -/
def ensembleNamed (s : State) (e : Nat) : Bool :=
  (List.range 32).any (fun i =>
    let x := s.stream i
    let named (c : Change) : Bool := match c with | .bind b => b.ensemble == some e | _ => false
    x.state != .free && (x.bind.ensemble == some e || x.shadow.any named || (stagedChanges s i).any (fun t => named t.change)))

/-- Owner number of an ensemble's node array. -/
def treeOwner (e : Nat) : Nat := 300 + e

/-- 1 MiB units of a node array. -/
def treeUnits (nodes : Nat) : Nat := ceilDiv (8 * nodes) 1048576

/-- The nodes of an array. -/
def nodesOf (b : Bytes) : List U64 := (List.range (b.length / 8)).map (fun i => BitVec.ofNat 64 (fld b (8 * i) 8))

/-- The roots of a root table. -/
def rootsOf (b : Bytes) : List Nat := (List.range (b.length / 4)).map (fun i => fld b (4 * i) 4)

/-- Load an ensemble from its three parts (04 R158; 13 R526, R527). -/
def loadEnsemble (h : Hdr) (e nc tc frontLen crc : Nat) (nb rb fb : Bytes) (s : State) : State :=
  let nodes := nodesOf nb
  let roots := rootsOf rb
  let depths := roots.map (fun r => depthOf nodes 64 r)
  if nb.length ≠ 8 * nc || rb.length ≠ 4 * tc || fb.length ≠ frontLen then complete h 0x0600 .hostReadFailed [] s
  else if !(frontOk fb && nodes.all (nodeOk nc (fld fb 0 1)) && roots.all (· < nc) && depths.all (·.isSome)) then
    complete h 0x0600 .badField [] s
  else if (crc32c nb).toNat ≠ crc then complete h 0x0600 .badParamCrc [] s
  else match dramRun s (treeUnits nc) with
    | none => complete h 0x0600 .noResource [] s
    | some d =>
      let s := takeDram (treeOwner e) d (treeUnits nc) (freeDram (treeOwner e) s)
      let s := putDram (d * 1048576) nb s
      let s := s.setEnsemble e { loaded := true, nodes := nodes, roots := roots, front := fb, depths := depths.map (·.getD 0), entries := fld fb 0 1 }
      complete h 0x0600 .ok [] (setDomain 25 true s)

/-- TREE_LOAD: nodes, roots and front are the three reads of host memory (04 R158). -/
def execTreeLoad (h : Hdr) (p : Bytes) (nodes roots front : Option Bytes) (s : State) : Out :=
  let e := bits (fld p 0 1) 0 4
  let tc := fld p 2 2
  let nc := fld p 4 4
  let fl := fld p 32 2
  command 0x0600 h p []
    [ (resOk p ([0x0F, 0] ++ full 32 ++ rsv 2 ++ full 4), .reservedNonzero), (1 ≤ tc && tc ≤ 512, .badField),
      (1 ≤ nc && nc ≤ 65536, .badField), (64 ≤ fl && fl ≤ 4096, .badField) ]
    [(!ensembleNamed s e, .badState)]
    (fun s => match nodes, roots, front with
      | some nb, some rb, some fb => loadEnsemble h e nc tc fl (fld p 36 4) nb rb fb s
      | _, _, _ => complete h 0x0600 .hostReadFailed [] s) s

/-- TREE_UNLOAD (04 R159; 13 R527; 17 R660: the TVE is off without a loaded ensemble). -/
def execTreeUnload (h : Hdr) (p : Bytes) (s : State) : Out :=
  let e := bits (fld p 0 1) 0 4
  command 0x0601 h p [] [(resOk p [0x0F], .reservedNonzero)]
    [(!ensembleNamed s e, .badState), ((s.ensemble e).loaded, .notFound)]
    (fun s =>
      let s := (freeDram (treeOwner e) s).setEnsemble e {}
      let s := if (List.range 16).any (fun i => (s.ensemble i).loaded) then s else setDomain 25 false s
      complete h 0x0601 .ok [] s) s

/-! ### TREE_BIND, PROFILE_TABLE_SET (04 R160, R161; 13 R528, R538) -/

/-- Kind of an ensemble's table: 0 host video, 1 camera (13 R521). -/
def ensembleKind (s : State) (e : Nat) : Nat := fld (s.ensemble e).front 1 1

/-- TREE_BIND (04 R160; 13 R528, R538). -/
def execTreeBind (h : Hdr) (p : Bytes) (s : State) : Out :=
  let sc := bits (fld p 0 1) 0 5
  let e := fld p 1 1
  let ve := fld p 2 1
  let k := fld p 3 1
  let off := e == 0xFF
  let x := s.stream sc
  let y := settled s sc
  let b : Binding := if off then {} else { ensemble := some e, voteEvery := ve, hystK := k }
  let c : Change := .bind b
  command 0x0602 h p []
    [ (resOk p [0x1F, 0xFF, 0xFF, 0x0F], .reservedNonzero), (off || e ≤ 15, .badField), (off || 1 ≤ ve, .badField),
      (off || (1 ≤ k && k ≤ 15), .badField) ]
    [ (x.state == .configured || x.state == .running, .badState), (off || ve ≤ y.cfg.inNum / max 1 y.cfg.inDen, .badField),
      (off || (s.ensemble e).loaded, .notFound), (off || ensembleKind s e + 1 == y.cfg.sourceKind, .badState),
      (off || tveOk (trialState s sc (applyPure y c)), .certOverBudget) ]
    (boundaryCommand 0x0602 h sc c) s

/-- PROFILE_TABLE_SET (04 R161; 02 R42, R46). -/
def execProfileTableSet (h : Hdr) (p : Bytes) (s : State) : Out :=
  let sc := bits (fld p 0 1) 0 5
  let t := tableOf p
  let x := s.stream sc
  let y := settled s sc
  let hd := headOf s y.cfg.handle
  let c : Change := .table t
  command 0x0603 h p [] [(resOk p tableMask, .reservedNonzero)]
    [ (x.state == .configured || x.state == .running, .badState),
      (t.entries.all (fun e => e.1 < fld hd 12 1), .planMismatch),
      (t.entries.all (fun e => e.2 == 0 || e.2 < fld hd 20 2), .planMismatch),
      (x.state != .running || certOk s sc (applyPure y c), .certOverBudget) ]
    (boundaryCommand 0x0603 h sc c) s

/-! ### Feature sets and votes (13 R530 to R541) -/

/-- A feature set of a frame is ready: every VOTE_EVERY-th enters the TVE queue, unless the stream's previous vote is still
there (13 R531, R532). -/
def featureSet (sc : Nat) (frame : U32) (features : List (Option Nat)) (degraded : Bool) (s : State) : State :=
  let x := s.stream sc
  if x.bind.ensemble.isNone || x.state != .running then s
  else
    let n := x.featureSets + 1
    if n < x.bind.voteEvery then s.setStream sc { x with featureSets := n }
    else
      let s := s.setStream sc { x with featureSets := 0 }
      if s.tve.ready.any (fun v => v.sc == sc) || s.tve.running.toList.any (fun v => v.sc == sc) then scAdd sc .votesSkipped 1 s
      else
        let v : VoteJob := { sc := sc, frame := frame, features := features, degraded := degraded, startedAt := s.now }
        { s with tve := { s.tve with ready := s.tve.ready ++ [v] } }

/-- One node read of the TVE, requester 16: through the IAC, a miss by a light read in the system pool, or in flat mode a light read
(12 R498, R500, R518; 13 R551). -/
def readNode (base i : Nat) (s : State) : State :=
  let a := base + 8 * i
  let s := perfAdd 0x5B8 1 s
  let read (fill : Option Nat) (s : State) : State :=
    (enqueueTx { id := 0, requester := 16, addr := a / 64 * 64, light := true, isWrite := false, issuedAt := 0, fill := fill } s).2
  if !s.iac.on then (if channelDown s a then s else read none s)
  else match lookup 16 (a / 32 * 32) s with
    | (.bytes _, s) => s
    | (.fill id, s) => read (some id) s

/-- VOTE_START: the next ready vote starts (13 R534); badTrees are the trees whose node reads come as zeros, tableError an
uncorrectable error in the tables, which discards the vote (13 R535, R536). -/
def execVoteStart (badTrees : List Nat) (tableError : Bool) (s : State) : Out :=
  .next (
    match s.tve.running, s.tve.ready with
    | none, v :: rest =>
      let s := { s with tve := { s.tve with ready := rest } }
      if tableError then scAdd v.sc .votesDiscarded 1 s
      else
        let e := s.ensemble ((s.stream v.sc).bind.ensemble.getD 0)
        let base := ((s.dram.alloc.find? (fun a => a.2.2 == treeOwner ((s.stream v.sc).bind.ensemble.getD 0))).map (·.1)).getD 0 * 1048576
        let paths := e.roots.map (walkPath e.nodes (frontStage e.front v.features) 64)
        let down := (paths.zipIdx.filter (fun p => p.1.any (fun i => channelDown s (base + 8 * i)))).map (·.2)
        let s := (nodeReads 32768 (paths.take 32) (paths.drop 32)).foldl (fun s i => readNode base i s) s
        { s with tve := { s.tve with running := some { v with startedAt := s.now, bad := badTrees ++ down } } }
    | _, _ => s)

/-- What each tree of an ensemble adds: none for an abandoned one (13 R535). -/
def treeResults (e : Ensemble) (slots : List Nat) (bad : List Nat) : List (Option (Nat × Nat)) :=
  e.roots.zipIdx.map (fun r => if bad.contains r.2 then none else walk e.nodes slots 64 r.1)

/-- Sum of the weights of a class (13 R540). -/
def classSum (l : List (Option (Nat × Nat))) (c : Nat) : Nat := ((l.filterMap id).map (fun x => if x.1 = c then x.2 else 0)).sum % 2 ^ 32

/-- The class of the largest sum, the lowest among equals, leaving out a class (13 R540, 15 R609). -/
def bestClass (sums : List Nat) (skip : Option Nat) : Nat :=
  ((List.range 16).filter (fun c => some c != skip)).foldl (fun b c => if nth 0 sums b < nth 0 sums c then c else b)
    (if skip = some 0 then 1 else 0)

/-- The result of a vote (13 R540). -/
def tally (v : VoteJob) (l : List (Option (Nat × Nat))) : VoteResult :=
  let sums := (List.range 16).map (classSum l)
  let w := bestClass sums none
  let r := bestClass sums (some w)
  { frame := v.frame, winner := w, runnerUp := r, winnerSum := nth 0 sums w, runnerUpSum := nth 0 sums r,
    degraded := v.degraded || l.any (·.isNone) }

/-- VOTE_COMPLETE: the traversal ends, the tally decides, and the result waits for the stream's next boundary (13 R540, R541). -/
def execVoteComplete (s : State) : Out :=
  .next (
    match s.tve.running with
    | none => s
    | some v =>
      let s := perfAdd 0x5B0 1 { s with tve := { s.tve with running := none } }
      let x := s.stream v.sc
      match x.bind.ensemble with
      | none => s
      | some e =>
        let en := s.ensemble e
        let l := treeResults en (frontStage en.front v.features) v.bad
        let r := tally v l
        let x := x.count .abandoned (l.countP (·.isNone))
        s.setStream v.sc { x with votes := x.votes.filter (fun q => !later q.frame r.frame) ++ [r] ++ x.votes.filter (fun q => later q.frame r.frame) })

end Sys2Proof.Machine
end

