-- ==== Sys2Proof/Machine/FirstPass.lean ====
section
/-! DEFINITION. The end of a frame's first pass (05 R214; 07 R286; 13 R519, R520, R530, R531; 14 R596): its input buffer is released and its
features are ready. -/
namespace Sys2Proof.Machine

/-- The flow of the interval that ends at a frame, over the whole grid (07 R279, R280; 13 R519): none at frame 0, after an absent frame, at
a ratio of 1, or for a plan that does not interpolate. -/
def frameFlow (s : State) (sc : Nat) (e : FrameIn) : Option (List (Int × Int × Bool)) :=
  match planOf s e.cfg, (s.stream sc).frameAt (e.wide - 1) with
  | some p, some b =>
    if e.wide = 0 || b.absent || e.absent || !p.interpolates || !interpolating e.cfg then none
    else
      let d := netDims p e.cfg
      some ((List.range (ceilDiv d.2 4)).flatMap (fun j => (List.range (ceilDiv d.1 4)).map (fun i => flowAt p b e i j)))
  | _, _ => none

/-- The raw features of a host video frame (13 R519, R520; 07 R303, R304); missing where R519 says so. -/
def videoFeatures (s : State) (sc : Nat) (f : U32) : List (Option Nat) :=
  let x := s.stream sc
  match x.frames.find? (fun e => e.frame = f) with
  | none => List.replicate 64 none
  | some e =>
    let before := if e.wide = 0 then none else (x.frameAt (e.wide - 1)).bind (fun b => if b.absent then none else some b)
    let flow := frameFlow s sc e
    let vectors := flow.map (fun l => l.map (fun v => (v.1, v.2.1)))
    (List.range 64).map (fun i =>
      if i ≤ 10 || (17 ≤ i && i ≤ 20) then some (pictureFeature e.token e.cfg.inW e.cfg.inH i)
      else match i with
      | 11 => before.map (fun b => frameDiff b.token e.token e.cfg.inW e.cfg.inH)
      | 12 => before.map (fun _ => b2n (isRepeat s sc (tuningOf s x).2 e))
      | 13 => some x.cadence
      | 14 => vectors.map (fun l => Config.motion l 0 % 65536)
      | 15 => vectors.map (fun l => Config.motion l 1 % 65536)
      | 16 => flow.map (fun l => l.countP (fun v => v.2.2) * 65536 / max 1 l.length)
      | 48 => some (e.flags.toNat % 16)
      | _ => none)

/-- A member's part of a frame's features has arrived; the last one makes the feature set ready (14 R596; 13 R531). Where a member was
ejected meanwhile, the vote is DEGRADED. -/
def partHeard (sc : Nat) (f : U32) (pos : Nat) (s : State) : State :=
  let heard := ((s.tve.parts.find? (fun e => e.1 == sc && e.2.1 == f)).map (·.2.2)).getD []
  let heard := heard.filter (· != pos) ++ [pos]
  let rest := s.tve.parts.filter (fun e => !(e.1 == sc && e.2.1 == f))
  let members := maskBits s.pack.members 8
  let gone := members.filter (fun p => (s.member p).state == 3)
  if members.all (fun p => heard.contains p || gone.contains p) then
    let s := { s with tve := { s.tve with parts := rest } }
    featureSet sc f (videoFeatures s sc f) (gone.any (fun p => !heard.contains p)) s
  else { s with tve := { s.tve with parts := rest ++ [(sc, f, heard)] } }

/-- The first pass of a host frame is over on every core: its input buffer is no longer read, and its features are ready (05 R214; 13 R530,
R531; 14 R596). -/
def frameWorked (sc : Nat) (f : U32) (s : State) : State :=
  let x := s.stream sc
  let s := inputDone sc f s
  if x.cfg.sourceKind ≠ 1 || (x.frames.find? (fun e => e.frame = f)).all (·.absent) then s
  else if followsPack s sc then
    let (b, s) := freeBytes 64 s
    sendPkt s.pack.leaderPos 0x2D sc f b s
  else if packStream s sc then partHeard sc f s.glb.packPos.toNat s
  else featureSet sc f (videoFeatures s sc f) false s

/-! ### The first pass (07 R286; 09 R365, R382) -/

/-- Input rows (first, how many) of the stripes of a core of a frame (09 R365). -/
def hostStripes (s : State) (e : FrameIn) (c : Nat) : List (Nat × Nat) :=
  match planOf s e.cfg with
  | none => []
  | some p =>
    let t := p.sets.getD 0 { mul := 1, div := 1, granule := 1, perCore := 1, guard := 0 }
    let cut := cutRows (setDims t e.cfg.inW e.cfg.inH).1 (e.cfg.inH * p.factor) (shareOf s p e.cfg)
    let ch := stripeChoice cut.2 (max 1 t.granule) t.guard t.perCore e.cores.length
    let up (r : Nat) : Nat := min e.cfg.inH (ceilDiv (r * t.div) (max 1 t.mul))
    (coreStripes cut.2 (max 1 t.granule) ch.1 ch.2 (e.cores.idxOf c)).map (fun x => (up (cut.1 + x.1), up (cut.1 + x.1 + x.2) - up (cut.1 + x.1)))

/-- Bytes of its host input that a core reads for a frame: its own rows and the halo rows of its first layer (09 R382), each once
(07 R286). -/
def hostNeed (s : State) (e : FrameIn) (c : Nat) : Nat :=
  let halo := ((planOf s e.cfg).map (·.inHalo)).getD 0
  ((hostStripes s e c).map (fun x =>
    if x.2 = 0 then 0
    else
      let lo := x.1 - halo
      let hi := min e.cfg.inH (x.1 + x.2 + halo)
      let rows (k : Nat) : Nat := planeRows e.cfg.inFormat hi k - planeRows e.cfg.inFormat lo k
      rows 0 * planeBytes e.cfg.inFormat e.cfg.inW 0 + rows 1 * planeBytes e.cfg.inFormat e.cfg.inW 1)).sum

/-- A core's first pass over a frame is over: its run has ended, or it has read all of its input and the tile that read last is complete
(07 R286; DEDUCED, assumption 88). -/
def passOver (s : State) (e : FrameIn) (c : Nat) : Bool :=
  let r := Tab.get (0, 0, 0) e.fetched c
  let n := hostNeed s e c
  e.coresDone.contains c
    || (n != 0 && n ≤ r.1 && (s.core c).frame == e.frame && tileDone (s.core c) r.2.1 r.2.2)

/-- Note the end of the first pass of the frame that a core works on, once. -/
def notePass (c : Nat) (s : State) : State :=
  match (s.core c).task with
  | some (0, sc) =>
    let x := s.stream sc
    match x.frames.find? (fun e => e.frame = (s.core c).frame) with
    | some e =>
      if e.passed || !e.cores.all (passOver s e) then s
      else frameWorked sc e.frame (s.setStream sc { x with frames := x.frames.map (fun g => if g.frame = e.frame then { g with passed := true } else g) })
    | none => s
  | _ => s

end Sys2Proof.Machine
end

