-- ==== Sys2Proof/Machine/Numbers.lean ====
section
/-! DEFINITION. The arithmetic of the engines on single elements (08 R314 to R319, R328): integer limits, requantisation, tables, FP16. -/
namespace Sys2Proof.Machine

/-- A result and how many saturations it took (08 R319). -/
abbrev Counted := Int × Nat

/-! ### Integers (08 R314, R316, R318) -/

/-- The limits of an integer format (08 R314). -/
def fmtRange (f : Nat) : Int × Int :=
  match f with | 0 => (-128, 127) | 1 => (0, 255) | 2 => (-32768, 32767) | _ => (-2147483648, 2147483647)

/-- Saturation to an integer format. -/
def satTo (f : Nat) (v : Int) : Counted :=
  if v < (fmtRange f).1 then ((fmtRange f).1, 1) else if (fmtRange f).2 < v then ((fmtRange f).2, 1) else (v, 0)

/-- An accumulation step: the exact sum, limited to INT32 (08 R316). -/
def accStep (a : Counted) (x : Int) : Counted := let r := satTo 4 (a.1 + x); (r.1, a.2 + r.2)

/-- REQUANT of an accumulator under a parameter record and zero point (08 R318). -/
def requant (out : Nat) (rec : Nat) (zp : Int) (a : Int) : Counted :=
  let t := satTo 4 (a + signed 32 (bits rec 0 32))
  let sh := bits rec 48 6
  let y := (t.1 * (bits rec 32 15 : Int) + (if sh = 0 then 0 else 2 ^ (sh - 1))) / 2 ^ sh
  let r := satTo out (y + zp)
  (r.1, t.2 + r.2)

/-- An average of n values, rounded half up (08 R328). -/
def average (l : List Int) : Int := (2 * l.sum + l.length) / (2 * (l.length : Int))

/-- An element-wise product (08 R328): [15:0] of the shifted product, rounded half up. -/
def eltProduct (sh : Nat) (a b : Int) : Int :=
  signed 16 (bits (twos 64 ((a * b + (if sh = 0 then 0 else 2 ^ (sh - 1))) / 2 ^ sh)) 0 16)

/-- Interpolated table: knots, input INT16 (08 R328). -/
def interpolate (knot : Nat → Int) (x : Int) : Int :=
  let u := (x + 32768).toNat
  knot (u / 256) + ((knot (u / 256 + 1) - knot (u / 256)) * ((u % 256 : Nat) : Int) + 128) / 256

/-! ### FP16 and FP32 (08 R316) -/

/-- A number as the engines read it: subnormals are zero; a finite magnitude counts units of a power of two. -/
inductive Num where
  | nan
  | inf (neg : Bool)
  | fin (neg : Bool) (mag : Nat)
deriving DecidableEq, Repr

/-- The value of an FP16 pattern in units of 2^-24. -/
def halfNum (b : Nat) : Num :=
  let e := bits b 10 5
  let f := bits b 0 10
  let n := bit b 15
  if e = 31 then (if f = 0 then .inf n else .nan) else if e = 0 then .fin n 0 else .fin n ((1024 + f) * 2 ^ (e - 1))

/-- The value of an FP32 pattern in units of 2^-149. -/
def floatNum (b : Nat) : Num :=
  let e := bits b 23 8
  let f := bits b 0 23
  let n := bit b 31
  if e = 255 then (if f = 0 then .inf n else .nan) else if e = 0 then .fin n 0 else .fin n ((8388608 + f) * 2 ^ (e - 1))

/-- An integer as a number, in units of 2^0. -/
def intNum (v : Int) : Num := .fin (v < 0) v.natAbs

/-- m / d rounded to nearest, ties to even. -/
def roundNear (m d : Nat) : Nat :=
  let q := m / d
  let r := m % d
  if d < 2 * r || (2 * r = d && q % 2 = 1) then q + 1 else q

/-- A number in units of 2^-k as FP16: to nearest even; beyond 65,504 the largest, counted; subnormals zero; one NaN (08 R316). -/
def toHalf (k : Nat) (x : Num) : Counted :=
  match x with
  | .nan => (0x7E00, 0)
  | .inf n => ((b2n n * 32768 + 0x7C00 : Nat), 0)
  | .fin n m =>
    let sign := b2n n * 32768
    let l := Nat.log2 m
    let q := if l ≤ 10 then m * 2 ^ (10 - l) else roundNear m (2 ^ (l - 10))
    let up := q == 2048
    let e : Int := (l : Int) - k + b2n up
    if m = 0 then ((sign : Nat), 0)
    else if 65504 * 2 ^ k < m then ((sign + 0x7BFF : Nat), 1)
    else if e < -14 then ((sign : Nat), 0)
    else (((sign + (e + 15).toNat * 1024 + (if up then 0 else q - 1024) : Nat)), 0)

/-- A number in units of 2^-149 as FP32: to nearest even; subnormals zero; one NaN (08 R316). -/
def toFloat (x : Num) : Nat :=
  match x with
  | .nan => 0x7FC00000
  | .inf n => b2n n * 2147483648 + 0x7F800000
  | .fin n m =>
    let sign := b2n n * 2147483648
    let l := Nat.log2 m
    let q := if l ≤ 23 then m * 2 ^ (23 - l) else roundNear m (2 ^ (l - 23))
    let up := q == 16777216
    let e := l + b2n up
    if e < 23 then sign
    else if 277 ≤ e then sign + 0x7F800000
    else sign + (e - 22) * 8388608 + (if up then 0 else q - 8388608)

/-- The signed magnitude of a finite number. -/
def Num.int (x : Num) : Int := match x with | .fin n m => if n then -(m : Int) else m | _ => 0

/-- Negation. -/
def Num.neg (x : Num) : Num := match x with | .nan => .nan | .inf n => .inf !n | .fin n m => .fin (!n) m

/-- Sum of two numbers in the same units. -/
def Num.add (x y : Num) : Num :=
  match x, y with
  | .nan, _ => .nan
  | _, .nan => .nan
  | .inf a, .inf b => if a = b then .inf a else .nan
  | .inf a, _ => .inf a
  | _, .inf b => .inf b
  | .fin a m, .fin b k =>
    let v := (Num.fin a m).int + (Num.fin b k).int
    if v = 0 then .fin (a && b) 0 else .fin (v < 0) v.natAbs

/-- Product of two numbers, in the product of their units. -/
def Num.mul (x y : Num) : Num :=
  match x, y with
  | .nan, _ => .nan
  | _, .nan => .nan
  | .inf a, .inf b => .inf (a != b)
  | .inf a, .fin b m => if m = 0 then .nan else .inf (a != b)
  | .fin a m, .inf b => if m = 0 then .nan else .inf (a != b)
  | .fin a m, .fin b k => .fin (a != b) (m * k)

/-- The same number in units smaller by 2^k. -/
def Num.scale (k : Nat) (x : Num) : Num := match x with | .fin n m => .fin n (m * 2 ^ k) | y => y

/-- An FP32 accumulator plus the product of two FP16 patterns, which FP32 holds exactly, rounded once (08 R316). -/
def fp16Add (acc a b : Nat) : Nat := toFloat ((floatNum acc).add (((halfNum a).mul (halfNum b)).scale 101))

/-- x is less than y; no order with a NaN. -/
def Num.lt (x y : Num) : Bool :=
  match x, y with
  | .nan, _ => false
  | _, .nan => false
  | .inf a, .inf b => a && !b
  | .inf a, _ => a
  | _, .inf b => !b
  | x, y => x.int < y.int

/-- An FP16 pattern as the engines write it: no subnormals, one NaN (08 R316). -/
def halfFlush (a : Int) : Int :=
  if halfNum a.toNat = .nan then 0x7E00 else if bits a.toNat 10 5 = 0 then ((a.toNat / 32768 * 32768 : Nat) : Int) else a

/-- The larger of two FP16 patterns; a NaN makes a NaN. -/
def halfMax (a b : Int) : Int :=
  if halfNum a.toNat = .nan || halfNum b.toNat = .nan then 0x7E00 else halfFlush (if (halfNum a.toNat).lt (halfNum b.toNat) then b else a)

/-- The smaller of two FP16 patterns. -/
def halfMin (a b : Int) : Int :=
  if halfNum a.toNat = .nan || halfNum b.toNat = .nan then 0x7E00 else halfFlush (if (halfNum b.toNat).lt (halfNum a.toNat) then b else a)

/-- The magnitude of an FP16 pattern. -/
def halfAbs (a : Int) : Int := halfFlush (((a.toNat % 32768 : Nat) : Int))

/-- An FP16 pattern as an integer of a format: half up, limited; none for a NaN (08 R316, R328). -/
def halfToInt (out : Nat) (b : Nat) : Option Counted :=
  match halfNum b with
  | .nan => none
  | .inf n => some (if n then (fmtRange out).1 else (fmtRange out).2, 1)
  | .fin n m => some (satTo out (((Num.fin n m).int + 8388608) / 16777216))

end Sys2Proof.Machine
end

