-- ==== Sys2Proof/Machine/Executor.lean ====
section
/-! DEFINITION. The Executor (08 R313 to R349; 10 R425, R431): the stages of a tile, its start and its end. -/
namespace Sys2Proof.Machine

/-! ### A tile's work -/

/-- A tile in the making: the state, a bound fault met, whether held data was read, and the saturations of each SAT_FLAGS bit. -/
structure Work where
  s : State
  trap : Option Nat
  held : Bool
  sat : List Nat

/-- Elements of an extent in a format: integers, or the bit patterns of FP16 and FP32. -/
structure Plane where
  d : Dims
  fmt : Nat
  vals : List Int

/-- Element at a row, column and channel. -/
def Plane.at (p : Plane) (r x c : Nat) : Int := nth 0 p.vals ((r * p.d.w + x) * p.d.c + c)

/-- Rows, columns and channels of an extent, in order. -/
def coords (d : Dims) : List (Nat × Nat × Nat) :=
  (List.range d.h).flatMap (fun r => (List.range d.w).flatMap (fun x => (List.range d.c).map (fun c => (r, x, c))))

/-- A plane made element by element, with the saturations of one kind added. -/
def Work.plane (k : Work) (kind fmt : Nat) (d : Dims) (f : Nat → Nat → Nat → Counted) : Plane × Work :=
  let l := (coords d).map (fun e => f e.1 e.2.1 e.2.2)
  ({ d := d, fmt := fmt, vals := l.map (·.1) }, { k with sat := modNth (· + (l.map (·.2)).sum) kind k.sat })

/-- Where a stage stands: its chained command and its number. -/
structure At where
  chain : Bytes
  stage : Nat

/-- The value of an element's bits. -/
def bitsElem (fmt v : Nat) : Int :=
  let v := v % 2 ^ (8 * fmtBytes fmt)
  if fmt = 0 || fmt = 2 || fmt = 4 then signed (8 * fmtBytes fmt) v else (v : Int)

/-- A plane whose elements no rule computes from these operands: a function of the operands that nothing evaluates, and its saturations of
a kind (08 R317; assumption 97). -/
def Work.free (k : Work) (w : At) (kind fmt : Nat) (d : Dims) (operands : List Int) : Plane × Work :=
  let n := (coords d).length
  ({ d := d, fmt := fmt, vals := (List.range n).map (fun i => bitsElem fmt (Config.engine w.chain w.stage operands i)) },
   { k with sat := modNth (· + Config.engineSaturations w.chain w.stage operands % (2 * n + 1)) kind k.sat })

/-- A task-relative CM range, as the Executor reaches it. -/
def cmAt (s : State) (c a n : Nat) : Except Nat (List (Place × Nat)) := if 2 ^ 28 < a + n then .error 0x10 else coreAt s c .fetchRead a n

/-- Read CM for a tile. -/
def Work.read (c : Nat) (k : Work) (a n : Nat) : Bytes × Work :=
  match cmAt k.s c a n with
  | .error e => (List.replicate n 0, { k with trap := k.trap.orElse (fun _ => some e) })
  | .ok l =>
    let held := placesHeld k.s l
    let (b, s) := readPlaces c l k.s
    (b, { k with s := s, held := k.held || held })

/-- The value of an element's bytes. -/
def elemOf (fmt : Nat) (b : Bytes) : Int :=
  if fmt = 0 || fmt = 2 || fmt = 4 then signed (8 * fmtBytes fmt) (leVal b) else (leVal b : Int)

/-- Read an extent from a slot. -/
def Work.slot (c : Nat) (k : Work) (chain : Bytes) (which base fmt : Nat) (d : Dims) : Plane × Work :=
  let r := (coords d).foldl (fun (r : List Int × Work) e =>
    let (b, k) := r.2.read c (base + Config.slotOffset chain which e.1 e.2.1 e.2.2) (fmtBytes fmt)
    (r.1 ++ [elemOf fmt b], k)) ([], k)
  ({ d := d, fmt := fmt, vals := r.1 }, r.2)

/-! ### CONV (08 R315 to R317, R320 to R327) -/

/-- The extent a CONV reads with its guards (08 R323); a transposed one reads half as many rows and columns and its guards (08 R324). -/
def convInput (w : StageWord) (d : Dims) : Dims :=
  if w.transposed then { h := d.h / 2 + w.kernel, w := d.w / 2 + w.kernel, c := w.cin }
  else
  { h := (d.h - 1) * w.stride + (w.kernel - 1) * w.d + 1, w := (d.w - 1) * w.stride + (w.kernel - 1) * w.d + 1, c := w.cin }

/-- A weight of WB: INT8, or the pattern of FP16 with FP16 activations (08 R315). -/
def weightAt (s : State) (c : Nat) (chain : Bytes) (w : StageWord) (co ci ky kx : Nat) : Int :=
  let wb := Tab.get [] (s.core c).buffers 1
  let a := w.param + Config.weightOffset chain co ci ky kx
  if w.inFmt = 3 then ((memGet wb (a % 131072)).toNat + 256 * (memGet wb ((a + 1) % 131072)).toNat : Nat)
  else signed 8 (memGet wb (a % 131072)).toNat

/-- The groups of (input channel, kernel row, kernel column) that the array adds in one step for an output pixel's column and channel, in
the order of 08 R317: K chunk, kernel row, kernel column. -/
def convOrder (w : StageWord) (x co : Nat) : List (List (Nat × Nat × Nat)) :=
  let ks := List.range w.kernel
  if w.mode = 4 then
    let seg (t : Nat) : Nat := (w.stride * (x % 8) + w.d * t) / 8
    (List.range (ceilDiv (8 * w.stride + w.d * (w.kernel - 1)) 8)).flatMap (fun q => ks.map (fun ky =>
      (ks.filter (fun kx => seg kx == q)).map (fun kx => (co, ky, kx))))
  else if 5 ≤ w.mode then
    let g := groupSize w.mode
    ks.flatMap (fun ky => ks.map (fun kx => (List.range g).map (fun i => (co / g * g + i, ky, kx))))
  else
    let kk := (arrayShape w.mode).2.1
    (List.range (ceilDiv w.cin kk)).flatMap (fun q => ks.flatMap (fun ky => ks.map (fun kx =>
      ((List.range kk).filter (fun i => q * kk + i < w.cin)).map (fun i => (q * kk + i, ky, kx)))))

/-- The kernel rows of an output row and the input row each meets (08 R321, R324); the same for columns. -/
def rowTaps (w : StageWord) (r : Nat) : List (Nat × Nat) :=
  if w.transposed then (Config.phaseTaps w.kernel (r % 2)).map (fun t => (t.1, r / 2 + t.2))
  else (List.range w.kernel).map (fun t => (t, r * w.stride + t * w.d))

/-- The operands that the array multiplies for an output element, step by step (08 R317, R320, R324, R325, R327). -/
def convOperands (s : State) (c : Nat) (chain : Bytes) (w : StageWord) (p : Plane) (r x co : Nat) : List (List (Int × Int)) :=
  let rows := rowTaps w r
  let cols := rowTaps w x
  let steps := if w.transposed then
      let kk := (arrayShape w.mode).2.1
      (List.range (ceilDiv w.cin kk)).flatMap (fun q => rows.flatMap (fun ky => cols.map (fun kx =>
        ((List.range kk).filter (fun i => q * kk + i < w.cin)).map (fun i => (q * kk + i, ky, kx)))))
    else (convOrder w x co).map (fun l => l.map (fun e => (e.1, nth (0, 0) rows e.2.1, nth (0, 0) cols e.2.2)))
  steps.map (fun l => l.map (fun e => (p.at e.2.1.2 e.2.2.2 e.1, weightAt s c chain w co e.1 e.2.1.1 e.2.2.1)))

/-- An integer accumulator (08 R315 to R317): each step's exact sum, limited to INT32. -/
def intAccumulator (steps : List (List (Int × Int))) : Counted :=
  steps.foldl (fun a l => accStep a ((l.map (fun e => e.1 * e.2)).sum)) (0, 0)

/-- An FP32 accumulator (08 R315 to R317): a step of one product is one addition, rounded. -/
def fp16Accumulator (steps : List (List (Int × Int))) : Counted :=
  ((steps.foldl (fun a l => match l with
    | [] => a
    | [e] => fp16Add a e.1.toNat e.2.toNat
    | l => Config.fp16Step a (l.map (fun e => (e.1.toNat, e.2.toNat))) % 2 ^ 32) 0 : Nat), 0)

/-- The CONV stage (08 R315 to R317, R320 to R327). -/
def convStage (c : Nat) (chain : Bytes) (w : StageWord) (d : Dims) (k : Work) : Plane × Work :=
  let (p, k) := k.slot c chain 0 (if w.src = 2 then cAux chain else cIn chain) w.inFmt (convInput w d)
  k.plane 0 w.outFmt d (fun r x co =>
    let l := convOperands k.s c chain w p r x co
    if w.inFmt = 3 then fp16Accumulator l else intAccumulator l)

/-! ### The VXE (08 R318, R328) -/

/-- Read n parameter records of a size. -/
def Work.params (c : Nat) (k : Work) (a size n : Nat) : List Nat × Work :=
  let (b, k) := k.read c a (size * n)
  ((List.range n).map (fun i => fld b (size * i) size), k)

/-- REQUANT (08 R318). -/
def requantStage (c : Nat) (w : StageWord) (p : Plane) (k : Work) : Plane × Work :=
  let (recs, k) := k.params c w.param 8 p.d.c
  let (zps, k) := if w.outFmt = 2 then k.params c (w.param + 8 * w.cout) 2 p.d.c else ([], k)
  let zp (ch : Nat) : Int := if w.outFmt = 2 then signed 16 (nth 0 zps ch) else signed 8 (bits (nth 0 recs ch) 56 8)
  k.plane 1 w.outFmt p.d (fun r x ch => requant w.outFmt (nth 0 recs ch) (zp ch) (p.at r x ch))

/-- CONVERT (08 R328): to FP16, or from it; other formats, and NaNs made integers, have no stated result. -/
def convertStage (i : At) (w : StageWord) (p : Plane) (k : Work) : Plane × Work :=
  if w.mode = 0 && w.outFmt = 3 then
    k.plane 3 3 p.d (fun r x ch =>
      let v := p.at r x ch
      if p.fmt = 5 then toHalf 149 (floatNum v.toNat) else if p.fmt = 3 then toHalf 24 (halfNum v.toNat) else toHalf 0 (intNum v))
  else if w.mode = 1 && p.fmt = 3 && (w.outFmt ≤ 2 || w.outFmt = 4) then
    let (f, t) := k.free i 2 w.outFmt p.d p.vals
    let k := { t with sat := k.sat }
    k.plane 2 w.outFmt p.d (fun r x ch => (halfToInt w.outFmt (p.at r x ch).toNat).getD (f.at r x ch, 0))
  else k.free i (if w.mode = 0 then 3 else 2) w.outFmt p.d p.vals

/-- An entry of a table for an output format. -/
def tableValue (out v : Nat) : Counted := if out = 3 then ((v : Nat), 0) else satTo out (signed 16 v)

/-- LUT (08 R328): direct on INT8, interpolated on INT16. -/
def lutStage (c : Nat) (i : At) (w : StageWord) (p : Plane) (k : Work) : Plane × Work :=
  let (tab, k) := k.params c w.param 2 (if w.mode = 0 then 256 else 257)
  if w.mode = 0 && p.fmt = 0 then k.plane 2 w.outFmt p.d (fun r x ch => tableValue w.outFmt (nth 0 tab (p.at r x ch + 128).toNat))
  else if w.mode = 1 && p.fmt = 2 && w.outFmt ≤ 2 then
    k.plane 2 w.outFmt p.d (fun r x ch => satTo w.outFmt (interpolate (fun i => signed 16 (nth 0 tab i)) (p.at r x ch)))
  else k.free i 2 w.outFmt p.d (p.vals ++ tab.map (fun v => (v : Int)))

/-- An element of an element-wise operation on integers (08 R328), with the shift of a multiply and the bounds of a clamp. -/
def eltInt (mode out sh : Nat) (lim : Int × Int) (a b : Int) : Counted :=
  satTo out (match mode with
    | 0 => a + b | 1 => a - b | 2 => eltProduct sh a b | 3 => max a b | 4 => min a b | 5 => (a.natAbs : Int) | _ => clampInt lim.1 lim.2 a)

/-- The same on FP16. -/
def eltHalf (mode : Nat) (a b : Int) : Counted :=
  match mode with
  | 0 => toHalf 24 ((halfNum a.toNat).add (halfNum b.toNat))
  | 1 => toHalf 24 ((halfNum a.toNat).add (halfNum b.toNat).neg)
  | 3 => (halfMax a b, 0)
  | 4 => (halfMin a b, 0)
  | _ => (halfAbs a, 0)

/-- ELTW: the second operand comes from AUX_SLOT (08 R328, R329). -/
def eltStage (c : Nat) (i : At) (w : StageWord) (p : Plane) (k : Work) : Plane × Work :=
  let (q, k) := if w.mode = 5 || w.mode = 6 then (p, k) else k.slot c i.chain (4 + i.stage) (cAux i.chain) p.fmt p.d
  let (par, k) := if w.mode = 2 || w.mode = 6 then k.read c w.param 64 else ([], k)
  if p.fmt ≤ 2 && w.outFmt ≤ 2 then
    k.plane 2 w.outFmt p.d (fun r x ch =>
      eltInt w.mode w.outFmt (Config.eltShift i.chain i.stage par) (Config.eltBounds i.chain i.stage par) (p.at r x ch) (q.at r x ch))
  else if p.fmt = 3 && w.outFmt = 3 && w.mode ≠ 2 && w.mode ≠ 6 then
    k.plane 3 3 p.d (fun r x ch => eltHalf w.mode (p.at r x ch) (q.at r x ch))
  else k.free i 2 w.outFmt p.d (p.vals ++ q.vals ++ par.map (fun v => (v.toNat : Int)))

/-- An element carried into a format. -/
def carry (inF outF : Nat) (v : Int) : Counted := if inF = outF then (v, 0) else satTo outF v

/-- The format change of a stage that only moves elements is stated for integers. -/
def carries (p : Plane) (w : StageWord) : Bool := p.fmt == w.outFmt || (p.fmt ≤ 2 && w.outFmt ≤ 2)

/-- The slot a stage reads that takes none from the stage before it (08 R330). -/
def slotBase (chain : Bytes) (w : StageWord) : Nat := if w.src = 2 then cAux chain else cIn chain

/-- Side of a POOL window. -/
def poolSide (mode : Nat) : Nat := if mode ≤ 1 then 2 else 3

/-- POOL (08 R328). -/
def poolStage (c : Nat) (i : At) (w : StageWord) (d : Dims) (k : Work) : Plane × Work :=
  let n := poolSide w.mode
  let (p, k) := k.slot c i.chain i.stage (slotBase i.chain w) w.inFmt
    { h := (d.h - 1) * w.stride + n, w := (d.w - 1) * w.stride + n, c := d.c }
  let win (r x ch : Nat) : List Int :=
    (List.range n).flatMap (fun a => (List.range n).map (fun b => p.at (r * w.stride + a) (x * w.stride + b) ch))
  let most (l : List Int) : Int := l.tail.foldl (if p.fmt = 3 then halfMax else max) (l.headD 0)
  if carries p w && (w.mode % 2 = 0 || p.fmt ≤ 2) then
    k.plane 2 w.outFmt d (fun r x ch => carry p.fmt w.outFmt (if w.mode % 2 = 0 then most (win r x ch) else average (win r x ch)))
  else k.free i 2 w.outFmt d p.vals

/-- D2S (08 R328): channel c s^2 + (dy s + dx) becomes pixel (s y + dy, s x + dx) of channel c, or back. -/
def d2sStage (i : At) (w : StageWord) (d : Dims) (p : Plane) (k : Work) : Plane × Work :=
  let n := d2sSide w.mode
  let src (r x ch : Nat) : Int :=
    if w.mode = 2 then p.at (n * r + ch % (n * n) / n) (n * x + ch % n) (ch / (n * n))
    else p.at (r / n) (x / n) (ch * n * n + (r % n * n + x % n))
  if carries p w then k.plane 2 w.outFmt d (fun r x ch => carry p.fmt w.outFmt (src r x ch)) else k.free i 2 w.outFmt d p.vals

/-! ### RESAMPLE, WARP and DWCONV (08 R328) -/

/-- The factor of a RESAMPLE. -/
def resampleFactor (mode : Nat) : Nat := 2 + mode % 4

/-- The weights of the four samples around a position, in 1/1,024, for a phase in 1/64: bilinear, or bicubic with a = -0.5 (08 R328). -/
def resampleWeights (cubic : Bool) (f : Int) : List Int :=
  if cubic then
    let near (n : Int) : Int := (3 * n * n * n - 320 * n * n + 524288 + 256) / 512
    let far (n : Int) : Int := (-(n * n * n) + 320 * n * n - 32768 * n + 1048576 + 256) / 512
    [far (64 + f), near f, near (64 - f), far (128 - f)]
  else [0, 1024 - 16 * f, 16 * f, 0]

/-- The position that sample i of an output line reads, in 1/64, rounded to nearest (07 R308, 08 R328). -/
def resamplePosition (factor i : Nat) : Int := (64 * (2 * (i : Int) + 1) - 64 * factor + factor) / (2 * factor)

/-- RESAMPLE (08 R328): the input tile starts two samples before the one its first output element lies in, and its guards hold what lies
around it; along the row, then down the column, one rounding, half up (assumption 97). -/
def resampleStage (c : Nat) (i : At) (w : StageWord) (d : Dims) (k : Work) : Plane × Work :=
  let f := resampleFactor w.mode
  let o := Config.resampleOrigin i.chain
  let (p, k) := k.slot c i.chain i.stage (slotBase i.chain w) w.inFmt { h := d.h / f + 6, w := d.w / f + 6, c := d.c }
  if p.fmt ≤ 2 && w.outFmt ≤ 2 then
    let cubic := 4 ≤ w.mode
    k.plane 2 w.outFmt d (fun r x ch =>
      let py := resamplePosition f (o.1 % f + r)
      let px := resamplePosition f (o.2 % f + x)
      let wy := resampleWeights cubic (py % 64)
      let wx := resampleWeights cubic (px % 64)
      let v := (wy.zipIdx.map (fun a => (wx.zipIdx.map (fun b =>
        a.1 * b.1 * p.at (py / 64 + a.2 + 1).toNat (px / 64 + b.2 + 1).toNat ch)).sum)).sum
      satTo w.outFmt ((v + 524288) / 1048576))
  else k.free i 2 w.outFmt d p.vals

/-- WARP (08 R328; 11 R456): the weight area and the vectors that a GATHER wrote, one output pixel after the other; bilinear from the four
vectors of a pixel, rounded half up (assumption 97), or the one vector. -/
def warpStage (c : Nat) (i : At) (w : StageWord) (d : Dims) (k : Work) : Plane × Work :=
  let n := d.h * d.w
  let base := slotBase i.chain w
  let v := if w.mode = 0 then 4 else 1
  let eb := fmtBytes w.inFmt
  let (ws, k) := k.read c base (4 * n)
  let (vs, k) := k.read c (base + ceilDiv (4 * n) 128 * 128) (n * v * d.c * eb)
  let at_ (j t ch : Nat) : Int := bitsElem w.inFmt (fld vs (((v * j + t) * d.c + ch) * eb) eb)
  if w.mode = 1 && (w.inFmt = w.outFmt || (w.inFmt ≤ 2 && w.outFmt ≤ 2)) then
    k.plane 2 w.outFmt d (fun r x ch => carry w.inFmt w.outFmt (at_ (r * d.w + x) 0 ch))
  else if w.mode = 0 && w.inFmt ≤ 2 && w.outFmt ≤ 2 then
    k.plane 2 w.outFmt d (fun r x ch =>
      let j := r * d.w + x
      let fx : Int := bits (fld ws (4 * j) 4) 0 5
      let fy : Int := bits (fld ws (4 * j) 4) 8 5
      satTo w.outFmt (((32 - fy) * ((32 - fx) * at_ j 0 ch + fx * at_ j 1 ch) + fy * ((32 - fx) * at_ j 2 ch + fx * at_ j 3 ch) + 512) / 1024))
  else k.free i 2 w.outFmt d ((ws ++ vs).map (fun b => (b.toNat : Int)))

/-- DWCONV (08 R328): INT8 by INT8 into INT32, kernel row, then kernel column (08 R317), then REQUANT with the stage's records (08 R318). -/
def depthwiseStage (c : Nat) (i : At) (w : StageWord) (d : Dims) (k : Work) : Plane × Work :=
  let n := if w.mode = 0 then 3 else 5
  let (p, k) := k.slot c i.chain i.stage (slotBase i.chain w) w.inFmt { h := (d.h - 1) * w.stride + n, w := (d.w - 1) * w.stride + n, c := d.c }
  let taps := (List.range n).flatMap (fun a => (List.range n).map (fun b => (a, b)))
  let (wt, k) := (List.range d.c).foldl (fun (r : List Int × Work) ch => taps.foldl (fun (r : List Int × Work) t =>
    let (b, k) := r.2.read c (Config.depthwiseOffset i.chain i.stage ch t.1 t.2) 1
    (r.1 ++ [elemOf 0 b], k)) r) ([], k)
  if w.inFmt = 0 then
    let (q, k) := k.plane 0 4 d (fun r x ch =>
      intAccumulator (taps.map (fun t => [(p.at (r * w.stride + t.1) (x * w.stride + t.2) ch, nth 0 wt (ch * n * n + t.1 * n + t.2))])))
    requantStage c w q k
  else k.free i 1 w.outFmt d (p.vals ++ wt)

/-- One stage of a chain on the whole tile: running the stages one at a time gives the chain's result (08 R334). -/
def stage_ (c : Nat) (chain : Bytes) (n : Nat) (w : StageWord) (d : Dims) (prev : Plane) (k : Work) : Plane × Work :=
  let e := before w d
  let i : At := { chain := chain, stage := n }
  let src (k : Work) : Plane × Work := if w.src = 0 then (prev, k) else k.slot c chain n (slotBase chain w) w.inFmt e
  match w.op with
  | 0x01 => convStage c chain w d k
  | 0x10 => let (p, k) := src k; requantStage c w p k
  | 0x11 => let (p, k) := src k; convertStage i w p k
  | 0x12 => let (p, k) := src k; lutStage c i w p k
  | 0x13 => let (p, k) := src k; eltStage c i w p k
  | 0x14 => poolStage c i w d k
  | 0x15 => let (p, k) := src k; d2sStage i w d p k
  | 0x16 => resampleStage c i w d k
  | 0x17 => warpStage c i w d k
  | 0x18 => depthwiseStage c i w d k
  | _ =>
    let (p, k) := src k
    if carries p w then k.plane 2 w.outFmt d (fun r x ch => carry p.fmt w.outFmt (p.at r x ch)) else k.free i 2 w.outFmt d p.vals

/-- The stages of a chain in order. -/
def runStages (c : Nat) (chain : Bytes) : List (StageWord × Dims) → Nat → Plane → Work → Plane × Work
  | [], _, p, k => (p, k)
  | (w, d) :: l, i, p, k =>
    let (p, k) := stage_ c chain i w d p k
    runStages c chain l (i + 1) p k

/-- The bytes of an element. -/
def elemBytes (fmt : Nat) (v : Int) : Bytes := le (fmtBytes fmt) (twos (8 * fmtBytes fmt) v)

/-- Write the last stage's elements into OUT_SLOT (08 R333); a bound fault writes nothing. -/
def Work.output (c : Nat) (k : Work) (chain : Bytes) (p : Plane) (held : Bool) : Work :=
  let n := fmtBytes p.fmt
  let cells : List (Nat × Bytes) := (coords p.d).map (fun e => (cOut chain + Config.slotOffset chain 8 e.1 e.2.1 e.2.2, elemBytes p.fmt (p.at e.1 e.2.1 e.2.2)))
  let bad := cells.findSome? (fun e => match cmAt k.s c e.1 n with | .error x => some x | .ok _ => none)
  match k.trap.orElse (fun _ => bad) with
  | some x => { k with trap := some x }
  | none => { k with s := cells.foldl (fun s e => match cmAt s c e.1 n with | .ok l => writePlaces c l e.2 held s | .error _ => s) k.s }

/-- The whole chained command of a tile. -/
def runChain (c : Nat) (chain : Bytes) (held : Bool) (s : State) : Work :=
  let l := stagesOf chain
  let (p, k) := runStages c chain (l.zip (extents (cShape chain) l)) 0 { d := { h := 0, w := 0, c := 0 }, fmt := 0, vals := [] }
    { s := s, trap := none, held := held, sat := [0, 0, 0, 0] }
  k.output c chain p k.held

/-! ### Start and end (08 R342 to R349, R353) -/

/-- OUT_SLOT is free: every store of the tile that last used it has completed (08 R343, R345). -/
def slotFree (k : Core) (chain : Bytes) : Bool :=
  match k.slots.find? (fun e => e.1 == cOut chain) with
  | some e => storesDone k e.2.1 e.2.2
  | none => true

/-- The head of a command queue can start (08 R343). -/
def tileReady (k : Core) (q : Nat) : Bool :=
  headPresent k q && (match (if q = 0 then k.queue0 else k.queue1) with | t :: _ => slotFree k t.bytes | [] => false)

/-- The tile of the network output that a chained command starts to make: SPECULATING in the speculative pass, RECOMPUTING when it replaces a
tile in RECOMPUTE (07 R281). -/
def enterTile (m : TileMark) (s : State) : State :=
  let x := s.stream m.sc
  let n : U32 := BitVec.ofNat 32 m.frame
  match x.anyOutput n m.phase with
  | some o =>
    if m.spec then s.setStream m.sc (setTile x n m.phase m.index .speculating)
    else if o.interp && tileState s m.sc o m.index == some .recompute then s.setStream m.sc (setTile x n m.phase m.index .recomputing)
    else s
  | none => s

/-- TILE_START: the head of a queue starts; a filler tile only when the primary queue's next tile cannot (08 R343, R349). A tile of the network
output starts in the order of 01 R24, 07 R289, R297 and 09 R370 alone. -/
def execTileStart (core : Nat) (tile : QueuedTile) (s : State) : Out :=
  .next (
    let queue := tile.queue
    let mark := tile.mark
    let k := s.core core
    if !coreBusy s core || k.running.isSome || !tileReady k queue || (queue ≠ 0 && (queue ≠ 1 || tileReady k 0))
      || !((mark.map (tileMayStart s core)).getD true) then s
    else match (if queue = 0 then k.queue0 else k.queue1) with
    | [] => s
    | t :: rest =>
      let s := match mark with | some m => enterTile m s | none => s
      let k : Core := { k with running := some { queue := queue, chain := t, startedAt := s.now, mark := mark }
                               slots := k.slots.filter (fun e => e.1 != cOut t.bytes) ++ [(cOut t.bytes, queue, cSeq t.bytes)] }
      s.setCore core (if queue = 0 then { k with queue0 := rest, started0 := k.started0 + 1 } else { k with queue1 := rest, started1 := k.started1 + 1 }))

/-- The tile of the network output that a chained command finished (07 R281, R296): a SPECULATING one is HELD, a RECOMPUTING one RECOMPUTED,
any other computed; a final state stands, and one that has gone to RECOMPUTE meanwhile stays there (07 R290). -/
def markTile (m : TileMark) (s : State) : State :=
  let x := s.stream m.sc
  let n : U32 := BitVec.ofNat 32 m.frame
  let s := match tileOf x n m.phase m.index with
    | some .speculating => s.setStream m.sc (setTile x n m.phase m.index .held)
    | some .recomputing => s.setStream m.sc ((setTile x n m.phase m.index .recomputed).count .recomputed)
    | none => if m.spec then s else s.setStream m.sc (setTile x n m.phase m.index .computed)
    | some _ => s
  discardTiles m.sc n m.phase s

/-- Busy cycles of the MXE and of the VXE for a chained command (15 R615): its steps at their rates. -/
def busyCycles (chain : Bytes) : Nat × Nat :=
  let l := stagesOf chain
  (l.zip (extents (cShape chain) l)).foldl (fun (r : Nat × Nat) e =>
    let n := 4 * stageCycles e.1 e.2
    if e.1.op = 1 then (r.1 + n, r.2) else (r.1, r.2 + n)) (0, 0)

/-- The counters a completed tile moves (15 R615; 08 R319). -/
def tileCounts (c q : Nat) (chain : Bytes) (sat : Nat) (s : State) : State :=
  let b := busyCycles chain
  let o := 0x40 * c
  perfAdd (o + 0x30) sat (perfAdd (o + 0x20) b.2 (perfAdd (o + 0x18) b.1 (perfAdd (o + (if q = 0 then 0x08 else 0x10)) 1 s)))

/-- The running chained command has done its work: its output is in OUT_SLOT, TILES_DONE moves, its stores may start
(08 R334, R343, R344; 10 R425, R431). A tile of an abandoned run completes and counts for no run (08 R354). -/
def tileEnds (core : Nat) (errors : List ReadError) (s : State) : State :=
    match (s.core core).running with
    | none => s
    | some r =>
      if s.glb.boot != .running || s.pwr.tripped then s
      else
        let w := runChain core r.chain.bytes ((r.mark.map (·.spec)).getD false) (foundErrors none errors s)
        let s := tileCounts core r.queue r.chain.bytes w.sat.sum w.s
        let k := s.core core
        let seq := cSeq r.chain.bytes
        let flags := toMask ((List.range 4).filter (fun i => nth 0 w.sat i != 0))
        let k : Core := { k with running := none, tileAt := s.now, satFlags := k.satFlags ||| BitVec.ofNat 4 flags }
        if r.abandoned then settleTrap core (s.setCore core k)
        else
          let k := if r.queue = 0 then { k with tilesDone0 := seq, none0 := false } else { k with tilesDone1 := seq, none1 := false }
          let k := match k.wait with
            | .tile q n => if tileDone k q n then { k with wait := .none } else k
            | _ => k
          let s := s.setCore core k
          match w.trap with
          | some x => raiseTrap core x s
          | none =>
            let s := match r.mark with
              | some m => if k.task = some (0, m.sc) then markTile m s else s
              | none => s
            settleTrap core (notePass core s)

/-- TILE_COMPLETE (08 R343, R344): the running tile, of this queue. -/
def execTileComplete (core queue : Nat) (errors : List ReadError) (s : State) : Out :=
  .next (if (s.core core).running.any (fun r => r.queue == queue) then tileEnds core errors s else s)

end Sys2Proof.Machine
end

