-- ==== Sys2Proof/Machine/JobCmd.lean ====
section
/-! DEFINITION. Jobs (04 R151, R152, 09 R380). -/
namespace Sys2Proof.Machine

/-- The plan and handle a JOB_SUBMIT names. -/
def jobPlan (s : State) (p : Bytes) : Option Plan := ((s.model (fld p 1 1)).package).bind (fun k => k.plans[bits (fld p 2 1) 0 4]?)

/-- CORE_MASK is what the plan asks for (04 R151). -/
def jobMaskOk (p : Plan) (mask : Nat) : Bool :=
  if p.cores.isEmpty then popcount mask 16 == p.coreCount else mask == toMask p.cores

/-- Padded bytes of an input and of an output row of a job of width w (09 R380). -/
def jobRows (p : Plan) (w : Nat) : Nat × Nat :=
  ((ceilDiv w (128 * max 1 p.inScale) * (128 * max 1 p.inScale) + 2 * p.inGuard) * p.inBytes,
   ceilDiv w (128 * max 1 p.outScale) * (128 * max 1 p.outScale) * p.outBytes)

/-- The configuration as which a job's shape gives its stripes. -/
def jobCfg (shape : List Nat) : StreamCfg := { inH := nth 0 shape 1, inW := nth 0 shape 2 }

/-- The job with the operands of the command. -/
def jobOf (p : Bytes) (shape : List Nat) : Job :=
  { active := true, handle := fld p 1 1, plan := bits (fld p 2 1) 0 4, variant := bits (fld p 2 1) 4 4, coreMask := fld p 4 2
    inAddr := fld p 8 8, outAddr := fld p 16 8, shape := shape, inPitch := fld p 32 4, outPitch := fld p 36 4 }

/-- Start a job on its cores (04 R152): regions, counters, bounds, operating points at the cap (Shepherd's own choice), and the
microprograms at batch 0. -/
def startJob (h : Hdr) (j : Nat) (x : Job) (p : Plan) (s : State) : State :=
  let cores := maskBits x.coreMask 16
  match allocTask (jobOwner j) cores p s with
  | .error st => complete h 0x0400 st [] s
  | .ok (regs, t) =>
    match allocCounters (counterNeed p (jobCfg x.shape) none cores.length) t with
    | (none, _) => complete h 0x0400 .noResource [] s
    | (some ctr, t) =>
      let t := t.setJob j { x with regions := regs, counterBase := some ctr }
      let t := cores.foldl (fun t c => boundCore 1 j x.handle regs (some ctr) p c t) t
      let t := settleOps (cores.foldl (fun t c => setOp c (clockCap t) t) (refreshCerts t))
      let t := cores.foldl (fun t c => startCore j p.paramBase c t) t
      complete h 0x0400 .ok [] t

/-- JOB_SUBMIT (04 R151, R152): shape is what the read of SHAPE_ADDR returns, none when it fails. -/
def execJobSubmit (h : Hdr) (p : Bytes) (shape : Option (List Nat)) (s : State) : Out :=
  let j := fld p 0 1
  let handle := fld p 1 1
  let x := jobOf p (shape.getD [])
  let pl := (jobPlan s p).getD {}
  let cores := maskBits x.coreMask 16
  command 0x0400 h p [] [(resOk p ([0x0F, 0x3F, 0xFF, 0, 0xFF, 0xFF, 0, 0] ++ full 32 ++ rsv 8), .reservedNonzero),
      (x.inAddr % 256 == 0 && x.outAddr % 256 == 0, .badField)]
    [(!(s.job j).active, .badState), ((s.model handle).state != 0, .notFound), ((s.model handle).state == 2, .badState),
     (bit (s.model handle).resident x.variant, .badState), ((jobPlan s p).isSome && jobMaskOk pl x.coreMask, .badField),
     (cores.all (coreFree s), .badState),
     (s.pwr.thermal != .critical, .thermalCritical)]
    (fun s =>
      match shape with
      | none => complete h 0x0400 .hostReadFailed [] s
      | some d =>
        if d.any (· == 0) then
          emit srcDevice 0x0400 (le 1 j ++ le 1 0 ++ le 2 Status.doneEmpty.code) (complete h 0x0400 .doneEmpty [] s)
        else if pl.maxN < nth 0 d 0 || pl.maxH < nth 0 d 1 || pl.maxW < nth 0 d 2 || pl.maxC < nth 0 d 3 then
          complete h 0x0400 .shapeOverPlan [] s
        else if x.inPitch < (jobRows pl (nth 0 d 2)).1 || x.outPitch < (jobRows pl (nth 0 d 2)).2 then complete h 0x0400 .badField [] s
        else if !othersPass (s.setJob j x) 32 || !tveOk (s.setJob j x) then complete h 0x0400 .certOverBudget [] s
        else startJob h j x pl s) s

end Sys2Proof.Machine
end

