-- ==== Sys2Proof/Machine/Kill.lean ====
section
/-! DEFINITION. Kills: STREAM_STOP and JOB_KILL, and the end of every task (04 R133, R153; 08 R355; 10 R442; 16 R654). -/
namespace Sys2Proof.Machine

/-- The engines of cores stop at their next tile boundary (08 R355, 10 R442 step 1). The boundary is reached within the command: the tile in
work ends, no read of it finding an error (DESIGN CHOICE, assumption 91). -/
def finishTiles (cores : List Nat) (s : State) : State :=
  cores.foldl (fun s c => tileEnds c [] (s.setCore c (s.core c).stopAtTile)) s

/-- 04 R133, 10 R442: a kill: the engines stop, routes that waited settle, and the stream ends killed; fin writes the completion. -/
def killStream (sc : Nat) (s : State) (fin : State → State := id) : State :=
  endStream true applySide sc (settleRoutes sc (finishTiles (s.stream sc).cores s)) fin

/-- A job is killed (04 R153, 10 R442). -/
def killJob (j : Nat) (s : State) (fin : State → State := id) : State :=
  endJob true Status.aborted.code j (finishTiles (if (s.job j).active then maskBits (s.job j).coreMask 16 else []) s) fin

/-- STREAM_STOP (04 R133). -/
def execStreamStop (h : Hdr) (p : Bytes) (s : State) : Out :=
  let sc := bits (fld p 0 1) 0 5
  let mode := fld p 1 1
  let x := s.stream sc
  command 0x0202 h p [] [(resOk p [0x1F, 0xFF], .reservedNonzero), (mode ≤ 1, .badField)]
    [(if mode = 0 then x.state == .running else x.state == .running || x.state == .draining || x.state == .faulted, .badState)]
    (fun s =>
      if mode = 0 then
        let last := (s.stream sc).lastAccepted.toNat
        drainDone sc (complete h 0x0202 .ok (effective last) (beginDrain sc s))
      else killStream sc s (complete h 0x0202 .ok [])) s

/-- JOB_KILL (04 R153, 10 R442). -/
def execJobKill (h : Hdr) (p : Bytes) (s : State) : Out :=
  let j := fld p 0 1
  command 0x0401 h p [] [(resOk p [0x0F, 0, 0, 0], .reservedNonzero)] [((s.job j).active, .notFound)]
    (fun s => killJob j s (complete h 0x0401 .ok [])) s

/-- Kill every stream and job (16 R654 step 1). -/
def killAll (s : State) : State :=
  let s := (List.range 32).foldl (fun s c => if admitted s c then killStream c s else s) s
  (List.range 16).foldl (fun s j => killJob j s) s

end Sys2Proof.Machine
end

