-- ==== Sys2Proof/Machine/Resets.lean ====
section
/-! DEFINITION. Link loss, the keep domain's writes, image verification, the boot ROM and the resets (03 R80, R87, R96; 05 R219;
16 R639 to R648; 17 R663 to R692; 18 R716). -/
namespace Sys2Proof.Machine

/-! ### Link loss (03 R96, 05 R219, 18 R716, R726) -/

/-- The host-owned registers take their reset values (18 R716). The commands in flight run on without records, the duplicate
windows stay, and events go to the backlog (03 R80, R87, R96). -/
def resetHostRegs (s : State) : State :=
  let ring (_ : Nat) (r : Ring) : Ring :=
    { inFlight := (r.inFlight.filter (fun e => e.phase != .slotRead)).map (fun e => { e with unrecorded := true })
      window := r.window, newestTag := r.newestTag }
  { s with
    rings := Tab.map ring s.rings
    evq := { s.evq with base := 0, log2 := 0, enable := false, coalCount := 1, coalUsec := 0, headErr := false, overflow := false,
                        tail := 0, head := 0, lost := 0, unsignalled := 0 }
    glb := { s.glb with scratch := 0, bootAddr := 0, bootLen := 0 }
    reads := s.reads.filter (fun r => match r.purpose with | .slot _ _ => false | _ => true) }

/-- Every queued and bound buffer of a stream is released (05 R219): its bound outputs are given up. -/
def releaseBuffers (sc : Nat) (s : State) : State :=
  let x := s.stream sc
  if x.state == .free then s
  else
    let s := s.setStream sc { x with
      inBufs := [], outBufs := []
      outputs := x.outputs.filter (fun o => o.buf.isNone)
      frames := x.frames.map (fun f => { f with inUse := false }) }
    afterOutputs sc s

/-- The host can no longer be reached: registers, buffers, and a download in progress (03 R96, 05 R219, 17 R664). A follower tells
its leader (14 R604), and a leader its members (DEDUCED, assumption 12). -/
def linkLoss (s : State) : State :=
  let s := resetHostRegs s
  let s := (List.range 32).foldl (fun s c => releaseBuffers c s) s
  let s := if s.glb.boot == .hostLoading then { s with glb := { s.glb with boot := .waitHost, lastStatus := 0x0500 } } else s
  if s.pack.state == .formed || s.pack.state == .degraded then
    if s.pack.leader then (otherMembers s).foldl (fun s m => sendPkt m 0x50 0 2 [] s) s
    else sendPkt s.pack.leaderPos 0x50 0 2 [] s
  else s

/-! ### Settings (16 R632, R640, R641) -/

/-- Default of a settings word (16 R632), the CRC aside. -/
def defaultWord (w : Nat) : U32 := if w = 0 then 1 else if w = 2 then 0xF18 else if w = 3 then 0x21550000 else 0

/-- CRC-32C of words 0 to 62 of a copy (16 R632). -/
def copyCrc (t : Tab U32) : U32 := crc32c ((List.range 63).flatMap (fun w => le 4 (Tab.get 0 t w).toNat))

/-- A copy with its CRC word (16 R632). -/
def sealCopy (t : Tab U32) : Tab U32 := Tab.put t 63 (copyCrc t)

/-- The defaults as a copy. -/
def defaultCopy : Tab U32 := sealCopy ((List.range 63).map (fun w => (w, defaultWord w)))

/-- A copy passes its CRC. -/
def copyOk (t : Tab U32) : Bool := copyCrc t == Tab.get 0 t 63

/-- The copy rule (16 R639 step 2): the passing copy with the later SETTINGS_SEQ; true for copy 1, none when neither passes. -/
def goodCopy (k : Keep) : Option Bool :=
  match copyOk k.copy0, copyOk k.copy1 with
  | true, true => some (later (Tab.get 0 k.copy1 62) (Tab.get 0 k.copy0 62))
  | true, false => some false
  | false, true => some true
  | false, false => none

/-- The copy that Shepherd and the boot ROM take; the defaults when neither passes. -/
def takenCopy (k : Keep) : Tab U32 :=
  match goodCopy k with | some true => k.copy1 | some false => k.copy0 | none => defaultCopy

/-- The values of a settings word that KEEP_WRITE accepts (16 R632, R555; 17 R662). -/
def settingOk (s : State) (w v : Nat) : Bool :=
  match w with
  | 1 => v ≤ 3
  | 2 => bits v 0 2 ≤ 1 && bits v 6 2 == 0 && bits v 12 20 == 0
  | 3 => bits v 1 15 == 0 && bits v 16 16 ≤ dramMaxRate s
  | _ => false

/-- A settings write (16 R640): the inactive copy receives the words, SETTINGS_SEQ and SETTINGS_CRC, and becomes active. -/
def writeSettings (l : List (Nat × U32)) (s : State) : State :=
  let old := if s.keep.active1 then s.keep.copy1 else s.keep.copy0
  let t := l.foldl (fun t e => Tab.put t e.1 e.2) old
  let t := sealCopy (Tab.put t 62 (Tab.get 0 old 62 + 1))
  if s.keep.active1 then { s with keep := { s.keep with copy0 := t, active1 := false } }
  else { s with keep := { s.keep with copy1 := t, active1 := true } }

/-- A write of one user keep register (16 R640). -/
def writeUser (w : Nat) (v : U32) (s : State) : State := { s with keep := { s.keep with user := Tab.put s.keep.user w v } }

/-! ### Keep-seconds (16 R642) -/

/-! ### Oxren images (16 R635, R646) -/

/-- Step 1: the header and the zero bytes. -/
def imageForm (s : State) (b : Bytes) (slotSize : Nat) : Bool :=
  let len := fld b 12 4
  fld b 0 4 == 0x4E525850 && fld b 4 2 == 1 && len % 4096 == 0 && 4096 ≤ len && len ≤ min slotSize 8388608 && len ≤ b.length
    && fld b 6 1 ≤ s.glb.stepping.toNat && fld b 7 1 ≤ 32
    && zeros b 16 48 && zeros b 129 7 && zeros b 201 7 && zeros b 240 16 && zeros b 384 128

/-- Bytes off to off + n - 1. -/
def slice (b : Bytes) (off n : Nat) : Bytes := (b.drop off).take n

/-- D: SHA-256 of bytes 0 to 255 (16 R635). -/
def imageD (b : Bytes) : Bytes := Config.sha256 (b.take 256)

/-- The customer signature verifies under CUSTOMER_KEY. -/
def customerSigned (b : Bytes) : Bool := Config.ecdsa (slice b 136 65) (imageD b) (slice b 320 64)

/-- The six steps of 16 R646: the status of the first that fails, none when all pass. -/
def verifyImage (s : State) (b : Bytes) (slotSize : Nat) : Option Status :=
  firstFail [
    (imageForm s b slotSize, .sigInvalid),
    (Config.sha256 (slice b 64 65) == Config.romHash, .sigInvalid),
    (Config.ecdsa (slice b 64 65) (imageD b) (slice b 256 64), .sigInvalid),
    (match s.otp.keyHash with | none => true | some h => Config.sha256 (slice b 136 65) == h && customerSigned b, .keyMismatch),
    (decide (s.otp.rollback ≤ fld b 7 1), .rollback),
    (Config.sha256 (slice b 512 (fld b 12 4 - 512)) == slice b 208 32, .sigInvalid)]

/-- The image is loaded: Shepherd will run it (16 R635, 04 R122). -/
def loadImage (b : Bytes) (slot : BitVec 2) (s : State) : State :=
  { s with glb := { s.glb with boot := .starting, slot := slot, fwVersion := BitVec.ofNat 32 (fld b 8 4), fwLevel := fld b 7 1,
                               fwVendorKey := slice b 64 65
                               fwCustomer := if customerSigned b then some (Config.sha256 (slice b 136 65)) else none } }

/-! ### The boot flash (17 R667, R668, R689 to R691) -/

/-- SLOT_SIZE of the default layout (17 R690). -/
def defaultSlotSize (size : Nat) : Nat := min 8388608 ((size - 8192 - 65536) / 2 / 65536 * 65536)

/-- The directory in force: ACTIVE and SLOT_SIZE (17 R689 step 3, R690). -/
def directory (f : Flash) : Nat × Nat :=
  match f.dir0, f.dir1 with
  | some a, some b => if later b.2.2 a.2.2 then (b.1, b.2.1) else (a.1, a.2.1)
  | some a, none => (a.1, a.2.1)
  | none, some b => (b.1, b.2.1)
  | none, none => (0, defaultSlotSize f.size)

/-- What trying a slot does, given what is wrong with its image, if anything (17 R689 step 4): whether it is accepted; a rejected one
receives a BOOT_SLOT_REJECTED entry (16 R634). -/
def slotTried (i : Nat) (bad : Option Status) (s : State) : Bool × State :=
  match bad with
  | none => (true, loadImage (Tab.get [] s.flash.slots i) (BitVec.ofNat 2 i) s)
  | some st =>
    let s := logNew 0x0903 0 0 (le 1 i ++ le 1 0 ++ le 2 (st.code % 256)) s
    (false, { s with glb := { s.glb with lastStatus := BitVec.ofNat 16 st.code } })

/-- Try one slot (17 R689 step 4). -/
def trySlot (slotSize i : Nat) (s : State) : Bool × State := slotTried i (verifyImage s (Tab.get [] s.flash.slots i) slotSize) s

/-- Try slots in order until one is accepted (17 R689 step 4). -/
def trySlots (slotSize : Nat) : List Nat → State → State
  | [], s => s
  | i :: l, s => if (trySlot slotSize i s).1 then (trySlot slotSize i s).2 else trySlots slotSize l (trySlot slotSize i s).2

/-- ALERT_N (17 R699): low in warning and critical, in RECOVERY, and in WAIT_HOST after a failure. -/
def settleAlert (s : State) : State :=
  let low := s.pwr.thermal != .normal || s.glb.boot == .recovery || (s.glb.boot == .waitHost && s.glb.lastStatus != 0)
  if low = s.pwr.alert then s else { s.send (.pin .alertN 0 (b2n (!low))) with pwr := { s.pwr with alert := low } }

/-- Loading the image (17 R666, R675 step 6, R689). -/
def loadFromSource (s : State) : State :=
  let dir := directory s.flash
  let s := if (s.glb.bootSrc == 0 || s.glb.bootSrc == 1) && s.flash.fitted then trySlots dir.2 [dir.1, 1 - dir.1] s else s
  settleAlert (if s.glb.boot == .starting then s
    else { s with glb := { s.glb with boot := if s.glb.bootSrc == 0 || s.glb.bootSrc == 2 then .waitHost else .recovery } })

/-- The scar bits that the boot ROM programs (16 R637), for a reset of a kind. -/
def bootScars (kind : Nat) (s : State) : State :=
  let recent := s.glb.watchdogStarts.filter (fun t => windowClock s ≤ t + 3600)
  let m := b2n s.keep.trip.isSome + 2 * b2n (kind == 6) + 4 * b2n (kind == 5 && 3 ≤ recent.length)
  { s with otp := { s.otp with scar := s.otp.scar ||| BitVec.ofNat 16 m }, glb := { s.glb with watchdogStarts := recent } }

/-- Remaps of the keep table (10 R399, R429). -/
def keepRemaps (k : Keep) : List (Nat × Nat × Nat × Nat × Nat) :=
  (List.range 64).filterMap (fun i =>
    let e := (Tab.get 0 k.remap i).toNat
    if bit e 0 then some (bits e 1 1, bits e 8 4, bits e 16 5, bits e 32 13, bits e 24 3) else none)

/-- 17 R675 steps 4 and 5: fused remaps, DRAM_CONFIG, and, where the reset calls for it, training. -/
def bootMemories (train : Bool) (s : State) : State :=
  let w := (Tab.get 0 (takenCopy s.keep) 3).toNat
  let s := { s with mem := { s.mem with remaps := s.otp.fusedRemaps ++ keepRemaps s.keep }, dram := { s.dram with inlineEcc := bit w 0 } }
  if train then
    { s with dram := { s.dram with rate := min (bits w 16 16) (min (dramMaxRate s) s.dram.deviceMax)
                                   channels := (List.range 4).map (fun k => (k, { up := true })) } }
  else s

/-! ### Resets (17 R663 to R665, R685, R686) -/

/-- What every reset of kinds 0 to 6 leaves: OTP, the keep domain, the flash, the board, the fuses, and the model's own logs. -/
def resetBase (s : State) : State :=
  { State.reset with
    otp := s.otp
    keep := { s.keep with queue := [], dropped := false, rejected := false }
    flash := { s.flash with queue := [] }
    glb := { stepping := s.glb.stepping, capCamera := s.glb.capCamera, capFyx := s.glb.capFyx, gradeE := s.glb.gradeE
             bootSrc := s.glb.bootSrc, packPos := s.glb.packPos, testPins := s.glb.testPins, watchdogStarts := s.glb.watchdogStarts }
    dram := { size := s.dram.size, deviceMax := s.dram.deviceMax }
    mem := { tracked := s.mem.tracked }
    sent := s.sent
    drawn := s.drawn
    pending := s.pending }

/-- A reset of kinds 0 to 3 while PORST_N is low: the timebase restarts, the link goes down, and windows measured by the timebase
expire (16 R642). -/
def coldReset (kind : Nat) (s : State) : State :=
  let b := resetBase s
  let frozen := keepFrozen s
  let b := if s.pwr.thermtrip then b.send (.pin .thermtripN 0 1) else b
  let b := if s.pwr.alert then b.send (.pin .alertN 0 1) else b
  { b with
    keep := { b.keep with secondsAt := 0, logTimes := [] }
    glb := { b.glb with resetCause := kind, watchdogStarts := if frozen then [] else b.glb.watchdogStarts }
    mem := { b.mem with tracked := if frozen then [] else b.mem.tracked }
    pcie := { perst := s.pcie.perst }
    pwr := { rails := s.pwr.rails, porst := true } }

/-- A reset of kinds 4 to 6 (17 R685): link, straps, timebase and DRAM training stay; the boot ROM runs again from step 4. Freed DRAM
awaits its zero fill (10 R446). -/
def warmReset (kind : Nat) (s : State) : State :=
  let h := resetHostRegs s
  let b := resetBase s
  let cause := if s.keep.trip.isSome then 2 else kind
  let b : State := { b with
    now := s.now
    pcie := h.pcie
    glb := { b.glb with resetCause := cause, watchdogStarts := if kind = 5 then windowClock s :: b.glb.watchdogStarts else b.glb.watchdogStarts }
    pwr := { porst := false, avs := s.pwr.avs, avsAt := s.pwr.avsAt, temp := s.pwr.temp, alert := s.pwr.alert }
    dram := { s.dram with alloc := [], filling := s.dram.filling ++ s.dram.alloc.map (fun e => (e.1, e.2.1))
                          channels := Tab.map (fun _ (c : Channel) => { c with queue := [] }) s.dram.channels } }
  loadFromSource (bootMemories false (bootScars kind b))

/-- 17 R675: PORST_N rises: straps, boot ROM, link training, memories, image. -/
def bootFromPins (p : BootPins) (s : State) : State :=
  let cause := if s.keep.trip.isSome then 2 else s.glb.resetCause
  let s := { s with
    pwr := { s.pwr with porst := false }
    pcie := { s.pcie with mayTrain := true, training := !s.pcie.perst }
    flash := { s.flash with fitted := p.flash }
    glb := { s.glb with bootSrc := p.bootSrc, packPos := p.packPos, testPins := p.test, resetCause := cause } }
  loadFromSource (bootMemories true (bootScars cause s))

/-! ### Shepherd's start (16 R639, 17 R675 step 7, R682, R688) -/

/-- The keep domain's two settings copies at their defaults (16 R632). -/
def Keep.defaulted (k : Keep) : Keep := { k with copy0 := defaultCopy, copy1 := defaultCopy, active1 := false }

/-- 16 R639: KEEP_LOST found at a start: both copies take the defaults and an entry is logged. -/
def keepLostStart (s : State) : State :=
  if s.keep.keepLost then
    logNew 0x0900 0 0 (le 1 (b2n s.keep.vbatReversed))
      { s with keep := { s.keep.defaulted with remapCrc := crc32c (remapBytes s), keepLost := false } }
  else s

/-- The valid settings copy becomes active, or, with none, the defaults do (16 R639). -/
def takeCopy (good : Option Bool) (s : State) : State :=
  match good with
  | none => { logNew 0x0901 0 0 [] { s with keep := s.keep.defaulted } with
              keep := { (logNew 0x0901 0 0 [] { s with keep := s.keep.defaulted }).keep with foundDefaulted := true } }
  | some c => { s with keep := { s.keep with active1 := c, foundDefaulted := false } }

/-- 16 R639: the settings copies at a start. -/
def keepSettingsStart (s : State) : State := takeCopy (goodCopy s.keep) s

/-- A remap table of no entries, with its CRC (16 R639). -/
def Keep.noRemaps (k : Keep) (c : U32) : Keep := { k with remap := [], remapCrc := c }

/-- 16 R639: a remap table whose CRC fails is discarded. -/
def keepRemapStart (s : State) : State :=
  if crc32c (remapBytes s) != s.keep.remapCrc then
    let s := logNew 0x0902 0 0 [] { s with keep := s.keep.noRemaps (crc32c (remapBytes { s with keep := s.keep.noRemaps 0 }))
                                           mem := { s.mem with remaps := s.otp.fusedRemaps } }
    { s with keep := { s.keep with foundDiscarded := true } }
  else { s with keep := { s.keep with foundDiscarded := false } }

/-- 16 R639, R637: the TRIP latch and VBAT_REVERSED are logged. -/
def keepLatchStart (rev : Bool) (s : State) : State :=
  let s := match s.keep.trip with | some n => logNew 0x0906 0 0 (le 1 n) s | none => s
  if rev then logNew 0x0907 0 0 [] { s with otp := { s.otp with scar := s.otp.scar ||| 32#16 } } else s

/-- 16 R639: the mirror and the checks of the keep domain, in order. -/
def keepStart (s : State) : State :=
  let t := keepLatchStart s.keep.vbatReversed (keepRemapStart (keepSettingsStart (keepLostStart s)))
  { t with keep := { t.keep with trip := none, vbatReversed := false, foundLost := s.keep.keepLost, foundReversed := s.keep.vbatReversed } }

/-- BOOT_PROFILE as it acts (17 R682). -/
def bootProfile (s : State) : Nat := let p := (setting s 1).toNat % 256; if p ≤ 3 then p else 0

/-- PORT_ENABLE of the FYX_SETTINGS in force (14 R555, 16 R641). -/
def fyxPorts (s : State) : Nat := bits s.glb.fyxSettings.toNat 8 4

/-- A domain starts to power up and is ready after a time in ns (17 R678). -/
def startDomain (d delay : Nat) (s : State) : State :=
  if domainOn s d then s else { s with pwr := { s.pwr with poweringUp := Tab.put s.pwr.poweringUp d (s.now + delay) } }

/-- The FYX domain is wanted (17 R660). -/
def fyxWanted (s : State) : Bool := profFyx s.pwr.profile && s.glb.capFyx && fyxPorts s != 0

/-- The domains that follow from the profile and the memory mode alone: the IAC and FyxLink (17 R660, R678). -/
def startFixedDomains (s : State) : State :=
  let s := if s.mem.flat then s else startDomain 24 20000 s
  if fyxWanted s then startDomain 31 50000 s else s

/-- DEVICE_STARTED before any other event, then EVENTS_LOST for what the reset discarded (03 R80, 15 R609). -/
def deviceStarted (s : State) : State :=
  emitLost (emitRaw srcDevice 0x0005 (le 1 s.glb.resetCause ++ le 1 s.glb.stepping.toNat ++ le 2 0 ++ le 4 s.glb.fwVersion.toNat) s)

/-- Shepherd starts (17 R675 step 7). -/
def shepherdStart (s : State) : State :=
  let s := keepStart s
  let s := { s with
    glb := { s.glb with boot := .running, startedAt := s.now, beatAt := s.now, fyxSettings := setting s 2 }
    pwr := { s.pwr with profile := bootProfile s }
    pack := { s.pack with leaderPos := s.glb.packPos.toNat } }
  let s := deviceStarted s
  let s := if s.keep.foundReversed then portFault srcPorts 0x30 19 0 0 false s else s
  settleAlert (startFixedDomains s)

end Sys2Proof.Machine
end

