-- ==== Sys2Proof/Machine/Transport.lean ====
section
/-! DEFINITION. Rings, event ring, interrupts, device reads and the management port (03, 18 R702 to R727). -/
namespace Sys2Proof.Machine

/-- BAR0's RING_ and EVQ_ blocks accept accesses (18 R717, R726). -/
def ringsOpen (s : State) : Bool :=
  s.running && s.pcie.linkUp && s.pcie.memSpace && !s.pcie.d3hot

/-- 03 R72: note which rings have begun to wait. -/
def noteWaiting (s : State) : State := (List.range 8).foldl (fun s n => noteRing n s) s

/-- The fetchable ring that has waited longest; among equals the highest-numbered. -/
def longestWaiting (s : State) (l : List Nat) : Option Nat :=
  l.foldl (fun b n => match b with
    | none => some n
    | some m => if ((s.ring n).waitingSince.getD s.now) ≤ ((s.ring m).waitingSince.getD s.now) then some n else some m) none

/-- 03 R72: the ring Shepherd fetches from: the highest-numbered one, or after 15 fetches from higher rings the lower
ring that has waited longest. -/
def arbiter (s : State) : Option Nat :=
  let l := (List.range 8).filter (fun n => fetchable (s.ring n))
  match l.getLast? with
  | none => none
  | some top =>
    if 15 ≤ s.glb.overtakes then
      match longestWaiting s (l.filter (· != top)) with | some n => some n | none => some top
    else some top

/-- Take the in-flight entry that waits for the slot at an index. -/
def dropSlot (ring : Nat) (index : Nat) (s : State) : State :=
  s.setInFlight ring ((s.inFlight ring).filter (fun e => !(e.phase == .slotRead && e.index.toNat == index)))

/-- 03 R83: a cached record as a replay. -/
def replayed (r : Record) : Record :=
  { r with replay := true, status := if r.status = 0 then 1 else r.status }

/-- Fill the entry that waited for its slot, or drop it. -/
def fillSlot (ring index : Nat) (f : InFlight → InFlight) (s : State) : State :=
  s.setInFlight ring ((s.inFlight ring).map (fun e => if e.phase == .slotRead && e.index.toNat == index then f e else e))

/-- Reserved bits of a slot (03 R64): byte 4 [7:2], byte 5, bytes 12 to 15, and what follows the parameters. -/
def slotReservedOk (b : Bytes) : Bool :=
  let ind := bit (fld b 4 1) 0
  fld b 4 1 / 4 == 0 && zeros b 5 1 && zeros b 12 4
    && (if ind then zeros b 28 36 else zeros b (16 + fld b 6 2) (48 - fld b 6 2))

/-- The form checks of 03 R73 step 3 that come before the parameter buffer is read. -/
def slotForm (b : Bytes) : Option Status :=
  let ind := bit (fld b 4 1) 0
  let len := fld b 6 2
  match opForm (fld b 0 2) with
  | none => some .badOpcode
  | some f =>
    if !f.lenOk len || (f.indirect && !ind) || (!ind && 48 < len) || (ind && (len = 0 || 4096 < len)) then some .badLength
    else if ind && (fld b 16 8 % 64 != 0 || fld b 16 8 / 4096 != (fld b 16 8 + len - 1) / 4096) then some .badPointer
    else none

/-- 03 R73, R81 to R84: a slot has arrived. Its CRC, then duplicates, then its form; then its parameters are read, or it is
ready. On the management port a command that is no duplicate empties the response buffer, one that a check of its form then refuses too
(DESIGN CHOICE, assumption 89: 03 R98 does not say whether a refused command replaces the buffer). -/
def slotArrived (ring index : Nat) (b : Bytes) (s : State) : State :=
  let op := fld b 0 2
  let tag : U16 := BitVec.ofNat 16 (fld b 2 2)
  let crc : U32 := BitVec.ofNat 32 (fld b 8 4)
  let h : Hdr := { ring := ring, tag := tag, crc := crc, fence := bit (fld b 4 1) 1 }
  let window := if ring = 15 then s.mgmt.window else (s.ring ring).window
  if b.length ≠ 64 || crc32c (b.take 8 ++ [0, 0, 0, 0] ++ b.drop 12) ≠ crc then answer h op .badCrc (dropSlot ring index s)
  else match (s.inFlight ring).find? (fun e => e.phase != .slotRead && e.tag == tag) with
  | some e => if e.crc = crc then dropSlot ring index s else answer h op .tagInUse (dropSlot ring index s)
  | none =>
    match window.find? (fun e => e.tag == tag) with
    | some e =>
      let s := dropSlot ring index s
      if e.crc = crc then
        let s := if ring = 15 then { s with mgmt := { s.mgmt with respHidden := s.mgmt.lastExec != some (tag, crc) } } else s
        deliver h (replayed e.record) true s
      else answer h op .tagInUse s
    | none =>
      let ind := bit (fld b 4 1) 0
      let s := fillSlot ring index (fun e => { e with
        tag := tag, opcode := BitVec.ofNat 16 op, crc := crc, fence := h.fence,
        phase := if ind then .paramRead else .ready, params := (b.drop 16).take (fld b 6 2),
        paramCrc := BitVec.ofNat 32 (fld b 24 4), clean := slotReservedOk b }) s
      let s := if ring = 15 then { s with mgmt := { s.mgmt with resp := [], respHidden := false } } else s
      match slotForm b with
      | some st => complete h op st [] s
      | none => if ind then startRead (if ring = 15 then .mgmtParams tag.toNat else .params ring tag.toNat) (fld b 16 8) (fld b 6 2) s
                else s

/-- 03 R71, R72, R777: fetch the next slot of a ring when the arbiter picks it; with its bytes, the read completes at once. -/
def execSlotFetch (ring : Nat) (slot : Option Bytes) (s : State) : Out :=
  .next (
    let s := noteWaiting s
    if ringsOpen s && arbiter s = some ring then
      let r := s.ring ring
      let index := r.sqHead
      let e : InFlight := { tag := 0, opcode := 0, crc := 0, fence := false, phase := .slotRead, params := [], paramCrc := 0,
                            fetchedAt := s.now, index := index, clean := true, unrecorded := false }
      let lower := (List.range ring).any (fun n => fetchable (s.ring n))
      let s := s.setRing ring { r with sqHead := r.sqHead + 1, waitingSince := none, inFlight := r.inFlight ++ [e] }
      let s := { s with glb := { s.glb with overtakes := if lower then s.glb.overtakes + 1 else 0 } }
      let s := noteRing ring s
      match slot with
      | some b => slotArrived ring index.toNat b s
      | none => startRead (.slot ring index.toNat) (r.sqBase.toNat + 64 * (index.toNat % 2 ^ r.sqLog2.toNat)) 64 s
    else s)

/-- 03 R63, 18 R720: a doorbell write. -/
def execRingWhistleWrite (ring : Nat) (value : U32) (s : State) : Out :=
  .next (
    let r := s.ring ring
    let prod : U16 := value.setWidth 16
    if !ringsOpen s || !r.enable then s
    else if bits value.toNat 16 3 = ring && (r.sqTail - r.sqHead).toNat ≤ (prod - r.sqHead).toNat
        && (prod - r.sqHead).toNat ≤ 2 ^ r.sqLog2.toNat then
      noteWaiting (s.setRing ring { r with sqTail := prod })
    else ringFault ring 0 prod.toNat s)

/-- 03 R77, 18 R720: a write of the completion consumer index. -/
def execRingCqHeadWrite (ring : Nat) (value : U32) (s : State) : Out :=
  .next (
    let r := s.ring ring
    let head : U16 := value.setWidth 16
    if !ringsOpen s || (!r.enable && r.idle) then s
    else if (head - r.cqHead).toNat ≤ (r.cqTail - r.cqHead).toNat then noteWaiting (s.setRing ring { r with cqHead := head })
    else ringFault ring 1 head.toNat s)

/-- 03 R77, R79: a write of the event consumer index; backlog events then follow while the ring is enabled. -/
def execEvqHeadWrite (value : U32) (s : State) : Out :=
  .next (
    let head : U16 := value.setWidth 16
    if !ringsOpen s then s
    else if (head - s.evq.head).toNat ≤ (s.evq.tail - s.evq.head).toNat then
      drain { s with evq := { s.evq with head := head } }
    else evqFault head.toNat s)

/-- 18 R719, 03 R62: ENABLE of a submission ring from 0 to 1, with the coalescing fields of the same write. -/
def execRingEnable (ring : Nat) (coalCount : Byte) (coalUsec : BitVec 10) (s : State) : Out :=
  .next (
    let r := s.ring ring
    if ringsOpen s && !r.enable && r.idle && log2Ok r.sqLog2 && log2Ok r.cqLog2 then
      s.setRing ring { r with enable := true, halted := false, coalCount := coalCount, coalUsec := coalUsec,
                              sqTail := 0, sqHead := 0, cqTail := 0, cqHead := 0, completedTotal := 0, lastFault := 0,
                              unsignalled := 0, waitingSince := none }
    else s)

/-- 03 R95: ENABLE of a submission ring from 1 to 0: no more fetches; what is in flight completes. -/
def execRingDisable (ring : Nat) (s : State) : Out :=
  .next (if ringsOpen s then s.setRing ring { s.ring ring with enable := false, waitingSince := none } else s)

/-- 03 R80, 18 R719: ENABLE of the event ring from 0 to 1: indices 0, then the backlog oldest first. -/
def execEvqEnable (coalCount : Byte) (coalUsec : BitVec 10) (s : State) : Out :=
  .next (
    if ringsOpen s && !s.evq.enable && 6 ≤ s.evq.log2.toNat then
      drain { s with evq := { s.evq with enable := true, coalCount := coalCount, coalUsec := coalUsec, tail := 0, head := 0,
                                         unsignalled := 0 } }
    else s)

/-- 03 R80: ENABLE of the event ring from 1 to 0: further events go to the backlog. -/
def execEvqDisable (s : State) : Out :=
  .next (if ringsOpen s then { s with evq := { s.evq with enable := false } } else s)

/-- 18 R723: a read of EVQ_LOST returns the count and clears it. -/
def execEvqLostRead (s : State) : Out :=
  .next (if ringsOpen s then { s.send (.reply (le 4 s.evq.lost.toNat) false) with evq := { s.evq with lost := 0 } }
         else s.send (.reply (le 4 0) false))

/-- 18 R723: a read of GLB_STRAY returns the stray-access counts and clears them. -/
def execGlbStrayRead (s : State) : Out :=
  .next ({ s.send (.reply (le 2 s.glb.bar0Stray.toNat ++ le 2 s.glb.bar2Stray.toNat) false) with
           glb := { s.glb with bar0Stray := 0, bar2Stray := 0 } })

/-- 18 R702, R717: a BAR0 access that is not one aligned full word, or hits an unavailable block: a read is answered 0, a
write is discarded, and it is counted. -/
def execBar0StrayAccess (isRead : Bool) (len : Nat) (s : State) : Out :=
  .next (
    let s := { s with glb := { s.glb with bar0Stray := satAdd s.glb.bar0Stray 1 } }
    if isRead then s.send (.reply (List.replicate len 0) false) else s)

/-- 03 R78: COAL_USEC after the first unsignalled record the vector is signalled: vector 0 the event ring's, 1 to 8 a
completion ring's. -/
def execInterruptCoalesceTimeout (vector : Nat) (s : State) : Out :=
  .next (
    if vector = 0 then
      if s.evq.unsignalled ≠ 0 && s.evq.firstAt + 1000 * s.evq.coalUsec.toNat ≤ s.now then
        signal 0 { s with evq := { s.evq with unsignalled := 0 } }
      else s
    else
      let r := s.ring (vector - 1)
      if 1 ≤ vector && vector ≤ 8 && r.unsignalled ≠ 0 && r.firstAt + 1000 * r.coalUsec.toNat ≤ s.now then
        signal vector (s.setRing (vector - 1) { r with unsignalled := 0 })
      else s)

/-- 18 R725: send one message for every pending vector that nothing blocks any longer. -/
def sendPending (s : State) : State :=
  (List.range 10).foldl (fun s v =>
    if Tab.get false s.pcie.pba v && s.pcie.msixEnable && !s.pcie.msixMask && !(Tab.get true s.pcie.vecMask v) then
      { s.send (.msix v) with pcie := { s.pcie with pba := Tab.put s.pcie.pba v false } }
    else s) s

/-- 18 R712, R725: the host writes MSI-X Enable, Function Mask, a Mask Bit or a table entry; a vector that nothing blocks
any longer and whose pending bit is set sends one message. -/
def execMsixUnmask (w : MsixWrite) (s : State) : Out :=
  .next (
    sendPending (match w with
      | .enable b => { s with pcie := { s.pcie with msixEnable := b } }
      | .function b => { s with pcie := { s.pcie with msixMask := b } }
      | .vector v b => if v < 64 then { s with pcie := { s.pcie with vecMask := Tab.put s.pcie.vecMask v b } } else s
      | .entry v a d => if v < 64 then { s with pcie := { s.pcie with vecMsg := Tab.put s.pcie.vecMsg v (a, d) } } else s))

/-- The port answers its address: the boot ROM has started (03 R102, 17 R675). -/
def portAnswers (s : State) : Bool := s.pwr.rails && !s.pwr.porst && !s.pwr.tripped

/-- 03 R98, R99, R102: a transaction of a first byte and the bytes after it. SUBMIT, 0x10, has 64 slot bytes: NACK while a command is
executing, or of any other form; before Shepherd runs the boot ROM NACKs the opcodes it does not answer. A transaction whose first byte is
none of SUBMIT's, POLL's and READ's is NACKed at that byte; so is one that begins as POLL or READ and goes on with slot bytes. -/
def execMgmtSubmit (bytes : Bytes) (s : State) : Out :=
  .next (
    let slot := bytes.drop 1
    if !portAnswers s then s
    else if fld bytes 0 1 ≠ 0x10 || slot.length ≠ 64 || s.mgmt.state = 1 || !s.mgmt.inFlight.isEmpty then s.send (.mgmt [])
    else if s.glb.boot != .running && !([0x0000, 0x0001, 0x0006].contains (fld slot 0 2)) then s.send (.mgmt [])
    else
      let e : InFlight := { tag := 0, opcode := 0, crc := 0, fence := false, phase := .slotRead, params := [], paramCrc := 0,
                            fetchedAt := s.now, index := 0, clean := true, unrecorded := false }
      slotArrived 15 0 slot { s with mgmt := { s.mgmt with state := 1, inFlight := [e] } })

/-- The first RESP_LEN bytes of the response buffer (03 R98, R100). -/
def response (s : State) : Bytes := if s.mgmt.respHidden then [] else s.mgmt.resp

/-- 03 R98: what POLL returns: STATE, the record, RESP_LEN and a CRC-32C over the 35 bytes. -/
def pollBytes (s : State) : Bytes :=
  let b := le 1 s.mgmt.state ++ (if s.mgmt.state = 2 then pad 32 s.mgmt.record else List.replicate 32 0) ++ le 2 (response s).length
  b ++ le 4 (crc32c b).toNat

/-- 03 R98: POLL; a byte written after 0x20 is NACKed, and bytes read beyond the answer are 0xFF. -/
def execMgmtPoll (extra reads : Nat) (s : State) : Out :=
  .next (
    if !portAnswers s then s
    else if extra ≠ 0 then s.send (.mgmt [])
    else s.send (.mgmt ((pollBytes s).take reads ++ List.replicate (reads - 39) 0xFF)))

/-- 03 R98: READ of COUNT response bytes from OFFSET, zeros past RESP_LEN, and their CRC-32C. -/
def execMgmtRead (offset count extra reads : Nat) (s : State) : Out :=
  .next (
    if !portAnswers s then s
    else if count = 0 || 255 < count || extra ≠ 0 then s.send (.mgmt [])
    else
      let b := pad count ((response s).drop offset)
      s.send (.mgmt ((b ++ le 4 (crc32c b).toNat).take reads ++ List.replicate (reads - (count + 4)) 0xFF)))

/-- 03 R101, 19 R772: SCL or SDA held low for 25 ms: the transaction is abandoned and MGMT_STUCK raised; a command already
received runs on. -/
def execMgmtBusTimeout (sda scl : Bool) (s : State) : Out :=
  .next (
    if portAnswers s && (sda || scl) then
      portFault srcMgmt 0x21 14 0 (b2n sda + 2 * b2n scl) true { s with mgmt := { s.mgmt with busy := false } }
    else s)

end Sys2Proof.Machine
end

