-- ==== Sys2Proof/Machine/SysCmd.lean ====
section
/-! DEFINITION. The system and debug commands (04 R113 to R123, R166, R168, R169; 16 R646 to R656; 17 R681, R686). -/
namespace Sys2Proof.Machine

/-- A command of the management port that the boot ROM answers before Shepherd runs (03 R102), else as `command`. -/
def romCommand (op : Nat) (h : Hdr) (form state : List (Bool × Status)) (act : State → State) (s : State) : Out :=
  if h.ring = 15 && s.glb.boot != .running && s.pwr.rails && !s.pwr.porst && !s.pwr.tripped
      && s.mgmt.inFlight.any (fun e => e.tag == h.tag && e.phase == .ready) then
    .next (match firstFail ([(slotClean h s, .reservedNonzero)] ++ form ++ state) with
      | some st => complete h op st [] s
      | none => act s)
  else command op h [] [] form state act s

/-- NOP (04 R113). -/
def execNop (h : Hdr) (_ : Bytes) (s : State) : Out := romCommand 0x0000 h [] [] (fun s => complete h 0x0000 .ok [] s) s

/-- GET_INFO (04 R114). -/
def execGetInfo (h : Hdr) (_ : Bytes) (s : State) : Out :=
  romCommand 0x0001 h [] [] (fun s => complete h 0x0001 .ok (infoResult s) s) s

/-- RESYNC (04 R116, 03 R103). -/
def execResync (h : Hdr) (p : Bytes) (s : State) : Out :=
  let dest := fld p 0 8
  command 0x0002 h p [] [(destOk h dest && (h.ring == 15 || dest != 0), .badField)] []
    (fun s =>
      let d := summary h s
      let s := { s with glb := { s.glb with snapshots := s.glb.snapshots + 1 } }
      complete h 0x0002 .ok (le 8 s.us) (deliverData h dest d s)) s

/-- A profile takes force (17 R662, R679, R681): excluded cores go off at once, clocks keep to the cap, FyxLink follows. -/
def applyProfile (p : Nat) (s : State) : State :=
  let s := { s with pwr := { s.pwr with profile := p } }
  let s := ((List.range 16).filter (fun c => !(profCores p).contains c)).foldl (fun s c => coreOff c s) s
  let s := if fyxWanted s then s else { setDomain 31 false s with pack := { s.pack with links := [] } }
  startFixedDomains (settleOps s)

/-- 02 R48: the cap lies below a floor, or the core set excludes a core that a stream holds. -/
def profileOverBudget (s : State) (p : Nat) : Bool :=
  (List.range 16).any (fun c =>
    profCap p < coreFloor s c
      || (!(profCores p).contains c && (List.range 32).any (fun i => (s.stream i).cores.contains c || (((s.stream i).nextCores).getD []).contains c)))

/-- 17 R681: the other refusals of a profile. -/
def profileBlocked (s : State) (p : Nat) : Bool :=
  (List.range 16).any (fun c => !(profCores p).contains c && (activeJobs s).any (fun j => bit (s.job j).coreMask c))
    || (!profFyx p && (s.pack.state == .formed || s.pack.state == .degraded))
    || (List.range 4).any (fun k => (s.port k).enable && !profCsi p k)

/-- POWER_PROFILE (04 R117; 02 R48; 17 R681). -/
def execPowerProfile (h : Hdr) (p : Bytes) (s : State) : Out :=
  let prof := fld p 0 1
  command 0x0003 h p [] [(resOk p [0xFF, 1, 0, 0], .reservedNonzero), (decide (prof ≤ 3), .badField)]
    [(!profileOverBudget s prof, .certOverBudget), (!profileBlocked s prof, .badState)]
    (fun s =>
      let old := s.pwr.profile
      let s := applyProfile prof s
      let s := if bit (fld p 1 1) 0 then writeSettings [(1, BitVec.ofNat 32 prof)] s else s
      complete h 0x0003 .ok (le 1 old) s) s

/-- Bytes of one entry of an area, and entry i (04 R118). -/
def keepEntry (s : State) (area i : Nat) : Bytes :=
  if area = 0 then le 4 (Tab.get 0 s.keep.user i).toNat
  else if area = 1 then le 4 (setting s i).toNat
  else if area = 2 then le 8 (Tab.get 0 s.keep.remap i).toNat
  else pad 32 (logEntry s i)

/-- KEEP_READ (04 R118). -/
def execKeepRead (h : Hdr) (p : Bytes) (s : State) : Out :=
  let area := fld p 0 1
  let first := fld p 1 1
  let n := fld p 2 1
  let dest := fld p 4 8
  command 0x0004 h p [] [(resOk p ([0xFF, 0xFF, 0xFF, 0] ++ full 8), .reservedNonzero),
      (area ≤ 3 && first ≤ 63 && 1 ≤ n && n ≤ 64 && first + n ≤ 64, .badField), (destOk h dest, .badField)] []
    (fun s =>
      let d := (List.range n).flatMap (fun i => keepEntry s area (first + i))
      complete h 0x0004 .ok (le 4 d.length) (deliverData h dest d s)) s

/-- The words of a KEEP_WRITE (04 R119). -/
def keepWords (p : Bytes) : List (Nat × U32) :=
  (List.range (fld p 2 1)).map (fun i => (fld p 1 1 + i, BitVec.ofNat 32 (fld p (4 + 4 * i) 4)))

/-- The checks of KEEP_WRITE's form (04 R119). -/
def keepForm (s : State) (p : Bytes) : List (Bool × Status) :=
  let area := fld p 0 1
  let first := fld p 1 1
  let n := fld p 2 1
  [(resOk p ([0xFF, 0xFF, 0xFF, 0] ++ full (4 * n)), .reservedNonzero),
   (area ≤ 1 && first ≤ 63 && 1 ≤ n && n ≤ 8 && first + n ≤ 64, .badField),
   (area == 0 || (keepWords p).all (fun e => settingOk s e.1 e.2.toNat), .badField)]

/-- User keep register words, written one by one (04 R119). -/
def writeUsers (l : List (Nat × U32)) (s : State) : State := l.foldl (fun s e => writeUser e.1 e.2 s) s

/-- KEEP_WRITE (04 R119; 16 R632, R640). -/
def execKeepWrite (h : Hdr) (p : Bytes) (s : State) : Out :=
  command 0x0005 h p [(p.length == 4 + 4 * fld p 2 1, .badLength)] (keepForm s p) []
    (fun s => complete h 0x0005 .ok [] (if fld p 0 1 = 0 then writeUsers (keepWords p) s else writeSettings (keepWords p) s)) s

/-- FAULT_EXPORT (04 R120; 16 R638, R655, R656). -/
def execFaultExport (h : Hdr) (p : Bytes) (s : State) : Out :=
  let target := fld p 0 1
  let part := fld p 1 1
  let dest := fld p 4 8
  let origin := if s.glb.boot == .running then 0 else 1
  romCommand 0x0006 h [(resOk p ([0xFF, 0xFF, 0, 0] ++ full 8), .reservedNonzero),
      (target == 0 || (target == 1 && h.ring != 15) || (target == 2 && h.ring == 15), .badField),
      (if target = 2 then part ≤ 1 else part == 0, .badField),
      (if target = 1 then destOk h dest else dest == 0, .badField)]
    [(target != 0 || s.flash.fitted, .badState)]
    (fun s =>
      if target = 0 then
        let s := { s with flash := { s.flash with queue := s.flash.queue ++ [.export_ (exportBytes h true origin s)] } }
        stage h 0x0006 0 true .flash s
      else
        let d := if target = 2 && part = 1 then (if origin = 1 then List.replicate 3072 0 else summary h s)
                 else exportBytes h (target == 1) origin s
        complete h 0x0006 .ok (le 4 d.length) (deliverData h dest d s)) s

/-- FW_INSTALL (04 R121; 16 R647; 17 R690, R691): the image is checked before any flash is written. image is what the read of host
memory returns, none when it fails. -/
def execFwInstall (h : Hdr) (p : Bytes) (image : Option Bytes) (s : State) : Out :=
  let len := fld p 8 4
  command 0x0007 h p [] [(resOk p (full 12 ++ [1, 0, 0, 0]), .reservedNonzero),
      (fld p 0 8 % 4096 == 0 && 4096 ≤ len && len ≤ 8388608, .badField)]
    [(s.flash.fitted, .badState)]
    (fun s =>
      let final : Option Status := match image with
        | none => some .hostReadFailed
        | some b => verifyImage s (pad len b) (min len (directory s.flash).2)
      match final, image with
      | none, some b =>
        stage h 0x0007 0 true .flash { s with flash := { s.flash with queue := s.flash.queue ++ [.install (pad len b) (bit (fld p 12 1) 0)] } }
      | some st, _ => committed h.ring h.tag 0x0007 st 0 0 0 (complete h 0x0007 .pending stagedResult s)
      | none, none => s) s

/-- CUSTOMER_KEY_PROGRAM (04 R122). -/
def execCustomerKeyProgram (h : Hdr) (p : Bytes) (s : State) : Out :=
  let hash := p.take 32
  command 0x0008 h p [] [(fld p 32 4 == 0x5345414C, .badField)]
    [(s.otp.keyHash.isNone, .badState), (s.glb.fwCustomer == some hash, .keyMismatch)]
    (fun s => complete h 0x0008 .ok [] { s with otp := { s.otp with keyHash := some hash } }) s

/-- DEVICE_RESET (04 R123; 17 R663, R685, R686): the completion, then the reset. -/
def execDeviceReset (h : Hdr) (p : Bytes) (s : State) : Out :=
  let kind := fld p 0 1
  command 0x0009 h p [] [(resOk p [0xFF, 0, 0, 0], .reservedNonzero), (kind == 3 || kind == 4, .badField)] []
    (fun s =>
      let s := complete h 0x0009 .ok [] s
      if kind = 3 then coldReset 3 s else warmReset 4 s) s

/-- The flash operation that a FW_INSTALL makes (17 R690, R691): the slot, and the directory with ACTIVATE or the default layout. -/
def installImage (image : Bytes) (activate : Bool) (s : State) : State :=
  let f := s.flash
  let dir := directory f
  let booted := s.glb.slot.toNat
  let slot := if booted ≤ 1 then 1 - booted else 1 - dir.1
  let base := 65536 + slot * dir.2
  let s := s.send (.flash base image)
  let f := { f with slots := Tab.put f.slots slot image }
  let named := if activate then slot else if booted ≤ 1 then booted else 0
  let f : Flash := match f.dir0, f.dir1 with
    | none, none => { f with dir0 := some (named, dir.2, 1), dir1 := some (named, dir.2, 2) }
    | some a, some b =>
      if !activate then f
      else if later b.2.2 a.2.2 then { f with dir0 := some (slot, a.2.1, b.2.2 + 1) }
      else { f with dir1 := some (slot, b.2.1, a.2.2 + 1) }
    | some a, none => if activate then { f with dir1 := some (slot, a.2.1, a.2.2 + 1) } else f
    | none, some b => if activate then { f with dir0 := some (slot, b.2.1, b.2.2 + 1) } else f
  { s with flash := f }

/-- The flash operation at the head of the queue ends (16 R656, 04 R120, R121): its writes, then the outcome of its command. -/
def execFlashOperationDone (ok : Bool) (s : State) : Out :=
  .next (
    match s.flash.queue with
    | [] => s
    | op :: rest =>
      if !portAnswers s then s
      else
        let s := { s with flash := { s.flash with queue := rest } }
        let s := match op with
          | .export_ b =>
            if ok then
              let base := s.flash.size - 8192
              let s := (((s.send (.flash base [])).send (.flash (base + 4096) [])).send (.flash (base + 64) (b.drop 64))).send (.flash base (b.take 64))
              { s with flash := { s.flash with export_ := some b } }
            else { s with flash := { s.flash with export_ := none } }
          | .install b a => if ok then installImage b a s else s
        match s.staged.find? (fun e => e.change == .flash) with
        | none => s
        | some e =>
          let st : Status := if ok then .ok else .internalFault
          stagedOutcome e.ring e.tag e.opcode.toNat st 0 (le 4 5696) { s with staged := s.staged.filter (· != e) })

/-- COUNTERS_SNAPSHOT (04 R166; 15 R613). -/
def execCountersSnapshot (h : Hdr) (p : Bytes) (s : State) : Out :=
  let mask := fld p 0 4
  let sets := fld p 4 1
  let dest := fld p 8 8
  command 0x0800 h p [] [(resOk p (full 4 ++ [7, 0, 0, 0] ++ full 8), .reservedNonzero), (destOk h dest, .badField)] []
    (fun s =>
      let s := foldBytes s
      let d := snapshot mask sets s
      complete h 0x0800 .ok (le 4 d.length ++ le 4 0 ++ le 8 s.us) (deliverData h dest d s)) s

/-- TEST_CHALLENGE (04 R168, 16 R653): the nonce is drawn from an on-die random source, so its bytes are free. -/
def execTestChallenge (h : Hdr) (_ : Bytes) (s : State) : Out :=
  command 0x0802 h [] [] [] [(s.glb.testPins, .locked), (decide (s.glb.challenges < 8), .locked)]
    (fun s =>
      let (n, s) := freeBytes 16 s
      complete h 0x0802 .ok n { s with glb := { s.glb with nonce := some n, challenges := s.glb.challenges + 1 } }) s

/-- Every orphan ends without an event, and every CM and Kennel unit is zero-filled (16 R654 steps 2 and 3; 17 R687). -/
def clearOnChip (s : State) : State :=
  let s := s.mem.orphans.foldl (fun s o => freeOwner (orphanOwner o.id) s) s
  let s := (List.range 16).foldl (fun s c => zeroFill (.cm c) 0 786432 s) { s with mem := { s.mem with orphans := [] } }
  zeroFill .kennel 0 33554432 s

/-- DRAM that tasks had is zero-filled and free. -/
def clearDramTasks (s : State) : State :=
  let s := s.dram.filling.foldl (fun s e => zeroDram (e.1 * 1048576) (e.2 * 1048576) s) s
  { s with dram := { s.dram with filling := [] } }

/-- TEST_UNLOCK (04 R168, 16 R653, R654). -/
def execTestUnlock (h : Hdr) (p : Bytes) (s : State) : Out :=
  command 0x0803 h p [] [(zeros p 64 8, .reservedNonzero)] []
    (fun s =>
      let ok := match s.glb.nonce with
        | none => false
        | some n => Config.ecdsa s.glb.fwVendorKey (n ++ le 2 0x3216 ++ le 1 s.glb.stepping.toNat ++ List.replicate 13 0) (p.take 64)
      let s := { s with glb := { s.glb with nonce := none } }
      if ok then
        let s := clearDramTasks (clearOnChip (killAll s))
        let s := { s with keep := { s.keep with user := [] }, otp := { s.otp with scar := s.otp.scar ||| 16#16 }
                          glb := { s.glb with testMode := true } }
        complete h 0x0803 .ok [] (logNew 0x0904 0 0 [] s)
      else complete h 0x0803 .unlockFailed [] s) s

/-- DEBUG_LOCK (04 R169). -/
def execDebugLock (h : Hdr) (p : Bytes) (s : State) : Out :=
  command 0x0804 h p [] [(fld p 0 4 == 0x4C4F434B, .badField)] []
    (fun s => complete h 0x0804 .ok (le 1 (b2n s.otp.debugLocked)) { s with otp := { s.otp with debugLocked := true } }) s

/-! ### The completion bound (03 R76, R100) -/

/-- A staged flash operation is stopped: an export leaves the reserved area's content invalid (04 R120). -/
def stopFlash (e : Staged) (s : State) : State :=
  let i := (s.staged.filter (fun x => x.change == .flash)).idxOf e
  let exports := match s.flash.queue[i]? with | some (.export_ _) => true | _ => false
  { s with flash := { s.flash with queue := s.flash.queue.take i ++ s.flash.queue.drop (i + 1)
                                   export_ := if exports then none else s.flash.export_ } }

/-- A switch whose last waiting SENSOR_POWER ended INTERNAL_FAULT before it had settled opens again: that command has had no effect
(04 R171). -/
def dropPower (h : Hdr) (k : Nat) (s : State) : State :=
  let c := s.spwr k
  if !c.cmd.any (fun g => g.ring == h.ring && g.tag == h.tag) then s
  else
    let rest := c.cmd.filter (fun g => !(g.ring == h.ring && g.tag == h.tag))
    if rest.isEmpty && c.settling then (s.setSpwr k {}).send (.pin .sensorPwr k 0) else s.setSpwr k { c with cmd := rest }

/-- The pack operations of a command end, and members drop what they have staged of them (14 R575). -/
def dropOps (h : Hdr) (s : State) : State :=
  let mine (o : PackOp) : Bool := match o.cmd with | some g => g.ring == h.ring && g.tag == h.tag | none => false
  let s := (s.pack.ops.filter mine).foldl (fun s o => (peers s).foldl (fun s m =>
    sendFyx m { kind := 0x13, src := s.glb.packPos.toNat, dst := m, tag := BitVec.ofNat 16 o.id, epoch := s.pack.epoch } s) s) s
  { s with pack := { s.pack with ops := s.pack.ops.filter (fun o => !mine o)
                                 reads := s.pack.reads.filter (fun r => !(r.cmd.ring == h.ring && r.cmd.tag == h.tag)) } }

/-- A PACK_FORM of a command ends without a pack. -/
def dropForming (h : Hdr) (s : State) : State :=
  match s.pack.forming with
  | some (g, _) => if g.ring = h.ring && g.tag = h.tag then becomeSingle s else s
  | none => s

/-- 03 R76: the remaining work of a command stops for good. -/
def stopCommand (h : Hdr) (s : State) : State :=
  let s := { s with reads := s.reads.filter (fun r => r.purpose != .params h.ring h.tag.toNat && r.purpose != .mgmtParams h.tag.toNat) }
  let s := dropForming h (dropOps h ((List.range 4).foldl (fun s k => dropPower h k s) s))
  match s.staged.find? (fun e => e.ring == 15 && h.ring == 15 && e.tag == h.tag) with
  | some e => { (if e.change == .flash then stopFlash e s else s) with staged := s.staged.filter (· != e) }
  | none => s

/-- The RESULT of a command that its bound stops, and what it has written (04 R119): a KEEP_WRITE of user words whose turn had come and that
passed its checks may have written some of them first, a free number. -/
def partialWrite (h : Hdr) (op : Nat) (p : Bytes) (s : State) : Bytes × State :=
  if op = 0x0005 && fld p 0 1 = 0 && canRun h s && slotClean h s && p.length = 4 + 4 * fld p 2 1 && (firstFail (keepForm s p)).isNone
      && !s.glb.testMode then
    let (n, s) := freeNat (fld p 2 1 + 1) s
    (le 1 n, writeUsers ((keepWords p).take n) s)
  else ([], s)

/-- 03 R76, R100: a command not complete at its bound, 20 ms on a ring and 3 s on the port, completes INTERNAL_FAULT and stops. A ROUTE_SET
that waits for its boundary completes PENDING instead (05 R200). -/
def execCommandBoundTimeout (ring : Nat) (tag : U16) (s : State) : Out :=
  .next (
    match (s.inFlight ring).find? (fun e => e.tag == tag && e.phase != .slotRead) with
    | none => s
    | some e =>
      let h : Hdr := { ring := ring, tag := tag, crc := e.crc }
      if s.running && e.fetchedAt + (if ring = 15 then 3000000000 else 20000000) ≤ s.now then
        if e.opcode == 0x0205#16 && e.phase == .started then complete h 0x0205 .pending stagedResult s
        else
          let r := partialWrite h e.opcode.toNat e.params s
          complete h e.opcode.toNat .internalFault r.1 (stopCommand h r.2)
      else s)

end Sys2Proof.Machine
end

