-- ==== Sys2Proof/Machine/Registers.lean ====
section
/-! DEFINITION. Host registers without a family of their own, the PCIe function's state, the timebase registers, the keep mirror's
write queue and the counter latch (18 R702 to R733; 17 R664, R687; 03 R90, R96). -/
namespace Sys2Proof.Machine

/-- BAR0 accepts accesses (18 R726). -/
def barOpen (s : State) : Bool := s.pcie.linkUp && s.pcie.memSpace && !s.pcie.d3hot && !s.pwr.tripped

/-- A base register's address: bits [11:0] are reserved (18 R710). -/
def setLow (base : U64) (v : U32) : U64 := BitVec.ofNat 64 (base.toNat / 2 ^ 32 * 2 ^ 32 + v.toNat / 4096 * 4096)

/-- The upper half of a base register. -/
def setHigh (base : U64) (v : U32) : U64 := BitVec.ofNat 64 (base.toNat % 2 ^ 32 + v.toNat * 2 ^ 32)

/-- A write of a ring register without behaviour of its own (18 R710, R719, 03 R62). -/
def writeRing (n o : Nat) (v : U32) (s : State) : State :=
  let r := s.ring n
  let free := !r.enable && r.idle
  let x := v.toNat
  match o with
  | 0x00 => if free then s.setRing n { r with sqBase := setLow r.sqBase v } else s
  | 0x04 => if free then s.setRing n { r with sqBase := setHigh r.sqBase v } else s
  | 0x08 => if free then s.setRing n { r with cqBase := setLow r.cqBase v } else s
  | 0x0C => if free then s.setRing n { r with cqBase := setHigh r.cqBase v } else s
  | 0x10 =>
    let a : BitVec 4 := BitVec.ofNat 4 x
    let b : BitVec 4 := BitVec.ofNat 4 (x / 256)
    if free && log2Ok a && log2Ok b then s.setRing n { r with sqLog2 := a, cqLog2 := b } else s
  | 0x14 => if free && !bit x 0 then s.setRing n { r with coalCount := BitVec.ofNat 8 (x / 256), coalUsec := BitVec.ofNat 10 (x / 65536) } else s
  | 0x18 => s.setRing n { r with whistleErr := r.whistleErr && !bit x 2, headErr := r.headErr && !bit x 3, fetchErr := r.fetchErr && !bit x 4 }
  | _ => s

/-- A write of an event ring register without behaviour of its own (18 R711, R719). -/
def writeEvq (o : Nat) (v : U32) (s : State) : State :=
  let q := s.evq
  let x := v.toNat
  match o with
  | 0x00 => if q.enable then s else { s with evq := { q with base := setLow q.base v } }
  | 0x04 => if q.enable then s else { s with evq := { q with base := setHigh q.base v } }
  | 0x08 =>
    let a : BitVec 4 := BitVec.ofNat 4 x
    if !q.enable && 6 ≤ a.toNat then { s with evq := { q with log2 := a } } else s
  | 0x0C => if q.enable || bit x 0 then s
            else { s with evq := { q with coalCount := BitVec.ofNat 8 (x / 256), coalUsec := BitVec.ofNat 10 (x / 65536) } }
  | 0x10 => { s with evq := { q with headErr := q.headErr && !bit x 2, overflow := q.overflow && !bit x 3 } }
  | _ => s

/-- A write of a GLB_ register: the boot registers in WAIT_HOST and GLB_SCRATCH (18 R703, R717). -/
def writeGlb (o : Nat) (v : U32) (s : State) : State :=
  let wait := s.glb.boot == .waitHost
  match o with
  | 0x014 => if wait then { s with glb := { s.glb with bootAddr := setLow s.glb.bootAddr v } } else s
  | 0x018 => if wait then { s with glb := { s.glb with bootAddr := setHigh s.glb.bootAddr v } } else s
  | 0x01C => if wait then { s with glb := { s.glb with bootLen := v } } else s
  | 0x034 => { s with glb := { s.glb with scratch := v } }
  | _ => s

/-- A BAR0 write that reaches an unavailable block is discarded and counted (18 R702, R717). -/
def strayWrite (s : State) : State := { s with glb := { s.glb with bar0Stray := satAdd s.glb.bar0Stray 1 } }

/-- A host write of a register (18 R718): BAR0's registers without a row of their own, and the two fields of configuration space that
the spec gives the device a behaviour for. A write that clears Bus Master Enable has the effect of 18 R726. Registers whose write has
a row of its own, and read-only ones, stay as they are. -/
def execRegisterWrite (t : RegTarget) (value : U32) (s : State) : Out :=
  .next (
    let run := s.glb.boot == .running
    match t with
    | .bar0 off =>
      if !barOpen s then s
      else
        match blockOf off with
        | (.glb, o) => writeGlb o value s
        | (.keepw, o) =>
          if !run then strayWrite s
          else if o = 0xC00 then
            { s with keep := { s.keep with dropped := s.keep.dropped && !bit value.toNat 8, rejected := s.keep.rejected && !bit value.toNat 9 } }
          else s
        | (.perf, _) => if run then s else strayWrite s
        | (.ring n, o) => if run then writeRing n o value s else s
        | (.evq, o) => if run then writeEvq o value s else s
        | _ => s
    | .command =>
      if s.pcie.linkUp then
        let bme := bit value.toNat 2
        let was := s.pcie.busMaster
        let s := { s with pcie := { s.pcie with memSpace := bit value.toNat 1, busMaster := bme } }
        if was && !bme then linkLoss s else s
      else s
    | .completionTimeout => if s.pcie.linkUp then { s with pcie := { s.pcie with cplTimeout := BitVec.ofNat 4 value.toNat } } else s)

/-! ### The PCIe function (17 R664, R687; 18 R726, R727; 03 R96) -/

/-- Configuration space at its power-on values, the link down. -/
def pcieDown (s : State) : State :=
  { s with pcie := { perst := s.pcie.perst, mayTrain := s.pcie.mayTrain, training := s.pcie.mayTrain && !s.pcie.perst } }

/-- The link goes down or is hot-reset (03 R96, 05 R219). -/
def execPcieLinkDown (s : State) : Out := .next (if s.pcie.linkUp then pcieDown (linkLoss s) else s)

/-- Link training completes (17 R664). -/
def execPcieLinkUp (s : State) : Out :=
  .next (if s.pcie.training && !s.pcie.perst then { s with pcie := { s.pcie with linkUp := true, training := false } } else s)

/-- PCIE_PERST_N falls (17 R664): a link loss; without further effect while PORST_N is low. -/
def execPciePerstNAssert (s : State) : Out :=
  .next (
    let t := { s with pcie := { s.pcie with perst := true } }
    if s.pcie.perst || s.pwr.porst then t else pcieDown (if s.pcie.linkUp then linkLoss t else t))

/-- PCIE_PERST_N rises (17 R664): training starts once the boot ROM has permitted it. -/
def execPciePerstNRelease (s : State) : Out :=
  .next { s with pcie := { s.pcie with perst := false, training := s.pcie.mayTrain && !s.pcie.linkUp } }

/-- The discards that the unwritten EVENTS_LOST of the backlog report (03 R80). -/
def unreported (l : List Event) : Nat := ((l.filter (fun e => e.code == 0x0003)).map (fun e => fld e.payload 0 4)).sum

/-- The discards of a reset of kind 7: the backlog is emptied and counted, with the earlier discards that no written EVENTS_LOST has
reported (03 R80). -/
def emptyBacklog (s : State) : State :=
  let n := s.evq.backlog.length
  let srcs := (s.evq.backlog.map (·.source)).dedup
  { s with evq := { s.evq with backlog := [], lostTotal := satAdd s.evq.lostTotal n, lostSince := satAdd s.evq.lostSince (n + unreported s.evq.backlog)
                               lostSources := srcs ++ s.evq.lostSources.filter (fun x => !srcs.contains x) } }

/-- EPOCH and EJECT to every other member. -/
def announceEject (pos cause : Nat) (targets : List Nat) (s : State) : State :=
  let s := { s with pack := { s.pack with epoch := s.pack.epoch + 1 } }
  targets.foldl (fun s m => sendPkt m 0x15 0 (BitVec.ofNat 32 (pos + 256 * cause)) [] (sendPkt m 0x14 0 s.pack.epoch [] s)) s

/-- Dissolve the pack (14 R603). -/
def dissolvePack (s : State) : State :=
  let ms := otherMembers s
  let s := { s with pack := { s.pack with epoch := s.pack.epoch + 1 } }
  becomeSingle (ms.foldl (fun s m => sendPkt m 0x15 0 (BitVec.ofNat 32 (m + 256)) [] (sendPkt m 0x14 0 s.pack.epoch [] s)) s)

/-- No command waits for a switch, a bus or another member any longer: those in flight end without records (03 R75, 17 R687). -/
def forgetCommands (s : State) : State :=
  { s with
    cam := { s.cam with power := Tab.map (fun _ (c : SensorPwr) => { c with cmd := [] }) s.cam.power
                        sctl := Tab.map (fun _ (b : Sctl) => { b with xfers := [] }) s.cam.sctl }
    pack := { s.pack with ops := s.pack.ops.filter (fun o => o.cmd.isNone), reads := [] } }

/-- 17 R687: what an FLR does to the pack: a leader dissolves it, a formation in progress ends, a follower's counts as a loss of its PCIe
link (14 R603, R604). -/
def flrPack (s : State) : State :=
  match s.pack.state with
  | .single => s
  | .forming => becomeSingle s
  | _ => if s.pack.leader then dissolvePack s else sendPkt s.pack.leaderPos 0x50 0 2 [] s

/-- 17 R687: what an FLR does to tasks, memories, models, the camera front and the pack, without an event. -/
def flrTasks (s : State) : State :=
  let s := clearOnChip (forgetCommands (flrPack s))
  let s := s.dram.alloc.foldl (fun s e => zeroDram (e.1 * 1048576) (e.2.1 * 1048576) s) s
  let s := clearDramTasks { s with dram := { s.dram with alloc := [] } }
  let s := (List.range 8).foldl (fun s d => if domainOn s (16 + d) then kennelOff d s else s) s
  let s := (List.range 16).foldl (fun s c => if domainOn s c then releaseCore c (s.setCore c { state := .idle, op := (s.core c).op, cycle := (s.core c).cycle }) else s) s
  let s := [25, 26, 27, 28, 29].foldl (fun s d => setDomain d false s) s
  { s with
    streams := [], jobs := [], models := [], groups := [], routes := [], staged := [], residency := [], residing := none
    flash := { s.flash with queue := [] }
    tve := {}
    iac := { s.iac with sets := [], detectors := [], fills := [] }
    cam := { s.cam with ports := [], sources := [] }
    mem := { s.mem with flat := false, cmOwner := [], knOwner := [], filling := [], extents := [], kennelUp := [], counters := []
                        counterAlloc := [], windows := [] }
    reads := [], rings := [], mgmt := {} }

/-- Function-level reset (17 R687, R665; 03 R80, R87): Shepherd continues; the boot ROM has only registers and windows to reset. The function's
configuration space returns to its power-on values, as PCI Express Base 4.0 has it (PRESUMED, assumption 13). -/
def execFlr (s : State) : Out :=
  .next (
    if !s.pcie.linkUp then s
    else
      let cfg : Pcie := { linkUp := true, perst := s.pcie.perst, mayTrain := s.pcie.mayTrain }
      let s := emptyBacklog (resetHostRegs { s with pcie := cfg })
      if s.glb.boot == .running && !s.pwr.tripped then
        let s := flrTasks s
        let s := { s with glb := { s.glb with resetCause := 7, testMode := false } }
        deviceStarted (applyProfile (bootProfile s) s)
      else
        let s := { s with rings := [], mgmt := {} }
        if s.glb.boot == .hostLoading then settleAlert { s with glb := { s.glb with boot := .waitHost, lastStatus := 0x0500 }, reads := [] }
        else s)

/-- Bus Master Enable is cleared (18 R726). -/
def execBusMasterEnableClear (s : State) : Out :=
  .next (if s.pcie.linkUp && s.pcie.busMaster then linkLoss { s with pcie := { s.pcie with busMaster := false } } else s)

/-- The function enters D3hot (18 R726). -/
def execD3hotEntry (s : State) : Out :=
  .next (if s.pcie.linkUp && !s.pcie.d3hot then linkLoss { s with pcie := { s.pcie with d3hot := true } } else s)

/-- The function returns to D0 (18 R726): nothing is reset. -/
def execD3hotExit (s : State) : Out := .next { s with pcie := { s.pcie with d3hot := false } }

/-- A poisoned write to BAR0, BAR2 or BAR4 is discarded and reported through AER only (18 R727). -/
def execPoisonedTlpWrite (_ : Nat) (s : State) : Out := .next { s with pcie := { s.pcie with aerPoisoned := s.pcie.aerPoisoned + 1 } }

/-! ### The timebase (18 R728, R729) -/

/-- A read of TIME_NOW_LO latches the upper half. -/
def execTimeNowLoRead (s : State) : Out :=
  .next (if barOpen s then { s.send (.reply (le 4 s.us) false) with glb := { s.glb with nowHi := BitVec.ofNat 32 (s.us / 2 ^ 32) } } else s)

/-- A write of TIME_CAPTURE stores the timebase. -/
def execTimeCapture (s : State) : Out :=
  .next (if barOpen s then { s with glb := { s.glb with captured := BitVec.ofNat 64 s.us } } else s)

/-! ### The keep mirror's queue (18 R730, R731) -/

/-- Queue a register write, or discard it and set DROPPED. -/
def queueKeep (w : KeepWrite) (s : State) : State :=
  if s.keep.queue.length < 16 then { s with keep := { s.keep with queue := s.keep.queue ++ [w] } }
  else { s with keep := { s.keep with dropped := true } }

/-- A write of KEEPW_USERk. -/
def execKeepwUserWrite (word : Nat) (value : U32) (s : State) : Out :=
  .next (
    if !barOpen s then s
    else if s.glb.boot != .running then strayWrite s
    else queueKeep { settings := false, word := word, value := value } s)

/-- A write of KEEPW_SETk: one that 16 R632 refuses sets REJECTED. -/
def execKeepwSetWrite (word : Nat) (value : U32) (s : State) : Out :=
  .next (
    if !barOpen s then s
    else if s.glb.boot != .running then strayWrite s
    else if settingOk s word value.toNat then queueKeep { settings := true, word := word, value := value } s
    else { s with keep := { s.keep with rejected := true } })

/-- Shepherd executes the oldest queued write (18 R730). -/
def execKeepwQueueEntry (s : State) : Out :=
  .next (
    if !s.running then s
    else
      match s.keep.queue with
      | [] => s
      | w :: rest =>
        let s := { s with keep := { s.keep with queue := rest } }
        if w.settings then writeSettings [(w.word, w.value)] s else writeUser w.word w.value s)

/-! ### The counter latch (18 R733, 15 R621) -/

/-- A write of PERF_LATCH: both sets are latched at this instant. -/
def execPerfLatch (value : U32) (s : State) : Out :=
  .next (
    if !barOpen s then s
    else if s.glb.boot != .running then strayWrite s
    else if s.perf.busy || value.toNat % 4 = 0 then s
    else
      let s := foldBytes s
      { s with perf := { s.perf with busy := true, sel := BitVec.ofNat 2 value.toNat, latchAt := s.us, latchPerf := s.cnt.perf
                                     latchErrors := Tab.put s.cnt.errors 0x20C s.evq.lostTotal } })

/-- The latch completes: the copies selected and the time are replaced together. -/
def execPerfLatchDone (s : State) : Out :=
  .next (
    if s.perf.busy then
      let q := s.perf
      let p := q.sel.getLsbD 0
      let e := q.sel.getLsbD 1
      { s with perf := { q with busy := false, time := BitVec.ofNat 64 q.latchAt, perfValid := q.perfValid || p, errorsValid := q.errorsValid || e
                                perfSet := if p then q.latchPerf else q.perfSet, errorSet := if e then q.latchErrors else q.errorSet } }
    else s)

end Sys2Proof.Machine
end

