-- ==== Sys2Proof/Machine/Scu.lean ====
section
/-! DEFINITION. The stream control unit of a core (08 R331 to R341, R350 to R357; 10 R400 to R406, R434 to R439; 14 R584 to R586): its
instructions, its narrow accesses, the end of a run and the watchdog. -/
namespace Sys2Proof.Machine

/-! ### Registers and the flow of instructions (08 R331, R332) -/

/-- A register: s0 reads 0 (08 R331). -/
def Core.reg (k : Core) (r : Nat) : U32 := if r % 32 = 0 then 0 else Tab.get 0 k.regs (r % 32)

/-- Write a register: s0 ignores it (08 R331). -/
def Core.setReg (k : Core) (r : Nat) (v : U32) : Core := if r % 32 = 0 then k else { k with regs := Tab.put k.regs (r % 32) v }

/-- A register holds a value that follows from held data (07 R293). -/
def Core.regHeld (k : Core) (r : Nat) : Bool := k.heldRegs.contains (r % 32)

/-- Note whether the value written into a register follows from held data: any result computed from held data is itself held (07 R293). -/
def Core.setHeld (k : Core) (r : Nat) (h : Bool) : Core :=
  { k with heldRegs := k.heldRegs.filter (· != r % 32) ++ (if h && r % 32 ≠ 0 then [r % 32] else []) }

/-- The SCU can retire an instruction that uses some registers: it runs, waits for nothing but w, and none of the registers waits for a
load (08 R331). -/
def scuGo (s : State) (c : Nat) (w : ScuWait) (rs : List Nat) : Bool :=
  let k := s.core c
  coreBusy s c && !k.stopped && (k.wait == .none || k.wait == w) && rs.all (fun r => !k.busyRegs.contains (r % 32))

/-- The SCU retires an instruction and goes to an address of microprogram memory. -/
def Core.goTo (k : Core) (pc now : Nat) : Core := { k with pc := pc % 4096, scuAt := now, wait := .none }

/-- The SCU retires an instruction. -/
def Core.next (k : Core) (now : Nat) : Core := k.goTo (k.pc + 1) now

/-! ### Arithmetic and control (08 R332) -/

/-- The second operand. -/
def argValue (k : Core) (a : ScuArg) : U32 := match a with | .reg r => k.reg r | .imm v => v | .upper v => v

/-- The register the second operand uses. -/
def argRegs (a : ScuArg) : List Nat := match a with | .reg r => [r] | _ => []

/-- The result of an arithmetic operation, free for a shift by 32 or more (08 R332). -/
def scuResult (op : ScuOp) (a b : U32) (s : State) : U32 × State :=
  let shift (v : U32) : U32 × State :=
    if b.toNat < 32 then (v, s) else (BitVec.ofNat 32 (Config.freeValue s.drawn), { s with drawn := s.drawn + 1 })
  match op with
  | .add => (a + b, s)
  | .sub => (a - b, s)
  | .mul => (a * b, s)
  | .mulh => (BitVec.ofInt 32 (a.toInt * b.toInt / 2 ^ 32), s)
  | .mulhu => (BitVec.ofNat 32 (a.toNat * b.toNat / 2 ^ 32), s)
  | .and => (a &&& b, s)
  | .or => (a ||| b, s)
  | .xor => (a ^^^ b, s)
  | .shl => shift (a <<< b.toNat)
  | .shr => shift (a >>> b.toNat)
  | .sra => shift (a.sshiftRight b.toNat)
  | .slt => (if a.slt b then 1 else 0, s)
  | .sltu => (if a.ult b then 1 else 0, s)

/-- An operand of an arithmetic instruction follows from held data. -/
def argHeld (k : Core) (rs : Nat) (a : ScuArg) : Bool :=
  match a with | .reg r => k.regHeld rs || k.regHeld r | .imm _ => k.regHeld rs | .upper _ => false

/-- SCU_ARITHMETIC (08 R332; 07 R293). -/
def execScuArithmetic (core : Nat) (op : ScuOp) (rd rs : Nat) (arg : ScuArg) (s : State) : Out :=
  .next (
    if !scuGo s core .none ([rd, rs] ++ argRegs arg) then s
    else
      let k := s.core core
      let (v, s) := scuResult op (match arg with | .upper _ => 0 | _ => k.reg rs) (argValue k arg) s
      s.setCore core (((k.setReg rd v).setHeld rd (argHeld k rs arg)).next s.now))

/-- The condition of a branch. -/
def condHolds (cond : ScuCond) (a b : U32) : Bool :=
  match cond with
  | .eq => a == b | .ne => a != b | .lt => a.slt b | .ge => !(a.slt b) | .ltu => a.ult b | .geu => !(a.ult b) | .jal => true | .jalr => true

/-- SCU_BRANCH: a branch compares a and b and goes to pc + offset; JAL and JALR write the next address into a, and JALR goes to
b + offset (08 R332; the jump forms: assumption 26). -/
def execScuBranch (core : Nat) (cond : ScuCond) (a b : Nat) (offset : Int) (s : State) : Out :=
  .next (
    if !scuGo s core .none [a, b] then s
    else
      let k := s.core core
      let rel (p : Nat) : Nat := (((p : Int) + offset) % 4096).toNat
      let link := (k.setReg a (BitVec.ofNat 32 ((k.pc + 1) % 4096))).setHeld a false
      s.setCore core (match cond with
        | .jal => link.goTo (rel k.pc) s.now
        | .jalr => link.goTo (rel (k.reg b).toNat) s.now
        | _ => if condHolds cond (k.reg a) (k.reg b) then k.goTo (rel k.pc) s.now else k.next s.now))

/-! ### Narrow accesses (08 R331; 10 R400 to R406, R434) -/

/-- Bytes of a width, and whether a load extends the sign. -/
def widthBytes (v : Width) : Nat := match v with | .w => 4 | .h => 2 | .hu => 2 | .b => 1 | .bu => 1
def widthSigned (v : Width) : Bool := match v with | .h => true | .b => true | _ => false

/-- The plan of a core's task. -/
def taskPlan (s : State) (c : Nat) : Option Plan :=
  match (s.core c).task with
  | some (0, sc) => planOf s (s.stream sc).cfg
  | some (_, j) => (((s.model (s.job j).handle).package).bind (fun k => k.plans[(s.job j).plan]?))
  | none => none

/-- Bank group of a narrow address: 0 the core's CM, 1 + g Kennel group g (10 R403). -/
def bankGroup (s : State) (c a : Nat) : Nat :=
  match coreAt s c .scu a 1 with
  | .ok ((.mem .kennel x, _) :: _) => 1 + (bankRow 1 x).1 / 4
  | _ => 0

/-- A group is in gap-fill: every task that uses it was certified so (10 R406). A CM group serves one task; the Kennel's groups serve every
task. -/
def gapFill (s : State) (c g : Nat) : Bool :=
  let one (c : Nat) : Bool := ((taskPlan s c).map (·.gapFill)).getD true
  if g = 0 then one c else (List.range 16).all one

/-- Narrow requests of a task to a group in this window: its own core's for CM, all its cores' for the Kennel (10 R406). -/
def narrowUsed (s : State) (c g : Nat) : Nat :=
  if g = 0 then Tab.get 0 (s.core c).narrow 0
  else (((List.range 16).filter (fun i => (s.core i).task == (s.core c).task)).map (fun i => Tab.get 0 (s.core i).narrow g)).sum

/-- A request goes over the task's declared count and waits for the next window (10 R406). -/
def mustDefer (s : State) (c g : Nat) : Bool := gapFill s c g && ((taskPlan s c).map (·.narrow)).getD 0 ≤ narrowUsed s c g

/-- Count a narrow request, or its deferral. -/
def countNarrow (c g : Nat) (deferred : Bool) (s : State) : State :=
  if deferred then errAdd (0x80 + 4 * c) 1 s
  else let k := s.core c; s.setCore c { k with narrow := Tab.put k.narrow g (Tab.get 0 k.narrow g + 1) }

/-- The Kennel offset of a narrow address that lies in a remote window of the core's stream (14 R584). -/
def remoteAt (s : State) (c a : Nat) : Option Nat := (kennelOff_ a).bind (windowAt s c 0)

/-- Why a narrow access faults (10 R400; 14 R585), if it does. -/
def narrowFault (s : State) (c a n : Nat) (isWrite : Bool) : Option Nat :=
  if a % n ≠ 0 then some 0x15
  else match remoteAt s c a with
  | some w => if (if isWrite then (s.window w).write else (s.window w).read) then none else some 0x11
  | none => match coreAt s c .scu a n with | .ok _ => none | .error e => some e

/-- SCU_LOAD: checked, then issued to its bank, or over FyxLink for a remote window (08 R331; 10 R400 to R406; 14 R584). -/
def execScuLoad (core rd rs : Nat) (offset : Int) (width : Width) (errors : List ReadError) (s : State) : Out :=
  .next (
    if !scuGo s core .none [rd, rs] then s
    else
      let k := s.core core
      let addr : U32 := k.reg rs + BitVec.ofInt 32 offset
      let n := widthBytes width
      match narrowFault s core addr.toNat n false with
      | some e => raiseTrap core e s
      | none =>
        let s := foundErrors none errors s
        let e : NarrowLoad := { reg := rd % 32, addr := addr, size := n, signed := widthSigned width, issuedAt := s.now, seq := (s.core core).accesses,
                                tag := none, deferred := false, data := none, held := k.regHeld rs }
        let (e, s) : NarrowLoad × State := match remoteAt s core addr.toNat with
          | some w =>
            let (t, s) := sendTagged (s.window w).peer 0x41 w (BitVec.ofNat 32 (addr.toNat % 2 ^ 28 - (s.window w).offset)) (le 4 n) s
            ({ e with tag := some t }, s)
          | none =>
            let g := bankGroup s core addr.toNat
            let d := mustDefer s core g
            ({ e with deferred := d }, countNarrow core g d s)
        let k := s.core core
        s.setCore core { k.next s.now with
          loads := k.loads ++ [e], accesses := k.accesses + 1
          busyRegs := if rd % 32 = 0 then k.busyRegs else (rd % 32) :: k.busyRegs.filter (· != rd % 32) })

/-- Put the bytes of an older store over those of a load where they overlap (10 R434). -/
def overlay (a : Nat) (b : Bytes) (st : NarrowStore) : Bytes :=
  b.zipIdx.map (fun e => let x := a + e.2
    if st.addr.toNat ≤ x && x < st.addr.toNat + st.data.length then nth 0 st.data (x - st.addr.toNat) else e.1)

/-- Two byte ranges share a byte. -/
def overlaps (a n b m : Nat) : Bool := a < b + m && b < a + n

/-- The bank serves a load: memory, under the older stores of the same SCU (10 R434). -/
def serveLoad (c : Nat) (l : NarrowLoad) (s : State) : State :=
  match coreAt s c .scu l.addr.toNat l.size with
  | .error _ => s
  | .ok ps =>
    let (b, s) := readPlaces c ps s
    let k := s.core c
    let older := k.stores.filter (fun st => st.seq < l.seq)
    let v := older.foldl (overlay l.addr.toNat) b
    let h := l.held || placesHeld s ps || older.any (fun st => st.held && overlaps l.addr.toNat l.size st.addr.toNat st.data.length)
    s.setCore c { k with loads := k.loads.map (fun x => if x = l then { x with data := some v, held := h } else x) }

/-- A fence ends when every earlier load has returned and every earlier store is complete; FENCE.REMOTE also when every remote write is
acknowledged (10 R436, R437). -/
def settleFence (c : Nat) (s : State) : State :=
  let k := s.core c
  let ended : Bool := match k.wait with
    | .fence => k.stores.isEmpty && k.loads.isEmpty
    | .fenceRemote _ => k.stores.isEmpty && k.loads.isEmpty && k.remote.isEmpty
    | _ => false
  if ended then s.setCore c { k with wait := .none, scuAt := s.now } else s

/-- The value a load writes into its register. -/
def loadValue (l : NarrowLoad) (b : Bytes) : U32 :=
  if l.signed then BitVec.ofInt 32 (signed (8 * l.size) (leVal b)) else BitVec.ofNat 32 (leVal b)

/-- SCU_LOAD_RETURN: the oldest load of a register returns, and instructions that use it may go on (08 R331; 10 R402). -/
def execScuLoadReturn (core rd : Nat) (s : State) : Out :=
  .next (
    match (s.core core).loads.find? (fun l => l.reg == rd % 32 && !l.deferred && (l.tag.isNone || l.data.isSome)) with
    | none => s
    | some l =>
      let s := if l.data.isSome then s else serveLoad core l s
      let k := s.core core
      match k.loads.find? (fun x => x.seq == l.seq) with
      | none => s
      | some x =>
        let rest := k.loads.filter (fun y => y.seq != x.seq)
        let k := (k.setReg x.reg (loadValue x (x.data.getD []))).setHeld x.reg x.held
        settleFence core (s.setCore core { k with
          loads := rest, busyRegs := if rest.any (fun y => y.reg == x.reg) then k.busyRegs else k.busyRegs.filter (· != x.reg) }))

/-- SCU_STORE: checked, then into the write buffer (08 R331; 10 R400, R434). -/
def execScuStore (core rs rb : Nat) (offset : Int) (width : Width) (s : State) : Out :=
  .next (
    if !scuGo s core .none [rs, rb] then s
    else
      let k := s.core core
      let addr : U32 := k.reg rb + BitVec.ofInt 32 offset
      let n := widthBytes width
      match narrowFault s core addr.toNat n true with
      | some e => raiseTrap core e s
      | none =>
        let w := remoteAt s core addr.toNat
        let g := bankGroup s core addr.toNat
        let d := w.isNone && mustDefer s core g
        let s := if w.isSome then s else countNarrow core g d s
        let k := s.core core
        s.setCore core { k.next s.now with
          stores := k.stores ++ [{ addr := addr, data := le n (k.reg rs).toNat, seq := k.accesses, window := w, deferred := d, held := k.regHeld rs }], accesses := k.accesses + 1 })

/-- A store becomes visible, or is accepted by FyxLink, after the older loads of its own addresses are served (10 R434, R436; 14 R586). What
follows from held data makes its line held (07 R293, 10 R431), and never crosses FyxLink: zeros go in its place (10 R433; DESIGN CHOICE,
assumption 96). -/
def completeStore (c : Nat) (st : NarrowStore) (s : State) : State :=
  let older := (s.core c).loads.filter (fun l => l.seq < st.seq && l.data.isNone && l.tag.isNone && overlaps l.addr.toNat l.size st.addr.toNat st.data.length)
  let s := older.foldl (fun s l => serveLoad c l s) s
  let k := s.core c
  let s := s.setCore c { k with stores := k.stores.filter (fun x => x.seq != st.seq) }
  match st.window with
  | some w =>
    let x := s.window w
    if x.isOpen && x.kind != 0 then
      let b := if st.held then List.replicate st.data.length 0 else st.data
      let (t, s) := sendTagged x.peer 0x40 w (BitVec.ofNat 32 (st.addr.toNat % 2 ^ 28 - x.offset)) b (if st.held then errAdd 0x148 1 s else s)
      let k := s.core c
      s.setCore c { k with remote := k.remote ++ [(t, w)] }
    else match coreAt s c .scu st.addr.toNat st.data.length with
      | .ok l => writePlaces c l st.data st.held s
      | .error _ => s
  | none => match coreAt s c .scu st.addr.toNat st.data.length with
    | .ok l => writePlaces c l st.data st.held s
    | .error _ => s

/-- SCU_STORE_COMPLETE: a store leaves the write buffer and the crossing; stores to different addresses do so in any order, those to the
same address in program order (10 R434 to R436). -/
def execScuStoreComplete (core index : Nat) (s : State) : Out :=
  .next (
    match (s.core core).stores[index]? with
    | none => s
    | some st =>
      if st.deferred || (s.core core).stores.any (fun x => x.seq < st.seq && overlaps x.addr.toNat x.data.length st.addr.toNat st.data.length) then s
      else settleFence core (completeStore core st s))

/-- NARROW_WAIT_TIMEOUT: a load that has waited 64 cycles of its bank's island in a gap-fill bank is served (10 R404). -/
def execNarrowWaitTimeout (core reg : Nat) (s : State) : Out :=
  .next (
    match (s.core core).loads.find? (fun l => l.reg == reg % 32 && !l.deferred && l.tag.isNone && l.data.isNone) with
    | none => s
    | some l =>
      let g := bankGroup s core l.addr.toNat
      if gapFill s core g && l.issuedAt + 64000 / (if g = 0 then (s.core core).clock else 1200) ≤ s.now then serveLoad core l s else s)

/-- The deferred requests of a core to a group go on, up to the declared count; what is left waits once more (10 R406). -/
def releaseNarrow (c g : Nat) (s : State) : State :=
  let k := s.core c
  let mine := (k.loads.filter (fun l => l.deferred && bankGroup s c l.addr.toNat == g)).map (·.seq)
    ++ (k.stores.filter (fun x => x.deferred && bankGroup s c x.addr.toNat == g)).map (·.seq)
  (mine.mergeSort (· ≤ ·)).foldl (fun s q =>
    if mustDefer s c g then errAdd (0x80 + 4 * c) 1 s
    else
      let s := countNarrow c g false s
      let k := s.core c
      s.setCore c { k with loads := k.loads.map (fun l => if l.seq = q then { l with deferred := false } else l)
                           stores := k.stores.map (fun x => if x.seq = q then { x with deferred := false } else x) }) s

/-- NARROW_WINDOW_ROLLOVER: a new window of 1,024 cycles of a group: group 0 a core's CM, 1 + g a group of the Kennel (10 R406). -/
def execNarrowWindowRollover (core group : Nat) (s : State) : Out :=
  .next (
    let cs := if group = 0 then [core] else List.range 16
    let s := cs.foldl (fun s c => let k := s.core c; s.setCore c { k with narrow := Tab.del k.narrow group }) s
    cs.foldl (fun s c => releaseNarrow c group s) s)

/-! ### Queues (08 R332, R333, R340, R341; 10 R439) -/

/-- The SCU's earlier stores to this device become visible to the Fetcher and the Executor (08 R341). -/
def flushStores (c : Nat) (s : State) : State := ((s.core c).stores.filter (fun x => x.window.isNone)).foldl (fun s st => completeStore c st s) s

/-- The 64 bytes at the CM offset in a register, or the cause of the fault. -/
def queueEntry (c rs : Nat) (s : State) : Except Nat (Bytes × State) :=
  let a := ((s.core c).reg rs).toNat
  match cmAt s c a 64 with
  | .error e => .error e
  | .ok l => .ok (readPlaces c l s)

/-- FQ: push the fetch descriptor at a CM offset; while the queue is full the SCU waits (08 R332, R340, R341, R356; 11 R448). -/
def execFq (core rs : Nat) (s : State) : Out :=
  .next (
    if !scuGo s core .fetchQueue [rs] then s
    else if 32 ≤ (s.core core).fetchQueue.length then s.setCore core { s.core core with wait := .fetchQueue }
    else
      let s := flushStores core s
      match queueEntry core rs s with
      | .error e => raiseTrap core e s
      | .ok (b, s) =>
        if !descriptorOk b then raiseTrap core 0x19 s
        else
          let k := s.core core
          settleFence core (s.setCore core { k.next s.now with fetchQueue := k.fetchQueue ++ [{ id := k.nextDesc, bytes := b }], nextDesc := k.nextDesc + 1 }))

/-- XQ: push the chained command at a CM offset into the queue it names; an illegal one traps BAD_CHAIN (08 R332, R333, R340, R341). -/
def execXq (core rs : Nat) (s : State) : Out :=
  .next (
    let k := s.core core
    let waits (q : Nat) : Bool := scuGo s core (.chainQueue q) [rs]
    if !(waits 0 || waits 1) then s
    else
      let s := flushStores core s
      match queueEntry core rs s with
      | .error e => raiseTrap core e s
      | .ok (b, t) =>
        let q := cQueue b
        if !chainLegal b then raiseTrap core (Config.badChain % 256) t
        else if k.wait != .none && k.wait != .chainQueue q then s
        else if 8 ≤ (if q = 0 then (t.core core).queue0 else (t.core core).queue1).length then t.setCore core { t.core core with wait := .chainQueue q }
        else
          let before := t.core core
          let k := before.next t.now
          notePresent core before (t.setCore core (if q = 0 then { k with queue0 := k.queue0 ++ [{ bytes := b }] } else { k with queue1 := k.queue1 ++ [{ bytes := b }] })))

/-- TWAIT: wait until the tile whose number a register holds has completed in a queue (08 R332; 10 R439). -/
def execTwait (core queue rs : Nat) (s : State) : Out :=
  .next (
    if !scuGo s core .none [rs] then s
    else
      let k := s.core core
      let n : U16 := (k.reg rs).setWidth 16
      let t := k.next s.now
      s.setCore core (if tileDone k queue n then t else { t with wait := .tile queue n }))

/-- QSTAT: the free entries of the queues (08 R332). -/
def execQstat (core rd : Nat) (s : State) : Out :=
  .next (
    if !scuGo s core .none [rd] then s
    else
      let k := s.core core
      let v := (32 - k.fetchQueue.length) + 256 * (8 - k.queue0.length) + 65536 * (8 - k.queue1.length)
      s.setCore core (((k.setReg rd (BitVec.ofNat 32 v)).setHeld rd false).next s.now))

/-! ### Ordering (10 R436, R437) -/

/-- FENCE.FULL. -/
def execFenceFull (core : Nat) (s : State) : Out :=
  .next (
    if !scuGo s core .none [] then s
    else settleFence core (s.setCore core { (s.core core).next s.now with wait := .fence }))

/-- FENCE.REMOTE. -/
def execFenceRemote (core : Nat) (s : State) : Out :=
  .next (
    if !scuGo s core .none [] then s
    else settleFence core (s.setCore core { (s.core core).next s.now with wait := .fenceRemote s.now }))

/-! ### System instructions (08 R332) -/

/-- A core register (08 R332). -/
def coreRegValue (s : State) (c : Nat) (r : CoreReg) : Nat :=
  let k := s.core c
  match r with
  | .coreId => c
  | .cycleLo => bits k.cycle.toNat 0 32
  | .cycleHi => bits k.cycle.toNat 32 32
  | .timeLo => bits s.us 0 32
  | .timeHi => bits s.us 32 32
  | .frame => k.frame.toNat
  | .paramBase => k.paramBase.toNat
  | .tilesDone0 => k.tilesDone0.toNat
  | .tilesDone1 => k.tilesDone1.toNat
  | .satFlags => k.satFlags.toNat
  | .trapCause => k.trapCause

/-- CSRR. -/
def execCsrr (core rd : Nat) (r : CoreReg) (s : State) : Out :=
  .next (
    if !scuGo s core .none [rd] then s
    else s.setCore core ((((s.core core).setReg rd (BitVec.ofNat 32 (coreRegValue s core r))).setHeld rd false).next s.now))

/-- CSRW: SAT_FLAGS clears the bits written 1; the other core registers are read only. -/
def execCsrw (core rs : Nat) (r : CoreReg) (s : State) : Out :=
  .next (
    if !scuGo s core .none [rs] then s
    else
      let k := s.core core
      let k := if r = .satFlags then { k with satFlags := k.satFlags &&& ~~~((k.reg rs).setWidth 4) } else k
      s.setCore core (k.next s.now))

/-- EVT: Shepherd acts on the code as the plan declares: nothing, or a fault of the stream (08 R332). -/
def execEvt (core code : Nat) (s : State) : Out :=
  .next (
    if !scuGo s core .none [] then s
    else
      let t := s.setCore core ((s.core core).next s.now)
      if ((taskPlan s core).map (fun p => p.evts.contains (code, 1))).getD false then coreFault core 4 0 t else t)

/-- TRAP: the SCU stops with a cause (08 R332, R356). -/
def execTrap (core code : Nat) (s : State) : Out :=
  .next (if !scuGo s core .none [] then s else raiseTrap core code s)

/-! ### The end of a run (08 R353; 05 R214; 13 R530, R531; 09 R372; 14 R596) -/

/-- DONE on a core of a stream: its first pass, if not over before, is over too. -/
def streamRunDone (sc c : Nat) (s : State) : State :=
  let f := (s.core c).frame
  let x := s.stream sc
  let mark (e : FrameIn) : FrameIn := if e.frame = f then { e with coresDone := e.coresDone.filter (· != c) ++ [c] } else e
  notePass c (s.setStream sc { x with frames := x.frames.map mark })

/-- DONE on a core of a job: the next micro-batch starts once every core has ended this one; after the last the job ends (09 R372; 04
R152). -/
def jobRunDone (j c : Nat) (s : State) : State :=
  let x := s.job j
  let cores := maskBits x.coreMask 16
  let x : Job := { x with coresDone := x.coresDone.filter (· != c) ++ [c] }
  if cores.all (fun i => x.coresDone.contains i) then
    let x : Job := { x with batches := x.batches + 1, coresDone := [], timedOut := [] }
    let s := s.setJob j x
    if nth 0 x.shape 0 ≤ x.batches then endJob false x.status j s
    else cores.foldl (fun s i => startCore j (s.core i).paramBase.toNat i s) s
  else s.setJob j x

/-- Everything the run pushed has completed (08 R353). -/
def runDrained (k : Core) : Bool :=
  k.fetchQueue.isEmpty && k.fetching.isEmpty && k.queue0.isEmpty && k.queue1.isEmpty && k.running.isNone && k.stores.isEmpty

/-- DONE: the run ends once the last tile of both queues and its stores have completed (08 R353). -/
def execDone (core : Nat) (s : State) : Out :=
  .next (
    if !scuGo s core .none [] || !runDrained (s.core core) then s
    else
      let s := s.setCore core { (s.core core).next s.now with stopped := true, state := .idle }
      match (s.core core).task with
      | some (0, sc) => streamRunDone sc core s
      | some (_, j) => jobRunDone j core s
      | none => s)

/-! ### The watchdog (08 R357; 05 R186) -/

/-- CORE_WATCHDOG: the Executor with operands present, or the SCU while it waits for nothing, has made no progress for 4 ms: the core is
stalled (08 R357). -/
def execCoreWatchdog (core : Nat) (executor : Bool) (s : State) : Out :=
  .next (
    let k := s.core core
    let stuck : Bool :=
      if executor then (k.running.isSome || headPresent k 0 || headPresent k 1) && k.tileAt + 4000000 ≤ s.now
      else !k.stopped && k.wait == .none && !rowWaiting s core && k.scuAt + 4000000 ≤ s.now
    if !coreBusy s core || !stuck then s
    else coreFault core 2 0 (errAdd (0x100 + 4 * core) 1 (s.setCore core { k with state := .stalled, stopped := true })))

end Sys2Proof.Machine
end

