-- ==== Sys2Proof/Machine/Windows.lean ====
section
/-! DEFINITION. Memory as the host reaches it: BAR2 windows (18 R713, R715, R736, R737) and DEBUG_READ (04 R167). -/
namespace Sys2Proof.Machine

/-! ### BAR2 (18 R713, R715, R736, R737) -/

/-- The host window over aperture bytes [o, o + n) that grants a read or a write (18 R713, R715). -/
def bar2Window (s : State) (o n : Nat) (write : Bool) : Option Window :=
  ((List.range 64).map s.window).find? (fun w =>
    w.isOpen && w.kind == 0 && w.bar2 ≤ o && o + n ≤ w.bar2 + w.length && (if write then w.write else w.read))

/-- The memory and address of aperture byte o under its window (18 R713). -/
def bar2At (s : State) (w : Window) (o : Nat) : Option (Mem × Nat) :=
  (ownerRegion s w.ownerKind w.owner w.memory).map (fun r => (r.mem, r.base + w.offset + (o - w.bar2)))

/-- A stray TLP: a read completes with zeros, a write is discarded, and it is counted (18 R715). -/
def bar2Stray (isRead : Bool) (n : Nat) (s : State) : State :=
  let s := { s with glb := { s.glb with bar2Stray := satAdd s.glb.bar2Stray 1 } }
  if isRead then s.send (.reply (List.replicate n 0) false) else s

/-- BAR2_READ (18 R736): the owner's bytes; uncorrectable words as zeros with the EP bit; held lines as zeros. -/
def execBar2Read (offset len : Nat) (errors : List ReadError) (s : State) : Out :=
  .next (
    if !barOpen s then s
    else match (bar2Window s offset len false).bind (fun w => bar2At s w offset) with
    | none => bar2Stray true len s
    | some (m, a) =>
      let s := foundErrors none errors s
      let (b, s) := outsideRead m a len s
      s.send (.reply b ((List.range len).any (fun k => deadByte s m (a + k) && !s.mem.held.contains ((memKey m).1, (memKey m).2, (a + k) / 128)))))

/-- Bytes that do not come from a task's engines reach a memory: on DRAM the IAC's copies are invalidated (12 R504). -/
def putOutside (m : Mem) (a : Nat) (b : Bytes) (s : State) : State :=
  match m with
  | .dram => if channelDown s a then s else putDram a b s
  | _ => putData m a b false s

/-- BAR2_WRITE (18 R713, R737). -/
def execBar2Write (offset : Nat) (data : Bytes) (s : State) : Out :=
  .next (
    let s := received data.length s
    if !barOpen s then s
    else match (bar2Window s offset data.length true).bind (fun w => bar2At s w offset) with
    | none => bar2Stray false data.length s
    | some (m, a) => putOutside m a data s)

/-- BAR2_STRAY_ACCESS (18 R715). -/
def execBar2StrayAccess (isRead : Bool) (len : Nat) (s : State) : Out := .next (if barOpen s then bar2Stray isRead len s else s)

/-! ### DEBUG_READ (04 R167) -/

/-- The regions that a DEBUG_READ names, in order: an orphan's, a live stream's, a live job's. -/
def debugRegions (s : State) (kind id : Nat) : Option (List Region) :=
  if kind = 0 then (s.mem.orphans.find? (fun o => o.id.toNat == id)).map (·.regions)
  else if kind = 1 then (if id < 32 && admitted s id then some (s.stream id).regions else none)
  else if id < 16 && (s.job id).active then some (s.job id).regions else none

/-- The words from region-relative byte o on, one address per 8 bytes; a task's Kennel slices in flat mode follow one another in the order of
its cores (assumption 29). -/
def regionWords : List Region → Nat → Nat → List (Mem × Nat)
  | [], _, _ => []
  | r :: l, o, n =>
    if n = 0 then []
    else if r.len ≤ o then regionWords l (o - r.len) n
    else
      let k := min n ((r.len - o) / 8)
      (List.range k).map (fun i => (r.mem, r.base + o + 8 * i)) ++ regionWords l 0 (n - k)

/-- What a DEBUG_READ's parameters ask of this device: its status and the bytes read; the checks in the order in which 04 R167 lists them, a
held byte of the range first. -/
def debugBytes (p : Bytes) (errors : List ReadError) (s : State) : Status × Bytes × State :=
  let n := fld p 12 4
  match debugRegions s (fld p 0 1) (fld p 4 4) with
  | none => (.notFound, [], s)
  | some l =>
    let l := l.filter (fun r => if fld p 1 1 = 0 then r.mem == .cm (bits (fld p 2 1) 0 4) else r.mem == .kennel)
    let ws := regionWords l (fld p 8 4) (n / 8)
    if ws.any (fun e => anyHeld s e.1 e.2 8) then (.held, [], s)
    else if ws.length < n / 8 then (.badField, [], s)
    else
      let s := foundErrors (some 4) errors s
      let good := ws.takeWhile (fun e => !poisoned s e.1 e.2)
      (if good.length = ws.length then .ok else .eccUncorrectable, good.flatMap (fun e => readMem s e.1 e.2 8), s)

/-- DEBUG_READ's answer to the host (04 R167). -/
def debugDone (h : Hdr) (dest : Nat) (st : Status) (b : Bytes) (s : State) : State :=
  let s := if b.isEmpty then s else deliverData h dest b s
  complete h 0x0801 st (if st = .eccUncorrectable then le 4 b.length else []) s

/-- POS names this device, or a member of its pack. -/
def debugPos (s : State) (pos : Nat) : Bool :=
  pos == s.glb.packPos.toNat || ((s.pack.state == .formed || s.pack.state == .degraded) && (peers s).contains pos)

/-- DEBUG_READ (04 R167). A read of another member goes there as DBG_READ (14 R561). -/
def execDebugRead (h : Hdr) (p : Bytes) (errors : List ReadError) (s : State) : Out :=
  let n := fld p 12 4
  let dest := fld p 16 8
  let pos := bits (fld p 3 1) 0 3
  command 0x0801 h p [] [(resOk p ([0xFF, 0xFF, 0x0F, 0x07] ++ full 20), .reservedNonzero),
      (fld p 0 1 ≤ 2 && fld p 1 1 ≤ 1 && fld p 8 4 % 8 == 0 && 8 ≤ n && n ≤ 4096 && n % 8 == 0 && destOk h dest && debugPos s pos, .badField)] []
    (fun s =>
      if pos = s.glb.packPos.toNat then
        let (st, b, s) := debugBytes p errors s
        debugDone h dest st b s
      else
        let (t, s) := sendTagged pos 0x48 0 0 p s
        markStarted h { s with pack := { s.pack with reads := s.pack.reads ++ [{ tag := t, cmd := h, dest := dest, len := n, data := [] }] } }) s

end Sys2Proof.Machine
end

