-- ==== Sys2Proof/Machine/Boot.lean ====
section
/-! DEFINITION. Power, resets, boot and the keep domain's own events (15 R627, R628; 16 R631, R637 to R648, R651; 17 R663 to R693;
18 R703; 19 R751, R761, R773). -/
namespace Sys2Proof.Machine

/-- 17 R673: the rails rise with PORST_N low; VDD_IO18 takes the keep domain over (19 R751) and AVS_VID drives code 10. -/
def execPowerOn (s : State) : Out :=
  .next (
    if s.pwr.rails then s
    else
      let s := s.send (.pin .avsVid 0 10)
      { s with pwr := { s.pwr with rails := true, porst := true, avs := 10 }, keep := { s.keep with supply := .io18 }
               glb := { s.glb with resetCause := 0 } })

/-- 17 R677: power is lost in any order; all but OTP, the flash and the keep domain on VBAT is gone. -/
def execPowerLoss (s : State) : Out :=
  .next (
    if s.pwr.rails then
      let s := coldReset 0 s
      { s with pwr := { s.pwr with rails := false }, keep := { s.keep with supply := .vbat } }
    else s)

/-- 17 R674: PORST_N falls with the rails up for a time in microseconds. Below 1 us it is ignored; from 10 us it is a reset of
kind 1; between them the spec forbids it. -/
def execPorstNAssert (lowUs : Nat) (s : State) : Out :=
  if !s.pwr.rails || s.pwr.porst || lowUs < 1 then .next s
  else if lowUs < 10 then .fault .porstPulseUndefined
  else .next (coldReset 1 s)

/-- 17 R675: PORST_N rises. -/
def execPorstNRise (b : BootPins) (s : State) : Out :=
  .next (if s.pwr.rails && s.pwr.porst then bootFromPins b s else s)

/-- 17 R675 step 7, 16 R639: Shepherd starts once an image has been verified. -/
def execShepherdStart (s : State) : Out := .next (if s.glb.boot == .starting then shepherdStart s else s)

/-- 15 R628: the hardware's entry, then the restart. -/
def restart (cause kind : Nat) (s : State) : State := warmReset kind (logNew 0x0905 0 0 (le 1 cause) s)

/-- The control cores run: Shepherd has started and no trip holds it. -/
def coresLive (s : State) : Bool := s.glb.boot == .running && !s.pwr.tripped

/-- 15 R627: no heartbeat of Shepherd's main loop for 50 ms. -/
def execShepherdWatchdog (s : State) : Out :=
  .next (if coresLive s && s.glb.beatAt + 50000000 ≤ s.now then restart 1 5 s else s)

/-- 15 R627: the outputs of the two control cores differ. -/
def execLockstepMismatch (s : State) : Out := .next (if coresLive s then restart 2 6 s else s)

/-- 16 R648: the anti-rollback counter follows the running image after 60 s. -/
def execRollbackProgram (s : State) : Out :=
  .next (
    if s.running && s.glb.startedAt + 60000000000 ≤ s.now && s.otp.rollback < s.glb.fwLevel then
      { s with otp := { s.otp with rollback := max s.otp.rollback (min 32 s.glb.fwLevel) } }
    else s)

/-- 18 R703: GLB_HEARTBEAT advances by one; it wraps. -/
def execHeartbeatTick (s : State) : Out :=
  .next (if s.running then { s with glb := { s.glb with heartbeat := s.glb.heartbeat + 1, beatAt := s.now } } else s)

/-- 16 R642: 32,768 cycles of XTAL32K have passed. -/
def execKeepSecondsTick (s : State) : Out :=
  .next (
    if s.keep.xtal && s.keep.supply != .lost && s.keep.seconds != 0xFFFFFFFF#32 then
      { s with keep := { s.keep with seconds := s.keep.seconds + 1, secondsAt := s.now } }
    else s)

/-- 19 R761: no oscillation for 2 ms: the internal oscillator clocks the keep logic and the counter stands. -/
def execXtal32kLoss (s : State) : Out := .next { s with keep := { s.keep with xtal := false } }

/-- 19 R761: the crystal oscillates again. -/
def execXtal32kRestored (s : State) : Out := .next { s with keep := { s.keep with xtal := true } }

/-- 19 R751: VDD_IO18 rises above 1.65 V or falls below 1.60 V. -/
def execKeepSupplySwitch (toIo : Bool) (s : State) : Out :=
  .next (
    if toIo then { s with keep := { s.keep with supply := .io18 } }
    else if s.keep.supply = .io18 && !s.pwr.rails then { s with keep := { s.keep with supply := .vbat } } else s)

/-- The keep domain as its own reset leaves it (16 R631): every area reads 0, the counter restarts and KEEP_LOST is set. The VBAT input
stage's own latch and the crystal are outside it. -/
def Keep.lost (k : Keep) : Keep := { supply := .lost, keepLost := true, inputReversed := k.inputReversed, xtal := k.xtal }

/-- 16 R631: no supply holds the keep domain. -/
def execKeepDomainReset (s : State) : Out := .next (if s.keep.supply = .io18 then s else { s with keep := s.keep.lost })

/-- 19 R773: VBAT below -0.5 V for 1 ms: the input stage latches the reversal; with VDD_IO18 off the keep domain resets (19 R775). -/
def execVbatReversalLatch (s : State) : Out :=
  .next (
    let s := if s.keep.supply = .io18 then s else { s with keep := s.keep.lost }
    { s with keep := { s.keep with inputReversed := true } })

/-- 16 R645: VBAT at least 1.7 V for 10 ms: it holds a domain that no supply held (16 R631), and the latch passes to the control block. -/
def execVbatValid (s : State) : Out :=
  .next (
    let s := if s.keep.supply = .lost then { s with keep := { s.keep with supply := .vbat } } else s
    if s.keep.inputReversed then { s with keep := { s.keep with vbatReversed := true, inputReversed := false } } else s)

/-- The host's GO (18 R734, 17 R692): checks, then the read of the image. -/
def execGlbBootGo (s : State) : Out :=
  .next (
    if s.glb.boot == .waitHost && !s.pwr.tripped then
      let len := s.glb.bootLen.toNat
      if !s.pcie.busMaster then settleAlert { s with glb := { s.glb with lastStatus := 0x0500 } }
      else if s.glb.bootAddr.toNat % 4096 != 0 || len % 4096 != 0 || len < 4096 || 8388608 < len then
        settleAlert { s with glb := { s.glb with lastStatus := 0x0400 } }
      else settleAlert (startRead .bootImage s.glb.bootAddr.toNat len { s with glb := { s.glb with boot := .hostLoading } })
    else s)

/-- 17 R692 steps 3 to 5: the image has been read, or its read has failed; it is verified under 16 R646. -/
def execHostDownloadDone (image : Option Bytes) (s : State) : Out :=
  .next (
    if s.glb.boot == .hostLoading then
      let s := { s with reads := s.reads.filter (fun r => match r.purpose with | .bootImage => false | _ => true) }
      let fail (st : Status) : State := { s with glb := { s.glb with boot := .waitHost, lastStatus := BitVec.ofNat 16 st.code } }
      settleAlert (match image with
        | none => fail .hostReadFailed
        | some b =>
          let b := pad s.glb.bootLen.toNat b
          match verifyImage s b s.glb.bootLen.toNat with
          | none => loadImage b 3 s
          | some st => fail st)
    else s)

/-- Boundary scan acts on the balls alone; before DEBUG_LOCK the debug port halts the control cores and reads and writes memories
(16 R651), held lines as zeros (10 R433). After DEBUG_LOCK everything else acts as BYPASS. -/
def execJtagAccess (j : Jtag) (s : State) : Out :=
  .next (
    let mem (memory core : Nat) : Mem := if memory = 0 then .cm core else if memory = 1 then .kennel else .dram
    match j with
    | .boundaryScan bits => s.send (.tdo bits)
    | .halt => if s.otp.debugLocked then s else { s with glb := { s.glb with jtagHalted := true } }
    | .resume => if s.otp.debugLocked then s else { s with glb := { s.glb with jtagHalted := false } }
    | .read memory core addr len =>
      if s.otp.debugLocked then s else let (b, s) := outsideRead (mem memory core) addr len s; s.send (.tdo b)
    | .write memory core addr data => if s.otp.debugLocked then s else putOutside (mem memory core) addr data s)

end Sys2Proof.Machine
end

