-- ==== Sys2Proof/Machine/CameraCmd.lean ====
section
/-! DEFINITION. The camera group of the host commands (04 R141 to R150; 06 R227 to R233, R247, R252, R257 to R263, R268, R271, R273). -/
namespace Sys2Proof.Machine

/-- Camera sources routed to a running stream, as PORT * 16 + VC. -/
def runningSources (s : State) : List Nat := (s.routes.filter (fun e => runs s e.2)).map (·.1)

/-- A running stream has a source on CSI port k. -/
def portRuns (s : State) (k : Nat) : Bool := (runningSources s).any (fun src => src / 16 == k)

/-- A stream's configuration or shadow set names CSI port k (04 R178). -/
def portNamed (s : State) (k : Nat) : Bool :=
  (List.range 32).any (fun i => (s.stream i).state != .free && (s.stream i).cfg.sourceKind == 2 && (s.stream i).cfg.port == k)

/-- The profile of a running source names something. -/
def runningProfile (s : State) (f : Bytes → Bool) : Bool :=
  (runningSources s).any (fun src => !(s.source src).profile.isEmpty && f (s.source src).profile)

/-- CSI_CONFIG (04 R141, R178; 17 R660, R662; 15 R619): lanes, rate, order, virtual channels and ENABLE; a matching LANE_ORDER
lets a port with a lane order fault work again. ENABLE on a port that the power profile does not allow, or on a device without
CAP_CAMERA, completes BAD_STATE (DESIGN CHOICE, assumption 92: 04 R141 names no status for it). -/
def execCsiConfig (h : Hdr) (p : Bytes) (s : State) : Out :=
  let k := bits (fld p 0 1) 0 2
  let lanes := fld p 1 1
  let rate := fld p 2 2
  let order := fld p 4 1
  let on := bit (fld p 5 1) 0
  command 0x0300 h p []
    [ (resOk p [0x03, 0xFF, 0xFF, 0xFF, 0xFF, 0x03, 0xFF, 0xFF], .reservedNonzero), (lanes == 1 || lanes == 2 || lanes == 4, .badField),
      (80 ≤ rate && rate ≤ 4500, .badField) ]
    [ (!portRuns s k, .badState), (on || !portNamed s k, .badState), (!on || (s.glb.capCamera && profCsi s.pwr.profile k), .badState) ]
    (fun s =>
      let old := s.port k
      let same := bits order 0 (2 * lanes) == bits old.observed 0 (2 * lanes)
      let s := if old.orderFault && same then portRecovered (srcCsi k) k s else s
      let s := s.setPort k { enable := on, lanes := lanes, rate := rate, order := order, embedded := bit (fld p 5 1) 1, vcMask := fld p 6 2
                             orderFault := old.orderFault && !same, observed := if old.orderFault && !same then old.observed else 0 }
      complete h 0x0300 .ok [] (setDomain (26 + k) on s)) s

/-- SENSOR_PROFILE_LOAD (04 R142; 06 R227 to R229, R252). -/
def execSensorProfileLoad (h : Hdr) (p : Bytes) (s : State) : Out :=
  let src := bits (fld p 0 1) 0 2 * 16 + bits (fld p 1 1) 0 4
  let sp := p.drop 4
  command 0x0301 h p []
    [(resOk p ([0x03, 0x0F, 0, 0] ++ profileMask ((sp.length - 64) / 8) ++ full 8), .reservedNonzero), (profileOk sp, .badField),
     (s.glb.stepping != 0xA0 || !bit (fld sp 5 1) 2, .badField)]
    [(!(runningSources s).contains src, .badState)]
    (fun s => complete h 0x0301 .ok [] (s.setSource src { s.source src with profile := sp, rfe := {}, starts := [], endedAt := none })) s

/-- The profile of a stream's camera source. -/
def streamProfile (s : State) (sc : Nat) : Bytes := ((s.stream sc).route.map (fun src => (s.source src).profile)).getD []

/-- 06 R261, 04 R145: exposure sets that a new one with target F supersedes: those not yet writing, whose target is F, or that
would not land earlier. -/
def supersedes (f : U32) (e : Exposure) : Bool := !e.writing && e.landing.isNone && e.target = f

/-- Announce superseded sets (04 R145). -/
def announceSuperseded (sc : Nat) (by_ : U16) (l : List Exposure) (s : State) : State :=
  l.foldl (fun s e => emit (srcSc sc) 0x0303 (le 2 e.esid.toNat ++ le 2 by_.toNat ++ le 4 e.target.toNat) s) s

/-- SET_EXPOSURE (04 R143 to R145; 06 R257). A running stream whose source has no profile, or is no longer routed to it, completes BAD_STATE,
and ESID 0xFFFF is followed by 0 (DESIGN CHOICE, assumption 92: 04 R143 and R144 give neither). -/
def execSetExposure (h : Hdr) (p : Bytes) (s : State) : Out :=
  let sc := bits (fld p 0 1) 0 5
  let f : U32 := BitVec.ofNat 32 (fld p 4 4)
  let us := fld p 8 4
  let ag := fld p 12 2
  let dg := fld p 14 2
  let x := s.stream sc
  let sp := streamProfile s sc
  command 0x0302 h p []
    [ (resOk p ([0x1F, 0x01, 0, 0] ++ full 12), .reservedNonzero), (1 ≤ us && us ≤ 1000000, .badField),
      (0x100 ≤ ag && 0x100 ≤ dg, .badField) ]
    [ (x.state == .running, .badState), (x.cfg.sourceKind == 2, .badState), (!sp.isEmpty, .badState),
      (exposureOk sp us ag dg, .badField),
      (!later f (x.lastAccepted + 64) || !later f x.lastAccepted, .badState) ]
    (fun s =>
      let x := s.stream sc
      let id := x.nextEsid
      let e : Exposure := { esid := id, target := f, lines := exposureLines sp us, again := againCode sp ag, dgain := dgainCode sp dg
                            irPulse := bit (fld p 1 1) 0, writing := false, commitSent := false, attempts := 0, lastResult := 0, landing := none }
      let gone := x.exposures.filter (supersedes f)
      let s := s.setStream sc { x with nextEsid := id + 1, exposures := x.exposures.filter (fun e => !supersedes f e) ++ [e] }
      let s := announceSuperseded sc id gone s
      let r := le 2 id.toNat ++ le 2 0 ++ le 4 (f - BitVec.ofNat 32 (spLatency sp)).toNat ++ le 4 f.toNat
      complete h 0x0302 .ok r s) s

/-- A change on a camera source commits with the stream the source feeds; unrouted it commits at once (04 R146, R147). -/
def sourceCommand (op : Nat) (h : Hdr) (src : Nat) (c : Change) (s : State) : State :=
  match feeds s src with
  | none => complete h op .ok (effective 0) (applySide c s)
  | some sc => boundaryCommand op h sc c s

/-- RFE_SET (04 R146; 06 R230 to R233, R253). -/
def execRfeSet (h : Hdr) (p : Bytes) (s : State) : Out :=
  let src := bits (fld p 0 1) 0 2 * 16 + bits (fld p 1 1) 0 4
  let mask := fld p 2 2
  let b := p.drop 4
  command 0x0303 h p [(p.length == 4 + rfeTotal b mask, .badLength)]
    [ (resOk (p.take 4) [0x03, 0x0F, 0x0F, 0], .reservedNonzero),
      ((rfeSections b mask).all (fun e => resOk ((b.drop e.2).take (rfeLen b e.2 e.1)) (rfeMask b e)), .reservedNonzero),
      ((rfeSections b mask).all (rfeForm b), .badField) ] []
    (sourceCommand 0x0303 h src (.rfe src mask b)) s

/-- IRLED_SET (04 R147, R778; 06 R268, R270). -/
def execIrledSet (h : Hdr) (p : Bytes) (s : State) : Out :=
  let ch := bits (fld p 0 1) 0 1
  let mode := fld p 1 1
  let ma := fld p 2 2
  let src := bits (fld p 4 1) 0 2 * 16 + bits (fld p 4 1) 4 4
  let duty := fld p 5 1
  command 0x0304 h p []
    [ (resOk p [0x01, 0xFF, 0xFF, 0xFF, 0xF3, 0xFF, 0, 0], .reservedNonzero), (mode ≤ 2, .badField),
      (mode != 1 || (ma ≤ 1000 && 1 ≤ duty && duty ≤ 50), .badField), (mode != 2 || ma ≤ 200, .badField) ] []
    (fun s =>
      if mode = 1 then sourceCommand 0x0304 h src (.irled ch ma src duty) s
      else
        let s := s.setIrled ch { mode := mode, current := if mode = 2 then ma else 0, sinking := mode == 2, fresh := mode == 2 }
        complete h 0x0304 .ok (effective 0) (s.send (.pin .irled ch (if mode = 2 then ma else 0)))) s

/-- A running stream uses FSYNC pin pair k (04 R148, 06 R271). -/
def fsyncUsed (s : State) (k : Nat) : Bool :=
  runningProfile s (fun sp => bit (fld sp 44 1) 7 && bits (fld sp 44 1) 0 2 == k)

/-- FSYNC_SET (04 R148, R778; 06 R271). Mode 0 also stops the timestamping of FSYNC_INk (DESIGN CHOICE, assumption 92: 04 R148 does not say
whether). -/
def execFsyncSet (h : Hdr) (p : Bytes) (s : State) : Out :=
  let k := bits (fld p 0 1) 0 2
  let mode := fld p 1 1
  let period := fld p 4 4
  let pulse := fld p 8 2
  command 0x0305 h p []
    [ (resOk p ([0x03, 0xFF, 0x03, 0] ++ full 6 ++ rsv 2), .reservedNonzero), (mode ≤ 3, .badField),
      (mode != 1 || (1000 ≤ period && period ≤ 1000000), .badField),
      (!(mode == 1 || mode == 2) || (1 ≤ pulse && pulse ≤ 1000), .badField) ]
    [(mode == 3 || !fsyncUsed s k, .badState)]
    (fun s =>
      let f := s.fsync k
      let s := if mode = 3 then s.setFsync k { f with stamping := true }
               else s.setFsync k { f with mode := mode, follow := if mode = 2 then fld p 2 1 else 0
                                          period := if mode = 1 then period else 0, pulse := if mode = 0 then 0 else pulse }
      complete h 0x0305 .ok [] (if mode = 0 then (s.setFsync k { s.fsync k with stamping := false }).send (.pin .fsyncOut k 0) else s)) s

/-- A running stream's profile names SENSOR_PWR channel k (04 R149). -/
def powerUsed (s : State) (k : Nat) : Bool :=
  runningProfile s (fun sp => bit (fld sp 45 1) 7 && bits (fld sp 45 1) 0 2 == k)

/-- SENSOR_POWER (04 R149; 19 R764): off is immediate; on completes once the switch has settled or faulted. -/
def execSensorPower (h : Hdr) (p : Bytes) (s : State) : Out :=
  let k := bits (fld p 0 1) 0 2
  let on := bit (fld p 1 1) 0
  command 0x0306 h p [] [(resOk p [0x03, 0x01], .reservedNonzero)] [(on || !(powerUsed s k || portRuns s k), .badState)]
    (fun s =>
      let c := s.spwr k
      if on then
        if c.on && !c.settling then complete h 0x0306 .ok [] s
        else (markStarted h (s.setSpwr k { on := true, settling := true, cmd := c.cmd ++ [h] })).send (.pin .sensorPwr k 1)
      else
        let s := (s.setSpwr k {}).send (.pin .sensorPwr k 0)
        let s := c.cmd.foldl (fun s g => complete g 0x0306 .ok [] s) s
        complete h 0x0306 .ok [] s) s

/-- A running stream uses SCTL bus b (04 R150). -/
def busUsed (s : State) (b : Nat) : Bool := runningProfile s (fun sp => spBus sp == b)

/-- Time of a transfer with one recovery of 9 clocks (06 R273, R779; 04 R150), ns. -/
def longestXfer (speed wr rd : Nat) : Nat := xferTime speed wr rd + 9 * bitTime speed

/-- RESULT of a transfer (04 R150). -/
def xferResult (result nak : Nat) : Bytes := le 1 result ++ le 1 0 ++ le 2 nak

/-- A transfer goes onto its bus (04 R150). -/
def startXfer (bus : Nat) (t : Xfer) (s : State) : State := s.send (.sctl bus t.addr t.speed t.mode t.write t.readLen)

/-- The read data of a transfer: it is in host memory unless a byte was NAKed, or the bus was stuck and gave none (04 R150). -/
def xferData (t : Xfer) (result : Nat) (data : Bytes) (s : State) : State :=
  if t.readLen ≠ 0 && (result = 0 || (result = 3 && !data.isEmpty)) then s.send (.host t.dest (pad t.readLen data)) else s

/-- SDA was low at the start of a transfer (06 R273): 9 clocks and a STOP, and the transfer once more. -/
def retryXfer (bus : Nat) (t : Xfer) (s : State) : State := startXfer bus t (s.send (.recovery bus))

/-- SCTL_XFER (04 R115, R150; 06 R273, R779): result, nak and data are what the bus answers, a stuck bus nothing. A transfer that cannot end
within 15 ms, or that waits for an earlier one on its bus (DEDUCED, assumption 92), completes PENDING and ends with SCTL_XFER_DONE. -/
def execSctlXfer (h : Hdr) (p : Bytes) (result nak : Nat) (data : Bytes) (s : State) : Out :=
  let bus := bits (fld p 0 1) 0 2
  let mode := fld p 2 1
  let speed := fld p 3 1
  let wr := fld p 4 2
  let rd := fld p 6 2
  let dest := fld p 8 8
  let form : List (Bool × Status) :=
    [ (resOk p ([0x03, 0x7F, 0xFF, 0x03] ++ full (12 + wr)), .reservedNonzero),
      ((mode == 0 && speed ≤ 2) || (mode == 1 && speed == 3 && s.glb.stepping != 0xA0), .badField), (wr ≤ 256 && rd ≤ 256, .badField),
      (if rd = 0 then dest == 0 else dest % 64 == 0, .badField) ]
  command 0x0307 h p [(p.length == 16 + wr, .badLength)] form
    [(!busUsed s bus, .badState)]
    (fun s =>
      let t : Xfer := { ring := h.ring, tag := h.tag, dest := dest, addr := fld p 1 1, speed := speed, mode := mode
                        write := (p.drop 16).take wr, readLen := rd }
      let b := s.sctl bus
      let s := if b.xfers.isEmpty then startXfer bus t s else s
      if 15000000 < longestXfer speed wr rd || !b.xfers.isEmpty then
        stage h 0x0307 bus true .sctl (s.setSctl bus { b with xfers := b.xfers ++ [t], recovered := b.recovered && !b.xfers.isEmpty })
      else if b.stuck then complete h 0x0307 .ok (xferResult 3 0) (retryXfer bus t s)
      else
        let s := if result = 3 then retryXfer bus t s else s
        complete h 0x0307 .ok (xferResult result nak) (xferData t result data s)) s

end Sys2Proof.Machine
end

