-- ==== Sys2Proof/Machine/Rfe.lean ====
section
/-! DEFINITION. The raw front end's arithmetic (06 R226, R246 to R253): unpacking, black level, crosstalk, green imbalance and defect
replacement of one sample, and the row that leaves for the Kennel. -/
namespace Sys2Proof.Machine

/-! ### Mosaics (06 R226) -/

/-- Classes of the 16 canonical positions. -/
def mosaicClasses (mosaic : Nat) : List Nat :=
  match mosaic with
  | 0 => [0, 1, 0, 1, 1, 2, 1, 2, 0, 1, 0, 1, 1, 2, 1, 2]
  | 1 => [2, 1, 0, 1, 1, 3, 1, 3, 0, 1, 2, 1, 1, 3, 1, 3]
  | 2 => [3, 1, 3, 0, 1, 3, 2, 3, 3, 0, 3, 1, 2, 3, 1, 3]
  | _ => List.replicate 16 0

/-- The checkerboard class. -/
def checkerClass (mosaic : Nat) : Option Nat := if mosaic = 0 || mosaic = 1 then some 1 else if mosaic = 2 then some 3 else none

/-- Canonical position of sample (x, y) of a frame. -/
def canonical (f : OpenFrame) (x y : Nat) : Nat :=
  (y + bits (fld f.profile 4 1) 2 2) % 4 * 4 + (x + bits (fld f.profile 4 1) 0 2) % 4

/-- Class of sample (x, y). -/
def sampleClass (f : OpenFrame) (x y : Nat) : Nat := nth 0 (mosaicClasses (spMosaic f.profile)) (canonical f x y)

/-! ### Unpacking (06 R246, R249; the packings are those of CSI-2, PRESUMED in assumption 20) -/

/-- Sample j of a line of a data type as d16; none when it is not whole. -/
def unpackSample (dataType : Nat) (p : Bytes) (j : Nat) : Option Nat :=
  let b (i : Nat) : Nat := (nth 0 p i).toNat
  match dataType with
  | 0x2A => if j < p.length then some (b j * 256) else none
  | 0x2B => let g := 5 * (j / 4)
            if g + 4 < p.length then some ((b (g + j % 4) * 4 + bits (b (g + 4)) (2 * (j % 4)) 2) * 64) else none
  | 0x2C => let g := 3 * (j / 2)
            if g + 2 < p.length then some ((b (g + j % 2) * 16 + bits (b (g + 2)) (4 * (j % 2)) 4) * 16) else none
  | 0x2D => let g := 7 * (j / 4)
            let o := 6 * (j % 4)
            if g + 4 + (o + 5) / 8 < p.length then some ((b (g + j % 4) * 64 + bits (leVal ((p.drop (g + 4)).take 3)) o 6) * 4) else none
  | 0x2E => if 2 * j + 1 < p.length then some (b (2 * j) * 256 + b (2 * j + 1)) else none
  | _ => none

/-- The samples of a line. -/
def unpackLine (dataType : Nat) (p : Bytes) : List Nat := (List.range p.length).filterMap (unpackSample dataType p)

/-- A line cut to WIDTH, or padded by repeating its last sample (06 R246). -/
def fitLine (w : Nat) (l : List Nat) : List Nat := l.take w ++ List.replicate (w - l.length) (l.getLast?.getD 0)

/-! ### Stages (06 R250, R251, R253) -/

/-- Clamp to 16 bits. -/
def clamp16 (v : Int) : Nat := (max 0 (min 65535 v)).toNat

/-- Sample (x, y) as unpacked. -/
def rawAt (f : OpenFrame) (x y : Nat) : Nat := nth 0 (nth [] f.raw y) x

/-- Black level. -/
def stage1 (f : OpenFrame) (x y : Nat) : Nat :=
  let p := canonical f x y
  clamp16 ((((rawAt f x y : Int) - (nth 0 f.rfe.bl p : Int)) * (nth 0 f.rfe.norm p : Int) + 8192) / 16384 + (f.rfe.pedestal : Int))

/-- Coordinates within reach of a in a range of n. -/
def within (n a reach : Nat) : List Nat := (List.range (2 * reach + 1)).filterMap (fun i => if reach ≤ a + i && a + i - reach < n then some (a + i - reach) else none)

/-- The crosstalk stage is on (06 R253). -/
def xtOn (f : OpenFrame) : Bool := f.rfe.xtEnable && spMosaic f.profile ≤ 2

/-- The green imbalance stage is on (06 R253). -/
def grOn (f : OpenFrame) : Bool := f.rfe.grEnable && spMosaic f.profile ≤ 2

/-- Coefficient of slot k at grid corner (i, j), the last column or row beyond the grid. -/
def corner (r : Rfe) (k i j : Nat) : Int := signed 16 (nth 0 r.xtCoef (221 * k + 17 * min 12 j + min 16 i))

/-- The interpolated coefficient of slot k at (x, y). -/
def coefAt (f : OpenFrame) (k x y : Nat) : Int :=
  let u := x * 16 * 256 / max 1 (f.width - 1)
  let v := y * 12 * 256 / max 1 (f.height - 1)
  let i := u / 256
  let j := v / 256
  let fu : Int := (u % 256 : Nat)
  let fv : Int := (v % 256 : Nat)
  (corner f.rfe k i j * (256 - fu) * (256 - fv) + corner f.rfe k (i + 1) j * fu * (256 - fv)
    + corner f.rfe k i (j + 1) * (256 - fu) * fv + corner f.rfe k (i + 1) (j + 1) * fu * fv + 32768) / 65536

/-- Mean of the black-level output over a class in the 5 x 5 window; the free value where the window has none of the class. -/
def classMean (f : OpenFrame) (free : Nat) (c x y : Nat) : Nat :=
  let l := ((within f.height y 2).flatMap (fun b => (within f.width x 2).map (fun a => (a, b)))).filter (fun e => sampleClass f e.1 e.2 == c)
  if l.isEmpty then free else (l.map (fun e => stage1 f e.1 e.2)).sum / l.length

/-- Crosstalk. free numbers the open means. -/
def stage2 (f : OpenFrame) (free : Nat → Nat) (x y : Nat) : Nat :=
  if xtOn f then
    let sub := (f.rfe.xtSlots.zipIdx.filter (fun e => e.1.2 == sampleClass f x y)).map (fun e =>
      (coefAt f e.2 x y * (classMean f (free (8 * x + e.2)) e.1.1 x y : Int) + 4096) / 8192)
    clamp16 ((stage1 f x y : Int) - sub.sum)
  else stage1 f x y

/-- Green imbalance. -/
def stage3 (f : OpenFrame) (free : Nat → Nat) (x y : Nat) : Nat :=
  let v := stage2 f free x y
  if grOn f && checkerClass (spMosaic f.profile) == some (sampleClass f x y) then
    let l := ((within f.height y 1).filter (· != y)).flatMap (fun b => ((within f.width x 1).filter (· != x)).map (fun a => stage2 f free a b))
    let d : Int := (l.sum / max 1 l.length : Nat) - (v : Int)
    if d.natAbs ≤ f.rfe.grThreshold then ((v : Int) + (d * (f.rfe.grStrength : Int) + 256) / 512).toNat else v
  else v

/-- The nearest sample of the same class at distance 1 to 4 in one direction. -/
def nearest (f : OpenFrame) (x y : Nat) (at_ : Nat → Option (Nat × Nat)) : Option (Nat × Nat) :=
  ((List.range 4).filterMap (fun k => at_ (k + 1))).find? (fun e => e.1 < f.width && e.2 < f.height && sampleClass f e.1 e.2 == sampleClass f x y)

/-- The defect stage's neighbours of a sample, sorted. -/
def neighbours (f : OpenFrame) (free : Nat → Nat) (x y : Nat) : List Nat :=
  (([ nearest f x y (fun k => if k ≤ x then some (x - k, y) else none), nearest f x y (fun k => some (x + k, y)),
      nearest f x y (fun k => if k ≤ y then some (x, y - k) else none), nearest f x y (fun k => some (x, y + k)) ].filterMap id).map
    (fun e => stage3 f free e.1 e.2)).mergeSort (· ≤ ·)

/-- Median of a sorted list, the mean of the middle two rounded down when their number is even. -/
def median (l : List Nat) : Nat :=
  if l.length % 2 = 1 then nth 0 l (l.length / 2) else (nth 0 l (l.length / 2 - 1) + nth 0 l (l.length / 2)) / 2

/-- Defect replacement. -/
def stage4 (f : OpenFrame) (free : Nat → Nat) (x y : Nat) : Nat :=
  let v := stage3 f free x y
  if f.rfe.dfStatic || f.rfe.dfDynamic then
    let l := neighbours f free x y
    let lo := l.headD v
    let hi := l.getLast?.getD v
    if l.isEmpty then v
    else if (f.rfe.dfStatic && f.rfe.defects.contains (x, y)) || (f.rfe.dfDynamic && (hi + f.rfe.dfThreshold < v || v + f.rfe.dfThreshold < lo)) then
      median l
    else v
  else v

/-- Rows above and below a row that its stages read. -/
def rfeReach (f : OpenFrame) : Nat :=
  if spMosaic f.profile = 4 then 0
  else (if xtOn f then 2 else 0) + (if grOn f then 1 else 0)
    + (if f.rfe.dfDynamic || (f.rfe.dfStatic && !f.rfe.defects.isEmpty) then (if spMosaic f.profile = 3 then 1 else 4) else 0)

/-! ### Rows of a frame (06 R240, R243, R254) -/

/-- Row y was lost. -/
def lostRow (f : OpenFrame) (y : Nat) : Bool := y < f.raw.length && (nth [] f.raw y).isEmpty

/-- What the stages read for row y reaches into a lost line, or past the last line of a short frame: the spec gives no samples
there, and the row is free data (assumption 21). -/
def openRow (f : OpenFrame) (y : Nat) : Bool :=
  (within f.height y (rfeReach f)).any (fun b => lostRow f b || f.raw.length ≤ b)

/-- Row y as the RFE makes it of the lines received: samples, or for MOSAIC 4 the bytes received (06 R253). n is the number of
the free value. -/
def rowOut (f : OpenFrame) (n y : Nat) : List Nat :=
  let free (i : Nat) : Nat := (Config.freeByte n (2 * i)).toNat + 256 * (Config.freeByte n (2 * i + 1)).toNat
  if spMosaic f.profile = 4 then nth [] f.raw y
  else if openRow f y then (List.range f.width).map free
  else (List.range f.width).map (fun x => stage4 f free x y)

/-- Row y can be made: what it reads has arrived, or the frame has ended. -/
def rowReady (f : OpenFrame) (final : Bool) (y : Nat) : Bool := final || min f.height (y + rfeReach f + 1) ≤ f.raw.length

/-- The next row to leave: a received one; for a lost one the row above it, for line 0 the next received; after the end of a short
frame the last one again. -/
def nextRow (f : OpenFrame) (n : Nat) (final : Bool) : Option (List Nat) :=
  let y := f.out.length
  if f.height ≤ y then none
  else if f.raw.length ≤ y then (if final then f.out.getLast? else none)
  else if lostRow f y then
    match f.out.getLast? with
    | some r => some r
    | none => ((List.range f.raw.length).find? (fun r => !lostRow f r)).bind (fun r => if rowReady f final r then some (rowOut f n r) else none)
  else if rowReady f final y then some (rowOut f n y) else none

/-- The bytes of a row in the Kennel: 16-bit samples, or the bytes as received (06 R253, R254). -/
def rowData (f : OpenFrame) (r : List Nat) : Bytes := if spMosaic f.profile = 4 then r.map (BitVec.ofNat 8) else r.flatMap (le 2)

end Sys2Proof.Machine
end

