-- ==== Sys2Proof/Machine/Camera.lean ====
section
/-! DEFINITION. Frames coming in (05 R188 to R206; 06 R234 to R246, R254 to R273; 09 R374, R382; 19 R763 to R772): host acceptance, CSI
ports and packets, the RFE's rows and counters, statistics, exposure windows, IRLED, FSYNC, sensor power and control buses. -/
namespace Sys2Proof.Machine

/-! ### Acceptance (05 R189 to R192, R205; 14 R590) -/

/-- 14 R590: the leader tells every member of an accepted frame of a pack stream. -/
def announceAccept (sc : Nat) (s : State) : State :=
  let x := s.stream sc
  if packStream s sc && s.pack.leader then
    toMembers 0x28 sc x.lastAccepted (le 1 0 ++ le 8 s.us) s
  else s

/-- HOST_FRAME_ACCEPT: the oldest queued buffer of a running host stream, no earlier than the minimum gap allows (05 R190); a group
member whose window has passed waits for the next group frame (05 R205). Which picture the buffer holds is the operand's (assumption 83). -/
def execHostFrameAccept (sc picture : Nat) (s : State) : Out :=
  .next (
    let x := s.stream sc
    match x.inBufs with
    | b :: bs =>
      if s.running && x.state == .running && x.cfg.sourceKind == 1 && nextAcceptAt x ≤ s.now && !lateForGroup s sc && !followsPack s sc then
        announceAccept sc (acceptFrame sc (some b) (some picture) x.esid 0 0 (s.setStream sc { x with inBufs := bs }))
      else s
    | [] => s)

/-! ### CSI ports (06 R235 to R242; 19 R770; 15 R619) -/

/-- The counts of a port, in the order of CSI_ERROR (06 R242). -/
inductive CsiCount where
  | corrected | header | payload | channel | dataType | strayEnd | strayLine | timeout
deriving DecidableEq, Repr

/-- Place of a count. -/
def CsiCount.idx : CsiCount → Nat
  | .corrected => 0 | .header => 1 | .payload => 2 | .channel => 3 | .dataType => 4 | .strayEnd => 5 | .strayLine => 6 | .timeout => 7

/-- The port receives packets: enabled, its deskew made, no lane fault (06 R235, R237, R238). -/
def portOpen (p : Port) : Bool := p.enable && !p.orderFault && p.stuck == 0 && !p.clockLost && (p.rate < 1500 || p.deskewed)

/-- Eight zero counts. -/
def noCounts : List Nat := List.replicate 8 0

/-- Count an error with the frame it belongs to, or with the one that follows. -/
def countCsi (k vc : Nat) (c : CsiCount) (s : State) : State :=
  let p := s.port k
  let key := if (s.source (k * 16 + vc)).open_.isSome then vc else 16
  s.setPort k { p with frameCounts := Tab.put p.frameCounts key (modNth (· + 1) c.idx (Tab.get noCounts p.frameCounts key)) }

/-- 06 R242: one CSI_ERROR with the counts of the frame that ends, saturated at 255 (15 R609); they join the port's counters. -/
def csiError (k vc sensorFrame : Nat) (s : State) : State :=
  let p := s.port k
  let l := ((Tab.get noCounts p.frameCounts vc).zip (Tab.get noCounts p.frameCounts 16)).map (fun e => e.1 + e.2)
  if l.all (· == 0) then s
  else
    let s := s.setPort k { p with frameCounts := Tab.del (Tab.del p.frameCounts vc) 16 }
    let s := l.zipIdx.foldl (fun s e => if e.1 = 0 then s else errAdd (0x160 + 32 * k + 4 * e.2) e.1 s) s
    emit (srcCsi k) 0x0301 (le 1 vc ++ le 1 0 ++ le 2 sensorFrame ++ l.flatMap (fun n => le 1 (min 255 n))) s

/-- Data lanes of a port, as a mask. -/
def laneMask (p : Port) : Nat := 2 ^ p.lanes - 1

/-- Consecutive bursts that every other lane has started and a lane has missed (06 R238, 19 R770). -/
def missBursts (p : Port) (started : Nat) : Port :=
  let lanes := List.range p.lanes
  { p with missed := lanes.map (fun l => (l,
      if !bit started l && 1 < p.lanes && lanes.all (fun m => m == l || bit started m) then Tab.get 0 p.missed l + 1 else 0)) }

/-- 16 correct bursts on every lane: PORT_RECOVERED, and the port resumes at the next frame start (06 R238, 15 R619). -/
def burstsGood (k : Nat) (s : State) : State :=
  let p := s.port k
  if 16 ≤ p.goodBursts && s.glb.portCauses.any (fun c => c.1 == k) && !p.orderFault && (p.rate < 1500 || p.deskewed) then
    portRecovered (srcCsi k) k (s.setPort k { p with stuck := 0, clockLost := false, awaitStart := true })
  else s

/-- CSI_HS_BURST: polarity, lane order, stuck lanes and recovery (06 R236 to R238). order is the permutation under which a header
that fails under LANE_ORDER passes. -/
def execCsiHsBurst (port started inverted : Nat) (order : Option Nat) (s : State) : Out :=
  .next (
    let p := s.port port
    if !p.enable then s
    else
      let fresh := !p.pnReported && inverted != 0
      let all := started % 2 ^ p.lanes == laneMask p
      let p := { missBursts p started with
        firstBurst := some (p.firstBurst.getD s.now), pnReported := p.pnReported || inverted != 0, inverted := p.inverted ||| inverted
        badHeaders := if order.isSome then p.badHeaders + 1 else 0, goodBursts := if all then p.goodBursts + 1 else 0 }
      let s := s.setPort port p
      let s := if fresh then portFault (srcCsi port) 0x02 port inverted 0 false s else s
      let s := match order with
        | some o => if 16 ≤ p.badHeaders && !p.orderFault then
            portFault (srcCsi port) 0x03 port 0 o true (s.setPort port { p with orderFault := true, observed := o }) else s
        | none => s
      let lost := toMask ((List.range p.lanes).filter (fun l => 16 ≤ Tab.get 0 p.missed l))
      let s := if lost != 0 && p.stuck != lost then
          portFault (srcCsi port) 0x04 port lost 0 true (s.setPort port { s.port port with stuck := lost, goodBursts := 0 })
        else s
      burstsGood port s)

/-- DESKEW_SEQUENCE: the delays of the lanes (06 R235). -/
def execDeskewSequence (port : Nat) (delays : List Nat) (s : State) : Out :=
  .next (
    let p := s.port port
    if p.enable && 1500 ≤ p.rate then burstsGood port (s.setPort port { p with deskewed := true, delays := delays }) else s)

/-- DESKEW_TIMEOUT: no deskew 5 ms after the first burst (06 R235). -/
def execDeskewTimeout (port : Nat) (s : State) : Out :=
  .next (
    let p := s.port port
    match p.firstBurst with
    | some t => if p.enable && 1500 ≤ p.rate && !p.deskewed && t + 5000000 ≤ s.now then portFault (srcCsi port) 0x01 port 0 0 true s else s
    | none => s)

/-- CLOCK_LOST_TIMEOUT (06 R238, 19 R770). -/
def execClockLostTimeout (port : Nat) (s : State) : Out :=
  .next (
    let p := s.port port
    if p.enable && !p.clockLost then
      portFault (srcCsi port) 0x05 port 0 0 true (s.setPort port { p with clockLost := true, goodBursts := 0 })
    else s)

/-! ### The RFE's rows (06 R254; 09 R382) -/

/-- The stream still works on a frame. -/
def frameLive (s : State) (sc : Nat) (n : U32) : Bool :=
  (runs s sc || (s.stream sc).state == .draining) && (s.stream sc).frames.any (fun e => e.frame = n && !e.absent)

/-- The stripes of the input of a stream, as (first row, rows) with their core's position (09 R364, R365). -/
def inputStripes (s : State) (sc : Nat) : List (Nat × Nat) :=
  let x := s.stream sc
  match planOf s x.cfg with
  | none => []
  | some p =>
    let t := p.sets.getD 0 { mul := 1, div := 1, granule := 1, perCore := 1, guard := 0 }
    let h := (setDims t x.cfg.inW x.cfg.inH).1
    let ch := stripeChoice h (max 1 t.granule) t.guard t.perCore x.cores.length
    let up (r : Nat) : Nat := min x.cfg.inH (ceilDiv (r * t.div) (max 1 t.mul))
    (List.range (ch.1 * ch.2)).map (fun i =>
      let e := stripe h (max 1 t.granule) (ch.1 * ch.2) i
      (up e.1, up (e.1 + e.2) - up e.1))

/-- Kennel address of input row y: where the plan places it in the task's region, in flat mode in the region of the core whose
stripe holds it. -/
def rowAddr (s : State) (sc y len : Nat) : Option Nat :=
  let x := s.stream sc
  match planOf s x.cfg with
  | none => none
  | some p =>
    let i := ((inputStripes s sc).findIdx? (fun e => e.1 ≤ y && y < e.1 + e.2)).getD 0
    let kn := x.regions.filter (fun r => r.mem == .kennel)
    let r := if s.mem.flat then kn[i % max 1 x.cores.length]? else kn.head?
    r.bind (fun r => let o := p.rowBase + y * p.rowPitch; if o + len ≤ r.len then some (r.base + o) else none)

/-- First counter of layer boundary 0 of a camera stream: after those of the layers (09 R361). -/
def boundaryZero (s : State) (sc : Nat) : Option Nat :=
  (s.stream sc).counterBase.map (fun e => e.1 + e.2 - (inputStripes s sc).length)

/-- 06 R254, 09 R382: the counters of boundary 0 once n rows have been written: after each 16 lines, at a stripe's last line, and at
the frame's end. -/
def raiseCounters (sc : Nat) (frame : U32) (n : Nat) (final : Bool) (s : State) : State :=
  match boundaryZero s sc with
  | none => s
  | some base =>
    (inputStripes s sc).zipIdx.foldl (fun s e =>
      let first := e.1.1
      let rows := e.1.2
      if first < n && (n % 16 = 0 || final || n = first + rows) then
        s.setCounter (base + e.2) (BitVec.ofNat 16 (min rows (n - first)), BitVec.ofNat 16 (if first + rows ≤ n then rows else 0), frame)
      else s) s

/-- Write one row. -/
def putInputRow (sc : Nat) (n : U32) (f : OpenFrame) (r : List Nat) (s : State) : State :=
  let b := rowData f r
  let s := match rowAddr s sc f.out.length b.length with | some a => putData .kennel a b false s | none => s
  raiseCounters sc n (f.out.length + 1) false s

/-- Write the rows that can be made; fuel bounds them. -/
def pushRows (sc : Nat) (n : U32) (final : Bool) : Nat → OpenFrame → State → OpenFrame × State
  | 0, f, s => (f, s)
  | fuel + 1, f, s =>
    match nextRow f s.drawn final with
    | none => (f, s)
    | some r =>
      let s := putInputRow sc n f r (if rfeReach f = 0 then s else { s with drawn := s.drawn + 1 })
      pushRows sc n final fuel { f with out := f.out ++ [r] } s

/-! ### Frames (06 R239 to R246) -/

/-- Flag a camera frame: its record, the frame and its outputs (15 R610). -/
def flagInput (sc : Nat) (n : U32) (fl : FFlag) (s : State) : State :=
  let x := (s.stream sc).flagFrame n fl
  s.setStream sc { x with frames := x.frames.map (fun e => if e.frame = n then { e with flags := setFlag e.flags fl } else e) }

/-- The work on a frame stops at the next tile boundary (06 R243, 02 R57). -/
def stopWork (sc : Nat) (n : U32) (s : State) : State :=
  let x := s.stream sc
  x.cores.foldl (fun s c => if (s.core c).frame = n then s.setCore c (s.core c).stopAtTile else s) s

/-- An accepted camera frame is dropped with reason SHORT (06 R243, R244). -/
def dropShort (sc : Nat) (n : U32) (sensorFrame : Nat) (s : State) : State :=
  frameDropped sc n 3 true sensorFrame (dropFrame sc n (stopWork sc n s))

/-- The open frame of a source ends (06 R241 to R245): errors are reported, a frame with no line is dropped, a short one dropped or
filled, and its record is made. -/
def endFrame (k vc : Nat) (s : State) : State :=
  let src := k * 16 + vc
  match (s.source src).open_ with
  | none => s
  | some f =>
    let s := csiError k vc f.sensorFrame s
    let s := s.setSource src { s.source src with open_ := none, endedAt := some s.now }
    match f.accepted with
    | none => s
    | some (sc, n) =>
      if !frameLive s sc n then s
      else if f.raw.all (·.isEmpty) then dropShort sc n f.sensorFrame s
      else if f.raw.length < f.height && (s.stream sc).cfg.dropShort then dropShort sc n f.sensorFrame s
      else
        let short := f.raw.length < f.height
        let f := if short then { f with flags := setFlag f.flags .short } else f
        let s := if short then flagInput sc n .short s else s
        let (f, s) := pushRows sc n true f.height f s
        let s := raiseCounters sc n f.out.length true s
        s.setSource src { s.source src with closed := (s.source src).closed ++ [f] }

/-- CSI_FRAME_END (06 R241). -/
def execCsiFrameEnd (port vc _sensorFrame ecc : Nat) (s : State) : Out :=
  .next (
    let p := s.port port
    if !portOpen p || p.awaitStart then s
    else if ecc = 2 then countCsi port vc .header s
    else
      let s := if ecc = 1 then countCsi port vc .corrected s else s
      if !bit p.vcMask vc then countCsi port vc .channel s
      else if (s.source (port * 16 + vc)).open_.isSome then endFrame port vc s
      else countCsi port vc .strayEnd s)

/-- The input period that times a source out: of the stream it feeds, or of its profile, ns. -/
def sourcePeriod (s : State) (src : Nat) : Option Nat :=
  match feeds s src with
  | some sc => some (periodNs (s.stream sc).cfg)
  | none => let sp := (s.source src).profile
            if sp.isEmpty then none else some (spFrameLines sp * spLineTime sp / 1000)

/-- FRAME_END_TIMEOUT: no packet for P/16 after the last line (06 R241); a frame without a line does not end so. -/
def execFrameEndTimeout (port vc : Nat) (s : State) : Out :=
  .next (
    match (s.source (port * 16 + vc)).open_, sourcePeriod s (port * 16 + vc) with
    | some f, some p => if f.lines ≠ 0 && f.lastPacketAt + p / 16 ≤ s.now then endFrame port vc (countCsi port vc .timeout s) else s
    | _, _ => s)

/-- 06 R256, R259: the sets that have landed on or before frame n; the latest gives the frame its ESID. -/
def landExposures (sc : Nat) (n : U32) (s : State) : State :=
  let x := s.stream sc
  let hit (e : Exposure) : Bool := match e.landing with | some k => !later k n | none => false
  let newest := (x.exposures.filter hit).foldl (fun (b : Option Exposure) e => match b with
    | none => some e
    | some a => if later (a.landing.getD 0) (e.landing.getD 0) then some a else some e) none
  match newest with
  | none => s
  | some e => s.setStream sc { x with exposures := x.exposures.filter (fun e => !hit e), landed := some e, esid := e.esid }

/-- 05 R199, R200: a ROUTE_SET that waits for this source's frame start commits with it. -/
def routeAtStart (src : Nat) (s : State) : State :=
  match (s.source src).routing with
  | none => s
  | some t =>
    let f := match t with | some b => if runs s b then (s.stream b).nextFrame.toNat else 0 | none => 0
    routeOutcome src f (commitRoute src t s)

/-- The frame start predicted for the next frame of a source (06 R258), from the FSYNC edge where one drives the sensor. -/
def predictedStart (s : State) (src : Nat) (edge : Option Nat) : Option Nat :=
  let sp := (s.source src).profile
  match bit (fld sp 44 1) 7, edge with
  | true, some e => some (e + fld sp 48 4)
  | _, _ =>
    match (s.source src).starts with
    | a :: b :: _ => some (a + (a - b))
    | [a] => some (a + spFrameLines sp * spLineTime sp / 1000)
    | [] => none

/-- The next edge of the FSYNC output that drives a source's sensor: the first whose frame start lies more than half an input period after
the last frame start, which may have come before its own prediction (DEDUCED, assumption 93). -/
def nextEdge (s : State) (src : Nat) : Option Nat :=
  let sp := (s.source src).profile
  if bit (fld sp 44 1) 7 then
    let f := s.fsync (bits (fld sp 44 1) 0 2)
    let after (e : Nat) : Bool := match (s.source src).starts with
      | [] => true
      | t :: _ => t + ((sourcePeriod s src).getD 0) / 2 < e + fld sp 48 4
    let step := f.period * 1000
    (if f.mode = 1 then [f.lastEdge - 2 * step, f.lastEdge - step, f.lastEdge, f.lastEdge + step, f.lastEdge + 2 * step] else [f.lastEdge]).find? after
  else none

/-- The frame a source opens. -/
def newFrame (s : State) (src sensorFrame : Nat) (acc : Option (Nat × U32)) (predicted : Nat) : OpenFrame :=
  let sp := (s.source src).profile
  let cfg := acc.map (fun a => (s.stream a.1).cfg)
  { accepted := acc, sensorFrame := sensorFrame, startedAt := s.now, startedUs := s.us, lastPacketAt := s.now, predicted := predicted, profile := sp
    rfe := (s.source src).rfe, width := (cfg.map (·.inW)).getD (spWidth sp), height := (cfg.map (·.inH)).getD (spHeight sp)
    lines := 0, raw := [], valid := [], out := [], flags := 0, emb := [], embTruncated := false
    stamps := (List.range 4).map (fun k => (s.fsync k).stamp), exposure := acc.bind (fun a => (s.stream a.1).landed) }

/-- The Router's decision on a frame start (05 R191, R192, R205; 09 R374): the frame accepted, if any. -/
def routeFrame (src sensorFrame : Nat) (s : State) : Option (Nat × U32) × State :=
  match feeds s src with
  | none => (none, s)
  | some sc =>
    let x := s.stream sc
    if !(s.running && x.state == .running) then (none, s)
    else if s.now < nextAcceptAt x then (none, frameDropped sc x.lastAccepted 1 false sensorFrame s)
    else if lateForGroup s sc then (none, frameDropped sc x.lastAccepted 2 false sensorFrame s)
    else
      let n := x.nextFrame
      let s := landExposures sc n s
      let s := announceAccept sc (acceptFrame sc none none (s.stream sc).esid 0 sensorFrame s)
      let sp := (s.source src).profile
      match planOf s (s.stream sc).cfg with
      | some p => if p.maxW < spWidth sp || p.maxH < spHeight sp then (none, rejectShape sc (spWidth sp) (spHeight sp) (stopWork sc n s))
                  else (some (sc, n), s)
      | none => (none, s)

/-- CSI_FRAME_START (05 R191, R192; 06 R239, R241, R258). Its header's ECC corrected a bit, or found an error it does not correct. -/
def execCsiFrameStart (port vc sensorFrame : Nat) (corrected lost : Bool) (s : State) : Out :=
  .next (
    let p := s.port port
    let src := port * 16 + vc
    if !portOpen p then s
    else if lost then countCsi port vc .header s
    else
      let s := if corrected then countCsi port vc .corrected s else s
      if !bit p.vcMask vc then countCsi port vc .channel s
      else
        let s := s.setPort port { s.port port with awaitStart := false }
        let s := routeAtStart src (endFrame port vc s)
        let predicted := (predictedStart s src (nextEdge s src)).getD s.now
        let resumed := ((feeds s src).map (fun sc => (s.stream sc).lost)).getD false
        let (acc, s) := routeFrame src sensorFrame s
        let y := s.source src
        s.setSource src { y with open_ := some (newFrame s src sensorFrame acc predicted)
                                 starts := s.now :: (if resumed && acc.isSome then [] else y.starts.take 1) })

/-! ### Lines (06 R239, R240, R245, R246) -/

/-- Samples of a received line, and how many were received: for MOSAIC 4 the bytes, two per sample, padded with free bytes
(assumption 22). -/
def lineOf (f : OpenFrame) (n : Nat) (payload : Bytes) : List Nat × Nat :=
  if spMosaic f.profile = 4 then
    let l := (payload.take (2 * (payload.length / 2))).map (·.toNat)
    ((l ++ (List.range (2 * f.width - l.length)).map (fun i => (Config.freeByte n i).toNat)).take (2 * f.width), l.length / 2)
  else
    let l := unpackLine (fld f.profile 2 1) payload
    (fitLine f.width l, l.length)

/-- A line arrives on the open frame of a source; none is a lost one. -/
def lineArrives (src : Nat) (f : OpenFrame) (payload : Option Bytes) (s : State) : State :=
  let f := { f with lines := f.lines + 1, lastPacketAt := s.now }
  let keep (f : OpenFrame) (s : State) : State := s.setSource src { s.source src with open_ := some f }
  match f.accepted with
  | none => keep f s
  | some (sc, n) =>
    if !frameLive s sc n then keep f s
    else if f.height ≤ f.raw.length then keep { f with flags := setFlag f.flags .long } (flagInput sc n .long s)
    else
      let (row, got) := match payload with | some b => lineOf f s.drawn b | none => ([], 0)
      let s := if spMosaic f.profile = 4 then { s with drawn := s.drawn + 1 } else s
      let f := { f with raw := f.raw ++ [row], valid := f.valid ++ [min f.width got] }
      let fl := if payload.isNone then some FFlag.degraded else if got = f.width then none else some FFlag.width
      let f := match fl with | some x => { f with flags := setFlag f.flags x } | none => f
      let s := match fl with | some x => flagInput sc n x s | none => s
      let (f, s) := pushRows sc n false f.height f s
      keep f s

/-- Embedded data of the open frame, up to 16,384 bytes (06 R234). -/
def embedded (src : Nat) (f : OpenFrame) (payload : Bytes) (s : State) : State :=
  s.setSource src { s.source src with open_ := some { f with
    lastPacketAt := s.now, emb := (f.emb ++ payload).take 16384, embTruncated := f.embTruncated || 16384 < f.emb.length + payload.length } }

/-- A discarded packet of the source's data type is a lost line of its open frame (06 R240). -/
def lostLine (port vc dataType : Nat) (s : State) : State :=
  let src := port * 16 + vc
  match (s.source src).open_ with
  | some f => if !(s.source src).profile.isEmpty && dataType = fld f.profile 2 1 then lineArrives src f none s else s
  | none => s

/-- CSI_LONG_PACKET (06 R239). -/
def execCsiLongPacket (port vc dataType ecc : Nat) (crcOk : Bool) (payload : Bytes) (s : State) : Out :=
  .next (
    let p := s.port port
    let src := port * 16 + vc
    if !portOpen p || p.awaitStart then s
    else if ecc = 2 then lostLine port vc dataType (countCsi port vc .header s)
    else
      let s := if ecc = 1 then countCsi port vc .corrected s else s
      if !crcOk then lostLine port vc dataType (countCsi port vc .payload s)
      else if !bit p.vcMask vc then countCsi port vc .channel s
      else if dataType ≠ 0x12 && ((s.source src).profile.isEmpty || dataType ≠ fld (s.source src).profile 2 1) then countCsi port vc .dataType s
      else match (s.source src).open_ with
        | none => countCsi port vc .strayLine s
        | some f =>
          if dataType = 0x12 then (if p.embedded then embedded src f payload s else s.setSource src { s.source src with open_ := some { f with lastPacketAt := s.now } })
          else lineArrives src f (some payload) s)

/-- SOURCE_LOST_TIMEOUT: no frame for 8 periods (05 R188). -/
def execSourceLostTimeout (sc : Nat) (s : State) : Out :=
  .next (
    let x := s.stream sc
    let t := if x.accepted then x.lastAcceptAt else x.startedAt
    if x.state == .running && x.cfg.sourceKind == 2 && !x.lost && t + 8 * periodNs x.cfg ≤ s.now then
      emit (srcSc sc) 0x0107 (le 4 x.sourceFrame.toNat) (s.setStream sc { x with lost := true })
    else s)

/-! ### Statistics (06 R234, R264 to R266; 13 R519, R520) -/

/-- Samples of one class over the valid extent, (x, y, value on the 16-bit scale): of the rows received, the samples received of each
(01 R22; 06 R240, R243, R246, R253). -/
def validSamples (f : OpenFrame) (c : Nat) : List (Nat × Nat × Nat) :=
  let value (r : List Nat) (x : Nat) : Nat := if spMosaic f.profile = 4 then 256 * nth 0 r (2 * x + 1) else nth 0 r x
  (f.out.zipIdx.filter (fun e => e.2 < f.raw.length && !lostRow f e.2)).flatMap (fun e =>
    ((List.range (nth 0 f.valid e.2)).filter (fun x => sampleClass f x e.2 == c)).map (fun x => (x, e.2, value e.1 x)))

/-- The number of samples in each bin. -/
def binsOf (l : List (Nat × Nat × Nat)) : List Nat := (List.range 256).map (fun b => l.countP (fun e => e.2.2 / 256 == b))

/-- HIST of one class. -/
def histogram (f : OpenFrame) (c : Nat) : List Nat := binsOf (validSamples f c)

/-- Mean of values; how a fraction is rounded the spec does not say, so bit i of free value n decides (assumption 23). -/
def freeMean (n i : Nat) (l : List Nat) : Nat :=
  let m := max 1 l.length
  l.sum / m + (if l.sum % m = 0 then 0 else (Config.freeByte n i).toNat % 2)

/-- ZONE of every class and zone, 0 for a class the mosaic lacks; a zone without samples has a free mean (assumption 23). -/
def zoneMeans (f : OpenFrame) (n : Nat) : List Nat :=
  (List.range 4).flatMap (fun c =>
    let l := validSamples f c
    (List.range 192).map (fun z =>
      let v := (l.filter (fun e => Config.zone f.width f.height e.1 e.2.1 % 192 == z)).map (·.2.2)
      if !(mosaicClasses (spMosaic f.profile)).contains c then 0
      else if v.isEmpty then leVal [Config.freeByte n (2 * (192 * c + z)), Config.freeByte n (2 * (192 * c + z) + 1)]
      else freeMean n (2 * (192 * c + z)) v))

/-- The class of the luma features and of the flicker detector (06 R266, 13 R519). -/
def lumaClass (f : OpenFrame) : Nat := (checkerClass (spMosaic f.profile)).getD 0

/-- What the flicker detector works on (06 R266): time in ps, sum and number of samples of each received row. -/
def rowSums (f : OpenFrame) : List (Nat × Nat × Nat) :=
  let l := validSamples f (lumaClass f)
  ((List.range f.raw.length).map (fun y =>
    let v := (l.filter (fun e => e.2.1 == y)).map (·.2.2)
    (f.startedUs * 1000000 + y * spLineTime f.profile, v.sum, v.length))).filter (fun e => e.2.2 != 0)

/-- Free values below a bound, n of them. -/
def freeNats (bound : Nat) : Nat → State → List Nat × State
  | 0, s => ([], s)
  | n + 1, s =>
    let (v, s) := freeNat bound s
    let (l, s) := freeNats bound n s
    (v :: l, s)

/-- EXPOSURE_LINES, AGAIN_CODE and DGAIN_CODE of a frame's ESID; before any set has landed the spec names no values. -/
def exposureCodes (f : OpenFrame) (s : State) : List Nat × State :=
  match f.exposure with
  | some e => ([e.lines, e.again, e.dgain], s)
  | none => freeNats 65536 3 s

/-- Bytes 0x0000 to 0x57FF of a record (06 R234): zones as given, noise and SATURATED free (assumption 23: the width of the accumulators and
what a sigma is taken over have no rule); a class the mosaic lacks reads 0. -/
def recordBody (n : U32) (f : OpenFrame) (codes flicker zones : List Nat) (noise : Bytes) (sat fired clipped : Bool) : Bytes :=
  let lines := (f.valid.filter (· != 0)).length
  let has (c : Nat) : Bool := (mosaicClasses (spMosaic f.profile)).contains c
  let head := pad 0x100 (le 4 n.toNat ++ le 2 ((f.exposure.map (·.esid.toNat)).getD 0) ++ le 2 (recordFlags f.flags sat fired clipped f.embTruncated)
    ++ le 4 lines ++ le 4 f.sensorFrame ++ le 8 f.startedUs ++ f.stamps.flatMap (le 8) ++ codes.flatMap (le 2) ++ le 2 0 ++ le 4 f.emb.length)
  head ++ (List.range 4).flatMap (fun c => (histogram f c).flatMap (le 4)) ++ zones.flatMap (le 2)
    ++ noise.zipIdx.map (fun e => if has (e.2 / 32) then e.1 else 0)
    ++ pad 128 (le 1 (nth 0 flicker 0) ++ le 1 (nth 0 flicker 1) ++ (flicker.drop 2).flatMap (le 2)) ++ pad 0x4000 f.emb

/-- FAMILY of the flicker detector (06 R266), from the line time in ps, the rows evaluated, FREQ in 1/16 Hz and AMPLITUDE in 1/1,024 of the
mean; pick chooses where a fundamental fits both mains families. -/
def flickerFamily (lineTime rows freq amplitude pick : Nat) : Nat :=
  let near (b : Nat) : Bool := (List.range (2000 / b)).any (fun i => let h := 16 * b * (i + 1); 50 * (max freq h - min freq h) ≤ h)
  if amplitude * 50 < 1024 || rows * lineTime * freq < 48000000000000 || 4000000000000 < freq * lineTime then 0
  else if near 100 && near 120 then 1 + pick % 2
  else if near 100 then 1 else if near 120 then 2 else 3

/-- FAMILY, CONFIDENCE, FREQ, AMPLITUDE and PHASE from the rows of a frame and of the three before it (06 R266). -/
def flickerOf (f : OpenFrame) (before : List (List (Nat × Nat × Nat))) : List Nat :=
  let rows := rowSums f ++ before.flatten
  let freq := Config.flicker rows 1 % 32001
  let amp := Config.flicker rows 2 % 1025
  [flickerFamily (spLineTime f.profile) rows.length freq amp (Config.flicker rows 4), Config.flicker rows 0 % 256, freq, amp, Config.flicker rows 3 % 65536]

/-- The raw features of a camera frame (13 R519), from its record; features of another kind are missing. noise is the record's NOISE, n the
number of the free value that rounds means. -/
def cameraFeatures (f : OpenFrame) (codes flicker zones : List Nat) (noise : Bytes) (fired : Bool) (n : Nat) : List (Option Nat) :=
  let c := lumaClass f
  let luma := validSamples f c
  let bins := binsOf luma
  let fam := nth 0 flicker 0
  let zs := (zones.drop (192 * c)).take 192
  let lo := zs.foldl min 65535
  let hi := zs.foldl max 0
  (List.range 64).map (fun i => match i with
    | 0 => some (freeMean n 2000 (luma.map (·.2.2)))
    | 1 => some (percentile bins 5) | 2 => some (percentile bins 50) | 3 => some (percentile bins 95)
    | 4 => some (share bins (bins.take 16)) | 5 => some (share bins (bins.drop 240))
    | 6 => if fld noise (32 * c + 14) 2 = 0 && (Config.freeByte n 2001).toNat % 2 = 0 then none else some (fld noise (32 * c + 12) 2)
    | 32 => some (nth 0 codes 0) | 33 => some (nth 0 codes 1) | 34 => some (nth 0 codes 2)
    | 35 => some fam | 36 => if fam = 0 then none else some (nth 0 flicker 2) | 37 => if fam = 0 then none else some (nth 0 flicker 3)
    | 38 => some (nth 0 flicker 1)
    | 39 => if spMosaic f.profile = 1 then some (freeMean n 2002 ((validSamples f 3).map (·.2.2))) else none
    | 40 => some (b2n fired)
    | 41 => some lo | 42 => some (hi - lo) | 48 => some (f.flags.toNat % 16) | _ => none)

/-- Key of a frame of a stream among a source's pulses. -/
def firedKey (sc : Nat) (n : U32) : Nat := sc * 2 ^ 32 + n.toNat

/-- STATS_COMPLETE: the record of the oldest ended frame of a source is written, its CRC last, STATS follows, and the frame's
feature set is ready (06 R234, R265; 13 R530, R531). -/
def execStatsComplete (port vc : Nat) (s : State) : Out :=
  .next (
    let src := port * 16 + vc
    match (s.source src).closed with
    | [] => s
    | f :: rest =>
      let y := s.source src
      let s := s.setSource src { y with closed := rest }
      match f.accepted with
      | none => s
      | some (sc, n) =>
        if !frameLive s sc n then s
        else
          let clip := (y.fired.find? (fun e => e.1 == firedKey sc n)).map (·.2)
          let s := s.setSource src { s.source src with fired := Tab.del y.fired (firedKey sc n) }
          let (codes, s) := exposureCodes f s
          let flicker := flickerOf f (s.stream sc).flicker
          let s := s.setStream sc { s.stream sc with flicker := (rowSums f :: (s.stream sc).flicker).take 3 }
          let (sat, s) := freeNat 2 s
          let number := s.drawn
          let zones := zoneMeans f number
          let (noise, s) := freeBytes 128 { s with drawn := number + 1 }
          let body := recordBody n f codes flicker zones noise (sat == 1) clip.isSome (clip.getD false)
          let slot := n.toNat % 8
          let s := match (s.stream sc).regions.find? (fun r => r.mem == .dram) with
            | some r => putDram (r.base + slot * 65536 + 0xFFFC) (le 4 (crc32c body).toNat) (putDram (r.base + slot * 65536) body s)
            | none => s
          let s := emit (srcSc sc) 0x0300 (le 4 n.toNat ++ le 2 ((f.exposure.map (·.esid.toNat)).getD 0) ++ le 1 slot ++ le 1 0
            ++ le 2 (recordFlags f.flags (sat == 1) clip.isSome (clip.getD false) f.embTruncated)) s
          featureSet sc n (cameraFeatures f codes flicker zones noise clip.isSome number) false s)

/-! ### Exposure windows (06 R258 to R263, R273; 04 R144, R145) -/

/-- A set may be written in the window for frame k (06 R259): its write frame F - L is not later than k. -/
def exposureDue (l : Nat) (k : U32) (e : Exposure) : Bool := !e.writing && e.landing.isNone && !later (e.target - BitVec.ofNat 32 l) k

/-- 06 R261: sets that would land no earlier than the target of a later set are superseded. -/
def supersedeList (l : Nat) (k : U32) : List Exposure → List Exposure × List (Exposure × U16)
  | [] => ([], [])
  | e :: es =>
    let w := e.target - BitVec.ofNat 32 l
    let land := (if later w k then w else k) + BitVec.ofNat 32 l
    let (keep, gone) := supersedeList l k es
    match (if !e.writing && e.landing.isNone then es.find? (fun x => !later x.target land) else none) with
    | some x => (keep, (e, x.esid) :: gone)
    | none => (e :: keep, gone)

/-- Announce and drop what is superseded in the window for the next frame. -/
def supersedeNow (sc l : Nat) (s : State) : State :=
  let x := s.stream sc
  let r := supersedeList l x.nextFrame x.exposures
  r.2.foldl (fun s e => announceSuperseded sc e.2 [e.1] s) (s.setStream sc { x with exposures := r.1 })

/-- Value of template t for a set (06 R228). -/
def templateValue (sp : Bytes) (e : Exposure) (t : Nat) : Nat :=
  let o := spTemplate t
  let v := match fld sp (o + 3) 1 with | 0 => fld sp (o + 6) 2 | 1 => e.lines | 2 => e.again | _ => e.dgain
  v / 2 ^ bits (fld sp (o + 4) 1) 0 5

/-- The bytes of template t's write: register address and data, most significant first (06 R228). -/
def templateBytes (sp : Bytes) (e : Exposure) (t : Nat) : Bytes :=
  let o := spTemplate t
  (le (if spReg16 sp then 2 else 1) (fld sp o 2)).reverse ++ (le (bits (fld sp (o + 2) 1) 0 3) (templateValue sp e t)).reverse

/-- Change the first exposure set of a stream that satisfies p. -/
def onExposure (sc : Nat) (p : Exposure → Bool) (g : Exposure → Exposure) (s : State) : State :=
  let x := s.stream sc
  match x.exposures.findIdx? p with
  | some i => s.setStream sc { x with exposures := modNth g i x.exposures }
  | none => s

/-- The write window for the next frame of a source, (opens, closes) in ns (06 R258): from the end of the last frame, or from HEIGHT lines
after its start while it has none, to GUARD_US before the predicted start. -/
def writeWindow (s : State) (src : Nat) (edge : Option Nat) : Option (Nat × Nat) :=
  let y := s.source src
  let sp := y.profile
  match predictedStart s src edge, y.starts with
  | some fs, t :: _ =>
    let late := t + spHeight sp * spLineTime sp / 1000
    let opens := match y.endedAt with | some e => if t ≤ e && y.open_.isNone then e else late | none => late
    some (opens, fs - spGuard sp * 1000)
  | some fs, [] => some (s.now, fs - spGuard sp * 1000)
  | none, _ => none

/-- The exposure set of a running stream that is to be written in the window for its next frame. -/
def dueExposure (s : State) (sc : Nat) : Option Exposure :=
  let x := s.stream sc
  if s.running && x.state == .running && !(streamProfile s sc).isEmpty && !x.exposures.any (·.writing) then
    x.exposures.find? (exposureDue (spLatency (streamProfile s sc)) x.nextFrame)
  else none

/-- Another stream's set waits for a window on the same bus that closes earlier (06 R263). -/
def earlierWindow (s : State) (sc bus close : Nat) : Bool :=
  (List.range 32).any (fun o => o != sc && spBus (streamProfile s o) == bus && (dueExposure s o).isSome
    && (match (s.stream o).route.bind (fun src => writeWindow s src (nextEdge s src)) with
        | some w => w.1 ≤ s.now && s.now < w.2 && w.2 < close
        | none => false))

/-- EXPOSURE_WRITE_WINDOW: within the window, and in the order in which the windows of a bus close, the templates of the set that is due, in
order, the commit template only if it ends before the window closes; a stuck bus takes no write (06 R258, R259, R263, R273). -/
def execExposureWriteWindow (sc : Nat) (edge : Option Nat) (s : State) : Out :=
  .next (
    let sp := streamProfile s sc
    let s := if s.running && (s.stream sc).state == .running && !sp.isEmpty then supersedeNow sc (spLatency sp) s else s
    match dueExposure s sc, (s.stream sc).route.bind (fun src => writeWindow s src edge) with
    | some e, some (opens, close) =>
      let b := s.sctl (spBus sp)
      if b.stuck || s.now < opens || earlierWindow s sc (spBus sp) close then s
      else
        let start := max s.now b.busyUntil
        let n := spCount sp
        let fits := start + exposureTime sp < close
        let m := if fits then n else n - 1
        let used := ((List.range m).map (templateTime sp)).sum
        let s := (List.range m).foldl (fun s t =>
          s.send (.sctl (spBus sp) (bits (fld sp 6 1) 0 7) (spSpeed sp) (b2n (bit (fld sp 5 1) 2)) (templateBytes sp e t) 0)) s
        let s := s.setSctl (spBus sp) { b with busyUntil := start + used }
        onExposure sc (fun y => y.esid = e.esid) (fun y => { y with writing := true, commitSent := fits }) s
    | _, _ => s)

/-- EXPOSURE_COMMIT_ACK: the set lands on k + L (06 R259, R260). -/
def execExposureCommitAck (sc : Nat) (s : State) : Out :=
  .next (
    let x := s.stream sc
    match x.exposures.find? (fun e => e.writing && e.commitSent) with
    | none => s
    | some e =>
      let land := x.nextFrame + BitVec.ofNat 32 (spLatency (streamProfile s sc))
      let s := onExposure sc (fun y => y.esid = e.esid) (fun y => { y with writing := false, landing := some land }) s
      if land = e.target then s else emit (srcSc sc) 0x0302 (le 2 e.esid.toNat ++ le 2 0 ++ le 4 e.target.toNat ++ le 4 land.toNat) s)

/-- EXPOSURE_WINDOW_CLOSE: no commit was acknowledged; after 8 windows the set is abandoned (06 R259, R262). -/
def execExposureWindowClose (sc result : Nat) (s : State) : Out :=
  .next (
    let x := s.stream sc
    let l := spLatency (streamProfile s sc)
    match (x.exposures.find? (·.writing)).orElse (fun _ => x.exposures.find? (exposureDue l x.nextFrame)) with
    | none => s
    | some e =>
      if e.attempts + 1 < 8 then
        onExposure sc (fun y => y.esid = e.esid) (fun y => { y with writing := false, commitSent := false, attempts := y.attempts + 1, lastResult := result }) s
      else
        let s := s.setStream sc { x with exposures := x.exposures.filter (fun y => y.esid ≠ e.esid) }
        emit (srcSc sc) 0x0304 (le 2 e.esid.toNat ++ le 1 result ++ le 1 0 ++ le 4 e.target.toNat) s)

/-! ### Sensor control buses (04 R150; 06 R273; 19 R772) -/

/-- SCTL_XFER_DONE: the transfer on the bus ends; its data is in host memory before COMMITTED is written, and the next one starts
(04 R150). -/
def execSctlXferDone (bus result nak : Nat) (data : Bytes) (s : State) : Out :=
  .next (
    match (s.sctl bus).xfers with
    | [] => s
    | t :: rest =>
      let s := xferData t result data (s.setSctl bus { s.sctl bus with xfers := rest, recovered := false })
      let s := committed t.ring t.tag 0x0307 .ok 0 result nak
        { s with staged := s.staged.filter (fun e => !(e.ring == t.ring && e.tag == t.tag && e.opcode = 0x0307)) }
      match rest with | u :: _ => startXfer bus u s | [] => s)

/-- SCTL_STUCK_TIMEOUT: 9 clocks and a STOP; a bus that they release gets the transfer in progress once more, one still held low is stuck
(06 R273, 19 R772). -/
def execSctlStuckTimeout (bus : Nat) (sda scl released : Bool) (s : State) : Out :=
  .next (
    let b := s.sctl bus
    let s := s.send (.recovery bus)
    if released then
      match b.xfers with
      | t :: _ => if b.recovered then s else startXfer bus t (s.setSctl bus { b with recovered := true })
      | [] => s.setSctl bus { b with recovered := true }
    else portFault srcPorts 0x20 (10 + bus) 0 (b2n sda + 2 * b2n scl) true (s.setSctl bus { b with stuck := true }))

/-- SCTL_BUS_RECOVERED: both lines have read high for 1 ms (15 R619). -/
def execSctlBusRecovered (bus : Nat) (s : State) : Out :=
  .next (if (s.sctl bus).stuck then portRecovered srcPorts (10 + bus) (s.setSctl bus { s.sctl bus with stuck := false }) else s)

/-! ### IRLED (06 R267 to R270; 19 R769) -/

/-- The exposure set in force on frame k of a stream. -/
def exposureOn (x : Stream) (k : U32) : Option Exposure :=
  match (x.exposures.filter (fun e => match e.landing with | some l => !later l k | none => false)).getLast? with
  | some e => some e
  | none => x.landed

/-- The pulse window of a frame with a predicted start, ns, and whether it is clipped; none when it is empty (06 R267, R269). -/
def pulseWindow (sp : Bytes) (lines duty period fs : Nat) : Option (Int × Int × Bool) :=
  let lt := spLineTime sp
  let rowEnd (r : Nat) : Int := (fs : Int) + signed 32 (fld sp 36 4) + (r * lt / 1000 : Nat)
  let rowStart (r : Nat) : Int := rowEnd r - (lines * lt / 1000 : Nat)
  let h := spHeight sp - 1
  let a := if bit (fld sp 4 1) 4 then rowStart 0 else rowStart h
  let b := if bit (fld sp 4 1) 4 then rowEnd h else rowEnd 0
  let most : Int := (period * duty / 100 : Nat)
  if b ≤ a then none
  else if most < b - a then let cut := (b - a - most) / 2; some (a + cut, a + cut + most, true)
  else some (a, b, false)

/-- The frame whose pulse is due now on a channel, its end and whether it is clipped: the next frame's or that of the frame being
received. -/
def pulseDue (s : State) (c : IrLed) : Option (U32 × Int × Bool) :=
  match feeds s c.source with
  | none => none
  | some sc =>
    let x := s.stream sc
    let src := s.source c.source
    let sp := src.profile
    let cand : List (U32 × Nat) :=
      ((predictedStart s c.source (nextEdge s c.source)).map (fun t => (x.nextFrame, t))).toList
        ++ (src.open_.bind (fun f => f.accepted.map (fun a => (a.2, f.predicted)))).toList
    if x.state != .running then none
    else (cand.filterMap (fun e =>
      (exposureOn x e.1).bind (fun ex =>
        if ex.irPulse then
          (pulseWindow sp ex.lines c.maxDuty (periodNs x.cfg) e.2).bind (fun w =>
            if w.1 ≤ (s.now : Int) && (s.now : Int) < w.2.1 then some (e.1, w.2.1, w.2.2) else none)
        else none))).head?

/-- IRLED_PULSE_START: a channel in mode 1 sinks its current for the frame whose window has begun (06 R267 to R269). -/
def execIrledPulseStart (channel : Nat) (s : State) : Out :=
  .next (
    let c := s.irled channel
    if c.mode = 1 && !c.faulted && c.pulse.isNone then
      match pulseDue s c with
      | none => s
      | some (k, e, clipped) =>
        let sc := (feeds s c.source).getD 0
        let s := s.setIrled channel { c with sinking := true, pulse := some (k, e.toNat), pulseFor := sc }
        let y := s.source c.source
        (s.setSource c.source { y with fired := Tab.put y.fired (firedKey sc k) clipped }).send (.pin .irled channel c.current)
    else s)

/-- IRLED_PULSE_END: the sink is off; the first pulse after IRLED_SET that ends so lets the port work again (15 R619). -/
def execIrledPulseEnd (channel : Nat) (s : State) : Out :=
  .next (
    let c := s.irled channel
    match c.pulse with
    | none => s
    | some (_, e) =>
      if e ≤ s.now then
        let s := (s.setIrled channel { c with sinking := false, pulse := none, fresh := false }).send (.pin .irled channel 0)
        if c.fresh then portRecovered srcPorts (8 + channel) s else s
      else s)

/-- IRLED_FAULT_DETECT: at 50 mA or more an open or shorted load switches the channel off (06 R270, 19 R769). -/
def execIrledFaultDetect (channel : Nat) (short : Bool) (s : State) : Out :=
  .next (
    let c := s.irled channel
    if c.sinking && 50 ≤ c.current then
      let s := (s.setIrled channel { c with sinking := false, pulse := none, faulted := true }).send (.pin .irled channel 0)
      let s := match c.pulse with
        | some (k, _) => s.setSource c.source { s.source c.source with fired := Tab.del (s.source c.source).fired (firedKey c.pulseFor k) }
        | none => s
      portFault srcPorts (if short then 0x19 else 0x18) (8 + channel) 0 0 true s
    else s)

/-! ### FSYNC (06 R271) -/

/-- An output drives its pulse. -/
def fsyncPulse (k : Nat) (s : State) : State :=
  (s.setFsync k { s.fsync k with lastEdge := s.now }).send (.pulse k (s.fsync k).pulse)

/-- FSYNC_OUT_EDGE: mode 1, at a whole multiple of the period. -/
def execFsyncOutEdge (k : Nat) (s : State) : Out :=
  .next (if (s.fsync k).mode = 1 && s.us % max 1 (s.fsync k).period = 0 then fsyncPulse k s else s)

/-- FSYNC_IN_EDGE: the edge is timestamped in mode 3, and repeated on the outputs that follow it. -/
def execFsyncInEdge (k : Nat) (s : State) : Out :=
  .next (
    let s := if (s.fsync k).stamping then s.setFsync k { s.fsync k with stamp := s.us } else s
    (List.range 4).foldl (fun s j => if (s.fsync j).mode = 2 && (s.fsync j).follow = k then fsyncPulse j s else s) s)

/-! ### Sensor power (19 R764, R765; 04 R149; 06 R274) -/

/-- The SENSOR_POWER commands that wait for the attempt complete (04 R149). -/
def powerAnswers (l : List Hdr) (s : State) : State := l.foldl (fun s h => complete h 0x0306 .ok [] s) s

/-- SENSOR_PWR_SETTLED. -/
def execSensorPwrSettled (k : Nat) (s : State) : Out :=
  .next (
    let c := s.spwr k
    if c.on && c.settling then
      powerAnswers c.cmd (portRecovered srcPorts (4 + k) (s.setSpwr k { on := true }))
    else s)

/-- SENSOR_PWR_OVERCURRENT: the switch opens; retry k starts 4 * 2^(k-1) ms later, and after the eighth it stays off. -/
def execSensorPwrOvercurrent (k : Nat) (s : State) : Out :=
  .next (
    let c := s.spwr k
    if c.on then
      let s := (s.setSpwr k { on := false, retries := c.retries, retryAt := if c.retries < 8 then some (s.now + 4000000 * 2 ^ c.retries) else none }).send (.pin .sensorPwr k 0)
      let s := if c.retries = 0 then portFault srcPorts 0x10 (4 + k) 0 0 true s
               else if 8 ≤ c.retries then portFault srcPorts 0x12 (4 + k) 0 8 true s else s
      powerAnswers c.cmd s
    else s)

/-- SENSOR_PWR_RETRY. -/
def execSensorPwrRetry (k : Nat) (s : State) : Out :=
  .next (
    let c := s.spwr k
    match c.retryAt with
    | some t => if t ≤ s.now then (s.setSpwr k { c with on := true, settling := true, retries := c.retries + 1, retryAt := none }).send (.pin .sensorPwr k 1) else s
    | none => s)

/-- SENSOR_PWR_BACKFEED: the switch opens and stays off. -/
def execSensorPwrBackfeed (k : Nat) (s : State) : Out :=
  .next (
    let c := s.spwr k
    if c.on then
      powerAnswers c.cmd (portFault srcPorts 0x11 (4 + k) 0 0 true ((s.setSpwr k {}).send (.pin .sensorPwr k 0)))
    else s)

end Sys2Proof.Machine
end

