-- ==== Sys2Proof/Machine/Dma.lean ====
section
/-! DEFINITION. Device reads of host memory that complete or fail (03 R73, R88, R90; 11 R489; 18 R727). -/
namespace Sys2Proof.Machine

/-- 03 R90: the completion timeout in ns. -/
def completionTimeout (s : State) : Nat := if s.pcie.cplTimeout = 1#4 then 90000 else 8000000

/-- A host read of a Fetcher gives up: zeros take its place and the descriptor goes on. A stream's outputs of the run are DEGRADED with one
DMA_READ_FAULT for the run; a job carries HOST_READ_FAILED (11 R489). -/
def fetchReadFailed (c id : Nat) (s : State) : State :=
  match pieceOf s c (.host id) with
  | none => s
  | some (e, p) =>
    let s := hostReadLost c (dHostBuf e.bytes) (p.far - ((hostBuffer s c (dHostBuf e.bytes)).getD (0, 0)).1) s
    pieceArrives c (.host id) [] s

/-- 03 R88 level 2: a device read gives up: the ring halts, or the command completes HOST_READ_FAILED, or zeros take the
data's place, or the boot download fails. -/
def readGivesUp (r : DmaRead) (s : State) : State :=
  match r.purpose with
  | .slot n i =>
    let s := dropSlot n i s
    let s := s.setRing n { s.ring n with halted := true }
    haltSettle n (ringFault n 2 (s.ring n).sqHead.toNat s)
  | .params n t =>
    match (s.inFlight n).find? (fun e => e.tag.toNat == t && e.phase == .paramRead) with
    | some e => complete { ring := n, tag := e.tag, crc := e.crc } e.opcode.toNat .hostReadFailed [] s
    | none => s
  | .mgmtParams t =>
    match (s.inFlight 15).find? (fun e => e.tag.toNat == t && e.phase == .paramRead) with
    | some e => complete { ring := 15, tag := e.tag, crc := e.crc } e.opcode.toNat .hostReadFailed [] s
    | none => s
  | .fetch c => fetchReadFailed c r.id s
  | .bootImage => { s with glb := { s.glb with boot := .waitHost, lastStatus := 0x0500 } }

/-- 03 R88: an attempt failed: the one retry at once, or the read gives up; a released buffer is read no more (05 R219). -/
def readFailed (r : DmaRead) (s : State) : State :=
  if r.attempt = 0 && (match r.purpose with | .fetch c => hostLive s c | _ => true) then
    { s.send (.hostRead r.id r.addr r.len) with
      reads := s.reads.map (fun x => if x.id = r.id then { x with attempt := 1, startedAt := s.now } else x) }
  else readGivesUp r { s with reads := s.reads.filter (fun x => x.id != r.id) }

/-- 03 R73: the parameter buffer has arrived: PARAM_CRC, then the command is ready. -/
def paramsArrived (ring tag : Nat) (b : Bytes) (s : State) : State :=
  match (s.inFlight ring).find? (fun e => e.tag.toNat == tag && e.phase == .paramRead) with
  | none => s
  | some e =>
    if crc32c b = e.paramCrc then
      s.setInFlight ring ((s.inFlight ring).map (fun x => if x.tag = e.tag && x.phase == .paramRead then
        { x with phase := .ready, params := b } else x))
    else complete { ring := ring, tag := e.tag, crc := e.crc } e.opcode.toNat .badParamCrc [] s

/-- 03 R88: a completion for a device read: its data, or an error or poisoned completion (18 R727), which fails the
attempt. The data of a boot image is judged by HOST_DOWNLOAD_DONE. -/
def execDmaReadCompletion (id : Nat) (data : Option Bytes) (s : State) : Out :=
  .next (
    match s.reads.find? (fun r => r.id == id) with
    | none => s
    | some r =>
      match data with
      | none => readFailed r s
      | some b =>
        let s := received b.length { s with reads := s.reads.filter (fun x => x.id != id) }
        match r.purpose with
        | .slot n i => slotArrived n i b s
        | .params n t => paramsArrived n t b s
        | .mgmtParams t => paramsArrived 15 t b s
        | .fetch c => pieceArrives c (.host id) b s
        | .bootImage => s)

/-- 03 R88, R90: an attempt's completion timeout expires. -/
def execDmaReadTimeout (id : Nat) (s : State) : Out :=
  .next (
    match s.reads.find? (fun r => r.id == id) with
    | none => s
    | some r => if r.startedAt + completionTimeout s ≤ s.now then readFailed r s else s)

end Sys2Proof.Machine
end

