-- ==== Sys2Proof/Machine/Fyx.lean ====
section
/-! DEFINITION. FyxLink ports (14 R556 to R571; 15 R611, R619; 19 R771): training, flits, acknowledgement, replay and credits. -/
namespace Sys2Proof.Machine

/-! ### Training (14 R557, R558, R563, R564) -/

/-- PORT_BIT of FYXk (15 R611). -/
def fyxBit (port : Nat) : Nat := 15 + port

/-- RATE of this device (14 R555). -/
def fyxRate (s : State) : Nat := bits s.glb.fyxSettings.toNat 0 2

/-- Send an ordered set with this device's position, port and RATE (14 R557). -/
def sendSet (port : Nat) (k : OsKind) (ack : Bool) (s : State) : State :=
  s.send (.blocks port (setBlocks k s.glb.packPos.toNat port (fyxRate s) ack))

/-- A port starts to look for its far end: it sends TS1 (14 R558 step 1). The scramblers run on (14 R556). -/
def startDetect (port : Nat) (s : State) : State :=
  let l := s.link port
  sendSet port .ts1 false (s.setLink port { state := .detect, since := s.now, rxSeq := l.rxSeq, txScr := l.txScr, rxScr := l.rxScr })

/-- The physical lane of each logical lane, 3 bits each (15 R611). -/
def laneDetail (lanes : List Nat) : Nat := ((List.range 8).map (fun l => lanes.idxOf l % 8 * 8 ^ l)).sum

/-- Step 3 of 14 R558: lanes in order or reversed as a whole are aligned, any other order fails (14 R563). -/
def alignLanes (port : Nat) (o : OrderedSet) (s : State) : State :=
  let l := s.link port
  let s := if o.inverted = 0 then s else portFault srcPorts 0x28 (fyxBit port) o.inverted 0 false s
  if o.lanes = List.range 8 then sendSet port .ts2 false (s.setLink port { l with aligned := true, reversed := false, inverted := o.inverted })
  else if o.lanes = (List.range 8).reverse then
    sendSet port .ts2 false (portFault srcPorts 0x29 (fyxBit port) 0xFF 0 false
      (s.setLink port { l with aligned := true, reversed := true, inverted := o.inverted }))
  else startDetect port (portFault srcPorts 0x2A (fyxBit port) 0xFF (laneDetail o.lanes) true s)

/-- Credits of an empty receiver (14 R562). -/
def fullCredits : List Nat := [32, 256, 32]

/-- Send again every flit that is not acknowledged, in order (14 R567). -/
def resend (port : Nat) (s : State) : State :=
  ((s.link port).unacked.foldl (fun s e => flitOut port e.ftype e.seq e.payload false s) s)

/-- A link reaches UP (14 R558 step 5, R567; 15 R619): after RECOVERY with its sequence and credits, and without an event. -/
def linkUp (port : Nat) (s : State) : State :=
  let l := s.link port
  if l.state == .recovery then
    pumpLink port (resend port (s.setLink port { l with state := .up, since := s.now, heardAt := s.now, progressAt := s.now, replays := 0
                                                        ts1 := 0, ts2 := 0, aligned := false, gotAck := false }))
  else
    let s := s.setLink port { state := .up, nPos := l.nPos, nPort := l.nPort, nValid := true, nRate := l.nRate, reversed := l.reversed
                              inverted := l.inverted, txScr := l.txScr, rxScr := l.rxScr, since := s.now, heardAt := s.now, progressAt := s.now, sentAt := s.now, credits := fullCredits }
    emit srcDevice 0x0700 (le 1 port ++ le 1 l.nPos ++ le 1 l.nPort) (portRecovered srcPorts (fyxBit port) s)

/-- Step 4 of 14 R558: consecutive equal TS2, and ACK in both directions; different RATEs never leave it. -/
def configSet (port : Nat) (o : OrderedSet) (s : State) : State :=
  let l := s.link port
  let same := l.ts2 != 0 && l.nPos == o.pos && l.nPort == o.port && l.nRate == o.rate
  let l := { l with ts2 := if same then l.ts2 + 1 else 1, nPos := o.pos, nPort := o.port, nRate := o.rate
                    gotAck := o.ack || (same && l.gotAck), heardAt := s.now }
  let s := s.setLink port l
  let s := if l.ts2 = 16 then sendSet port .ts2 true s else s
  if 16 ≤ l.ts2 && l.gotAck && o.rate = fyxRate s then linkUp port s else s

/-- Enter RECOVERY: steps 2 to 4 once again, sequence and credits kept (14 R567). -/
def startRecovery (port : Nat) (s : State) : State :=
  errAdd (0x1F0 + 4 * port) 1 (s.setLink port { s.link port with state := .recovery, since := s.now, ts1 := 0, ts2 := 0, aligned := false, gotAck := false })

/-- An ordered set on a link (14 R558, R567). A set that starts a training on a link that is UP takes it to RECOVERY (DEDUCED, assumption 31:
steps 2 to 4 need both ends). -/
def setArrives (port : Nat) (o : OrderedSet) (s : State) : State :=
  let l := s.link port
  match o.kind with
  | .skip => s.setLink port { l with heardAt := s.now }
  | .ts1 =>
    let s := if l.state == .up then startRecovery port s
             else if l.state == .detect then s.setLink port { l with state := .training, since := s.now, ts1 := 0, ts2 := 0, aligned := false, gotAck := false }
             else s
    let l := s.link port
    if l.aligned then s.setLink port { l with ts2 := 0, heardAt := s.now }
    else
      let s := s.setLink port { l with ts1 := l.ts1 + 1, heardAt := s.now }
      if 64 ≤ l.ts1 + 1 then alignLanes port o s else s
  | .ts2 => if l.aligned then configSet port o s else s.setLink port { l with ts1 := 0, heardAt := s.now }

/-- FYX_ORDERED_SET (14 R556 to R558). Blocks that are no ordered set are none (DEDUCED, assumption 94). -/
def execFyxOrderedSet (port : Nat) (lanes : List LaneBlock) (s : State) : Out :=
  .next (
    let l := s.link port
    if !domainOn s 31 || l.state == .disabled || l.state == .down || 4 ≤ port then s
    else match readSet lanes with
      | some o => setArrives port o s
      | none => s)

/-- FYX_TRAINING_TIMEOUT (14 R558): 1 ms after signal on all lanes the attempt fails, and step 1 starts again. -/
def execFyxTrainingTimeout (port : Nat) (s : State) : Out :=
  .next (if (s.link port).state == .training && (s.link port).since + 1000000 ≤ s.now then startDetect port s else s)

/-- FYX_DOWN_RETRY_TIMEOUT (14 R565). -/
def execFyxDownRetryTimeout (port : Nat) (s : State) : Out :=
  .next (if (s.link port).state == .down && (s.link port).since + 1000000 ≤ s.now then startDetect port s else s)

/-- FYX_LANE_FAULT_DETECT (14 R564; 19 R771): the lanes that are open or shorted, none when the fault clears. The link does not come up
while a lane is at fault. -/
def execFyxLaneFaultDetect (port lanes : Nat) (short : Bool) (s : State) : Out :=
  .next (
    if !domainOn s 31 || (s.link port).state == .disabled || 4 ≤ port then s
    else if lanes = 0 then portRecovered srcPorts (fyxBit port) s
    else if !short && lanes = 0xFF then s
    else
      let s := portFault srcPorts (if short then 0x2C else 0x2B) (fyxBit port) lanes 0 true s
      if (s.link port).state == .training then startDetect port s else s)

/-! ### Flits (14 R559, R566, R567, R569) -/

/-- A flit acknowledges every flit up to its ACK_SEQ (14 R566). -/
def takeAck (port ack : Nat) (s : State) : State :=
  let l := s.link port
  if l.unacked.any (fun e => e.seq == ack) then
    s.setLink port { l with unacked := (l.unacked.dropWhile (fun e => e.seq != ack)).drop 1, progressAt := s.now, replays := 0 }
  else s

/-- Replay what is not acknowledged; the 16th replay of the same flit enters RECOVERY (14 R567). -/
def replay (port : Nat) (s : State) : State :=
  let l := s.link port
  if l.unacked.isEmpty then s
  else
    let s := errAdd (0x1E0 + 4 * port) 1 s
    let s := s.setLink port { s.link port with replays := l.replays + 1, progressAt := s.now }
    if 16 ≤ l.replays + 1 then startRecovery port s else resend port s

/-- Credits that a flit returns (14 R569), at most what the receiver's buffers hold. -/
def takeCredits (port cls n : Nat) (s : State) : State :=
  let l := s.link port
  s.setLink port { l with credits := modNth (fun v => min (nth 0 fullCredits cls) (v + n)) cls l.credits }

/-- A packet has arrived whole: its flits' credits go back in the class that it came in; one of no type of 14 R561, or of another class than its
type's, is dropped and counted. -/
def packetArrived (port cls : Nat) (k : Packet) (s : State) : State :=
  let l := s.link port
  let s := s.setLink port { l with owed := modNth (· + packetFlits k) cls l.owed }
  if cls = packetClass s k && [0x01, 0x02, 0x03, 0x04, 0x10, 0x11, 0x12, 0x13, 0x14, 0x15, 0x20, 0x21, 0x22, 0x28, 0x29, 0x2A, 0x2B, 0x2C, 0x2D, 0x30, 0x31, 0x40, 0x41, 0x42,
      0x43, 0x44, 0x48, 0x50].contains k.kind then s
  else errAdd 0x200 1 s

/-- The payload of an accepted flit (14 R559, R560): PACKET_START begins a packet, PACKET_CONT goes on with it; its last byte makes it whole. -/
def takePayload (port : Nat) (f : Flit) (s : State) : State :=
  let l := s.link port
  let b := if f.ftype = 1 then f.payload else if f.ftype = 2 && !l.rx.isEmpty then l.rx ++ f.payload else l.rx
  match readPacket b with
  | some (c, k) => packetArrived port c k (s.setLink port { l with rx := [] })
  | none => s.setLink port { l with rx := b }

/-- One NAK until the expected flit comes (14 R567). -/
def sendNak (port : Nat) (s : State) : State :=
  if (s.link port).nakSent then s else flitOut port 0 0 [] true (s.setLink port { s.link port with nakSent := true })

/-- A flit on a link that is UP (14 R559, R566, R567, R569). -/
def flitArrives (port : Nat) (f : Flit) (s : State) : State :=
  if !f.crcOk then sendNak port s
  else
    let s := s.setLink port { s.link port with heardAt := s.now }
    let s := takeCredits port f.cls f.credits (if f.ackValid then takeAck port f.ack s else s)
    let s := if f.nak then replay port s else s
    let l := s.link port
    let s := if f.ftype = 0 then s
             else if f.seq ≠ l.rxSeq then sendNak port s
             else takePayload port f (s.setLink port { l with rxSeq := (l.rxSeq + 1) % 4096, nakSent := false })
    pumpLink port s

/-- FYX_FLIT_RECEIVED (14 R556, R559, R566). What a packet does when its last flit has come is the packet's own command. -/
def execFyxFlitReceived (port : Nat) (lanes : List LaneBlock) (s : State) : Out :=
  .next (
    let l := s.link port
    if !domainOn s 31 || l.state != .up then s
    else
      let r := readBlocks l.rxScr (logicalLanes l.inverted l.reversed lanes)
      flitArrives port (readFlit r.1 r.2.1) (s.setLink port { l with rxScr := r.2.2 }))

/-- FYX_IDLE_FLIT_TIMER (14 R566): 32 flit times without sending. -/
def execFyxIdleFlitTimer (port : Nat) (s : State) : Out :=
  .next (
    if (s.link port).state == .up && (s.link port).sentAt + 32 * tFlit s / 10 ≤ s.now then flitOut port 0 0 [] false s else s)

/-- FYX_REPLAY_TIMEOUT (14 R567): 1 us without progress. -/
def execFyxReplayTimeout (port : Nat) (s : State) : Out :=
  .next (
    let l := s.link port
    if l.state == .up && !l.unacked.isEmpty && l.progressAt + 1000 ≤ s.now then replay port s else s)

end Sys2Proof.Machine
end

