-- ==== Sys2Proof/Machine/MemHw.lean ====
section
/-! DEFINITION. Memories, domains and DRAM on their own (10 R403 to R430; 11 R461, R486 to R488; 17 R660, R678, R679, R683, R684;
02 R31). -/
namespace Sys2Proof.Machine

/-! ### The scrubber (10 R426) -/

/-- The scrubber reads one row of a bank (10 R426); errors are what the read finds. IAC rows are refetched when they cannot be
corrected (12 R497). -/
def execScrubTick (memory core bank : Nat) (errors : List ScrubError) (s : State) : Out :=
  .next (
    if !s.running || Tab.get 64 s.mem.scrubInterval memory = 0 then s
    else
      let key := (memory * 16 + core) * 64 + bank
      let rows := if memory = 0 then 768 else 8192
      let s := { s with mem := { s.mem with scrubRow := Tab.put s.mem.scrubRow key ((Tab.get 0 s.mem.scrubRow key + 1) % rows) } }
      errors.foldl (fun s e =>
        if memory = 2 then iacError (e.addr / 32 * 32) e.uncorrectable e.tag s
        else if e.uncorrectable then uncorrectable (memOf memory core) e.addr 5 s
        else correctable memory core e.addr s) s)

/-! ### Fills and domains (10 R417, R421, R422, R446; 17 R660, R678, R679) -/

/-- The zero fill of an allocated unit completes (10 R417): CM units core * 12 + unit, Kennel units 1000 + unit. -/
def execUnitFillComplete (unit : Nat) (s : State) : Out :=
  .next (
    if !s.mem.filling.contains unit || (1000 ≤ unit && s.mem.kennelUp.any (fun e => e.1 == unitDomain (unit - 1000))) then s
    else
      let s := { s with mem := { s.mem with filling := s.mem.filling.filter (· != unit) } }
      if unit < 1000 then writeParams (unit / 12) (zeroFill (.cm (unit / 12)) (unit % 12 * 65536) 65536 s) else zeroFill .kennel ((unit - 1000) * 131072) 131072 s)

/-- A Kennel domain comes into use (10 R422). -/
def execKennelDomainReady (d : Nat) (s : State) : Out :=
  .next (
    match s.mem.kennelUp.find? (fun e => e.1 == d) with
    | some (_, _) => zeroFill .kennel (d * 4194304) 4194304 { s with mem := { s.mem with kennelUp := Tab.del s.mem.kennelUp d } }
    | none => s)

/-- A Kennel domain with no allocation left is powered off (10 R421). -/
def execKennelDomainPowerOff (d : Nat) (s : State) : Out :=
  .next (if domainOn s (16 + d) && !kennelUsed s d then kennelOff d s else s)

/-- A domain has finished switching on (17 R678): the IAC comes up empty, FyxLink's enabled ports start training (14 R558). -/
def execDomainPoweredUp (d : Nat) (s : State) : Out :=
  .next (
    if !(s.pwr.poweringUp.any (fun e => e.1 == d && e.2 ≤ s.now)) then s
    else
      let s := setDomain d true s
      if d = 24 then { s with iac := { s.iac with on := true, sets := [], detectors := [], fills := [] } }
      else if d = 31 then
        (List.range 4).foldl (fun s k => if bit (fyxPorts s) k then s.setLink k { state := .detect, since := s.now } else s) s
      else s)

/-- A core domain is powered off 1 s after its core left its last task (17 R679). -/
def execCoreDomainIdleTimeout (core : Nat) (s : State) : Out :=
  .next (
    match s.pwr.idleSince.find? (fun e => e.1 == core) with
    | some (_, t) => if core < 16 && (s.core core).task.isNone && t + 1000000000 ≤ s.now then coreOff core s else s
    | none => s)

/-- The OFM domain is powered off 10 ms after no stream runs or drains (17 R660). -/
def execOfmDomainIdleTimeout (s : State) : Out :=
  .next (
    match s.pwr.idleSince.find? (fun e => e.1 == 30) with
    | some (_, t) =>
      if t + 10000000 ≤ s.now && (List.range 32).all (fun i => !(runs s i || (s.stream i).state == .draining)) then
        { setDomain 30 false s with pwr := { (setDomain 30 false s).pwr with idleSince := Tab.del s.pwr.idleSince 30 } }
      else s
    | none => s)

/-- The background zero fill of freed DRAM completes (10 R446). -/
def execDramUnitFillDone (first : Nat) (s : State) : Out :=
  .next (
    match s.dram.filling.find? (fun e => e.1 == first) with
    | some e => zeroDram (e.1 * 1048576) (e.2 * 1048576) { s with dram := { s.dram with filling := s.dram.filling.filter (· != e) } }
    | none => s)

/-! ### DRAM channels (11 R487, R488; 02 R50, R55) -/

/-- A channel stops accepting transactions. -/
def execDramRetrainStart (channel : Nat) (s : State) : Out :=
  .next (
    let c := s.channel channel
    if c.up && c.retrainingSince.isNone then
      (admittedList s).foldl (fun s i => delayBy i 2 s) (s.setChannel channel { c with retrainingSince := some s.now })
    else s)

/-- Retraining ends at a data rate: DRAM_RETRAINED; a lower rate revokes every certificate. -/
def execDramRetrained (channel rate : Nat) (s : State) : Out :=
  .next (
    let c := s.channel channel
    match c.retrainingSince with
    | none => s
    | some t =>
      let lower := rate < s.dram.rate
      let s := errAdd 0x15C 1 (s.setChannel channel { c with retrainingSince := none })
      let s := emit srcDevice 0x0505 (le 1 channel ++ le 1 0 ++ le 2 rate ++ le 2 ((s.now - t) / 1000)) s
      if lower then revokeCerts 2 (fun _ => true) { s with dram := { s.dram with rate := rate } } else s)

/-- Retraining fails: the channel is down, what waits for it ends, and every certificate is revoked. -/
def execDramChannelDown (channel : Nat) (s : State) : Out :=
  .next (
    let c := s.channel channel
    if c.retrainingSince.isSome then
      let s := emit srcDevice 0x0506 (le 1 channel) (iacDropChannel channel (s.setChannel channel { up := false }))
      revokeCerts 2 (fun _ => true) (c.queue.foldl (fun s t => finishTx t 0 s) s)
    else s)

/-! ### Clocks and voltage (02 R31; 17 R671, R683, R684) -/

/-- Lowest and highest code of the band of a clock in MHz (17 R671). -/
def avsBand (f : Nat) : Nat × Nat := if f ≤ 700 then (0, 4) else if f ≤ 1000 then (2, 8) else if f ≤ 1200 then (5, 11) else (8, 15)

/-- The fastest clock among the powered core islands that are running work, 0 with none. -/
def fastest (s : State) : Nat :=
  ((List.range 16).filter (fun c => domainOn s c && (s.core c).state == .running)).foldl (fun m c => max m (s.core c).clock) 0

/-- Drive a code. -/
def driveAvs (v : Nat) (s : State) : State :=
  if v = s.pwr.avs.toNat then s else { s.send (.pin .avsVid 0 v) with pwr := { s.pwr with avs := BitVec.ofNat 4 v, avsAt := s.now } }

/-- Every 1 ms (17 R683): outside the band one step toward it; inside, by the least slack of the path monitors, in steps. -/
def execAvsTick (margin : Int) (s : State) : Out :=
  .next (
    if !s.running then s
    else
      let b := avsBand (fastest s)
      let v := s.pwr.avs.toNat
      let inside := b.1 ≤ v && v ≤ b.2
      let s := if inside then { s with pwr := { s.pwr with avsSettled := true } } else s
      if v < b.1 then driveAvs (v + 1) s
      else if b.2 < v then driveAvs (v - 1) s
      else if fastest s = 0 then (if b.1 < v then driveAvs (v - 1) s else s)
      else if margin < 1 then (if v < b.2 then driveAvs (v + 1) s else s)
      else if 2 ≤ margin then (if b.1 < v then driveAvs (v - 1) s else s)
      else s)

/-- The lowest code that a pending change of operating point needs first (17 R684). -/
def neededCode (s : State) : Nat :=
  (List.range 16).foldl (fun m c => match (s.core c).opNext with
    | some (op, _) => if (s.core c).op < op then max m (avsBand (mhz op)).1 else m
    | none => m) 0

/-- One code per 20 us before a clock rises into a higher band; the 10 us of 02 R31 count from the moment the code is reached. -/
def execAvsCodeStep (s : State) : Out :=
  .next (
    let v := s.pwr.avs.toNat
    if s.running && v < neededCode s && s.pwr.avsAt + 20000 ≤ s.now then
      let s := driveAvs (v + 1) s
      { s with cores := Tab.map (fun _ (k : Core) => match k.opNext with
          | some (op, t) => if (avsBand (mhz op)).1 = v + 1 then { k with opNext := some (op, s.now + 10000) } else { k with opNext := some (op, t) }
          | none => k) s.cores }
    else s)

/-- A core island has changed its operating point (02 R31); a raise waits for its code (17 R684). -/
def execOperatingPointChangeDone (core : Nat) (s : State) : Out :=
  .next (
    let k := s.core core
    match k.opNext with
    | some (op, _) => if k.op < op && s.pwr.avs.toNat < (avsBand (mhz op)).1 then s else s.setCore core { k with op := op, opNext := none }
    | none => s)

end Sys2Proof.Machine
end

