-- ==== Sys2Proof/Machine/Pack.lean ====
section
/-! DEFINITION. Packs (04 R162 to R165; 14 R554, R571 to R604): formation, pack operations, time, ejection, frames of pack streams, windows
across members. -/
namespace Sys2Proof.Machine

/-- This device is in a pack. -/
def inPack (s : State) : Bool := s.pack.state == .formed || s.pack.state == .degraded

/-- The device leads a pack. -/
def leads (s : State) : Bool := inPack s && s.pack.leader

/-- A follower of a pack hears its leader. -/
def follows (s : State) : Bool := inPack s && !s.pack.leader

/-- The timebase in ns (14 R581). -/
def timeNs (s : State) : Int := (s.now : Int) + s.shift

/-! ### Links and routes (14 R554, R571, R598) -/

/-- What each port of a member shows: the neighbour's position on an UP link (14 R561). -/
def portsOf (s : State) (m : Nat) : List (Option Nat) :=
  (List.range 4).map (fun k =>
    if m = s.glb.packPos.toNat then
      (if (s.link k).state == .up && (s.link k).nValid then some (s.link k).nPos else none)
    else
      let b := fld (s.member m).info (8 + k) 1
      if bit b 7 then some (bits b 0 3) else none)

/-- Links between two members, as both ends show them. -/
def linksBetween (s : State) (a b : Nat) : Nat :=
  min ((portsOf s a).filter (· == some b)).length ((portsOf s b).filter (· == some a)).length

/-- The required links of a topology, (end, end, how many) (14 R554). -/
def requiredLinks (topology : Nat) (order : List Nat) : List (Nat × Nat × Nat) :=
  let n := order.length
  let chain := (List.range (n - 1)).map (fun k => (nth 0 order k, nth 0 order (k + 1), 1))
  if topology = 0 then chain
  else if topology = 1 then (if n = 2 then [(nth 0 order 0, nth 0 order 1, 2)] else chain ++ [(nth 0 order (n - 1), nth 0 order 0, 1)])
  else (List.range 8).map (fun p => (p, p / 4 * 4 + (p % 4 + 1) % 4, 1)) ++ (List.range 4).map (fun c => (c, c + 4, 2))

/-- Pack order (14 R554). -/
def packOrder (topology members : Nat) : List Nat := if topology = 2 then [0, 1, 2, 3, 7, 6, 5, 4] else maskBits members 8

/-- Two members are joined by a required link. -/
def joined (req : List (Nat × Nat × Nat)) (a b : Nat) : Bool := req.any (fun e => (e.1 == a && e.2.1 == b) || (e.1 == b && e.2.1 == a))

/-- Members within k required links of a member. -/
def ball (req : List (Nat × Nat × Nat)) (d : Nat) : Nat → List Nat
  | 0 => [d]
  | k + 1 => (List.range 8).filter (fun x => (ball req d k).contains x || (ball req d k).any (joined req x))

/-- Hops between two members over required links. -/
def hopsBetween (req : List (Nat × Nat × Nat)) (a b : Nat) : Nat := ((List.range 8).find? (fun k => (ball req b k).contains a)).getD 8

/-- The next-hop port of a member toward each destination: on a shortest path, the lowest port (14 R571). -/
def nextHops (s : State) (req : List (Nat × Nat × Nat)) (m : Nat) : List Nat :=
  (List.range 8).map (fun d =>
    ((List.range 4).find? (fun k => match nth none (portsOf s m) k with
      | some b => joined req m b && hopsBetween req b d + 1 == hopsBetween req m d
      | none => false)).getD 0)

/-- Remaining members that a chain of links joins to the leader, after k steps (14 R598). -/
def reached (s : State) : Nat → List Nat
  | 0 => [s.pack.leaderPos]
  | k + 1 => (List.range 8).filter (fun x => bit s.pack.members x && (s.member x).state != 3
      && ((reached s k).contains x || (reached s k).any (fun y => linksBetween s x y != 0)))

/-! ### Packets in (14 R561, R571, R578) -/

/-- A packet's source is a member of this device's pack. -/
def memberOk (s : State) (p : Nat) : Bool := inPack s && bit s.pack.members p && (s.member p).state != 3

/-- A packet from a member: forwarded to its destination, dropped and counted when its source is no member, or when it is marked E and its
epoch is earlier than the receiver's. -/
def onPacket (k : Packet) (marked : Bool) (act : State → State) (s : State) : Out :=
  .next (
    if !s.running || !domainOn s 31 then s
    else if k.dst ≠ s.glb.packPos.toNat then sendFyx k.dst k s
    else if !memberOk s k.src then errAdd 0x200 1 s
    else if marked && later s.pack.epoch k.epoch then errAdd 0x204 1 s
    else act s)

/-- A packet of the formation of a pack, whose source is not yet a member. -/
def onForming (k : Packet) (act : State → State) (s : State) : Out :=
  .next (
    if !s.running || !domainOn s 31 then s
    else if k.dst ≠ s.glb.packPos.toNat then sendFyx k.dst k s
    else act s)

/-! ### Formation (04 R162; 14 R572 to R574) -/

/-- BUSY of PACK_INFO (14 R573). -/
def packBusy (s : State) : Bool :=
  s.pack.state != .single || (List.range 32).any (admitted s) || !(activeJobs s).isEmpty

/-- The 32 bytes of PACK_INFO (14 R561). -/
def infoBytes (s : State) : Bytes :=
  pad 32 (le 4 s.glb.fwVersion.toNat ++ le 1 s.glb.stepping.toNat ++ le 1 (b2n s.mem.flat) ++ le 1 (bits s.glb.fyxSettings.toNat 0 3) ++ le 1 (b2n (packBusy s))
    ++ (List.range 4).flatMap (fun k => le 1 ((s.link k).nPos + 128 * b2n ((s.link k).state == .up))))

/-- SC and PACKAGE_HASH of every stream context that is not FREE (14 R561, R573). -/
def planEntries (s : State) : List Bytes :=
  ((List.range 32).filter (fun i => (s.stream i).state != .free)).map (fun i =>
    le 1 i ++ le 3 0 ++ pad 32 ((headOf s (s.stream i).cfg.handle).drop 24))

/-- Send a packet by a port, before routes exist. -/
def sendBy (port dst kind : Nat) (tag : U16) (arg : U32) (data : Bytes) (s : State) : State :=
  let k : Packet := { kind := kind, src := s.glb.packPos.toNat, dst := dst, tag := tag, arg := arg, data := data }
  queuePacket port k (s.send (.fyx dst k))

/-- A list in parts of at most n entries; fuel is the list's length. -/
def chunks {α : Type} (n : Nat) : Nat → List α → List (List α)
  | 0, _ => []
  | f + 1, l => if l.isEmpty then [] else l.take n :: chunks n f (l.drop n)

/-- The entries of one PLAN_HASHES packet: 14 of them, fewer where MAX_PACKET holds fewer (14 R555, R561). -/
def planParts (s : State) : List (List Bytes) :=
  let l := planEntries s
  if l.isEmpty then [[]] else chunks (min 14 (maxPacket s / 36)) l.length l

/-- PACK_FORM (04 R162; 14 R572 step 1; 04 R115 for stepping A0). -/
def execPackForm (h : Hdr) (p : Bytes) (s : State) : Out :=
  let m := fld p 0 1
  let topo := fld p 1 1
  let n := popcount m 8
  command 0x0700 h p [] [(resOk p [0xFF, 0xFF, 0, 0], .reservedNonzero),
      ((n == 2 || n == 4 || n == 8) && topo ≤ 2 && (topo != 2 || n == 8) && (n != 8 || s.glb.stepping != 0xA0), .badField)]
    [((maskBits m 8).head? == some s.glb.packPos.toNat, .notLeader),
     (s.pack.state == .single && !(List.range 32).any (runs s), .badState)]
    (fun s =>
      let t := s.pack.nextTag
      let own := s.glb.packPos.toNat
      let s := { s with pack := { s.pack with state := .forming, forming := some (h, m, topo, s.now), nextTag := t + 1, table := [], duplicate := false
                                              members := m, epoch := 0, seen := (own, t.toNat, 4) :: s.pack.seen } }
      let s := markStarted h s
      (List.range 4).foldl (fun s k => if (s.link k).state == .up then sendBy k 0 0x01 t 0 [] s else s) s) s

/-- DISCOVER (14 R561, R572): forwarded once on every other UP port, and answered by the port it came by. -/
def execDiscover (port : Nat) (k : Packet) (s : State) : Out :=
  .next (
    if !s.running || !domainOn s 31 || (s.link port).state != .up then s
    else if s.pack.seen.any (fun e => e.1 == k.src && e.2.1 == k.tag.toNat) then s
    else
      let s := { s with pack := { s.pack with seen := (k.src, k.tag.toNat, port) :: s.pack.seen.filter (fun e => e.1 != k.src) } }
      let s := (List.range 4).foldl (fun s q => if q ≠ port && (s.link q).state == .up then queuePacket q k (s.send (.fyx k.dst k)) else s) s
      let s := sendBy port k.src 0x02 k.tag (BitVec.ofNat 32 (planEntries s).length) (infoBytes s) s
      (planParts s).foldl (fun s l => sendBy port k.src 0x03 k.tag (BitVec.ofNat 32 l.length) l.flatten s) s)

/-- PACK_INFO (14 R572 step 2, R574): a second one of the same position, or one of this device's own, tells two devices of one position. -/
def execPackInfo (k : Packet) (s : State) : Out :=
  onForming k (fun s =>
    if s.pack.forming.isNone then s
    else if k.src = s.glb.packPos.toNat || !(s.member k.src).info.isEmpty then { s with pack := { s.pack with duplicate := true } }
    else s.setMember k.src { s.member k.src with state := 1, info := pad 32 k.data, fw := BitVec.ofNat 32 (fld k.data 0 4) }) s

/-- PLAN_HASHES (14 R572 step 2, R573). -/
def execPlanHashes (k : Packet) (s : State) : Out :=
  onForming k (fun s =>
    if s.pack.forming.isNone || k.src = s.glb.packPos.toNat then s
    else s.setMember k.src { s.member k.src with hashes := (s.member k.src).hashes ++ k.data }) s

/-- The disagreements of a member with the leader: the bits of 04 R162, ABSENT alone for one that did not answer (14 R573). -/
def disagreement (s : State) (m : Nat) : Nat :=
  let x := s.member m
  let own := infoBytes s
  if x.info.isEmpty || fld x.info 7 1 ≠ 0 then 32
  else
    let mine := planEntries s
    let theirs := (chunks 36 x.hashes.length x.hashes)
    b2n (fld x.info 0 4 != fld own 0 4)
      + 2 * b2n (!(mine.all (fun e => theirs.contains e) && theirs.all (fun e => mine.contains e)))
      + 4 * b2n (fld x.info 5 1 != fld own 5 1)
      + 8 * b2n (fld x.info 6 1 != fld own 6 1)

/-- A device reports a neighbour of its own position, or two devices answered with one (14 R574). -/
def positionsClash (s : State) (members : List Nat) : Bool :=
  s.pack.duplicate || (List.range 4).any (fun k => (s.link k).nValid && (s.link k).nPos == s.glb.packPos.toNat)
    || members.any (fun m => m != s.glb.packPos.toNat && (portsOf s m).contains (some m))

/-- The formation ends without a pack: no device has changed state (14 R572). -/
def formFails (h : Hdr) (st : Status) (result : Bytes) (s : State) : State :=
  complete h 0x0700 st result { s with pack := { s.pack with state := .single, forming := none, table := [], members := 0, epoch := 0, order := [], nextHop := [] } }

/-- PACK_FORM_DISCOVERY_TIMEOUT (14 R572 steps 3 and 4): the leader compares, and on agreement sends FORM with epoch 1. -/
def execPackFormDiscoveryTimeout (s : State) : Out :=
  .next (
    match s.pack.forming with
    | none => s
    | some (h, m, topo, at_) =>
      if !s.running || s.now < at_ + 5000000 || s.pack.epoch != 0 then s
      else
        let own := s.glb.packPos.toNat
        let ms := maskBits m 8
        let others := ms.filter (· != own)
        let order := packOrder topo m
        let req := requiredLinks topo order
        let diff := others.map (fun p => (p, disagreement s p))
        let topoBad := req.any (fun e => linksBetween s e.1 e.2.1 < e.2.2)
        let bits_ := diff.foldl (fun a e => a ||| e.2) (if topoBad then 16 else 0)
        if positionsClash s ms then formFails h .packPosDuplicate [] s
        else if bits_ ≠ 0 then
          formFails h .packMismatch (le 4 bits_ ++ le 1 (toMask ((diff.filter (fun e => e.2 != 0)).map (·.1)))) s
        else
          let s := { s with pack := { s.pack with topology := topo, leader := true, leaderPos := own, epoch := 1, order := order, nextHop := nextHops s req own } }
          let s := s.setMember own { s.member own with state := 2, fw := s.glb.fwVersion, ackEpoch := 1, links := toMask ((List.range 4).filter (fun k => (s.link k).state == .up)) }
          others.foldl (fun s p => sendPkt p 0x04 0 (BitVec.ofNat 32 s.pack.timeout)
            (le 1 m ++ le 1 topo ++ (order ++ List.replicate (8 - order.length) 0xFF).flatMap (le 1) ++ (nextHops s req p).flatMap (le 1)) s) s)

/-- FORM (14 R572 step 4, R582): the follower joins with epoch 1 and sets its timebase to the leader's, lead, in ns. -/
def execForm (k : Packet) (lead : Nat) (s : State) : Out :=
  onForming k (fun s =>
    if s.pack.state != .single || packBusy s then s
    else
      let b := k.data
      let m := fld b 0 1
      let members := maskBits m 8
      let s := { s with
        shift := (lead : Int) - (s.now : Int)
        pack := { s.pack with
          state := .formed, leader := false, leaderPos := k.src, members := m, topology := fld b 1 1, epoch := k.epoch, timeout := k.arg.toNat, offset := 0
          order := ((b.drop 2).take 8).map (·.toNat) |>.filter (· < 8), nextHop := ((b.drop 10).take 8).map (·.toNat)
          table := members.map (fun p => (p, { state := 2, contactAt := s.now })), heardAt := s.now, ops := [], sync := none, slew := 0 } }
      prepAck k.tag .ok true s) s

/-- The pack is formed once every follower has acknowledged FORM (14 R572 step 5). -/
def settleForming (s : State) : State :=
  match s.pack.forming with
  | none => s
  | some (h, m, _, _) =>
    if s.pack.epoch = 1 && (maskBits m 8).all (fun p => (s.member p).state == 2) then
      complete h 0x0700 .ok (le 4 0 ++ le 4 0 ++ le 4 1) { s with pack := { s.pack with state := .formed, forming := none } }
    else s

/-! ### Running a command for a pack operation (14 R575 to R580) -/

/-- PACK_TIMEOUT_SET (04 R165; 14 R578). -/
def execPackTimeoutSet (h : Hdr) (p : Bytes) (s : State) : Out :=
  let us := fld p 0 4
  command 0x0703 h p [] [(128 ≤ us && us ≤ 8000, .badField)] []
    (fun s => complete h 0x0703 .ok [] { s with pack := { s.pack with timeout := us } }) s

/-- The command of an opcode of 14 R580. -/
def runOpcode (op : Nat) (h : Hdr) (p : Bytes) (s : State) : State :=
  let o : Out := match op with
    | 0x0100 => execModelLoad h p s | 0x0101 => execModelReside h p s | 0x0102 => execModelUnload h p s
    | 0x0200 => execStreamConfig h p s | 0x0201 => execStreamStart h p s | 0x0202 => execStreamStop h p s
    | 0x0203 => execStreamRelease h p s | 0x0204 => execBufferPost h p s | 0x0206 => execOutputSet h p s
    | 0x0207 => execGroupSet h p s | 0x0208 => execSetProfile h p s | 0x0603 => execProfileTableSet h p s
    | 0x0501 => execWindowOpen h p s | 0x0502 => execWindowClose h p s | 0x0503 => execScrubSet h p s
    | 0x0703 => execPackTimeoutSet h p s
    | _ => .next { s with pack := { s.pack with outcome := .badOpcode } }
  match o with | .next t => t | .fault _ => s | .refused _ => s

/-- A command under a pack operation's TAG, without a ring. -/
def innerHdr (tag : U16) : Hdr := { ring := innerRing, tag := tag }

/-- The form checks that a PREPARE's command gets before its own (14 R575 step 2; 03 R73). -/
def runInner (o : PackOp) (s : State) : State :=
  let s := { s with pack := { s.pack with outcome := .internalFault } }
  match opForm o.opcode with
  | none => { s with pack := { s.pack with outcome := .badOpcode } }
  | some f => if f.lenOk o.len then runOpcode o.opcode (innerHdr (BitVec.ofNat 16 o.id)) o.params s
              else { s with pack := { s.pack with outcome := .badLength } }

/-- Take away a pack operation. -/
def dropOp (id : Nat) (s : State) : State := { s with pack := { s.pack with ops := s.pack.ops.filter (fun o => o.id != id) } }

/-- A member holds all of a command: it checks and stages it without effect, and answers (14 R575 step 2, R576). MODEL_LOAD starts to read
host memory, and answers again at its end. -/
def stagePrepared (o : PackOp) (s : State) : State :=
  let tag : U16 := BitVec.ofNat 16 o.id
  let st := (runInner o s).pack.outcome
  if st.code ≥ 0x100 then prepAck tag st true (dropOp o.id s)
  else if o.opcode = 0x0100 then prepAck tag .pending false (runInner o s)
  else prepAck tag .ok true s

/-- PREPARE (14 R575 to R577). -/
def execPrepare (k : Packet) (s : State) : Out :=
  onPacket k true (fun s =>
    if !follows s || k.src ≠ s.pack.leaderPos then s
    else
      let part := k.data.drop 8
      let id := k.tag.toNat
      let old := s.pack.ops.find? (fun o => o.id == id && !o.complete)
      let have_ := (old.map (·.params.length)).getD 0
      if k.arg.toNat ≠ have_ then prepAck k.tag .badLength true (dropOp id s)
      else
        let o : PackOp := { id := id, epoch := k.epoch, opcode := fld k.data 0 2, params := ((old.map (·.params)).getD []) ++ part, cmd := none, first := []
                            final := [], issuedAt := s.now, complete := decide (fld k.data 2 2 ≤ have_ + part.length), len := fld k.data 2 2 }
        let s := dropOp id s
        let s := { s with pack := { s.pack with ops := s.pack.ops ++ [o] } }
        if o.complete then stagePrepared o s else s) s

/-- COMMIT (14 R575 step 3): the member runs the command; its change takes effect at the next frame boundary, or at once. -/
def execCommit (k : Packet) (s : State) : Out :=
  onPacket k true (fun s =>
    match s.pack.ops.find? (fun o => o.id == k.tag.toNat && o.complete && o.cmd.isNone) with
    | none => s
    | some o => let s := dropOp o.id s; if o.opcode = 0x0100 then s else runInner o s) s

/-- A MODEL_LOAD that an ABORT ends leaves no handle behind. -/
def undoLoad (opcode : Nat) (p : Bytes) (ring : Nat) (tag : U16) (s : State) : State :=
  let s := { s with staged := s.staged.filter (fun e => !(e.ring == ring && e.tag == tag)) }
  if opcode = 0x0100 then dropModel (fld p 0 1 % 64) s else s

/-- ABORT (14 R575 step 4). -/
def execAbort (k : Packet) (s : State) : Out :=
  onPacket k true (fun s =>
    match s.pack.ops.find? (fun o => o.id == k.tag.toNat && o.cmd.isNone) with
    | none => s
    | some o => undoLoad o.opcode o.params innerRing k.tag (dropOp o.id s)) s

/-- A status by its code (03 R106). -/
def statusOf (code : Nat) : Status :=
  ([.ok, .okReplay, .pending, .doneEmpty, .badCrc, .badOpcode, .reservedNonzero, .badLength, .badField, .badPointer, .badParamCrc, .notOnPort, .badState,
    .noResource, .tagInUse, .certOverBudget, .busyNonatomic, .shapeOverPlan, .kennelFull, .notFound, .held, .queueFull, .planMismatch, .packMismatch,
    .packNotFormed, .packMemberTimeout, .packPosDuplicate, .staleEpoch, .notLeader, .sigInvalid, .keyMismatch, .rollback, .locked, .unlockFailed,
    .hostReadFailed, .eccUncorrectable, .dramDegraded, .thermalCritical, .internalFault, .aborted].find? (fun st => st.code == code)).getD .internalFault

/-- The failing status of the lowest position (14 R575, R576). -/
def lowestFailure (l : List (Nat × Nat)) : Option Status :=
  ((List.range 8).findSome? (fun p => l.find? (fun e => e.1 == p && 0x100 ≤ e.2))).map (fun e => statusOf e.2)

/-- COMMIT or ABORT to every member (14 R575). -/
def tellMembers (kind : Nat) (o : PackOp) (arg : U32) (s : State) : State :=
  (peers s).foldl (fun s m => sendFyx m { kind := kind, src := s.glb.packPos.toNat, dst := m, tag := BitVec.ofNat 16 o.id, epoch := s.pack.epoch, arg := arg } s) s

/-- The frame that COMMIT names: the stream's next one for a change at a frame boundary, else immediate (14 R575 step 3). -/
def effectFrame (s : State) (o : PackOp) : U32 :=
  let sc := fld o.params 0 1 % 32
  if [0x0200, 0x0206, 0x0208, 0x0603].contains o.opcode && (s.stream sc).state == .running then (s.stream sc).nextFrame
  else if o.opcode = 0x0207 then (s.stream ((maskBits (fld o.params 4 4) 32).headD 0)).nextFrame
  else 0xFFFFFFFF#32

/-- A pack operation goes on as far as the answers allow (14 R575, R576). Once every member has agreed, the leader finds out whether its own
part passes before it sends COMMIT, ABORT where it does not: a stream starts only if every member's certificate passes (02 R49), and a command
that fails has no effect on any member (03 R107). -/
def settleOp (id : Nat) (s : State) : State :=
  match s.pack.ops.find? (fun o => o.id == id) with
  | none => s
  | some o =>
    match o.cmd with
    | none => s
    | some h =>
      let all (l : List (Nat × Nat)) : Bool := (peers s).all (fun p => l.any (fun e => e.1 == p))
      if !o.agreed then
        if !all o.first then s
        else match lowestFailure o.first with
        | some st => complete h o.opcode st [] (dropOp id (tellMembers 0x13 o 0 s))
        | none =>
          let s := (peers s).foldl (fun s m => s.setMember m { s.member m with missed := 0 }) s
          let ok := (runOpcode o.opcode (innerHdr h.tag) o.params s).pack.outcome.code < 0x100
          let s := if !ok then tellMembers 0x13 o 0 s else if all o.final then tellMembers 0x12 o (effectFrame s o) s else s
          let s := runOpcode o.opcode h o.params (onOp id (fun o => { o with agreed := true }) s)
          if all o.final || !ok then dropOp id s else s
      else if !all o.final then s
      else match lowestFailure o.final with
      | some st =>
        stagedOutcome h.ring h.tag o.opcode st 0 [] (undoLoad o.opcode o.params h.ring h.tag (dropOp id (tellMembers 0x13 o 0 s)))
      | none =>
        match o.outcome with
        | none => s
        | some (st, f, r) =>
          let s := dropOp id (tellMembers (if st.code < 0x100 then 0x12 else 0x13) o 0xFFFFFFFF s)
          stagedOutcome h.ring h.tag o.opcode st f r s

/-- PREP_ACK (14 R572 step 5, R575, R576). -/
def execPrepAck (k : Packet) (s : State) : Out :=
  let answer_ : Nat × Nat := (k.src, k.arg.toNat % 65536)
  let final := bit k.arg.toNat 16
  if s.pack.state == .forming then
    onForming k (fun s =>
      if s.pack.epoch = 1 && bit s.pack.members k.src then
        settleForming (s.setMember k.src { s.member k.src with state := 2, ackEpoch := k.epoch, contactAt := s.now,
                                                               links := toMask ((List.range 4).filter (fun q => (nth none (portsOf s k.src) q).isSome)) })
      else s) s
  else
    onPacket k true (fun s =>
      if !leads s then s
      else
        let s := s.setMember k.src { s.member k.src with ackEpoch := k.epoch }
        let add (l : List (Nat × Nat)) : List (Nat × Nat) := if l.any (fun e => e.1 == k.src) then l else l ++ [answer_]
        settleOp k.tag.toNat (onOp k.tag.toNat (fun o => { o with first := add o.first, final := if final then add o.final else o.final }) s)) s

/-! ### Epochs and ejection (14 R578, R579, R597 to R604) -/

/-- Streams that run on the pack. -/
def packStreams (s : State) : List Nat := (List.range 32).filter (fun i => packStream s i && admitted s i)

/-- This device leaves its pack (14 R599 step 3, R603): output stops, the pack's tasks are killed, PACK_LEFT. -/
def leavePack (cause : Nat) (s : State) : State :=
  let l := packStreams s
  let leader := s.pack.leaderPos
  let epoch := s.pack.epoch
  let s := (List.range 64).foldl (fun s i => if (s.window i).isOpen && (s.window i).kind != 0 then s.setWindow i {} else s) s
  let s := l.foldl (fun s i => killStream i s) (becomeSingle s)
  emit srcDevice 0x0703 (le 1 leader ++ le 1 cause ++ le 2 0 ++ le 4 epoch.toNat) s

/-- A remote window closes with its owner, or with every other member (14 R587). -/
def windowOrphaned (s : State) (w : Window) : Bool :=
  w.isOpen && w.kind != 0 && ((s.member w.peer).state == 3 || ((maskBits s.pack.members 8).filter (· != w.peer)).all (fun m => (s.member m).state == 3))

/-- The leader ejects one member (14 R599 steps 1 and 2; 02 R50). -/
def ejectOne (pos cause : Nat) (s : State) : State :=
  if pos = s.glb.packPos.toNat || !memberOk s pos then s
  else
    let s := announceEject pos cause (peers s) s
    let s := s.setMember pos { s.member pos with state := 3, ejectedAt := some s.now, filled := false, offSince := none }
    let s := { s with pack := { s.pack with state := .degraded } }
    let l := packStreams s
    let s := revokeCerts 3 (fun i => l.contains i && carriesBand s (s.stream i).cfg pos) s
    let s := emit srcDevice 0x0702 (le 1 pos ++ le 1 cause ++ le 2 0 ++ le 4 s.pack.epoch.toNat) s
    let s := (List.range 64).foldl (fun s i => if windowOrphaned s (s.window i) then closeWindow 4 i s else s) s
    let s := (s.tve.parts).foldl (fun s e => partHeard e.1 e.2.1 (e.2.2.headD s.glb.packPos.toNat) s) s
    let s := (s.pack.released).foldl (fun s e => releasePart e.1 e.2.1 ((maskBits e.2.2 8).headD 0) s) s
    (s.pack.ops).foldl (fun s o => settleOp o.id s) s

/-- Eject the first member that no chain of links joins to the leader, as often as there are members (14 R598). -/
def ejectUnreachable : Nat → State → State
  | 0, s => s
  | n + 1, s =>
    match (peers s).find? (fun p => !(reached s 8).contains p) with
    | some p => ejectUnreachable n (ejectOne p 4 s)
    | none => s

/-- The leader ejects a member, and after it those left without a path (14 R598, R599). -/
def ejectMember (pos cause : Nat) (s : State) : State := ejectUnreachable 8 (ejectOne pos cause s)

/-- PACK_EJECT (04 R164). -/
def execPackEject (h : Hdr) (p : Bytes) (s : State) : Out :=
  let pos := bits (fld p 0 1) 0 3
  command 0x0702 h p [] [(resOk p [0x07, 0, 0, 0], .reservedNonzero), (!(inPack s && pos == s.glb.packPos.toNat), .badField)]
    [(inPack s, .packNotFormed), (memberOk s pos, .notFound)]
    (fun s => complete h 0x0702 .ok [] (ejectMember pos 1 s)) s

/-- PACK_DISSOLVE (04 R163, R108; 14 R603). -/
def execPackDissolve (h : Hdr) (p : Bytes) (s : State) : Out :=
  command 0x0701 h p [] [] [(inPack s, .packNotFormed), (!(List.range 32).any (runs s), .badState)]
    (fun s => complete h 0x0701 .ok [] (dissolvePack (closeWindows 5 (fun w => w.isOpen && w.kind != 0) s))) s

/-- EPOCH (14 R578). -/
def execEpoch (k : Packet) (s : State) : Out :=
  onPacket k false (fun s =>
    if follows s && k.src = s.pack.leaderPos && later k.arg s.pack.epoch then
      { s with pack := { s.pack with epoch := k.arg, ops := s.pack.ops.filter (fun o => !later k.arg o.epoch) } }
    else if follows s && k.src = s.pack.leaderPos && k.arg = s.pack.epoch then s
    else errAdd 0x204 1 s) s

/-- EJECT (14 R599 steps 2 and 3): this device leaves, or another member is out and the certificates of the streams that it carried part of
are revoked (02 R50). -/
def execEject (k : Packet) (s : State) : Out :=
  onPacket k true (fun s =>
    let pos := bits k.arg.toNat 0 3
    if !follows s || k.src ≠ s.pack.leaderPos then s
    else if pos = s.glb.packPos.toNat then leavePack (bits k.arg.toNat 8 8) s
    else
      let l := packStreams s
      let s := s.setMember pos { s.member pos with state := 3 }
      let s := { s with pack := { s.pack with state := .degraded } }
      l.foldl (fun s i => let x := s.stream i
        if x.cert.state == .valid && carriesBand s x.cfg pos then s.setStream i { x with cert := { x.cert with state := .revoked, cause := 3 }, nextFloor := none, origFloor := x.cert.floorOp } else s) s) s

/-- The end of a link that is ejected when it goes DOWN: the one with more hops to the leader, else the higher position (14 R598). -/
def linkLoser (s : State) (a b : Nat) : Nat :=
  if hopsTo s a < hopsTo s b then b else if hopsTo s b < hopsTo s a then a else max a b

/-- A link between two members is DOWN (14 R598; 02 R55): it can make outputs of pack streams late. A leader ejects the loser, a follower acts
for itself. -/
def linkLost (a b : Nat) (s : State) : State :=
  let loser := linkLoser s a b
  let s := (packStreams s).foldl (fun s i => delayBy i 4 s) s
  if leads s then ejectMember loser 3 s
  else if loser = s.glb.packPos.toNat then leavePack 3 s
  else s

/-- FYX_LINK_DOWN (14 R568, R598): a flit 32 us without acknowledgement, or 32 us of silence. -/
def execFyxLinkDown (port : Nat) (s : State) : Out :=
  .next (
    let l := s.link port
    let dead := l.heardAt + 32000 ≤ s.now || (match l.unacked with | e :: _ => decide (e.firstAt + 32000 ≤ s.now) | [] => false)
    if !((l.state == .up || l.state == .recovery) && dead) then s
    else
      let s := s.setLink port { l with state := .down, since := s.now, unacked := [], queued := [], waiting := [], rx := [], nValid := false }
      let s := emit srcDevice 0x0701 (le 1 port ++ le 1 l.nPos) s
      if memberOk s l.nPos then
        let s := if follows s then sendPkt s.pack.leaderPos 0x50 0 (BitVec.ofNat 32 (1 + 256 * port)) [] s else s
        linkLost s.glb.packPos.toNat l.nPos s
      else s)

/-- MEMBER_STATUS (14 R598, R604): cause 1 with the port in ARG [15:8] (assumption 30), cause 2. From the leader, cause 2 has every member
release its buffers. -/
def execMemberStatus (k : Packet) (s : State) : Out :=
  onPacket k false (fun s =>
    let cause := bits k.arg.toNat 0 8
    if leads s then
      if cause = 2 then ejectMember k.src 6 s
      else if cause = 1 then
        let port := bits k.arg.toNat 8 8
        match nth none (portsOf s k.src) port with
        | some b =>
          let x := s.member k.src
          let info := x.info.take (8 + port) ++ le 1 (fld x.info (8 + port) 1 % 128) ++ x.info.drop (9 + port)
          linkLost k.src b (s.setMember k.src { x with info := info, links := x.links - 2 ^ port * (x.links / 2 ^ port % 2) })
        | none => s
      else s
    else if cause = 2 && k.src = s.pack.leaderPos then (packStreams s).foldl (fun s c => releaseBuffers c s) s
    else s) s

/-- PACK_TIMEOUT_EXPIRY (14 R578, R579): first answers of a pack operation are missing at its timeout. -/
def execPackTimeoutExpiry (op : Nat) (s : State) : Out :=
  .next (
    match s.pack.ops.find? (fun o => o.id == op) with
    | none => s
    | some o =>
      match o.cmd with
      | none => s
      | some h =>
        let late := (peers s).filter (fun p => !o.first.any (fun e => e.1 == p))
        if !s.running || !leads s || o.agreed || late.isEmpty || s.now < o.issuedAt + 1000 * o.limit then s
        else
          let s := complete h o.opcode .packMemberTimeout [] (dropOp op s)
          let s := { s with pack := { s.pack with epoch := s.pack.epoch + 1 } }
          let s := (peers s).foldl (fun s m => sendPkt m 0x14 0 s.pack.epoch [] s) s
          let s := (peers s).foldl (fun s m => s.setMember m { s.member m with missed := if late.contains m then (s.member m).missed + 1 else 0 }) s
          ((peers s).filter (fun m => 2 ≤ (s.member m).missed)).foldl (fun s m => ejectMember m 2 s) s)

/-- LEADER_CONTACT_TIMEOUT (14 R583). -/
def execLeaderContactTimeout (pos : Nat) (s : State) : Out :=
  .next (if s.running && leads s && memberOk s pos && (s.member pos).contactAt + 1000 * s.pack.timeout ≤ s.now then ejectMember pos 2 s else s)

/-- FOLLOWER_CONTACT_TIMEOUT (14 R583). -/
def execFollowerContactTimeout (s : State) : Out :=
  .next (if s.running && follows s && s.pack.heardAt + 1000 * s.pack.timeout ≤ s.now then leavePack 7 s else s)

/-- TIME_OFFSET_TIMEOUT (14 R582). -/
def execTimeOffsetTimeout (pos : Nat) (s : State) : Out :=
  .next (
    match (s.member pos).offSince with
    | some t => if s.running && leads s && memberOk s pos && t + 10000000 ≤ s.now then ejectMember pos 5 s else s
    | none => s)

/-- PACK_FILL_START (14 R600): one pack timeout after an ejection the leader fills the member's bands of every output that is not done, and of
every later one. -/
def execPackFillStart (pos : Nat) (s : State) : Out :=
  .next (
    match (s.member pos).ejectedAt with
    | none => s
    | some t =>
      if !s.running || !leads s || (s.member pos).filled || s.now < t + 1000 * s.pack.timeout then s
      else
        let s := s.setMember pos { s.member pos with filled := true }
        (packStreams s).foldl (fun s sc =>
          ((s.stream sc).outputs.filter (fun o => o.bound && !o.complete)).foldl (fun s o =>
            let heard := (s.pack.reports.find? (fun e => e.1 == sc && e.2.1 == o.frame && e.2.2.1 == o.phase && e.2.2.2.1 == o.desc)).map (·.2.2.2.2)
            if bit (heard.getD 0) pos then s
            else outputPart sc o.frame o.phase o.desc pos (fillPart sc o.frame o.phase o.desc s pos)) s) s)

/-! ### Time (14 R581, R582) -/

/-- TIME_SYNC_TICK (14 R581). -/
def execTimeSyncTick (s : State) : Out :=
  .next (
    if s.running && leads s then
      (peers s).foldl (fun s m => sendPkt m 0x20 0 0 (le 8 (timeNs s).toNat) (s.setMember m { s.member m with t1 := timeNs s })) s
    else s)

/-- TIME_SYNC (14 R581): the follower notes t1 and t2, and answers with t2 and t3. -/
def execTimeSync (k : Packet) (s : State) : Out :=
  onPacket k false (fun s =>
    if follows s && k.src = s.pack.leaderPos then
      let t := (timeNs s).toNat
      sendPkt k.src 0x21 0 0 (le 8 t ++ le 8 t) { s with pack := { s.pack with sync := some (t, t) } }
    else s) s

/-- The offset of 14 R581, in ns. -/
def timeOffset (t1 t2 t3 t4 : Int) : Int := ((t2 - t1) - (t4 - t3)) / 2

/-- TIME_REPLY (14 R581 to R583): the leader has heard the follower, knows its offset, and sends t1 and t4. -/
def execTimeReply (k : Packet) (s : State) : Out :=
  onPacket k false (fun s =>
    if !leads s then s
    else
      let x := s.member k.src
      let t4 := timeNs s
      let d := timeOffset x.t1 (fld k.data 0 8) (fld k.data 8 8) t4
      let far := d < -1000 || 1000 < d
      let s := s.setMember k.src { x with contactAt := s.now, offset := d, offSince := if far then some (x.offSince.getD s.now) else none }
      sendPkt k.src 0x22 0 0 (le 8 x.t1.toNat ++ le 8 t4.toNat) s) s

/-- TIME_FOLLOW (14 R581, R582): the follower's offset, which it slews away. -/
def execTimeFollow (k : Packet) (s : State) : Out :=
  onPacket k false (fun s =>
    if follows s && k.src = s.pack.leaderPos then
      let s := { s with pack := { s.pack with heardAt := s.now } }
      match s.pack.sync with
      | some (t2, t3) =>
        let d := timeOffset (fld k.data 0 8) t2 t3 (fld k.data 8 8)
        { s with pack := { s.pack with sync := none, offset := d, slew := -d } }
      | none => s
    else s) s

/-! ### Frames of pack streams (14 R590 to R596) -/

/-- ACCEPT (14 R590): the member's frame boundary. Its frame's REPEAT is judged by the leader's Router alone, so none is judged here
(assumption 28). -/
def execAccept (k : Packet) (s : State) : Out :=
  onPacket k false (fun s =>
    let x := s.stream k.index
    let i := fld k.data 0 1
    match x.inBufs[i]? with
    | some b =>
      if followsPack s k.index && x.state == .running then
        acceptFrame k.index (some b) none x.esid 0 0 (s.setStream k.index { x with inBufs := x.inBufs.take i ++ x.inBufs.drop (i + 1), nextFrame := k.arg })
      else s
    | none => s) s

/-- BIND_REQ (14 R593). -/
def execBindReq (k : Packet) (s : State) : Out :=
  onPacket k false (fun s => if leads s && packStream s k.index then bindOutput k.index k.arg (fld k.data 0 1) (fld k.data 1 1) s else s) s

/-- BIND (14 R593): the buffer at the queue position, or the output is discarded. -/
def execBind (k : Packet) (s : State) : Out :=
  onPacket k false (fun s =>
    let sc := k.index
    let ph := fld k.data 0 1
    let d := fld k.data 1 1
    let i := fld k.data 2 1
    if !followsPack s sc then s
    else
      let s := { s with pack := { s.pack with bindAsked := s.pack.bindAsked.filter (fun e => e != (sc, k.arg, ph, d)) } }
      let x := s.stream sc
      let q := Tab.get [] x.outBufs d
      if i = 0xFF then afterOutputs sc (s.setStream sc (x.dropOutput k.arg ph d))
      else match q[i]? with
      | some b =>
        let x := { x with outBufs := Tab.put x.outBufs d (q.take i ++ q.drop (i + 1)) }
        s.setStream sc (x.onOutput k.arg ph d (fun o => { o with bound := true, buf := some b }))
      | none => s) s

/-- BAND_REPORT (14 R594): an input frame released, or a member's bands of an output written. -/
def execBandReport (k : Packet) (s : State) : Out :=
  onPacket k false (fun s =>
    let sc := k.index
    let ph := fld k.data 0 1
    let d := fld k.data 1 1
    if !leads s || !packStream s sc then s
    else if fld k.data 8 1 = 1 then releasePart sc k.arg k.src s
    else match (s.stream sc).output k.arg ph d with
    | none => s
    | some _ =>
      let x := (s.stream sc).onOutput k.arg ph d (fun o =>
        { o with flags := o.flags ||| BitVec.ofNat 16 (fld k.data 2 4), fallbackBands := o.fallbackBands + fld k.data 6 2 })
      outputPart sc k.arg ph d k.src (s.setStream sc x)) s

/-- The stream counter that counts the events of a code among those a follower forwards (15 R609, R616, R622). -/
def eventCounter (code : Nat) : Option SCtr :=
  match code with | 0x0102 => some .dropped | 0x0103 => some .dropped | 0x0104 => some .skipped | 0x0109 => some .gaps | 0x010B => some .deadline | 0x010C => some .halo
                  | _ => none

/-- EVENT_FWD (14 R595): a follower's event of a pack stream under that stream's source, any other under the member's. The leader's stream
counters count it (15 R622). -/
def execEventFwd (k : Packet) (s : State) : Out :=
  onPacket k false (fun s =>
    if !leads s then s
    else
      let code := fld k.data 0 2
      let inst := fld k.data 2 1
      let own := fld k.data 3 1 = 1 && packStream s inst
      let s := match eventCounter code with | some c => if own then scAdd inst c 1 s else s | none => s
      emitRaw (if own then srcSc inst else srcMember k.src) code ((k.data.drop 16).take 16) (emitLost s)) s

/-- FEATURE_PART (14 R596). -/
def execFeaturePart (k : Packet) (s : State) : Out :=
  onPacket k false (fun s => if leads s && packStream s k.index then partHeard k.index k.arg k.src s else s) s

/-- HALO_DATA (14 R591): rows into the consumer's task region. -/
def execHaloData (k : Packet) (s : State) : Out :=
  onPacket k false (fun s =>
    match (s.stream k.index).regions.find? (fun r => r.mem == .kennel) with
    | some r =>
      if packStream s k.index && k.arg.toNat + k.data.length ≤ r.len then putData .kennel (r.base + k.arg.toNat) k.data false s
      else errAdd 0x200 1 s
    | none => errAdd 0x200 1 s) s

/-- COUNTER_EXPORT (14 R591): the mirror counter. -/
def execCounterExport (k : Packet) (s : State) : Out :=
  onPacket k false (fun s =>
    match (s.stream k.index).counterBase with
    | some (base, n) =>
      if packStream s k.index && k.arg.toNat < n then
        s.setCounter (base + k.arg.toNat) (BitVec.ofNat 16 (fld k.data 0 2), BitVec.ofNat 16 (fld k.data 2 2), BitVec.ofNat 32 (fld k.data 4 4))
      else errAdd 0x200 1 s
    | none => errAdd 0x200 1 s) s

/-! ### Windows across members (14 R584 to R587; 04 R167) -/

/-- The memory and address of a window's offset on its owner, n bytes within the window (14 R584). -/
def ownedAt (s : State) (i off n : Nat) : Option (Mem × Nat) :=
  let w := s.window i
  if w.isOpen && w.kind != 0 && w.peer == s.glb.packPos.toNat && off + n ≤ w.length then
    (ownerRegion s w.ownerKind w.owner w.memory).map (fun r => (r.mem, r.base + w.offset + off))
  else none

/-- WIN_WRITE (14 R586, R587): the bytes, and WIN_ACK once they are visible; after the close they are discarded and counted. -/
def execWinWrite (k : Packet) (s : State) : Out :=
  onPacket k false (fun s =>
    match ownedAt s k.index k.arg.toNat k.data.length with
    | some (m, a) =>
      if (s.window k.index).write then sendPkt k.src 0x43 k.index (BitVec.ofNat 32 k.tag.toNat) [] (putOutside m a k.data s)
      else errAdd 0x208 1 s
    | none => errAdd 0x208 1 s) s

/-- Answer a read request under its TAG, in packets of at most MAX_PACKET (14 R555, R561). -/
def sendRead (k : Packet) (off : Nat) (b : Bytes) (s : State) : State :=
  (paramParts (maxPacket s) (b.length + 1) off b).foldl (fun s e =>
    sendFyx k.src { kind := 0x42, src := s.glb.packPos.toNat, dst := k.src, index := k.index, tag := k.tag, arg := BitVec.ofNat 32 e.1, data := e.2 } s) s

/-- WIN_READ_REQ (14 R584). A read that arrives after the close gets free bytes (assumption 30). -/
def execWinReadReq (k : Packet) (errors : List ReadError) (s : State) : Out :=
  onPacket k false (fun s =>
    let n := fld k.data 0 4
    match ownedAt s k.index k.arg.toNat n with
    | some (m, a) =>
      let (b, s) := outsideRead m a n (foundErrors none errors s)
      sendRead k k.arg.toNat b s
    | none =>
      let (b, s) := freeBytes (min n 65536) s
      sendRead k k.arg.toNat b s) s

/-- The answer of a member to a DEBUG_READ: its bytes, and after a failing one its status in ARG with bit 31 set (assumption 30). -/
def memberReadArrives (r : MemberRead) (k : Packet) (s : State) : State :=
  let rest (s : State) : State := { s with pack := { s.pack with reads := s.pack.reads.filter (fun x => x.tag != r.tag) } }
  if bit k.arg.toNat 31 then debugDone r.cmd r.dest (statusOf (k.arg.toNat % 65536)) r.data (rest s)
  else
    let d := r.data ++ k.data
    if r.len ≤ d.length then debugDone r.cmd r.dest .ok d (rest s)
    else { s with pack := { s.pack with reads := s.pack.reads.map (fun x => if x.tag = r.tag then { x with data := d } else x) } }

/-- WIN_READ_RESP (14 R561, R584): to the DEBUG_READ, the narrow load or the fetch piece that waits for its TAG. -/
def execWinReadResp (k : Packet) (s : State) : Out :=
  onPacket k false (fun s =>
    match s.pack.reads.find? (fun r => r.tag == k.tag) with
    | some r => memberReadArrives r k s
    | none =>
      match (List.range 16).find? (fun c => (s.core c).loads.any (fun l => l.tag == some k.tag && l.data.isNone)) with
      | some c =>
        let x := s.core c
        s.setCore c { x with loads := x.loads.map (fun l => if l.tag == some k.tag && l.data.isNone then { l with data := some (pad l.size k.data) } else l) }
      | none =>
        match (List.range 16).find? (fun c => (pieceOf s c (.window k.tag)).isSome) with
        | some c => pieceArrives c (.window k.tag) k.data s
        | none => s) s

/-- WIN_ACK (14 R586): a remote write is visible on its owner. -/
def execWinAck (k : Packet) (s : State) : Out :=
  onPacket k false (fun s =>
    let t : U16 := BitVec.ofNat 16 k.arg.toNat
    match (List.range 16).find? (fun c => (s.core c).remote.any (fun e => e.1 == t)) with
    | some c => settleFence c (s.setCore c { s.core c with remote := (s.core c).remote.filter (fun e => e.1 != t) })
    | none => s) s

/-- WIN_CLOSED (14 R587): from now on the range is local. -/
def execWinClosed (k : Packet) (s : State) : Out :=
  onPacket k false (fun s => let i := k.arg.toNat % 64; if (s.window i).kind = 0 then s else s.setWindow i {}) s

/-- DBG_READ (14 R561; 04 R167). -/
def execDbgRead (k : Packet) (errors : List ReadError) (s : State) : Out :=
  onPacket k false (fun s =>
    let (st, b, s) := debugBytes k.data errors s
    let s := if b.isEmpty then s else sendRead k 0 b s
    if st = .ok then s
    else sendFyx k.src { kind := 0x42, src := s.glb.packPos.toNat, dst := k.src, tag := k.tag, arg := BitVec.ofNat 32 (2 ^ 31 + st.code) } s) s

/-- WINDOW_ACK_TIMEOUT (14 R586): the wait of a FENCE.REMOTE ends, and the leader closes the windows whose acknowledgements are missing. -/
def execWindowAckTimeout (core : Nat) (s : State) : Out :=
  .next (
    let k := s.core core
    match k.wait with
    | .fenceRemote since =>
      if k.remote.isEmpty || s.now < since + 1000 * s.pack.timeout then s
      else
        let ws := (k.remote.map (·.2)).dedup
        let s := settleFence core (s.setCore core { k with remote := [] })
        if leads s then ws.foldl (fun s w => closeWindow 3 w s) s else s
    | _ => s)

end Sys2Proof.Machine
end

