-- ==== Sys2Proof/Machine/Thermal.lean ====
section
/-! DEFINITION. The thermal state (02 R50 to R53; 17 R672, R694 to R699): samples, degrade steps, recovery and the trip. -/
namespace Sys2Proof.Machine

/-- The temperatures of the sensors that read (18 R705). -/
def readings (s : State) : List Int := ((List.range 20).filter (sensorValid s)).map (sensorTemp s)

/-- A thermal event names the hottest sensor and the state (15 R609). -/
def thermalEvent (code : Nat) (s : State) : State :=
  emit srcThermal code (le 1 (hottest s) ++ le 1 (twos 8 (sensorTemp s (hottest s))) ++ le 1 s.pwr.thermal.code) s

/-- Take the samples of the sensors whose domains are powered, their peaks since Shepherd started (18 R705), and since when all of them lie
below 110 and 95 degrees. -/
def takeSamples (temps : List Int) (s : State) : State :=
  let on := (List.range 20).filter (sensorValid s)
  let t := on.foldl (fun t n => Tab.put t n (nth 0 temps n)) s.pwr.temp
  let pk := if s.glb.boot != .running then s.pwr.peak else on.foldl (fun t n => Tab.put t n (max (nth 0 temps n) (Tab.get (nth 0 temps n) t n))) s.pwr.peak
  let s := { s with pwr := { s.pwr with temp := t, peak := pk } }
  let below (d : Int) (since : Option Nat) : Option Nat := if (readings s).all (· < d) then some (since.getD s.now) else none
  { s with pwr := { s.pwr with coolSince := below 110 s.pwr.coolSince, clearSince := below 95 s.pwr.clearSince } }

/-- Entering critical (02 R52, 17 R695): every certificate is revoked and every core island capped. -/
def enterCritical (s : State) : State :=
  let s := thermalEvent 0x0203 { s with pwr := { s.pwr with thermal := .critical, degradeAt := s.now } }
  settleAlert (settleOps (revokeCerts 1 (fun _ => true) s))

/-- THERMAL_SAMPLE (17 R670, R694; 02 R51): the sensors are live from the boot ROM's start (18 R717); Shepherd acts on what they read. -/
def execThermalSample (temps : List Int) (s : State) : Out :=
  .next (
    if !s.pwr.rails || s.pwr.porst || s.pwr.tripped then s
    else
      let s := takeSamples temps s
      if !s.running then s
      else if s.pwr.thermal != .critical && (readings s).any (115 ≤ ·) then enterCritical s
      else if s.pwr.thermal == .normal && (readings s).any (100 ≤ ·) then
        settleAlert (thermalEvent 0x0202 { s with pwr := { s.pwr with thermal := .warning } })
      else s)

/-- The next level that changes something for a stream (17 R695). -/
def nextLevel (x : Stream) : Nat :=
  let l := x.level + 1
  let l := if l = 1 && !x.cfg.lowLatency then 2 else l
  if l = 2 && !interpolating x.cfg then 3 else l

/-- A stream takes a degrade level: from level 3 its cores stop, at level 4 their domains are off (17 R672). -/
def degrade (sc : Nat) (s : State) : State :=
  let x := s.stream sc
  let l := nextLevel x
  let s := s.setStream sc { x with level := l }
  let s := if 3 ≤ l then x.cores.foldl (fun s c => s.setCore c (s.core c).stopAtTile) s else s
  if l = 4 then x.cores.foldl (fun s c => let s := coreOff c s; s.setCore c { s.core c with task := some (0, sc) }) s else s

/-- THERMAL_DEGRADE_STEP: every 100 ms while a sensor reads 115 or more, the lowest-ranked stream below level 4, or with none the
active job with the lowest JOB_ID (17 R695, R696). -/
def execThermalDegradeStep (s : State) : Out :=
  .next (
    if s.running && s.pwr.thermal == .critical && (readings s).any (115 ≤ ·) && s.pwr.degradeAt + 100000000 ≤ s.now then
      let s := { s with pwr := { s.pwr with degradeAt := s.now } }
      let live := (byPriority s).filter (fun i => ((s.stream i).state == .running || (s.stream i).state == .draining) && (s.stream i).level < 4)
      match live.getLast? with
      | some i => degrade i s
      | none => match (activeJobs s).head? with
        | some j => endJob false Status.thermalCritical.code j s
        | none => s
    else s)

/-- A stream returns to level 0; cores that level 4 switched off power up again with their bounds (17 R697). -/
def undegrade (sc : Nat) (s : State) : State :=
  let x := s.stream sc
  let s := s.setStream sc { x with level := 0 }
  match planOf s x.cfg with
  | some p => if x.level = 4 then x.cores.foldl (fun s c => boundCore 0 sc x.cfg.handle x.regions x.counterBase p c s) s else s
  | none => s

/-- THERMAL_RECOVERY_TIMEOUT: 1 s below 110 degrees: warning, level 0, and re-certification in priority order (17 R694, R697; 02 R53). -/
def execThermalRecoveryTimeout (s : State) : Out :=
  .next (
    match s.pwr.coolSince with
    | some t =>
      if s.running && s.pwr.thermal == .critical && t + 1000000000 ≤ s.now then
        let s := thermalEvent 0x0204 { s with pwr := { s.pwr with thermal := .warning } }
        let s := (List.range 32).foldl (fun s i => if (s.stream i).level = 0 then s else undegrade i s) s
        settleAlert (settleOps (recertify s))
      else s
    | none => s)

/-- THERMAL_CLEAR_TIMEOUT: 1 s below 95 degrees: normal (17 R694). -/
def execThermalClearTimeout (s : State) : Out :=
  .next (
    match s.pwr.clearSince with
    | some t =>
      if s.running && s.pwr.thermal == .warning && t + 1000000000 ≤ s.now then
        settleAlert (thermalEvent 0x0204 { s with pwr := { s.pwr with thermal := .normal } })
      else s
    | none => s)

/-- THERMAL_TRIP: hardware alone holds every island but the keep domain in reset, latches TRIP and drives THERMTRIP_N; no event is
written (17 R698). -/
def execThermalTrip (sensor : Nat) (s : State) : Out :=
  .next (
    if s.pwr.rails && !s.pwr.porst && !s.pwr.tripped then
      let b := resetBase s
      let b := if s.pwr.alert then b.send (.pin .alertN 0 1) else b
      { b.send (.pin .thermtripN 0 0) with
        now := s.now
        keep := { b.keep with trip := some sensor }
        pcie := { perst := s.pcie.perst }
        pwr := { porst := false, avs := s.pwr.avs, temp := s.pwr.temp, tripped := true, thermtrip := true } }
    else s)

end Sys2Proof.Machine
end

