-- ==== Sys2Proof/Machine/Dispatch.lean ====
section
/-! DEFINITION. The dispatch: what each command does, one arm per constructor. -/
namespace Sys2Proof.Machine

/-- The effect of one command on everything but the queue. -/
def exec (i : Instr) (s : State) : Host.Outcome State Fault Refusal :=
  match i with
  | .nop h p => Sys2Proof.Machine.execNop h p s
  | .getInfo h p => Sys2Proof.Machine.execGetInfo h p s
  | .resync h p => Sys2Proof.Machine.execResync h p s
  | .powerProfile h p => Sys2Proof.Machine.execPowerProfile h p s
  | .keepRead h p => Sys2Proof.Machine.execKeepRead h p s
  | .keepWrite h p => Sys2Proof.Machine.execKeepWrite h p s
  | .faultExport h p => Sys2Proof.Machine.execFaultExport h p s
  | .fwInstall h p image => Sys2Proof.Machine.execFwInstall h p image s
  | .customerKeyProgram h p => Sys2Proof.Machine.execCustomerKeyProgram h p s
  | .deviceReset h p => Sys2Proof.Machine.execDeviceReset h p s
  | .modelLoad h p => Sys2Proof.Machine.execModelLoad h p s
  | .modelReside h p => Sys2Proof.Machine.execModelReside h p s
  | .modelUnload h p => Sys2Proof.Machine.execModelUnload h p s
  | .modelQuery h p => Sys2Proof.Machine.execModelQuery h p s
  | .streamConfig h p => Sys2Proof.Machine.execStreamConfig h p s
  | .streamStart h p => Sys2Proof.Machine.execStreamStart h p s
  | .streamStop h p => Sys2Proof.Machine.execStreamStop h p s
  | .streamRelease h p => Sys2Proof.Machine.execStreamRelease h p s
  | .bufferPost h p => Sys2Proof.Machine.execBufferPost h p s
  | .routeSet h p => Sys2Proof.Machine.execRouteSet h p s
  | .outputSet h p => Sys2Proof.Machine.execOutputSet h p s
  | .groupSet h p => Sys2Proof.Machine.execGroupSet h p s
  | .setProfile h p => Sys2Proof.Machine.execSetProfile h p s
  | .certRead h p => Sys2Proof.Machine.execCertRead h p s
  | .csiConfig h p => Sys2Proof.Machine.execCsiConfig h p s
  | .sensorProfileLoad h p => Sys2Proof.Machine.execSensorProfileLoad h p s
  | .setExposure h p => Sys2Proof.Machine.execSetExposure h p s
  | .rfeSet h p => Sys2Proof.Machine.execRfeSet h p s
  | .irledSet h p => Sys2Proof.Machine.execIrledSet h p s
  | .fsyncSet h p => Sys2Proof.Machine.execFsyncSet h p s
  | .sensorPower h p => Sys2Proof.Machine.execSensorPower h p s
  | .sctlXfer h p result nak data => Sys2Proof.Machine.execSctlXfer h p result nak data s
  | .jobSubmit h p shape => Sys2Proof.Machine.execJobSubmit h p shape s
  | .jobKill h p => Sys2Proof.Machine.execJobKill h p s
  | .memoryModeSet h p => Sys2Proof.Machine.execMemoryModeSet h p s
  | .windowOpen h p => Sys2Proof.Machine.execWindowOpen h p s
  | .windowClose h p => Sys2Proof.Machine.execWindowClose h p s
  | .scrubSet h p => Sys2Proof.Machine.execScrubSet h p s
  | .treeLoad h p nodes roots front => Sys2Proof.Machine.execTreeLoad h p nodes roots front s
  | .treeUnload h p => Sys2Proof.Machine.execTreeUnload h p s
  | .treeBind h p => Sys2Proof.Machine.execTreeBind h p s
  | .profileTableSet h p => Sys2Proof.Machine.execProfileTableSet h p s
  | .packForm h p => Sys2Proof.Machine.execPackForm h p s
  | .packDissolve h p => Sys2Proof.Machine.execPackDissolve h p s
  | .packEject h p => Sys2Proof.Machine.execPackEject h p s
  | .packTimeoutSet h p => Sys2Proof.Machine.execPackTimeoutSet h p s
  | .countersSnapshot h p => Sys2Proof.Machine.execCountersSnapshot h p s
  | .debugRead h p errors => Sys2Proof.Machine.execDebugRead h p errors s
  | .testChallenge h p => Sys2Proof.Machine.execTestChallenge h p s
  | .testUnlock h p => Sys2Proof.Machine.execTestUnlock h p s
  | .debugLock h p => Sys2Proof.Machine.execDebugLock h p s
  | .slotFetch ring slot => Sys2Proof.Machine.execSlotFetch ring slot s
  | .ringWhistleWrite ring value => Sys2Proof.Machine.execRingWhistleWrite ring value s
  | .ringCqHeadWrite ring value => Sys2Proof.Machine.execRingCqHeadWrite ring value s
  | .evqHeadWrite value => Sys2Proof.Machine.execEvqHeadWrite value s
  | .ringEnable ring coalCount coalUsec => Sys2Proof.Machine.execRingEnable ring coalCount coalUsec s
  | .ringDisable ring => Sys2Proof.Machine.execRingDisable ring s
  | .evqEnable coalCount coalUsec => Sys2Proof.Machine.execEvqEnable coalCount coalUsec s
  | .evqDisable => Sys2Proof.Machine.execEvqDisable s
  | .evqLostRead => Sys2Proof.Machine.execEvqLostRead s
  | .glbStrayRead => Sys2Proof.Machine.execGlbStrayRead s
  | .registerWrite t value => Sys2Proof.Machine.execRegisterWrite t value s
  | .bar0StrayAccess isRead len => Sys2Proof.Machine.execBar0StrayAccess isRead len s
  | .interruptCoalesceTimeout vector => Sys2Proof.Machine.execInterruptCoalesceTimeout vector s
  | .msixUnmask w => Sys2Proof.Machine.execMsixUnmask w s
  | .commandBoundTimeout ring tag => Sys2Proof.Machine.execCommandBoundTimeout ring tag s
  | .dmaReadCompletion id data => Sys2Proof.Machine.execDmaReadCompletion id data s
  | .dmaReadTimeout id => Sys2Proof.Machine.execDmaReadTimeout id s
  | .mgmtSubmit bytes => Sys2Proof.Machine.execMgmtSubmit bytes s
  | .mgmtPoll extra reads => Sys2Proof.Machine.execMgmtPoll extra reads s
  | .mgmtRead offset count extra reads => Sys2Proof.Machine.execMgmtRead offset count extra reads s
  | .mgmtBusTimeout sda scl => Sys2Proof.Machine.execMgmtBusTimeout sda scl s
  | .pcieLinkDown => Sys2Proof.Machine.execPcieLinkDown s
  | .pcieLinkUp => Sys2Proof.Machine.execPcieLinkUp s
  | .pciePerstNAssert => Sys2Proof.Machine.execPciePerstNAssert s
  | .pciePerstNRelease => Sys2Proof.Machine.execPciePerstNRelease s
  | .flr => Sys2Proof.Machine.execFlr s
  | .busMasterEnableClear => Sys2Proof.Machine.execBusMasterEnableClear s
  | .d3hotEntry => Sys2Proof.Machine.execD3hotEntry s
  | .poisonedTlpWrite bar => Sys2Proof.Machine.execPoisonedTlpWrite bar s
  | .bar2Read offset len errors => Sys2Proof.Machine.execBar2Read offset len errors s
  | .bar2Write offset data => Sys2Proof.Machine.execBar2Write offset data s
  | .bar2StrayAccess isRead len => Sys2Proof.Machine.execBar2StrayAccess isRead len s
  | .timeNowLoRead => Sys2Proof.Machine.execTimeNowLoRead s
  | .timeCapture => Sys2Proof.Machine.execTimeCapture s
  | .keepwUserWrite word value => Sys2Proof.Machine.execKeepwUserWrite word value s
  | .keepwSetWrite word value => Sys2Proof.Machine.execKeepwSetWrite word value s
  | .keepwQueueEntry => Sys2Proof.Machine.execKeepwQueueEntry s
  | .perfLatch value => Sys2Proof.Machine.execPerfLatch value s
  | .perfLatchDone => Sys2Proof.Machine.execPerfLatchDone s
  | .glbBootGo => Sys2Proof.Machine.execGlbBootGo s
  | .hostDownloadDone image => Sys2Proof.Machine.execHostDownloadDone image s
  | .hostFrameAccept sc picture => Sys2Proof.Machine.execHostFrameAccept sc picture s
  | .csiFrameStart port vc sensorFrame corrected lost => Sys2Proof.Machine.execCsiFrameStart port vc sensorFrame corrected lost s
  | .csiFrameEnd port vc sensorFrame ecc => Sys2Proof.Machine.execCsiFrameEnd port vc sensorFrame ecc s
  | .csiLongPacket port vc dataType ecc crcOk payload => Sys2Proof.Machine.execCsiLongPacket port vc dataType ecc crcOk payload s
  | .frameEndTimeout port vc => Sys2Proof.Machine.execFrameEndTimeout port vc s
  | .csiHsBurst port started inverted order => Sys2Proof.Machine.execCsiHsBurst port started inverted order s
  | .deskewSequence port delays => Sys2Proof.Machine.execDeskewSequence port delays s
  | .deskewTimeout port => Sys2Proof.Machine.execDeskewTimeout port s
  | .clockLostTimeout port => Sys2Proof.Machine.execClockLostTimeout port s
  | .sourceLostTimeout sc => Sys2Proof.Machine.execSourceLostTimeout sc s
  | .statsComplete port vc => Sys2Proof.Machine.execStatsComplete port vc s
  | .exposureWriteWindow sc edge => Sys2Proof.Machine.execExposureWriteWindow sc edge s
  | .exposureCommitAck sc => Sys2Proof.Machine.execExposureCommitAck sc s
  | .exposureWindowClose sc result => Sys2Proof.Machine.execExposureWindowClose sc result s
  | .sctlXferDone bus result nak data => Sys2Proof.Machine.execSctlXferDone bus result nak data s
  | .sctlStuckTimeout bus sda scl released => Sys2Proof.Machine.execSctlStuckTimeout bus sda scl released s
  | .sctlBusRecovered bus => Sys2Proof.Machine.execSctlBusRecovered bus s
  | .irledPulseStart channel => Sys2Proof.Machine.execIrledPulseStart channel s
  | .irledPulseEnd channel => Sys2Proof.Machine.execIrledPulseEnd channel s
  | .irledFaultDetect channel short => Sys2Proof.Machine.execIrledFaultDetect channel short s
  | .fsyncOutEdge k => Sys2Proof.Machine.execFsyncOutEdge k s
  | .fsyncInEdge k => Sys2Proof.Machine.execFsyncInEdge k s
  | .sensorPwrSettled k => Sys2Proof.Machine.execSensorPwrSettled k s
  | .sensorPwrOvercurrent k => Sys2Proof.Machine.execSensorPwrOvercurrent k s
  | .sensorPwrRetry k => Sys2Proof.Machine.execSensorPwrRetry k s
  | .sensorPwrBackfeed k => Sys2Proof.Machine.execSensorPwrBackfeed k s
  | .tileStart core tile => Sys2Proof.Machine.execTileStart core tile s
  | .tileComplete core queue errors => Sys2Proof.Machine.execTileComplete core queue errors s
  | .scuArithmetic core op rd rs arg => Sys2Proof.Machine.execScuArithmetic core op rd rs arg s
  | .scuLoad core rd rs offset width errors => Sys2Proof.Machine.execScuLoad core rd rs offset width errors s
  | .scuLoadReturn core rd => Sys2Proof.Machine.execScuLoadReturn core rd s
  | .scuStore core rs rb offset width => Sys2Proof.Machine.execScuStore core rs rb offset width s
  | .scuBranch core cond a b offset => Sys2Proof.Machine.execScuBranch core cond a b offset s
  | .fq core rs => Sys2Proof.Machine.execFq core rs s
  | .xq core rs => Sys2Proof.Machine.execXq core rs s
  | .twait core queue rs => Sys2Proof.Machine.execTwait core queue rs s
  | .qstat core rd => Sys2Proof.Machine.execQstat core rd s
  | .fenceFull core => Sys2Proof.Machine.execFenceFull core s
  | .fenceRemote core => Sys2Proof.Machine.execFenceRemote core s
  | .csrr core rd r => Sys2Proof.Machine.execCsrr core rd r s
  | .csrw core rs r => Sys2Proof.Machine.execCsrw core rs r s
  | .evt core code => Sys2Proof.Machine.execEvt core code s
  | .done core => Sys2Proof.Machine.execDone core s
  | .trap core code => Sys2Proof.Machine.execTrap core code s
  | .fetchLoad core errors => Sys2Proof.Machine.execFetchLoad core errors s
  | .fetchStore core errors => Sys2Proof.Machine.execFetchStore core errors s
  | .fetchGather core errors => Sys2Proof.Machine.execFetchGather core errors s
  | .fetchFill core => Sys2Proof.Machine.execFetchFill core s
  | .fetchCopy core errors => Sys2Proof.Machine.execFetchCopy core errors s
  | .fetchPublish core => Sys2Proof.Machine.execFetchPublish core s
  | .fetchDescriptorComplete core index => Sys2Proof.Machine.execFetchDescriptorComplete core index s
  | .mergeEntryTimeout core => Sys2Proof.Machine.execMergeEntryTimeout core s
  | .dramTransactionComplete channel error => Sys2Proof.Machine.execDramTransactionComplete channel error s
  | .iacFillReturn id => Sys2Proof.Machine.execIacFillReturn id s
  | .haloTimeout core boundary consumer producer counter top => Sys2Proof.Machine.execHaloTimeout core boundary consumer producer counter top s
  | .jobHaloTimeout core counter top => Sys2Proof.Machine.execJobHaloTimeout core counter top s
  | .coreWatchdog core executor => Sys2Proof.Machine.execCoreWatchdog core executor s
  | .narrowWaitTimeout core reg => Sys2Proof.Machine.execNarrowWaitTimeout core reg s
  | .narrowWindowRollover core group => Sys2Proof.Machine.execNarrowWindowRollover core group s
  | .scrubTick memory core bank errors => Sys2Proof.Machine.execScrubTick memory core bank errors s
  | .unitFillComplete unit => Sys2Proof.Machine.execUnitFillComplete unit s
  | .kennelDomainReady d => Sys2Proof.Machine.execKennelDomainReady d s
  | .kennelDomainPowerOff d => Sys2Proof.Machine.execKennelDomainPowerOff d s
  | .domainPoweredUp d => Sys2Proof.Machine.execDomainPoweredUp d s
  | .coreDomainIdleTimeout core => Sys2Proof.Machine.execCoreDomainIdleTimeout core s
  | .ofmDomainIdleTimeout => Sys2Proof.Machine.execOfmDomainIdleTimeout s
  | .dramUnitFillDone first => Sys2Proof.Machine.execDramUnitFillDone first s
  | .residencyOperationStart => Sys2Proof.Machine.execResidencyOperationStart s
  | .residencyOperationDone ok => Sys2Proof.Machine.execResidencyOperationDone ok s
  | .modelLoadCopyDone handle pkg => Sys2Proof.Machine.execModelLoadCopyDone handle pkg s
  | .flashOperationDone ok => Sys2Proof.Machine.execFlashOperationDone ok s
  | .dramRetrainStart channel => Sys2Proof.Machine.execDramRetrainStart channel s
  | .dramRetrained channel rate => Sys2Proof.Machine.execDramRetrained channel rate s
  | .dramChannelDown channel => Sys2Proof.Machine.execDramChannelDown channel s
  | .operatingPointChangeDone core => Sys2Proof.Machine.execOperatingPointChangeDone core s
  | .avsTick margin => Sys2Proof.Machine.execAvsTick margin s
  | .avsCodeStep => Sys2Proof.Machine.execAvsCodeStep s
  | .outputDeadline sc frame phase desc => Sys2Proof.Machine.execOutputDeadline sc frame phase desc s
  | .tileCheck sc frame phase tile eccError errors => Sys2Proof.Machine.execTileCheck sc frame phase tile eccError errors s
  | .bandRelease sc frame phase band => Sys2Proof.Machine.execBandRelease sc frame phase band s
  | .bandReleaseDeadline sc frame phase band => Sys2Proof.Machine.execBandReleaseDeadline sc frame phase band s
  | .ofmRowWrite sc frame phase desc row => Sys2Proof.Machine.execOfmRowWrite sc frame phase desc row s
  | .outputComplete sc frame phase desc => Sys2Proof.Machine.execOutputComplete sc frame phase desc s
  | .groupWindowExpiry group => Sys2Proof.Machine.execGroupWindowExpiry group s
  | .voteStart badTrees tableError => Sys2Proof.Machine.execVoteStart badTrees tableError s
  | .voteComplete => Sys2Proof.Machine.execVoteComplete s
  | .thermalSample temps => Sys2Proof.Machine.execThermalSample temps s
  | .thermalDegradeStep => Sys2Proof.Machine.execThermalDegradeStep s
  | .thermalRecoveryTimeout => Sys2Proof.Machine.execThermalRecoveryTimeout s
  | .thermalClearTimeout => Sys2Proof.Machine.execThermalClearTimeout s
  | .thermalTrip sensor => Sys2Proof.Machine.execThermalTrip sensor s
  | .fyxOrderedSet port lanes => Sys2Proof.Machine.execFyxOrderedSet port lanes s
  | .fyxTrainingTimeout port => Sys2Proof.Machine.execFyxTrainingTimeout port s
  | .fyxFlitReceived port lanes => Sys2Proof.Machine.execFyxFlitReceived port lanes s
  | .fyxIdleFlitTimer port => Sys2Proof.Machine.execFyxIdleFlitTimer port s
  | .fyxReplayTimeout port => Sys2Proof.Machine.execFyxReplayTimeout port s
  | .fyxLinkDown port => Sys2Proof.Machine.execFyxLinkDown port s
  | .fyxDownRetryTimeout port => Sys2Proof.Machine.execFyxDownRetryTimeout port s
  | .fyxLaneFaultDetect port lanes short => Sys2Proof.Machine.execFyxLaneFaultDetect port lanes short s
  | .discover port k => Sys2Proof.Machine.execDiscover port k s
  | .packInfo k => Sys2Proof.Machine.execPackInfo k s
  | .planHashes k => Sys2Proof.Machine.execPlanHashes k s
  | .packFormDiscoveryTimeout => Sys2Proof.Machine.execPackFormDiscoveryTimeout s
  | .form k lead => Sys2Proof.Machine.execForm k lead s
  | .prepare k => Sys2Proof.Machine.execPrepare k s
  | .prepAck k => Sys2Proof.Machine.execPrepAck k s
  | .commit k => Sys2Proof.Machine.execCommit k s
  | .abort k => Sys2Proof.Machine.execAbort k s
  | .epoch k => Sys2Proof.Machine.execEpoch k s
  | .eject k => Sys2Proof.Machine.execEject k s
  | .timeSyncTick => Sys2Proof.Machine.execTimeSyncTick s
  | .timeSync k => Sys2Proof.Machine.execTimeSync k s
  | .timeReply k => Sys2Proof.Machine.execTimeReply k s
  | .timeFollow k => Sys2Proof.Machine.execTimeFollow k s
  | .accept k => Sys2Proof.Machine.execAccept k s
  | .bindReq k => Sys2Proof.Machine.execBindReq k s
  | .bind k => Sys2Proof.Machine.execBind k s
  | .bandReport k => Sys2Proof.Machine.execBandReport k s
  | .eventFwd k => Sys2Proof.Machine.execEventFwd k s
  | .featurePart k => Sys2Proof.Machine.execFeaturePart k s
  | .haloData k => Sys2Proof.Machine.execHaloData k s
  | .counterExport k => Sys2Proof.Machine.execCounterExport k s
  | .winWrite k => Sys2Proof.Machine.execWinWrite k s
  | .winReadReq k errors => Sys2Proof.Machine.execWinReadReq k errors s
  | .winReadResp k => Sys2Proof.Machine.execWinReadResp k s
  | .winAck k => Sys2Proof.Machine.execWinAck k s
  | .winClosed k => Sys2Proof.Machine.execWinClosed k s
  | .dbgRead k errors => Sys2Proof.Machine.execDbgRead k errors s
  | .memberStatus k => Sys2Proof.Machine.execMemberStatus k s
  | .packTimeoutExpiry op => Sys2Proof.Machine.execPackTimeoutExpiry op s
  | .leaderContactTimeout pos => Sys2Proof.Machine.execLeaderContactTimeout pos s
  | .followerContactTimeout => Sys2Proof.Machine.execFollowerContactTimeout s
  | .timeOffsetTimeout pos => Sys2Proof.Machine.execTimeOffsetTimeout pos s
  | .packFillStart pos => Sys2Proof.Machine.execPackFillStart pos s
  | .powerOn => Sys2Proof.Machine.execPowerOn s
  | .powerLoss => Sys2Proof.Machine.execPowerLoss s
  | .porstNAssert lowUs => Sys2Proof.Machine.execPorstNAssert lowUs s
  | .porstNRise b => Sys2Proof.Machine.execPorstNRise b s
  | .shepherdStart => Sys2Proof.Machine.execShepherdStart s
  | .shepherdWatchdog => Sys2Proof.Machine.execShepherdWatchdog s
  | .lockstepMismatch => Sys2Proof.Machine.execLockstepMismatch s
  | .rollbackProgram => Sys2Proof.Machine.execRollbackProgram s
  | .heartbeatTick => Sys2Proof.Machine.execHeartbeatTick s
  | .keepSecondsTick => Sys2Proof.Machine.execKeepSecondsTick s
  | .xtal32kLoss => Sys2Proof.Machine.execXtal32kLoss s
  | .keepSupplySwitch toIo => Sys2Proof.Machine.execKeepSupplySwitch toIo s
  | .keepDomainReset => Sys2Proof.Machine.execKeepDomainReset s
  | .vbatReversalLatch => Sys2Proof.Machine.execVbatReversalLatch s
  | .vbatValid => Sys2Proof.Machine.execVbatValid s
  | .windowAckTimeout core => Sys2Proof.Machine.execWindowAckTimeout core s
  | .scuStoreComplete core index => Sys2Proof.Machine.execScuStoreComplete core index s
  | .jtagAccess j => Sys2Proof.Machine.execJtagAccess j s
  | .d3hotExit => Sys2Proof.Machine.execD3hotExit s
  | .xtal32kRestored => Sys2Proof.Machine.execXtal32kRestored s

end Sys2Proof.Machine
end

