-- ==== Sys2Proof/Machine/Time.lean ====
section
/-! DEFINITION. What the passing of time alone does: the timebase, the cores' cycle counters, a follower's slew. Everything that happens at
an instant is a command of its own. -/
namespace Sys2Proof.Machine

/-- A core's cycles of one microsecond (08 R332; 15 R615): CYCLE and CYCLES while its domain is on, ROW_WAIT_CYCLES while a load or store
waits for a row counter. -/
def coreTick (s : State) (c : Nat) : State :=
  if !domainOn s c then s
  else
    let k := s.core c
    let s := perfAdd (0x40 * c) k.clock (s.setCore c { k with cycle := k.cycle + BitVec.ofNat 64 k.clock })
    if coreBusy s c && rowWaiting s c then perfAdd (0x40 * c + 0x38) k.clock s else s

/-- A follower slews its timebase toward zero offset by at most 200 ppm: 1 ns in 5 us (14 R582). -/
def slewTick (s : State) : State :=
  if s.pack.slew = 0 || s.now % 5000 ≠ 0 then s
  else
    let d : Int := if s.pack.slew < 0 then -1 else 1
    { s with shift := s.shift + d, pack := { s.pack with slew := s.pack.slew - d } }

/-- One microsecond passes (03 R9). -/
def tick (s : State) : State :=
  slewTick ((List.range 16).foldl coreTick (foldBytes { s with now := s.now + 1000 }))

end Sys2Proof.Machine
end

