-- ==== Sys2Proof/Safety.lean ====
section
/-! DEFINITION. The words that claims are stated in: when a host command is taken, what its completion leaves, what reporting touches, and
what no command ever changes. -/
namespace Sys2Proof

/-- The bits of OTP that only one command each can program (16 R636): the customer key hash, the rollback level, DEBUG_LOCK and the fused
remaps. -/
def Machine.Otp.fixed (o : Machine.Otp) : Option Bytes × Nat × Bool × List (Nat × Nat × Nat × Nat × Nat) :=
  (o.keyHash, o.rollback, o.debugLocked, o.fusedRemaps)

/-- What a device's fuses and silicon say (04 R114). -/
def Machine.Glb.fuses (g : Machine.Glb) : Byte × Bool × Bool × Bool := (g.stepping, g.capCamera, g.capFyx, g.gradeE)

namespace Machine

/-- The part of the state that commands leave alone: the queue, the programmed bits, the fuses. -/
def State.kept (s : State) : List Instr × (Option Bytes × Nat × Bool × List (Nat × Nat × Nat × Nat × Nat)) × (Byte × Bool × Bool × Bool) :=
  (s.pending, s.otp.fixed, s.glb.fuses)

/-- Bits that are programmed in o are programmed in o' (16 R636): a key hash stays, DEBUG_LOCK stays, the rollback level does not fall,
the fused remaps stay. -/
def Otp.le (o o' : Otp) : Prop :=
  (∀ k, o.keyHash = some k → o'.keyHash = some k) ∧ (o.debugLocked = true → o'.debugLocked = true) ∧ o.rollback ≤ o'.rollback ∧
    o'.fusedRemaps = o.fusedRemaps

/-- A host command is taken for execution: its turn in its ring has come (03 R74), no reserved bit of its slot is set (03 R73), the device
is neither in test mode (04 R168) nor a follower that must refuse it (04 R179), it does not run as a pack operation (14 R575), and it comes
from a ring, or from the management port where that accepts it (03 R99). -/
abbrev Taken (op : Nat) (h : Hdr) (p : Bytes) (s : State) : Prop :=
  canRun h s = true ∧ slotClean h s = true ∧ s.glb.testMode = false ∧ s.follower = false ∧ packLed op p s = false ∧
    (h.ring < 8 ∨ (h.ring = 15 ∧ onPort op = true))

/-- The newest entry of the duplicate window of a command's ring or port. -/
def newest (h : Hdr) (s : State) : Option WinEntry :=
  if h.ring = 15 then s.mgmt.window.head? else (s.ring h.ring).window.head?

/-- The completion record a command leaves (03 R66). -/
def recordOf (h : Hdr) (op : Nat) (st : Status) (result : Bytes) : WinEntry :=
  { tag := h.tag, crc := h.crc, record := { tag := h.tag, status := BitVec.ofNat 16 st.code, opcode := BitVec.ofNat 16 op, ring := h.ring,
                                            replay := false, result := pad 16 result } }

/-- A command has completed (03 R75, R81): its record is the newest of its duplicate window and its tag is no longer in flight. -/
def Completed (h : Hdr) (op : Nat) (st : Status) (result : Bytes) (t : State) : Prop :=
  newest h t = some (recordOf h op st result) ∧ (t.inFlight h.ring).all (fun e => e.tag != h.tag) = true

/-- The state without what reports and answers write: the event ring's progress, the fault log and the marks of R612 and R637, the rings,
the management port, the messages sent and counted, pending interrupts, and the links' queues. Two states with the same quiet state differ
in nothing else. -/
def State.quiet (s : State) : State :=
  { s with
    glb := { s.glb with memUncorrectable := false, remapExhausted := false }
    otp := { s.otp with scar := 0 }
    keep := { s.keep with log := [], newest := 0, count := 0, logTimes := [] }
    cnt := { s.cnt with tx := 0 }
    pcie := { s.pcie with pba := [] }
    rings := []
    evq := { s.evq with overflow := false, tail := 0, lost := 0, backlog := [], lostTotal := 0, lostSince := 0, lostSources := [], seqs := [],
                        unsignalled := 0, firstAt := 0 }
    mgmt := {}
    pack := { s.pack with links := [], outcome := .ok }
    sent := [] }

/-- But for the command's own ring or port, the rings and the management port are as in u. -/
def Apart (h : Hdr) (t u : State) : Prop := (∀ n, n ≠ h.ring → t.ring n = u.ring n) ∧ (h.ring ≠ 15 → t.mgmt = u.mgmt)

/-- The command goes to a next state in which it has completed with a status and result, and which otherwise is u but for reports and
answers; no other ring and no other port has changed. -/
def Answers (c : Instr) (h : Hdr) (op : Nat) (st : Status) (result : Bytes) (s u : State) : Prop :=
  ∃ t, exec c s = .next t ∧ Completed h op st result t ∧ t.quiet = u.quiet ∧ Apart h t u

/-- The staged change that a command leaves when it completes PENDING (03 R75, 04 R173). -/
def waiting (h : Hdr) (op target : Nat) (ready : Bool) (c : Change) : Staged :=
  { ring := h.ring, tag := h.tag, opcode := BitVec.ofNat 16 op, target := target, ready := ready, boundaries := 0, change := c }

/-- Data of a command has been delivered: to host memory at an address, or into the port's response buffer (04 R111). -/
def Delivered (h : Hdr) (dest : Nat) (data : Bytes) (t : State) : Prop :=
  if h.ring = 15 then t.mgmt.resp = data else Sent.host dest data ∈ t.sent

/-- As Answers, with data delivered. -/
def AnswersData (c : Instr) (h : Hdr) (op : Nat) (result : Bytes) (dest : Nat) (data : Bytes) (s u : State) : Prop :=
  ∃ t, exec c s = .next t ∧ Completed h op .ok result t ∧ Delivered h dest data t ∧ t.quiet = u.quiet ∧ Apart h t u

/-- The command goes to a next state that is u but for reports and answers. -/
def Reaches (c : Instr) (s u : State) : Prop := ∃ t, exec c s = .next t ∧ t.quiet = u.quiet

/-- Every byte memory of the device, the cores' operand buffers among them, has the canonical form. -/
def memoriesWf (s : State) : Bool :=
  memWf s.mem.kennel && memWf s.dram.bytes && s.mem.cm.all (fun e => memWf e.2) && s.cores.all (fun e => e.2.buffers.all (fun b => memWf b.2))

/-- A packet from a member of this device's pack has come to it (14 R561, R578): of a kind marked E, with an epoch not earlier than its own. -/
abbrev Heard (k : Packet) (marked : Bool) (s : State) : Prop :=
  s.running = true ∧ domainOn s 31 = true ∧ k.dst = s.glb.packPos.toNat ∧ memberOk s k.src = true ∧
    (marked = true → later s.pack.epoch k.epoch = false)

/-- One event record of a code and payload has been generated for a source since s: it is written to the event ring or waits in the backlog
(03 R79). -/
def Emitted (source code : Nat) (payload : Bytes) (t : State) : Prop :=
  (∃ e ∈ t.evq.backlog, e.source = source ∧ e.code = code ∧ e.payload = pad 16 payload) ∨
    ∃ e : Event, ∃ a p, Sent.host a (e.bytes p) ∈ t.sent ∧ e.source = source ∧ e.code = code ∧ e.payload = pad 16 payload

end Machine
end Sys2Proof
end

