-- ==== Sys2Proof/Certificates/Slice0/Obligations.lean ====
section
/-! DEFINITION. The statements for the provers: what a step does, what each family of commands does where the spec says it takes effect, what
reports and answers write, and what no command changes. -/
open Sys2Proof Sys2Proof.Machine

/-- A step runs the command at the front of the queue. For every command c and state s, a step of s with c at the front of its queue is exec of c on s with the rest of the queue. (INVENTORY.md Agents, log 77, 03 R71) -/
def Obligations.StepRunsFront : Prop :=
  ∀ (c : Instr) (cs : List Instr) (s : State), Machine.step { s with pending := c :: cs } = exec c { s with pending := cs }

/-- On an empty queue a step passes one microsecond and changes nothing that a command would. With an empty queue a step answers a next state whose timebase is 1,000 ns later (the model's choice, log 11), with the queue still empty and the streams, models, jobs, memories, DRAM, camera front and programmed OTP bits unchanged. (log 11, INVENTORY.md Timing and hazards) -/
def Obligations.StepIdleTicks : Prop :=
  ∀ s : State, s.pending = [] → ∃ t, Machine.step s = .next t ∧ t.now = s.now + 1000 ∧ t.pending = [] ∧ t.streams = s.streams ∧
    t.models = s.models ∧ t.jobs = s.jobs ∧ t.mem = s.mem ∧ t.cam = s.cam ∧ t.dram = s.dram ∧ t.otp.fixed = s.otp.fixed

/-- The system commands that report answer OK with what the spec says they report. NOP (R113), GET_INFO (R114), RESYNC (R116), KEEP_READ (R118), FAULT_EXPORT to host memory or to the port (R120) and COUNTERS_SNAPSHOT (R166), taken for execution with fields their rules allow, answer OK with the result and the data of their rules; apart from reports and answers only RESYNC and COUNTERS_SNAPSHOT change the state: SNAPSHOT_COUNT rises, the byte counters are folded. (04 R113, 04 R114, 04 R116, 04 R118, 04 R120, 04 R166, 03 R75) -/
def Obligations.SystemReportsAnswer : Prop :=
  (∀ (h : Hdr) (p : Bytes) (s : State), Taken 0x0000 h [] s → Answers (.nop h p) h 0x0000 .ok [] s s) ∧
  (∀ (h : Hdr) (p : Bytes) (s : State), Taken 0x0001 h [] s → Answers (.getInfo h p) h 0x0001 .ok (infoResult s) s s) ∧
  (∀ (h : Hdr) (p : Bytes) (s : State), Taken 0x0002 h p s → destOk h (fld p 0 8) = true → (h.ring = 15 ∨ fld p 0 8 ≠ 0) → AnswersData
      (.resync h p) h 0x0002 (le 8 s.us) (fld p 0 8) (summary h s) s { s with glb := { s.glb with snapshots := s.glb.snapshots + 1 } }) ∧
  (∀ (h : Hdr) (p : Bytes) (s : State), Taken 0x0004 h p s → resOk p ([0xFF, 0xFF, 0xFF, 0] ++ full 8) = true → fld p 0 1 ≤ 3 → fld p 1 1
      ≤ 63 → 1 ≤ fld p 2 1 → fld p 1 1 + fld p 2 1 ≤ 64 → destOk h (fld p 4 8) = true → AnswersData (.keepRead h p) h 0x0004 (le 4
      ((List.range (fld p 2 1)).flatMap (fun i => keepEntry s (fld p 0 1) (fld p 1 1 + i))).length) (fld p 4 8) ((List.range (fld p 2
      1)).flatMap (fun i => keepEntry s (fld p 0 1) (fld p 1 1 + i))) s s) ∧
  (∀ (h : Hdr) (p : Bytes) (s : State), Taken 0x0006 h [] s → resOk p ([0xFF, 0xFF, 0, 0] ++ full 8) = true → fld p 0 1 = 1 → h.ring ≠ 15
      → fld p 1 1 = 0 → destOk h (fld p 4 8) = true → s.flash.fitted = true → AnswersData (.faultExport h p) h 0x0006 (le 4 (exportBytes
      h true 0 s).length) (fld p 4 8) (exportBytes h true 0 s) s s) ∧
  (∀ (h : Hdr) (p : Bytes) (s : State), Taken 0x0006 h [] s → resOk p ([0xFF, 0xFF, 0, 0] ++ full 8) = true → fld p 0 1 = 2 → h.ring = 15
      → fld p 1 1 ≤ 1 → fld p 4 8 = 0 → AnswersData (.faultExport h p) h 0x0006 (le 4 (if fld p 1 1 = 1 then summary h s else exportBytes
      h false 0 s).length) 0 (if fld p 1 1 = 1 then summary h s else exportBytes h false 0 s) s s) ∧
  (∀ (h : Hdr) (p : Bytes) (s : State), Taken 0x0800 h p s → resOk p (full 4 ++ [7, 0, 0, 0] ++ full 8) = true → destOk h (fld p 8 8) =
      true → AnswersData (.countersSnapshot h p) h 0x0800 (le 4 (snapshot (fld p 0 4) (fld p 4 1) (foldBytes s)).length ++ le 4 0 ++ le 8
      (foldBytes s).us) (fld p 8 8) (snapshot (fld p 0 4) (fld p 4 1) (foldBytes s)) s (foldBytes s))

/-- The system commands that change settings, keys, test and debug state have the effect of their rules. POWER_PROFILE (R117), KEEP_WRITE on user registers and on settings (R119), CUSTOMER_KEY_PROGRAM (R122), TEST_CHALLENGE and TEST_UNLOCK (R168), DEBUG_LOCK (R169), taken for execution with fields and states their rules allow, answer with their status and result and leave the state of their rules, nothing else changed but reports and answers. The nonce of TEST_CHALLENGE is a free value (log 6). (04 R117, 04 R119, 04 R122, 04 R168, 04 R169, 16 R640, 16 R653, 16 R654, log 6) -/
def Obligations.SystemCommandsAct : Prop :=
  (∀ (h : Hdr) (p : Bytes) (s : State), Taken 0x0003 h p s → resOk p [0xFF, 1, 0, 0] = true → fld p 0 1 ≤ 3 → profileOverBudget s (fld p
      0 1) = false → profileBlocked s (fld p 0 1) = false → Answers (.powerProfile h p) h 0x0003 .ok (le 1 s.pwr.profile) s (if bit (fld
      p 1 1) 0 then writeSettings [(1, BitVec.ofNat 32 (fld p 0 1))] (applyProfile (fld p 0 1) s) else applyProfile (fld p 0 1) s)) ∧
  (∀ (h : Hdr) (p : Bytes) (s : State), Taken 0x0005 h p s → p.length = 4 + 4 * fld p 2 1 → resOk p ([0xFF, 0xFF, 0xFF, 0] ++ full (4 *
      fld p 2 1)) = true → fld p 0 1 = 0 → fld p 1 1 ≤ 63 → 1 ≤ fld p 2 1 → fld p 2 1 ≤ 8 → fld p 1 1 + fld p 2 1 ≤ 64 → Answers
      (.keepWrite h p) h 0x0005 .ok [] s ((keepWords p).foldl (fun s e =>
      { s with keep := { s.keep with user := Tab.put s.keep.user e.1 e.2 } }) s)) ∧
  (∀ (h : Hdr) (p : Bytes) (s : State), Taken 0x0005 h p s → p.length = 4 + 4 * fld p 2 1 → resOk p ([0xFF, 0xFF, 0xFF, 0] ++ full (4 *
      fld p 2 1)) = true → fld p 0 1 = 1 → fld p 1 1 ≤ 63 → 1 ≤ fld p 2 1 → fld p 2 1 ≤ 8 → fld p 1 1 + fld p 2 1 ≤ 64 → (keepWords
      p).all (fun e => settingOk s e.1 e.2.toNat) = true → Answers (.keepWrite h p) h 0x0005 .ok [] s (writeSettings (keepWords p) s)) ∧
  (∀ (h : Hdr) (p : Bytes) (s : State), Taken 0x0008 h p s → fld p 32 4 = 0x5345414C → s.otp.keyHash = none → s.glb.fwCustomer = some
      (p.take 32) → Answers (.customerKeyProgram h p) h 0x0008 .ok [] s { s with otp := { s.otp with keyHash := some (p.take 32) } }) ∧
  (∀ (h : Hdr) (p : Bytes) (s : State), Taken 0x0802 h [] s → s.glb.testPins = true → s.glb.challenges < 8 → Answers (.testChallenge h p)
      h 0x0802 .ok (freeBytes 16 s).1 s
      { s with drawn := s.drawn + 1, glb := { s.glb with nonce := some (freeBytes 16 s).1, challenges := s.glb.challenges + 1 } }) ∧
  (∀ (h : Hdr) (p n : Bytes) (s : State), Taken 0x0803 h p s → zeros p 64 8 = true → s.glb.nonce = some n → if Config.ecdsa
      s.glb.fwVendorKey (n ++ le 2 0x3216 ++ le 1 s.glb.stepping.toNat ++ List.replicate 13 0) (p.take 64) then Answers (.testUnlock h p)
      h 0x0803 .ok [] s (let t := clearDramTasks (clearOnChip (killAll { s with glb := { s.glb with nonce := none } }));
      { t with keep := { t.keep with user := [] }, otp := { t.otp with scar := t.otp.scar ||| 16 }, glb := { t.glb with testMode := true } })
      else Answers (.testUnlock h p) h 0x0803 .unlockFailed [] s { s with glb := { s.glb with nonce := none } }) ∧
  (∀ (h : Hdr) (p : Bytes) (s : State), Taken 0x0803 h p s → zeros p 64 8 = true → s.glb.nonce = none → Answers (.testUnlock h p) h
      0x0803 .unlockFailed [] s s) ∧
  (∀ (h : Hdr) (p : Bytes) (s : State), Taken 0x0804 h p s → fld p 0 4 = 0x4C4F434B → Answers (.debugLock h p) h 0x0804 .ok (le 1 (b2n
      s.otp.debugLocked)) s { s with otp := { s.otp with debugLocked := true } })

/-- FAULT_EXPORT to flash and FW_INSTALL queue a flash operation, which ends with their outcome. FAULT_EXPORT to flash (R120) completes PENDING, its export queued for the flash. FW_INSTALL (R121) reads the image and checks it as R646 says: where the check passes it queues the install, where the host read or the check fails nothing but reports changes. The end of a flash operation (R656) takes it off the queue, leaves the export in flash or none, writes the image where it ended well, and ends the command that waited. (04 R120, 04 R121, 16 R638, 16 R646, 16 R656, 17 R690, 17 R691) -/
def Obligations.FlashCommandsAct : Prop :=
  (∀ (h : Hdr) (p : Bytes) (s : State), Taken 0x0006 h [] s → resOk p ([0xFF, 0xFF, 0, 0] ++ full 8) = true → fld p 0 1 = 0 → fld p 1 1 =
      0 → fld p 4 8 = 0 → h.ring < 8 → s.flash.fitted = true → Answers (.faultExport h p) h 0x0006 .pending stagedResult s
      { s with flash := { s.flash with queue := s.flash.queue ++ [.export_ (exportBytes h true 0 s)] }, staged := s.staged ++ [{ ring := h.ring, tag := h.tag, opcode := 0x0006, target := 0, ready := true, boundaries := 0, change := .flash }] })
      ∧
  (∀ (h : Hdr) (p : Bytes) (image : Option Bytes) (s : State), Taken 0x0007 h p s → resOk p (full 12 ++ [1, 0, 0, 0]) = true → fld p 0 8
      % 4096 = 0 → 4096 ≤ fld p 8 4 → fld p 8 4 ≤ 8388608 → s.flash.fitted = true → h.ring < 8 → Reaches (.fwInstall h p image) s
      (match image with | some b => if verifyImage s (pad (fld p 8 4) b) (min (fld p 8 4) (directory s.flash).2) = none then { s with flash := { s.flash with queue := s.flash.queue ++ [.install (pad (fld p 8 4) b) (bit (fld p 12 1) 0)] }, staged := s.staged ++ [{ ring := h.ring, tag := h.tag, opcode := 0x0007, target := 0, ready := true, boundaries := 0, change := .flash }] } else s | none => s))
      ∧
  (∀ (ok : Bool) (b : Bytes) (rest : List FlashOp) (e : Staged) (s : State), s.flash.queue = .export_ b :: rest → portAnswers s = true →
      s.staged.find? (fun e => e.change == .flash) = some e → s.pack.ops = [] → Reaches (.flashOperationDone ok) s
      { s with flash := { s.flash with queue := rest, export_ := if ok then some b else none }, staged := s.staged.filter (· != e) }) ∧
  (∀ (ok a : Bool) (b : Bytes) (rest : List FlashOp) (e : Staged) (s : State), s.flash.queue = .install b a :: rest → portAnswers s =
      true → s.staged.find? (fun e => e.change == .flash) = some e → s.pack.ops = [] → Reaches (.flashOperationDone ok) s
      { s with flash := (if ok then installImage b a { s with flash := { s.flash with queue := rest } } else { s with flash := { s.flash with queue := rest } }).flash, staged := s.staged.filter (· != e) })

/-- The stream commands have the effect of their rules. STREAM_CONFIG on a stream that does not run (R131) and on a running one whose plan stays (shadow set); STREAM_STOP with kill, which stops the tiles and completes before the stream's end event, and STREAM_RELEASE (R133, R134); BUFFER_POST of an input and of an output buffer with nothing held (R135); CERT_READ (R140). Each, taken with fields and states its rules allow, answers OK and leaves the state of its rules. (04 R129, 04 R131, 04 R133, 04 R134, 04 R135, 04 R140, 04 R172, 05 R194, 05 R217) -/
def Obligations.StreamCommandsAct : Prop :=
  (∀ (h : Hdr) (p : Bytes) (s : State), Taken 0x0200 h p s → p.length = 64 + 32 * fld p 14 1 → resOk p (configMask (fld p 14 1)) = true →
      configForm (configOf p) = true → ratioOk (configOf p) = true → firstFail (configState (bits (fld p 0 1) 0 5) (configOf p) s) = none
      → (s.stream (bits (fld p 0 1) 0 5)).state ≠ .running → Answers (.streamConfig h p) h 0x0200 .ok (effective 0) s (configureNow (bits
      (fld p 0 1) 0 5) (configOf p) s)) ∧
  (∀ (h : Hdr) (p : Bytes) (s : State), Taken 0x0200 h p s → p.length = 64 + 32 * fld p 14 1 → resOk p (configMask (fld p 14 1)) = true →
      configForm (configOf p) = true → ratioOk (configOf p) = true → firstFail (configState (bits (fld p 0 1) 0 5) (configOf p) s) = none
      → (s.stream (bits (fld p 0 1) 0 5)).state = .running → (planOf s (configOf p)).isSome = true → planChanges (settled s (bits (fld p
      0 1) 0 5)) (configOf p) = false → certOk s (bits (fld p 0 1) 0 5) (settledWith s (bits (fld p 0 1) 0 5) (.config (configOf p))) =
      true → outstanding s (bits (fld p 0 1) 0 5) = false → changeReady s (bits (fld p 0 1) 0 5) (.config (configOf p)) = true → Answers
      (.streamConfig h p) h 0x0200 .ok (effective (s.stream (bits (fld p 0 1) 0 5)).nextFrame.toNat) s (s.setStream (bits (fld p 0 1) 0
      5) { s.stream (bits (fld p 0 1) 0 5) with shadow := (s.stream (bits (fld p 0 1) 0 5)).shadow ++ [.config (configOf p)] })) ∧
  (∀ (h : Hdr) (p : Bytes) (s : State), Taken 0x0202 h p s → resOk p [0x1F, 0xFF] = true → fld p 1 1 = 1 → ((s.stream (bits (fld p 0 1) 0
      5)).state = .running ∨ (s.stream (bits (fld p 0 1) 0 5)).state = .draining ∨ (s.stream (bits (fld p 0 1) 0 5)).state = .faulted) →
      exec (.streamStop h p) s = .next (killStream (bits (fld p 0 1) 0 5) s (complete h 0x0202 .ok [])) ∧ Completed h 0x0202 .ok []
      (killStream (bits (fld p 0 1) 0 5) s (complete h 0x0202 .ok [])) ∧ ((killStream (bits (fld p 0 1) 0 5) s
      (complete h 0x0202 .ok [])).stream (bits (fld p 0 1) 0 5)).state = .configured) ∧
  (∀ (h : Hdr) (p : Bytes) (s : State), Taken 0x0203 h p s → resOk p [0x1F] = true → (s.stream (bits (fld p 0 1) 0 5)).state =
      .configured → (s.stream (bits (fld p 0 1) 0 5)).group = none → Answers (.streamRelease h p) h 0x0203 .ok [] s ((unroute (bits (fld
      p 0 1) 0 5) (abortStaged (bits (fld p 0 1) 0 5) s)).setStream (bits (fld p 0 1) 0 5) {})) ∧
  (∀ (h : Hdr) (p : Bytes) (s : State), Taken 0x0204 h p s → resOk p ([0x1F, 0xFF, 0x07, 0] ++ full 28) = true → fld p 1 1 = 0 → bits
      (fld p 2 1) 0 3 = 0 → (bufOf p).plane0 % 256 = 0 → (bufOf p).plane1 % 256 = 0 → (bufOf p).pitch0 % 64 = 0 → (bufOf p).pitch1 % 64 =
      0 → ((s.stream (bits (fld p 0 1) 0 5)).state = .configured ∨ (s.stream (bits (fld p 0 1) 0 5)).state = .running) → (s.stream (bits
      (fld p 0 1) 0 5)).cfg.sourceKind = 1 → bufOk (bufOf p) (settled s (bits (fld p 0 1) 0 5)).cfg.inFormat (settled s (bits (fld p 0 1)
      0 5)).cfg.inW = true → (s.stream (bits (fld p 0 1) 0 5)).inBufs.length < 16 → Answers (.bufferPost h p) h 0x0204 .ok [] s
      (s.setStream (bits (fld p 0 1) 0 5)
      { s.stream (bits (fld p 0 1) 0 5) with inBufs := (s.stream (bits (fld p 0 1) 0 5)).inBufs ++ [bufOf p] })) ∧
  (∀ (h : Hdr) (p : Bytes) (s : State) (d : Desc), Taken 0x0204 h p s → resOk p ([0x1F, 0xFF, 0x07, 0] ++ full 28) = true → fld p 1 1 = 1
      → (bufOf p).plane0 % 256 = 0 → (bufOf p).plane1 % 256 = 0 → (bufOf p).pitch0 % 64 = 0 → (bufOf p).pitch1 % 64 = 0 → ((s.stream
      (bits (fld p 0 1) 0 5)).state = .configured ∨ (s.stream (bits (fld p 0 1) 0 5)).state = .running ∨ (s.stream (bits (fld p 0 1) 0
      5)).state = .draining) → Tab.get none (Tab.map (fun _ e => some e) (settled s (bits (fld p 0 1) 0 5)).cfg.descs) (bits (fld p 2 1)
      0 3) = some d → bufOk (bufOf p) d.format d.outW = true → (Tab.get [] (s.stream (bits (fld p 0 1) 0 5)).outBufs (bits (fld p 2 1) 0
      3)).length < 16 → heldOutput (s.stream (bits (fld p 0 1) 0 5)) (bits (fld p 2 1) 0 3) = none → holding (s.stream (bits (fld p 0 1)
      0 5)) (bits (fld p 2 1) 0 3) = none → Answers (.bufferPost h p) h 0x0204 .ok [] s (s.setStream (bits (fld p 0 1) 0 5)
      { s.stream (bits (fld p 0 1) 0 5) with outBufs := Tab.put (s.stream (bits (fld p 0 1) 0 5)).outBufs (bits (fld p 2 1) 0 3) (Tab.get [] (s.stream (bits (fld p 0 1) 0 5)).outBufs (bits (fld p 2 1) 0 3) ++ [bufOf p]) }))
      ∧
  (∀ (h : Hdr) (p : Bytes) (s : State), Taken 0x0209 h p s → resOk p ([0x1F, 0, 0, 0] ++ full 8) = true → destOk h (fld p 4 8) = true →
      AnswersData (.certRead h p) h 0x0209 [] (fld p 4 8) (certBytes (bits (fld p 0 1) 0 5) (s.stream (bits (fld p 0 1) 0 5)).cert) s s)

/-- Changes of a running stream wait in its shadow set for its next frame boundary; others take effect at once. OUTPUT_SET (R137), SET_PROFILE (R139): on a configured stream with nothing outstanding they commit at once with EFFECTIVE_FRAME 0; on a running stream with nothing outstanding and every resource there they enter the shadow set, with EFFECTIVE_FRAME the next frame (R172). ROUTE_SET (R136) and GROUP_SET (R138) act at once where no running stream is touched; otherwise GROUP_SET completes PENDING and waits, and ROUTE_SET waits in flight, to complete OK with EFFECTIVE_FRAME when its commit falls within 20 ms of its fetch (R200). (04 R136, 04 R137, 04 R138, 04 R139, 04 R172, 04 R173, 05 R194, 05 R199, 05 R200, 05 R201, 05 R211) -/
def Obligations.BoundaryCommandsAct : Prop :=
  (∀ (h : Hdr) (p : Bytes) (s : State) (c : Change), Taken 0x0206 h p s → resOk p ([0x1F, 0x07, 0xFF, 0] ++ (if fld p 2 1 = 0 then
      descMask else full 32)) = true → ((fld p 2 1 = 0 ∧ descForm (descOf p 4) = true ∧ c = .output (fld p 1 1) (some (descOf p 4))) ∨
      (fld p 2 1 = 1 ∧ c = .output (fld p 1 1) none)) → (s.stream (bits (fld p 0 1) 0 5)).state = .configured → (fld p 2 1 = 0 → ((planOf
      s (settled s (bits (fld p 0 1) 0 5)).cfg).map (fun pl => descFits pl (settled s (bits (fld p 0 1) 0 5)).cfg (descOf p 4))).getD
      true = true) → (fld p 2 1 = 0 → descriptorsOk s (bits (fld p 0 1) 0 5) c = true) → (fld p 2 1 = 1 → ((settled s (bits (fld p 0 1) 0
      5)).cfg.descs.any (fun q => q.1 == fld p 1 1)) = true ∧ (settled s (bits (fld p 0 1) 0 5)).cfg.descs.length ≠ 1) → outstanding s
      (bits (fld p 0 1) 0 5) = false → changeReady s (bits (fld p 0 1) 0 5) c = true → Answers (.outputSet h p) h 0x0206 .ok (effective 0) s (commitChange (bits (fld p 0 1) 0 5) s c)) ∧
  (∀ (h : Hdr) (p : Bytes) (s : State) (c : Change), Taken 0x0206 h p s → resOk p ([0x1F, 0x07, 0xFF, 0] ++ (if fld p 2 1 = 0 then
      descMask else full 32)) = true → ((fld p 2 1 = 0 ∧ descForm (descOf p 4) = true ∧ c = .output (fld p 1 1) (some (descOf p 4))) ∨
      (fld p 2 1 = 1 ∧ c = .output (fld p 1 1) none)) → (s.stream (bits (fld p 0 1) 0 5)).state = .running → (fld p 2 1 = 0 → ((planOf s
      (settled s (bits (fld p 0 1) 0 5)).cfg).map (fun pl => descFits pl (settled s (bits (fld p 0 1) 0 5)).cfg (descOf p 4))).getD true
      = true) → (fld p 2 1 = 0 → descriptorsOk s (bits (fld p 0 1) 0 5) c = true) → (fld p 2 1 = 1 → ((settled s (bits (fld p 0 1) 0
      5)).cfg.descs.any (fun q => q.1 == fld p 1 1)) = true ∧ (settled s (bits (fld p 0 1) 0 5)).cfg.descs.length ≠ 1) → certOk s (bits
      (fld p 0 1) 0 5) (applyPure (settled s (bits (fld p 0 1) 0 5)) c) = true → outstanding s (bits (fld p 0 1) 0 5) = false →
      changeReady s (bits (fld p 0 1) 0 5) c = true → Answers (.outputSet h p) h 0x0206 .ok (effective (s.stream (bits (fld p 0 1) 0
      5)).nextFrame.toNat) s (s.setStream (bits (fld p 0 1) 0 5)
      { s.stream (bits (fld p 0 1) 0 5) with shadow := (s.stream (bits (fld p 0 1) 0 5)).shadow ++ [c] })) ∧
  (∀ (h : Hdr) (p : Bytes) (s : State), Taken 0x0208 h p s → resOk p [0x1F, 0xFF, 0x0F] = true → fld p 1 1 ≤ 1 → (s.stream (bits (fld p 0
      1) 0 5)).state = .running → outstanding s (bits (fld p 0 1) 0 5) = false → changeReady s (bits (fld p 0 1) 0 5) (.pin (if fld p 1 1
      = 1 then some (bits (fld p 2 1) 0 4) else none)) = true → Answers (.setProfile h p) h 0x0208 .ok (effective (s.stream (bits (fld p
      0 1) 0 5)).nextFrame.toNat) s (s.setStream (bits (fld p 0 1) 0 5)
      { s.stream (bits (fld p 0 1) 0 5) with shadow := (s.stream (bits (fld p 0 1) 0 5)).shadow ++ [.pin (if fld p 1 1 = 1 then some (bits (fld p 2 1) 0 4) else none)] }))
      ∧
  (∀ (h : Hdr) (p : Bytes) (s : State), Taken 0x0208 h p s → resOk p [0x1F, 0xFF, 0x0F] = true → fld p 1 1 = 1 → (s.stream (bits (fld p 0
      1) 0 5)).state = .configured → outstanding s (bits (fld p 0 1) 0 5) = false → changeReady s (bits (fld p 0 1) 0 5) (.pin (some (bits (fld p 2 1) 0 4))) = true → Answers (.setProfile h p) h 0x0208 .ok (effective 0) s
      (s.setStream (bits (fld p 0 1) 0 5)
      { s.stream (bits (fld p 0 1) 0 5) with pin := some (bits (fld p 2 1) 0 4), cls := bits (fld p 2 1) 0 4, candidate := none, run := 0, waitingClass := none }))
      ∧
  (∀ (h : Hdr) (p : Bytes) (s : State), Taken 0x0208 h p s → resOk p [0x1F, 0xFF, 0x0F] = true → fld p 1 1 = 0 → (s.stream (bits (fld p 0
      1) 0 5)).state = .configured → outstanding s (bits (fld p 0 1) 0 5) = false → changeReady s (bits (fld p 0 1) 0 5) (.pin none) = true → Answers (.setProfile h p) h 0x0208 .ok (effective 0) s
      (s.setStream (bits (fld p 0 1) 0 5) { s.stream (bits (fld p 0 1) 0 5) with pin := none, candidate := none, run := 0 })) ∧
  (∀ (h : Hdr) (p : Bytes) (s : State) (src : Nat) (target : Option Nat), Taken 0x0205 h p s → resOk p [0xF3, 0xFF] = true → src = bits
      (fld p 0 1) 0 2 * 16 + bits (fld p 0 1) 4 4 → ((fld p 1 1 = 0xFF ∧ target = none) ∨ (fld p 1 1 < 32 ∧ target = some (fld p 1 1) ∧
      (s.stream (fld p 1 1)).cfg.sourceKind = 2 ∧ ((s.stream (fld p 1 1)).state = .configured ∨ (s.stream (fld p 1 1)).state =
      .running))) → routePending s src target = false → if ((feeds s src).map (runs s)).getD false then exec (.routeSet h p) s = .next
      (markStarted h
      ({ s with staged := s.staged ++ [waiting h 0x0205 (32 + src) true (.route src target)] }.setSource src { s.source src with routing := some target }))
      else Answers (.routeSet h p) h 0x0205 .ok (effective ((target.map (fun b => if runs s b then (s.stream b).nextFrame.toNat else
      0)).getD 0)) s (commitRoute src target s)) ∧
  (∀ (src frame : Nat) (e : Staged) (fl : InFlight) (s : State), s.staged.find? (fun e => match e.change with | .route x _ => x == src | _ => false) = some e
      → (s.inFlight e.ring).find? (fun f => f.tag == e.tag && f.phase == .started) = some fl → s.now ≤ fl.fetchedAt + 20000000 →
      routeOutcome src frame s = complete { ring := e.ring, tag := e.tag, crc := fl.crc } e.opcode.toNat .ok (effective frame)
      { s with staged := s.staged.filter (fun x => x != e) }) ∧
  (∀ (h : Hdr) (p : Bytes) (s : State), Taken 0x0207 h p s → resOk p ([0x07, 0xFF, 0, 0] ++ full 4) = true → fld p 1 1 ≤ 3 → (maskBits
      (fld p 4 4) 32).all (fun i => ((s.stream i).state == .configured || (s.stream i).state == .running) && ((s.stream i).group.isNone
      || (s.stream i).group == some (bits (fld p 0 1) 0 3))) = true → (fld p 4 4 ≠ 0 → ratesAlign ((maskBits (fld p 4 4) 32).map (fun i
      => (settled s i).cfg)) = true) → (fld p 4 4 ≠ 0 ∨ (s.group (bits (fld p 0 1) 0 3)).members ≠ 0) → if (maskBits (fld p 4 4) 32 ++
      maskBits (s.group (bits (fld p 0 1) 0 3)).members 32).any (runs s) then Answers (.groupSet h p) h 0x0207 .pending stagedResult s
      { s with staged := s.staged ++ [waiting h 0x0207 (bits (fld p 0 1) 0 3) true (.group (fld p 4 4) (fld p 1 1))] } else Answers
      (.groupSet h p) h 0x0207 .ok (effective 0) s (setGroupMembers (bits (fld p 0 1) 0 3) (fld p 4 4) (fld p 1 1) s))

/-- A start that passes its checks installs the task and the stream runs; a stop drains it. STREAM_START (R132) on a configured stream whose plan gets cores, a floor that passes R40 with everything else, and regions, installs them and completes OK with TOTAL_PERMILLE and the floor; while the device is thermally critical it completes CERT_OVER_BUDGET instead (R696). STREAM_STOP with drain (R133) starts the drain, completes with the last accepted frame as EFFECTIVE_FRAME, and ends the stream once its outputs have left. BUFFER_POST to a descriptor with a held output completes OK and the held output goes there, flagged STALE (R217); the same for an output that is held while its rows are still written. (04 R132, 04 R133, 04 R135, 02 R35, 02 R40, 02 R45, 05 R185, 05 R217, 05 R220, 17 R696) -/
def Obligations.StreamStartRuns : Prop :=
  (∀ (h : Hdr) (p : Bytes) (s : State) (pl : Plan) (cores : List Nat), Taken 0x0201 h p s → resOk p [0x1F] = true → (s.stream (bits (fld
      p 0 1) 0 5)).state = .configured → tableResident s (s.stream (bits (fld p 0 1) 0 5)) = true → ((s.stream (bits (fld p 0 1) 0
      5)).cfg.sourceKind = 1 ∨ (s.port (s.stream (bits (fld p 0 1) 0 5)).cfg.port).enable = true) → planOf s (s.stream (bits (fld p 0 1)
      0 5)).cfg = some pl → s.pwr.thermal ≠ .critical → mosaicOk s (s.stream (bits (fld p 0 1) 0 5)) pl = true → assignCores s pl [] = some cores → (findFloor
      (s.setStream (bits (fld p 0 1) 0 5) { s.stream (bits (fld p 0 1) 0 5) with state := .running, cores := cores })
      { s.stream (bits (fld p 0 1) 0 5) with state := .running, cores := cores } pl.floorOp (profCap s.pwr.profile)).isSome = true → (hostOk
      (s.setStream (bits (fld p 0 1) 0 5) { s.stream (bits (fld p 0 1) 0 5) with state := .running, cores := cores }) && fyxOk
      (s.setStream (bits (fld p 0 1) 0 5) { s.stream (bits (fld p 0 1) 0 5) with state := .running, cores := cores }) && othersPass
      (s.setStream (bits (fld p 0 1) 0 5) { s.stream (bits (fld p 0 1) 0 5) with state := .running, cores := cores }) (bits (fld p 0 1) 0
      5) && tveOk (s.setStream (bits (fld p 0 1) 0 5) { s.stream (bits (fld p 0 1) 0 5) with state := .running, cores := cores }) &&
      certOk s (bits (fld p 0 1) 0 5) { s.stream (bits (fld p 0 1) 0 5) with state := .running, cores := cores }) = true → (allocTask
      (scOwner (bits (fld p 0 1) 0 5)) cores { pl with dramUnits := pl.dramUnits + holdUnits (s.stream (bits (fld p 0 1) 0 5)).cfg }
      s).toBool = true → ∃ e regs t, findFloor (s.setStream (bits (fld p 0 1) 0 5)
      { s.stream (bits (fld p 0 1) 0 5) with state := .running, cores := cores })
      { s.stream (bits (fld p 0 1) 0 5) with state := .running, cores := cores } pl.floorOp (profCap s.pwr.profile) = some e ∧ allocTask (scOwner
      (bits (fld p 0 1) 0 5)) cores { pl with dramUnits := pl.dramUnits + holdUnits (s.stream (bits (fld p 0 1) 0 5)).cfg } s = .ok
      (regs, t) ∧ exec (.streamStart h p) s = .next (beginStream h (bits (fld p 0 1) 0 5) pl cores regs e (s.stream (bits (fld p 0 1) 0
      5)) t)) ∧
  (∀ (h : Hdr) (p : Bytes) (s : State), Taken 0x0202 h p s → resOk p [0x1F, 0xFF] = true → fld p 1 1 = 0 → (s.stream (bits (fld p 0 1) 0
      5)).state = .running → exec (.streamStop h p) s = .next (drainDone (bits (fld p 0 1) 0 5) (complete h 0x0202 .ok (effective
      (s.stream (bits (fld p 0 1) 0 5)).lastAccepted.toNat) (beginDrain (bits (fld p 0 1) 0 5) s)))) ∧
  (∀ (h : Hdr) (p : Bytes) (s : State) (d : Desc) (o : Output), Taken 0x0204 h p s → resOk p ([0x1F, 0xFF, 0x07, 0] ++ full 28) = true →
      fld p 1 1 = 1 → (bufOf p).plane0 % 256 = 0 → (bufOf p).plane1 % 256 = 0 → (bufOf p).pitch0 % 64 = 0 → (bufOf p).pitch1 % 64 = 0 →
      (s.stream (bits (fld p 0 1) 0 5)).state = .running → Tab.get none (Tab.map (fun _ e => some e) (settled s (bits (fld p 0 1) 0
      5)).cfg.descs) (bits (fld p 2 1) 0 3) = some d → bufOk (bufOf p) d.format d.outW = true → (Tab.get [] (s.stream (bits (fld p 0 1) 0
      5)).outBufs (bits (fld p 2 1) 0 3)).length < 16 → heldOutput (s.stream (bits (fld p 0 1) 0 5)) (bits (fld p 2 1) 0 3) = some o →
      exec (.bufferPost h p) s = .next (staleDelivery (bits (fld p 0 1) 0 5) (bits (fld p 2 1) 0 3) o (bufOf p) (complete h 0x0204 .ok []
      s))) ∧
  (∀ (h : Hdr) (p : Bytes) (s : State) (d : Desc) (o : Output), Taken 0x0204 h p s → resOk p ([0x1F, 0xFF, 0x07, 0] ++ full 28) = true →
      fld p 1 1 = 1 → (bufOf p).plane0 % 256 = 0 → (bufOf p).plane1 % 256 = 0 → (bufOf p).pitch0 % 64 = 0 → (bufOf p).pitch1 % 64 = 0 →
      (s.stream (bits (fld p 0 1) 0 5)).state = .running → Tab.get none (Tab.map (fun _ e => some e) (settled s (bits (fld p 0 1) 0
      5)).cfg.descs) (bits (fld p 2 1) 0 3) = some d → bufOk (bufOf p) d.format d.outW = true → (Tab.get [] (s.stream (bits (fld p 0 1) 0
      5)).outBufs (bits (fld p 2 1) 0 3)).length < 16 → heldOutput (s.stream (bits (fld p 0 1) 0 5)) (bits (fld p 2 1) 0 3) = none →
      holding (s.stream (bits (fld p 0 1) 0 5)) (bits (fld p 2 1) 0 3) = some o → exec (.bufferPost h p) s = .next (staleBinding (bits
      (fld p 0 1) 0 5) o (bufOf p) (complete h 0x0204 .ok [] s))) ∧
  (∀ (h : Hdr) (p : Bytes) (s : State), Taken 0x0201 h p s → resOk p [0x1F] = true → (s.stream (bits (fld p 0 1) 0 5)).state =
      .configured → tableResident s (s.stream (bits (fld p 0 1) 0 5)) = true → ((s.stream (bits (fld p 0 1) 0 5)).cfg.sourceKind = 1 ∨
      (s.port (s.stream (bits (fld p 0 1) 0 5)).cfg.port).enable = true) → (∃ pl cores, planOf s (s.stream (bits (fld p 0 1) 0 5)).cfg =
      some pl ∧ mosaicOk s (s.stream (bits (fld p 0 1) 0 5)) pl = true ∧ assignCores s pl [] = some cores) → s.pwr.thermal = .critical →
      Answers (.streamStart h p) h 0x0201 .certOverBudget [] s s)

/-- The model commands and the residency queue have the effect of their rules. MODEL_LOAD (R124) takes an empty handle and completes PENDING, its residency operation queued where it asks for one (R196); when its copy and checks end well the package lies in DRAM and the model is loaded. MODEL_RESIDE (R126) queues a residency operation or evicts; MODEL_UNLOAD (R127) empties the handle; MODEL_QUERY (R128) reports. A residency operation starts when its variants fit and are placed, and its end makes them resident (R196). What a package section holds is a free value (log 6). (04 R124, 04 R125, 04 R126, 04 R127, 04 R128, 05 R196, 10 R415, 10 R420, log 6) -/
def Obligations.ModelCommandsAct : Prop :=
  (∀ (h : Hdr) (p : Bytes) (s : State), Taken 0x0100 h p s → resOk p ([0x3F, 1, 0, 0] ++ full 12) = true → 128 ≤ fld p 4 4 → fld p 4 4 ≤
      268435456 → fld p 8 8 % 4096 = 0 → (s.model (fld p 0 1)).state = 0 → Answers (.modelLoad h p) h 0x0100 .pending stagedResult s
      { s.setModel (fld p 0 1) { state := 1, resideAll := bit (fld p 1 1) 0, length := fld p 4 4 } with residency := s.residency ++ (if bit (fld p 1 1) 0 then [{ handle := fld p 0 1, mask := 0, rewrite := false, forCmd := some (h.ring, h.tag) }] else []), staged := s.staged ++ [waiting h 0x0100 (fld p 0 1) false (.load (fld p 0 1))] })
      ∧
  (∀ (handle d : Nat) (k : Package) (e : Staged) (s : State), s.running = true → s.staged.find? (fun e => e.change == .load handle) =
      some e → (s.model handle).state = 1 → (s.model handle).package = none → loadChecks s handle k = none → dramRun s (ceilDiv (s.model
      handle).length 1048576) = some d → exec (.modelLoadCopyDone handle (some k)) s = .next (packagePlaced handle e k d s)) ∧
  (∀ (handle d : Nat) (k : Package) (e : Staged) (s : State), (s.model handle).resideAll = false → s.pack.ops = [] → ((packagePlaced
      handle e k d s).model handle).state = 2 ∧ ((packagePlaced handle e k d s).model handle).package = some k ∧ ((packagePlaced handle e
      k d s).model handle).dram = some (d * 1048576, (s.model handle).length)) ∧
  (∀ (h : Hdr) (p : Bytes) (s : State), Taken 0x0101 h p s → resOk p [0x3F, 0, 0xFF, 0xFF, 0xFF, 0, 0, 0] = true → fld p 4 1 = 0 →
      (s.model (fld p 0 1)).state = 2 → fld p 2 2 < 2 ^ fld (headOf s (fld p 0 1)) 12 1 → Answers (.modelReside h p) h 0x0101 .pending
      stagedResult s
      { s with residency := s.residency ++ [{ handle := fld p 0 1, mask := fld p 2 2, rewrite := false, forCmd := some (h.ring, h.tag) }], staged := s.staged ++ [waiting h 0x0101 (fld p 0 1) false (.reside (fld p 0 1) (fld p 2 2))] })
      ∧
  (∀ (h : Hdr) (p : Bytes) (s : State), Taken 0x0101 h p s → resOk p [0x3F, 0, 0xFF, 0xFF, 0xFF, 0, 0, 0] = true → fld p 4 1 = 1 →
      (s.model (fld p 0 1)).state = 2 → fld p 2 2 < 2 ^ fld (headOf s (fld p 0 1)) 12 1 → (maskBits (fld p 2 2) 16).all (fun v =>
      !variantNamed s (fld p 0 1) v) = true → Answers (.modelReside h p) h 0x0101 .ok [] s (evictMask (fld p 0 1) (fld p 2 2) s)) ∧
  (∀ (h : Hdr) (p : Bytes) (s : State), Taken 0x0102 h p s → resOk p [0x3F, 0, 0, 0] = true → (s.model (fld p 0 1)).state = 2 →
      modelNamed s (fld p 0 1) = false → Answers (.modelUnload h p) h 0x0102 .ok [] s (dropModel (fld p 0 1) s) ∧ (dropModel (fld p 0 1)
      s).model (fld p 0 1) = {}) ∧
  (∀ (h : Hdr) (p : Bytes) (s : State), Taken 0x0103 h p s → resOk p [0x3F, 0, 0, 0] = true → Answers (.modelQuery h p) h 0x0103 .ok (le
      1 (s.model (fld p 0 1)).state ++ le 1 0 ++ le 2 (s.model (fld p 0 1)).resident ++ le 4 (maskKib s (fld p 0 1) (s.model (fld p 0
      1)).resident) ++ le 4 (fld (headOf s (fld p 0 1)) 56 4) ++ le 1 (fld (headOf s (fld p 0 1)) 12 1) ++ le 1 (fld (headOf s (fld p 0
      1)) 13 1)) s s) ∧
  (∀ (o : ResidencyOp) (rest : List ResidencyOp) (s : State), s.running = true → s.residing = none → s.residency = o :: rest → (s.model o.handle).package.isSome = true → (o.rewrite
      = true ∨ (residentFits s o.handle o.mask = true ∧ (placeAll o.handle (maskBits o.mask 16) { s with residency := rest }).isSome =
      true)) → ∃ t, exec .residencyOperationStart s = .next { t with residing := some o } ∧ (if o.rewrite then t =
      { s with residency := rest } else placeAll o.handle (maskBits o.mask 16) { s with residency := rest } = some t)) ∧
  (∀ (o : ResidencyOp) (s : State), s.running = true → s.residing = some o → extentWaits s o = false → o.forCmd = none → ∃ u, u =
      (maskBits o.mask 16).foldl (fun s v => fillExtent o.handle v s) { s with residing := none } ∧ exec (.residencyOperationDone true) s
      = .next (u.setModel o.handle { u.model o.handle with resident := (u.model o.handle).resident ||| o.mask }))

/-- The job commands have the effect of their rules. JOB_SUBMIT (R151, R152) with free cores, a loaded model, a resident variant, a shape within the plan and the rows and the certificates of everything else still passing starts the job and completes OK; an empty shape completes DONE_EMPTY and changes nothing. JOB_KILL (R153) stops the job's tiles, completes OK and ends the job ABORTED. (04 R151, 04 R152, 04 R153, 09 R380, 10 R442) -/
def Obligations.JobCommandsAct : Prop :=
  (∀ (h : Hdr) (p : Bytes) (d : List Nat) (pl : Plan) (s : State), Taken 0x0400 h p s → resOk p ([0x0F, 0x3F, 0xFF, 0, 0xFF, 0xFF, 0, 0]
      ++ full 32 ++ rsv 8) = true → fld p 8 8 % 256 = 0 → fld p 16 8 % 256 = 0 → (s.job (fld p 0 1)).active = false
      → (s.model (fld p 1 1)).state = 2 → jobPlan s p = some pl → jobMaskOk pl (fld p 4 2) = true → bit (s.model (fld p 1 1)).resident
      (bits (fld p 2 1) 4 4) = true → (maskBits (fld p 4 2) 16).all (coreFree s) = true → s.pwr.thermal ≠ .critical → d.any (· == 0) =
      false → nth 0 d 0 ≤ pl.maxN → nth 0 d 1 ≤ pl.maxH → nth 0 d 2 ≤ pl.maxW → nth 0 d 3 ≤ pl.maxC → (jobRows pl (nth 0 d 2)).1 ≤ fld p
      32 4 → (jobRows pl (nth 0 d 2)).2 ≤ fld p 36 4 → othersPass (s.setJob (fld p 0 1) (jobOf p d)) 32 = true → tveOk (s.setJob (fld p 0
      1) (jobOf p d)) = true → ((allocTask (jobOwner (fld p 0 1)) (maskBits (fld p 4 2) 16) pl s).toOption.bind (fun r => (allocCounters
      (counterNeed pl (jobCfg d) none (maskBits (fld p 4 2) 16).length) r.2).1)).isSome = true → exec (.jobSubmit h p (some d)) s = .next
      (startJob h (fld p 0 1) (jobOf p d) pl s) ∧ Completed h 0x0400 .ok [] (startJob h (fld p 0 1) (jobOf p d) pl s)) ∧
  (∀ (h : Hdr) (p : Bytes) (d : List Nat) (pl : Plan) (s : State), Taken 0x0400 h p s → resOk p ([0x0F, 0x3F, 0xFF, 0, 0xFF, 0xFF, 0, 0]
      ++ full 32 ++ rsv 8) = true → fld p 8 8 % 256 = 0 → fld p 16 8 % 256 = 0 → (s.job (fld p 0 1)).active = false
      → (s.model (fld p 1 1)).state = 2 → jobPlan s p = some pl → jobMaskOk pl (fld p 4 2) = true → bit (s.model (fld p 1 1)).resident
      (bits (fld p 2 1) 4 4) = true → (maskBits (fld p 4 2) 16).all (coreFree s) = true → s.pwr.thermal ≠ .critical → d.any (· == 0) =
      true → ∃ t, exec (.jobSubmit h p (some d)) s = .next t ∧ Completed h 0x0400 .doneEmpty [] t ∧ t.quiet = s.quiet) ∧
  (∀ (h : Hdr) (p : Bytes) (s : State), Taken 0x0401 h p s → resOk p [0x0F, 0, 0, 0] = true → (s.job (fld p 0 1)).active = true → exec
      (.jobKill h p) s = .next (killJob (fld p 0 1) s (complete h 0x0401 .ok [])) ∧ Completed h 0x0401 .ok [] (killJob (fld p 0 1) s
      (complete h 0x0401 .ok [])) ∧ ((killJob (fld p 0 1) s (complete h 0x0401 .ok [])).job (fld p 0 1)).active = false)

/-- The tree commands and votes have the effect of their rules. TREE_LOAD (R158) with three parts that pass the checks of R526 loads the ensemble and completes OK; TREE_UNLOAD (R159) empties it. TREE_BIND (R160) and PROFILE_TABLE_SET (R161) on a running stream with nothing outstanding enter its shadow set. A vote starts when the engine is free (R534) and, complete, its tally waits in order of frame for the stream's boundary (R540, R541). (04 R158, 04 R159, 04 R160, 04 R161, 13 R526, 13 R527, 13 R534, 13 R535, 13 R536, 13 R540, 13 R541) -/
def Obligations.TreeCommandsAct : Prop :=
  (∀ (h : Hdr) (p nb rb fb : Bytes) (d : Nat) (s : State), Taken 0x0600 h p s → resOk p ([0x0F, 0] ++ full 32 ++ rsv 2 ++ full 4) = true
      → 1 ≤ fld p 2 2 → fld p 2 2 ≤ 512 → 1 ≤ fld p 4 4 → fld p 4 4 ≤ 65536 → 64 ≤ fld p 32 2 → fld p 32 2 ≤ 4096 → ensembleNamed s (bits (fld p 0 1) 0 4) = false → nb.length = 8 * fld p 4 4 → rb.length
      = 4 * fld p 2 2 → fb.length = fld p 32 2 → (crc32c nb).toNat = fld p 36 4 → frontOk fb = true → (nodesOf nb).all (nodeOk (fld p 4
      4) (fld fb 0 1)) = true → (rootsOf rb).all (· < fld p 4 4) = true → (rootsOf rb).all (fun r => (depthOf (nodesOf nb) 64 r).isSome)
      = true → dramRun s (treeUnits (fld p 4 4)) = some d → Answers (.treeLoad h p (some nb) (some rb) (some fb)) h 0x0600 .ok [] s
      (setDomain 25 true ((putDram (d * 1048576) nb (takeDram (treeOwner (bits (fld p 0 1) 0 4)) d (treeUnits (fld p 4 4)) (freeDram
      (treeOwner (bits (fld p 0 1) 0 4)) s))).setEnsemble (bits (fld p 0 1) 0 4)
      { loaded := true, nodes := nodesOf nb, roots := rootsOf rb, front := fb, depths := (rootsOf rb).map (fun r => (depthOf (nodesOf nb) 64 r).getD 0), entries := fld fb 0 1 })))
      ∧
  (∀ (h : Hdr) (p : Bytes) (s : State), Taken 0x0601 h p s → resOk p [0x0F] = true → ensembleNamed s (bits (fld p 0 1) 0 4) = false →
      (s.ensemble (bits (fld p 0 1) 0 4)).loaded = true → ∃ u, u = (freeDram (treeOwner (bits (fld p 0 1) 0 4)) s).setEnsemble (bits (fld
      p 0 1) 0 4) {} ∧ Answers (.treeUnload h p) h 0x0601 .ok [] s (if (List.range 16).any (fun i => (u.ensemble i).loaded) then u else
      setDomain 25 false u)) ∧
  (∀ (h : Hdr) (p : Bytes) (s : State) (b : Binding), Taken 0x0602 h p s → resOk p [0x1F, 0xFF, 0xFF, 0x0F] = true → fld p 1 1 ≤ 15 → 1 ≤
      fld p 2 1 → 1 ≤ fld p 3 1 → fld p 3 1 ≤ 15 → b = { ensemble := some (fld p 1 1), voteEvery := fld p 2 1, hystK := fld p 3 1 } →
      (s.stream (bits (fld p 0 1) 0 5)).state = .running → fld p 2 1 ≤ (settled s (bits (fld p 0 1) 0 5)).cfg.inNum / max 1 (settled s
      (bits (fld p 0 1) 0 5)).cfg.inDen → (s.ensemble (fld p 1 1)).loaded = true → ensembleKind s (fld p 1 1) + 1 = (settled s (bits (fld
      p 0 1) 0 5)).cfg.sourceKind → tveOk (trialState s (bits (fld p 0 1) 0 5) (applyPure (settled s (bits (fld p 0 1) 0 5)) (.bind b)))
      = true → outstanding s (bits (fld p 0 1) 0 5) = false → changeReady s (bits (fld p 0 1) 0 5) (.bind b) = true → Answers (.treeBind
      h p) h 0x0602 .ok (effective (s.stream (bits (fld p 0 1) 0 5)).nextFrame.toNat) s (s.setStream (bits (fld p 0 1) 0 5)
      { s.stream (bits (fld p 0 1) 0 5) with shadow := (s.stream (bits (fld p 0 1) 0 5)).shadow ++ [.bind b] })) ∧
  (∀ (h : Hdr) (p : Bytes) (s : State), Taken 0x0602 h p s → resOk p [0x1F, 0xFF, 0xFF, 0x0F] = true → fld p 1 1 = 0xFF → (s.stream (bits
      (fld p 0 1) 0 5)).state = .running → outstanding s (bits (fld p 0 1) 0 5) = false → changeReady s (bits (fld p 0 1) 0 5) (.bind {})
      = true → Answers (.treeBind h p) h 0x0602 .ok (effective (s.stream (bits (fld p 0 1) 0 5)).nextFrame.toNat) s (s.setStream (bits
      (fld p 0 1) 0 5) { s.stream (bits (fld p 0 1) 0 5) with shadow := (s.stream (bits (fld p 0 1) 0 5)).shadow ++ [.bind {}] })) ∧
  (∀ (h : Hdr) (p : Bytes) (s : State), Taken 0x0603 h p s → resOk p tableMask = true → (s.stream (bits (fld p 0 1) 0 5)).state =
      .running → (tableOf p).entries.all (fun e => e.1 < fld (headOf s (settled s (bits (fld p 0 1) 0 5)).cfg.handle) 12 1) = true →
      (tableOf p).entries.all (fun e => e.2 == 0 || e.2 < fld (headOf s (settled s (bits (fld p 0 1) 0 5)).cfg.handle) 20 2) = true →
      certOk s (bits (fld p 0 1) 0 5) (applyPure (settled s (bits (fld p 0 1) 0 5)) (.table (tableOf p))) = true → outstanding s (bits
      (fld p 0 1) 0 5) = false → changeReady s (bits (fld p 0 1) 0 5) (.table (tableOf p)) = true → Answers (.profileTableSet h p) h
      0x0603 .ok (effective (s.stream (bits (fld p 0 1) 0 5)).nextFrame.toNat) s (s.setStream (bits (fld p 0 1) 0 5)
      { s.stream (bits (fld p 0 1) 0 5) with shadow := (s.stream (bits (fld p 0 1) 0 5)).shadow ++ [.table (tableOf p)] })) ∧
  (∀ (v : VoteJob) (rest : List VoteJob) (bad : List Nat) (s : State), s.tve.running = none → s.tve.ready = v :: rest → exec (.voteStart
      bad true) s = .next (scAdd v.sc .votesDiscarded 1 { s with tve := { s.tve with ready := rest } }) ∧ ∃ (u : State) (down : List
      Nat), exec (.voteStart bad false) s = .next
      { u with tve := { u.tve with running := some { v with startedAt := s.now, bad := bad ++ down } } } ∧ u.tve.ready = rest ∧ u.streams
      = s.streams) ∧
  (∀ (v : VoteJob) (e : Nat) (s : State), s.tve.running = some v → (s.stream v.sc).bind.ensemble = some e → ∃ (u : State) (x : Stream),
      exec .voteComplete s = .next (u.setStream v.sc
      { x with votes := (s.stream v.sc).votes.filter (fun q => !later q.frame v.frame) ++ [tally v (treeResults (s.ensemble e) (frontStage (s.ensemble e).front v.features) v.bad)] ++ (s.stream v.sc).votes.filter (fun q => later q.frame v.frame) })
      ∧ u = perfAdd 0x5B0 1 { s with tve := { s.tve with running := none } } ∧ x = (s.stream v.sc).count .abandoned ((treeResults
      (s.ensemble e) (frontStage (s.ensemble e).front v.features) v.bad).countP (·.isNone)))

/-- Doorbells, completion and event consumer indices and the enables of rings act as their rules say. A doorbell write naming its ring and a producer index in range sets SQ_TAIL, another one is a WHISTLE_ERR fault (R63); a consumer index in range is taken, another one is a HEAD_ERR fault (R77); RING_ENABLE from 0 to 1 with legal sizes zeroes the indices and totals (R719), RING_DISABLE stops fetching (R95); the event ring likewise, its backlog following (R79, R80). The completion timer of a coalesced vector signals it (R78). (03 R62, 03 R63, 03 R77, 03 R78, 03 R79, 03 R80, 03 R95, 18 R719, 18 R720, 18 R723) -/
def Obligations.RingRegistersAct : Prop :=
  (∀ (ring : Nat) (value : U32) (s : State), ringsOpen s = true → (s.ring ring).enable = true → bits value.toNat 16 3 = ring → ((s.ring
      ring).sqTail - (s.ring ring).sqHead).toNat ≤ (value.setWidth 16 - (s.ring ring).sqHead).toNat → (value.setWidth 16 - (s.ring
      ring).sqHead).toNat ≤ 2 ^ (s.ring ring).sqLog2.toNat → exec (.ringWhistleWrite ring value) s = .next (noteWaiting (s.setRing ring
      { s.ring ring with sqTail := value.setWidth 16 }))) ∧
  (∀ (ring : Nat) (value : U32) (s : State), ringsOpen s = true → (s.ring ring).enable = true → bits value.toNat 16 3 ≠ ring → exec
      (.ringWhistleWrite ring value) s = .next (ringFault ring 0 (value.setWidth 16).toNat s)) ∧
  (∀ (ring : Nat) (value : U32) (s : State), ringsOpen s = true → (s.ring ring).enable = true → (value.setWidth 16 - (s.ring
      ring).cqHead).toNat ≤ ((s.ring ring).cqTail - (s.ring ring).cqHead).toNat → exec (.ringCqHeadWrite ring value) s = .next
      (noteWaiting (s.setRing ring { s.ring ring with cqHead := value.setWidth 16 }))) ∧
  (∀ (ring : Nat) (value : U32) (s : State), ringsOpen s = true → (s.ring ring).enable = true → ((s.ring ring).cqTail - (s.ring
      ring).cqHead).toNat < (value.setWidth 16 - (s.ring ring).cqHead).toNat → exec (.ringCqHeadWrite ring value) s = .next (ringFault
      ring 1 (value.setWidth 16).toNat s)) ∧
  (∀ (value : U32) (s : State), ringsOpen s = true → exec (.evqHeadWrite value) s = .next (if (value.setWidth 16 -
      s.evq.head).toNat ≤ (s.evq.tail - s.evq.head).toNat then drain { s with evq := { s.evq with head := value.setWidth 16 } } else
      evqFault (value.setWidth 16 : U16).toNat s)) ∧
  (∀ (ring : Nat) (cc : Byte) (cu : BitVec 10) (s : State), ringsOpen s = true → (s.ring ring).enable = false → (s.ring ring).idle = true
      → log2Ok (s.ring ring).sqLog2 = true → log2Ok (s.ring ring).cqLog2 = true → exec (.ringEnable ring cc cu) s = .next (s.setRing ring
      { s.ring ring with enable := true, halted := false, coalCount := cc, coalUsec := cu, sqTail := 0, sqHead := 0, cqTail := 0, cqHead := 0, completedTotal := 0, lastFault := 0, unsignalled := 0, waitingSince := none }))
      ∧
  (∀ (ring : Nat) (s : State), ringsOpen s = true → exec (.ringDisable ring) s = .next (s.setRing ring
      { s.ring ring with enable := false, waitingSince := none })) ∧
  (∀ (cc : Byte) (cu : BitVec 10) (s : State), ringsOpen s = true → s.evq.enable = false → 6 ≤ s.evq.log2.toNat → exec (.evqEnable cc cu)
      s = .next (drain
      { s with evq := { s.evq with enable := true, coalCount := cc, coalUsec := cu, tail := 0, head := 0, unsignalled := 0 } })) ∧
  (∀ (s : State), ringsOpen s = true → exec .evqDisable s = .next { s with evq := { s.evq with enable := false } }) ∧
  (∀ (s : State), s.evq.unsignalled ≠ 0 → s.evq.firstAt + 1000 * s.evq.coalUsec.toNat ≤ s.now → exec (.interruptCoalesceTimeout 0) s =
      .next (signal 0 { s with evq := { s.evq with unsignalled := 0 } })) ∧
  (∀ (v : Nat) (s : State), 1 ≤ v → v ≤ 8 → (s.ring (v - 1)).unsignalled ≠ 0 → (s.ring (v - 1)).firstAt + 1000 * (s.ring (v -
      1)).coalUsec.toNat ≤ s.now → exec (.interruptCoalesceTimeout v) s = .next (signal v (s.setRing (v - 1)
      { s.ring (v - 1) with unsignalled := 0 })))

/-- Reads that clear, stray accesses and poisoned writes act as their rules say. EVQ_LOST returns its count and is cleared (R723); GLB_STRAY returns both counts and both are cleared (R723); a stray BAR0 or BAR2 access is counted, a read of it is answered with zeros (R702, R717); a poisoned write is discarded and reported through AER (R727); each leaves everything else as it is. (18 R702, 18 R717, 18 R723, 18 R727, 18 R732) -/
def Obligations.ReadsAndStraysAct : Prop :=
  (∀ (s : State), ringsOpen s = true → exec .evqLostRead s = .next
      { s.send (.reply (le 4 s.evq.lost.toNat) false) with evq := { s.evq with lost := 0 } }) ∧
  (∀ (s : State), exec .glbStrayRead s = .next
      { s.send (.reply (le 2 s.glb.bar0Stray.toNat ++ le 2 s.glb.bar2Stray.toNat) false) with glb := { s.glb with bar0Stray := 0, bar2Stray := 0 } })
      ∧
  (∀ (len : Nat) (s : State), exec (.bar0StrayAccess false len) s = .next
      { s with glb := { s.glb with bar0Stray := satAdd s.glb.bar0Stray 1 } } ∧ exec (.bar0StrayAccess true len) s = .next
      ({ s with glb := { s.glb with bar0Stray := satAdd s.glb.bar0Stray 1 } }.send (.reply (List.replicate len 0) false))) ∧
  (∀ (len : Nat) (s : State), barOpen s = true → exec (.bar2StrayAccess false len) s = .next
      { s with glb := { s.glb with bar2Stray := satAdd s.glb.bar2Stray 1 } } ∧ exec (.bar2StrayAccess true len) s = .next
      ({ s with glb := { s.glb with bar2Stray := satAdd s.glb.bar2Stray 1 } }.send (.reply (List.replicate len 0) false))) ∧
  (∀ (bar : Nat) (s : State), exec (.poisonedTlpWrite bar) s = .next
      { s with pcie := { s.pcie with aerPoisoned := s.pcie.aerPoisoned + 1 } })

/-- The management port, device reads and command bounds act as their rules say. POLL returns the state, the record and a CRC-32C, READ bytes of the response with zeros past its end and their CRC-32C (R98). SUBMIT starts a command when none executes; any other first byte, another length and a second command are not acknowledged (R98, R99). A port bus held low is abandoned and reported MGMT_STUCK (R101). A command past its bound completes INTERNAL_FAULT and its reads and staged port work are dropped (R76, R100); a ROUTE_SET that waits for its commit completes PENDING at its bound (R200). A read of host memory that the arbiter makes for a ring takes its next slot (R71, R72). (03 R71, 03 R72, 03 R76, 03 R88, 03 R98, 03 R99, 03 R100, 03 R101, 05 R200, 19 R772) -/
def Obligations.PortAndReadsAct : Prop :=
  (∀ (reads : Nat) (s : State), portAnswers s = true → exec (.mgmtPoll 0 reads) s = .next (s.send (.mgmt ((pollBytes s).take reads ++
      List.replicate (reads - 39) 0xFF)))) ∧
  (∀ (offset count reads : Nat) (s : State), portAnswers s = true → 1 ≤ count → count ≤ 255 → exec (.mgmtRead offset count 0 reads) s =
      .next (s.send (.mgmt ((pad count ((response s).drop offset) ++ le 4 (crc32c (pad count ((response s).drop offset))).toNat).take reads
      ++ List.replicate (reads - (count + 4)) 0xFF)))) ∧
  (∀ (slot : Bytes) (s : State), portAnswers s = true → slot.length = 64 → s.mgmt.state ≠ 1 → s.mgmt.inFlight = [] → s.glb.boot =
      .running → exec (.mgmtSubmit (0x10 :: slot)) s = .next (slotArrived 15 0 slot
      { s with mgmt := { s.mgmt with state := 1, inFlight := [{ tag := 0, opcode := 0, crc := 0, fence := false, phase := .slotRead, params := [], paramCrc := 0, fetchedAt := s.now, index := 0, clean := true, unrecorded := false }] } }))
      ∧
  (∀ (b : Bytes) (s : State), portAnswers s = true → (fld b 0 1 ≠ 0x10 ∨ b.length ≠ 65 ∨ s.mgmt.state = 1 ∨
      s.mgmt.inFlight ≠ []) → exec (.mgmtSubmit b) s = .next (s.send (.mgmt []))) ∧
  (∀ (s : State), response s = (if s.mgmt.respHidden then [] else s.mgmt.resp)) ∧
  (∀ (sda scl : Bool) (s : State), portAnswers s = true → (sda || scl) = true → exec (.mgmtBusTimeout sda scl) s = .next (portFault
      srcMgmt 0x21 14 0 (b2n sda + 2 * b2n scl) true { s with mgmt := { s.mgmt with busy := false } })) ∧
  (∀ (ring : Nat) (tag : U16) (e : InFlight) (s : State), s.running = true → (s.inFlight ring).find? (fun e => e.tag == tag && e.phase !=
      .slotRead) = some e → e.fetchedAt + (if ring = 15 then 3000000000 else 20000000) ≤ s.now → e.opcode ≠ 0x0005 → (e.opcode = 0x0205 →
      e.phase ≠ .started) → exec (.commandBoundTimeout ring tag) s = .next (complete { ring := ring, tag := tag, crc := e.crc }
      e.opcode.toNat .internalFault [] (stopCommand { ring := ring, tag := tag, crc := e.crc } s))) ∧
  (∀ (h : Hdr) (s : State), (∀ r ∈ (stopCommand h s).reads, r.purpose ≠ .params h.ring h.tag.toNat ∧ r.purpose ≠ .mgmtParams h.tag.toNat)
      ∧ (h.ring = 15 → (s.staged.filter (fun e => e.ring == 15 && e.tag == h.tag)).length ≤ 1 → ∀ e ∈ (stopCommand h s).staged, e.ring =
      15 → e.tag ≠ h.tag)) ∧
  (∀ (ring : Nat) (tag : U16) (e : InFlight) (s : State), s.running = true → (s.inFlight ring).find? (fun e => e.tag == tag && e.phase !=
      .slotRead) = some e → e.fetchedAt + (if ring = 15 then 3000000000 else 20000000) ≤ s.now → e.opcode = 0x0205 → e.phase = .started →
      exec (.commandBoundTimeout ring tag) s = .next (complete { ring := ring, tag := tag, crc := e.crc } 0x0205 .pending stagedResult s))
      ∧
  (∀ (ring : Nat) (s : State), ringsOpen s = true → arbiter (noteWaiting s) = some ring → ∃ u, exec (.slotFetch ring none) s = .next
      (startRead (.slot ring ((noteWaiting s).ring ring).sqHead.toNat) (((noteWaiting s).ring ring).sqBase.toNat + 64 * (((noteWaiting
      s).ring ring).sqHead.toNat % 2 ^ ((noteWaiting s).ring ring).sqLog2.toNat)) 64 u) ∧ (u.ring ring).sqHead = ((noteWaiting s).ring
      ring).sqHead + 1 ∧ (u.ring ring).inFlight.length = ((noteWaiting s).ring ring).inFlight.length + 1 ∧ ∀ b, exec (.slotFetch ring
      (some b)) s = .next (slotArrived ring ((noteWaiting s).ring ring).sqHead.toNat b u))

/-- Host register writes that have no row of their own act as the register map says. While BAR0 is open (R726): GLB_SCRATCH takes any value; the boot registers take it in WAIT_HOST (R703, R717). While Shepherd runs: a base, a size and the coalescing field of a ring that is disabled and idle (R710, R719), the write-one-to-clear fault bits of a ring and of the event ring (R710, R711). In configuration space: Memory Space and Bus Master Enable, a cleared Bus Master Enable acting as a link loss (R726), and the completion timeout (R712). (18 R703, 18 R710, 18 R711, 18 R717, 18 R718, 18 R719, 18 R726, 18 R712) -/
def Obligations.RegisterWritesAct : Prop :=
  (∀ (v : U32) (s : State), barOpen s = true → exec (.registerWrite (.bar0 0x034) v) s = .next
      { s with glb := { s.glb with scratch := v } }) ∧
  (∀ (v : U32) (s : State), barOpen s = true → s.glb.boot = .waitHost → exec (.registerWrite (.bar0 0x014) v) s = .next
      { s with glb := { s.glb with bootAddr := setLow s.glb.bootAddr v } } ∧ exec (.registerWrite (.bar0 0x018) v) s = .next
      { s with glb := { s.glb with bootAddr := setHigh s.glb.bootAddr v } } ∧ exec (.registerWrite (.bar0 0x01C) v) s = .next
      { s with glb := { s.glb with bootLen := v } }) ∧
  (∀ (off n : Nat) (v : U32) (s : State), barOpen s = true → s.glb.boot = .running → blockOf off = (.ring n, 0x00) → (s.ring n).enable =
      false → (s.ring n).idle = true → exec (.registerWrite (.bar0 off) v) s = .next (s.setRing n
      { s.ring n with sqBase := setLow (s.ring n).sqBase v })) ∧
  (∀ (off n : Nat) (v : U32) (s : State), barOpen s = true → s.glb.boot = .running → blockOf off = (.ring n, 0x10) → (s.ring n).enable =
      false → (s.ring n).idle = true → log2Ok (BitVec.ofNat 4 v.toNat) = true → log2Ok (BitVec.ofNat 4 (v.toNat / 256)) = true → exec
      (.registerWrite (.bar0 off) v) s = .next (s.setRing n
      { s.ring n with sqLog2 := BitVec.ofNat 4 v.toNat, cqLog2 := BitVec.ofNat 4 (v.toNat / 256) })) ∧
  (∀ (off n : Nat) (v : U32) (s : State), barOpen s = true → s.glb.boot = .running → blockOf off = (.ring n, 0x18) → exec (.registerWrite
      (.bar0 off) v) s = .next (s.setRing n
      { s.ring n with whistleErr := (s.ring n).whistleErr && !bit v.toNat 2, headErr := (s.ring n).headErr && !bit v.toNat 3, fetchErr := (s.ring n).fetchErr && !bit v.toNat 4 }))
      ∧
  (∀ (off : Nat) (v : U32) (s : State), barOpen s = true → s.glb.boot = .running → blockOf off = (.evq, 0x10) → exec (.registerWrite
      (.bar0 off) v) s = .next
      { s with evq := { s.evq with headErr := s.evq.headErr && !bit v.toNat 2, overflow := s.evq.overflow && !bit v.toNat 3 } }) ∧
  (∀ (v : U32) (s : State), s.pcie.linkUp = true → exec (.registerWrite .command v) s = .next (if s.pcie.busMaster && !bit v.toNat 2 then
      linkLoss { s with pcie := { s.pcie with memSpace := bit v.toNat 1, busMaster := bit v.toNat 2 } } else
      { s with pcie := { s.pcie with memSpace := bit v.toNat 1, busMaster := bit v.toNat 2 } })) ∧
  (∀ (v : U32) (s : State), s.pcie.linkUp = true → exec (.registerWrite .completionTimeout v) s = .next
      { s with pcie := { s.pcie with cplTimeout := BitVec.ofNat 4 v.toNat } })

/-- The PCIe function and its link act as their rules say. A link loss and PCIE_PERST_N low reset the host-owned registers and the function (R664, R96); link training ends with the link up; D3hot and a cleared Bus Master Enable act as a link loss (R726), D0 resets nothing. A function-level reset while Shepherd runs ends with cause 7 and test mode off, and DEVICE_STARTED (R687). Unmasking sends every pending vector that nothing blocks (R725). (17 R664, 17 R665, 17 R687, 18 R725, 18 R726, 03 R96, 03 R80) -/
def Obligations.PcieEventsAct : Prop :=
  (∀ (s : State), s.pcie.linkUp = true → exec .pcieLinkDown s = .next (pcieDown (linkLoss s)) ∧ (pcieDown (linkLoss s)).pcie.linkUp =
      false) ∧
  (∀ (s : State), s.pcie.training = true → s.pcie.perst = false → exec .pcieLinkUp s = .next
      { s with pcie := { s.pcie with linkUp := true, training := false } }) ∧
  (∀ (s : State), s.pcie.perst = false → s.pwr.porst = false → s.pcie.linkUp = true → exec .pciePerstNAssert s = .next (pcieDown
      (linkLoss { s with pcie := { s.pcie with perst := true } }))) ∧
  (∀ (s : State), exec .pciePerstNRelease s = .next
      { s with pcie := { s.pcie with perst := false, training := s.pcie.mayTrain && !s.pcie.linkUp } }) ∧
  (∀ (s : State), s.pcie.linkUp = true → s.pcie.busMaster = true → exec .busMasterEnableClear s = .next (linkLoss
      { s with pcie := { s.pcie with busMaster := false } })) ∧
  (∀ (s : State), s.pcie.linkUp = true → s.pcie.d3hot = false → exec .d3hotEntry s = .next (linkLoss
      { s with pcie := { s.pcie with d3hot := true } })) ∧
  (∀ (s : State), exec .d3hotExit s = .next { s with pcie := { s.pcie with d3hot := false } }) ∧
  (∀ (s : State), s.pcie.linkUp = true → s.glb.boot = .running → s.pwr.tripped = false → ∃ u : State, exec .flr s = .next (deviceStarted (applyProfile (bootProfile u) u)) ∧ u.glb.resetCause = 7
      ∧ u.glb.testMode = false ∧ u.streams = [] ∧ u.jobs = [] ∧ u.models = [] ∧ u.rings = [] ∧ u.staged = [] ∧ u.reads = []) ∧
  (∀ (b : Bool) (v : Nat) (a : U64) (d : U32) (s : State), v < 64 → exec (.msixUnmask (.enable b)) s = .next (sendPending
      { s with pcie := { s.pcie with msixEnable := b } }) ∧ exec (.msixUnmask (.function b)) s = .next (sendPending
      { s with pcie := { s.pcie with msixMask := b } }) ∧ exec (.msixUnmask (.vector v b)) s = .next (sendPending
      { s with pcie := { s.pcie with vecMask := Tab.put s.pcie.vecMask v b } }) ∧ exec (.msixUnmask (.entry v a d)) s = .next
      (sendPending { s with pcie := { s.pcie with vecMsg := Tab.put s.pcie.vecMsg v (a, d) } }))

/-- The timebase registers, the keep mirror and the counter latch act as their rules say. A read of TIME_NOW_LO returns the low half and latches the high half, TIME_CAPTURE stores the timebase (R728, R729); KEEPW writes queue up to 16, one more sets DROPPED, a settings word that R632 refuses sets REJECTED (R730, R731), and the oldest queued write takes effect (R640); PERF_LATCH latches both sets and its end replaces the selected copies together (R733); the keep domain counts seconds and the heartbeat counts while Shepherd runs. (18 R728, 18 R729, 18 R730, 18 R731, 18 R733, 15 R621, 16 R640, 16 R642) -/
def Obligations.TimeKeepPerfAct : Prop :=
  (∀ (s : State), barOpen s = true → exec .timeNowLoRead s = .next
      { s.send (.reply (le 4 s.us) false) with glb := { s.glb with nowHi := BitVec.ofNat 32 (s.us / 2 ^ 32) } }) ∧
  (∀ (s : State), barOpen s = true → exec .timeCapture s = .next { s with glb := { s.glb with captured := BitVec.ofNat 64 s.us } }) ∧
  (∀ (w : Nat) (v : U32) (s : State), barOpen s = true → s.glb.boot = .running → exec (.keepwUserWrite w v) s = .next (if
      s.keep.queue.length < 16 then
      { s with keep := { s.keep with queue := s.keep.queue ++ [{ settings := false, word := w, value := v }] } } else
      { s with keep := { s.keep with dropped := true } })) ∧
  (∀ (w : Nat) (v : U32) (s : State), barOpen s = true → s.glb.boot = .running → s.keep.queue.length < 16 → exec (.keepwSetWrite w v) s =
      .next (if settingOk s w v.toNat then
      { s with keep := { s.keep with queue := s.keep.queue ++ [{ settings := true, word := w, value := v }] } } else
      { s with keep := { s.keep with rejected := true } })) ∧
  (∀ (w : KeepWrite) (rest : List KeepWrite) (s : State), s.running = true → s.keep.queue = w :: rest → exec .keepwQueueEntry s = .next
      (if w.settings then writeSettings [(w.word, w.value)] { s with keep := { s.keep with queue := rest } } else
      { s with keep := { s.keep with queue := rest, user := Tab.put s.keep.user w.word w.value } })) ∧
  (∀ (v : U32) (s : State), barOpen s = true → s.glb.boot = .running → s.perf.busy = false → v.toNat % 4 ≠ 0 → exec (.perfLatch v) s =
      .next
      { foldBytes s with perf := { (foldBytes s).perf with busy := true, sel := BitVec.ofNat 2 v.toNat, latchAt := (foldBytes s).us, latchPerf := (foldBytes s).cnt.perf, latchErrors := Tab.put (foldBytes s).cnt.errors 0x20C (foldBytes s).evq.lostTotal } })
      ∧
  (∀ (s : State), s.perf.busy = true → exec .perfLatchDone s = .next
      { s with perf := { s.perf with busy := false, time := BitVec.ofNat 64 s.perf.latchAt, perfValid := s.perf.perfValid || s.perf.sel.getLsbD 0, errorsValid := s.perf.errorsValid || s.perf.sel.getLsbD 1, perfSet := if s.perf.sel.getLsbD 0 then s.perf.latchPerf else s.perf.perfSet, errorSet := if s.perf.sel.getLsbD 1 then s.perf.latchErrors else s.perf.errorSet } })

/-- Power, PORST_N, watchdogs and DEVICE_RESET reset the device as their rules say. The rails rise with PORST_N low and cause 0 (R673), AVS at code 10; power loss is a reset that leaves what has its own supply (R677); PORST_N low from 10 us is a reset of kind 1, below 1 us nothing (R674); PORST_N high runs the boot ROM from the straps (R675); the watchdog and a lockstep mismatch log their entry and restart with kind 5 or 6 (R627, R628); DEVICE_RESET completes and then resets (R123). (17 R673, 17 R674, 17 R675, 17 R677, 17 R685, 17 R686, 15 R627, 15 R628, 04 R123) -/
def Obligations.PowerAndResetsAct : Prop :=
  (∀ (s : State), s.pwr.rails = false → exec .powerOn s = .next
      { s.send (.pin .avsVid 0 10) with pwr := { s.pwr with rails := true, porst := true, avs := 10 }, keep := { s.keep with supply := .io18 }, glb := { s.glb with resetCause := 0 } })
      ∧
  (∀ (s : State), s.pwr.rails = true → exec .powerLoss s = .next
      { coldReset 0 s with pwr := { (coldReset 0 s).pwr with rails := false }, keep := { (coldReset 0 s).keep with supply := .vbat } }) ∧
  (∀ (us : Nat) (s : State), s.pwr.rails = true → s.pwr.porst = false → 10 ≤ us → exec (.porstNAssert us) s = .next (coldReset 1 s)) ∧
  (∀ (us : Nat) (s : State), us < 1 → exec (.porstNAssert us) s = .next s) ∧
  (∀ (b : BootPins) (s : State), s.pwr.rails = true → s.pwr.porst = true → exec (.porstNRise b) s = .next (bootFromPins b s)) ∧
  (∀ (s : State), s.glb.boot = .starting → exec .shepherdStart s = .next (shepherdStart s)) ∧
  (∀ (s : State), s.glb.boot = .running → s.pwr.tripped = false → s.glb.beatAt + 50000000 ≤ s.now → exec .shepherdWatchdog s = .next
      (warmReset 5 (logNew 0x0905 0 0 (le 1 1) s))) ∧
  (∀ (s : State), s.glb.boot = .running → s.pwr.tripped = false → exec .lockstepMismatch s = .next (warmReset 6 (logNew 0x0905 0 0 (le 1
      2) s))) ∧
  (∀ (h : Hdr) (p : Bytes) (s : State), Taken 0x0009 h p s → resOk p [0xFF, 0, 0, 0] = true → (fld p 0 1 = 3 ∨ fld p 0 1 = 4) → ∃ v,
      Completed h 0x0009 .ok [] v ∧ v.quiet = s.quiet ∧ exec (.deviceReset h p) s = .next (if fld p 0 1 = 3 then coldReset 3 v else
      warmReset 4 v))

/-- The boot registers, the keep domain and JTAG act as their rules say. GO reads the image the host placed, or fails (R734, R692); the image read is verified under R646 and loaded, or the device waits again with the status. ROLLBACK follows the running image after 60 s (R648); the heartbeat and the keep seconds count (R703, R642); the crystal, the supply, a loss of the keep domain and a reversed battery leave what R631, R645, R751, R761 and R773 say. JTAG after DEBUG_LOCK reaches boundary scan alone (R651). (17 R692, 18 R734, 16 R631, 16 R642, 16 R645, 16 R648, 16 R651, 18 R703, 19 R751, 19 R761, 19 R773) -/
def Obligations.BootAndKeepAct : Prop :=
  (∀ (s : State), s.glb.boot = .waitHost → s.pwr.tripped = false → s.pcie.busMaster = true → s.glb.bootAddr.toNat % 4096 = 0 →
      s.glb.bootLen.toNat % 4096 = 0 → 4096 ≤ s.glb.bootLen.toNat → s.glb.bootLen.toNat ≤ 8388608 → exec .glbBootGo s = .next
      (settleAlert (startRead .bootImage s.glb.bootAddr.toNat s.glb.bootLen.toNat
      { s with glb := { s.glb with boot := .hostLoading } }))) ∧
  (∀ (image : Option Bytes) (s : State), s.glb.boot = .hostLoading → ∃ u : State, u =
      { s with reads := s.reads.filter (fun r => match r.purpose with | .bootImage => false | _ => true) } ∧ exec (.hostDownloadDone
      image) s = .next (settleAlert
      (match image with | none => { u with glb := { u.glb with boot := .waitHost, lastStatus := 0x0500 } } | some b => (match verifyImage u (pad s.glb.bootLen.toNat b) s.glb.bootLen.toNat with | none => loadImage (pad s.glb.bootLen.toNat b) 3 u | some st => { u with glb := { u.glb with boot := .waitHost, lastStatus := BitVec.ofNat 16 st.code } }))))
      ∧
  (∀ (s : State), s.running = true → s.glb.startedAt + 60000000000 ≤ s.now → s.otp.rollback < s.glb.fwLevel → s.glb.fwLevel ≤ 32 → exec
      .rollbackProgram s = .next { s with otp := { s.otp with rollback := s.glb.fwLevel } }) ∧
  (∀ (s : State), s.running = true → exec .heartbeatTick s = .next
      { s with glb := { s.glb with heartbeat := s.glb.heartbeat + 1, beatAt := s.now } }) ∧
  (∀ (s : State), s.keep.xtal = true → s.keep.supply ≠ .lost → s.keep.seconds ≠ 0xFFFFFFFF → exec .keepSecondsTick s = .next
      { s with keep := { s.keep with seconds := s.keep.seconds + 1, secondsAt := s.now } }) ∧
  (∀ (s : State), s.keep.seconds = 0xFFFFFFFF → exec .keepSecondsTick s = .next s) ∧
  (∀ (s : State), exec .xtal32kLoss s = .next { s with keep := { s.keep with xtal := false } } ∧ exec .xtal32kRestored s = .next
      { s with keep := { s.keep with xtal := true } } ∧ (s.keep.supply = .io18 → exec .vbatReversalLatch s = .next
      { s with keep := { s.keep with inputReversed := true } }) ∧ (s.keep.supply ≠ .io18 → exec .vbatReversalLatch s = .next
      { s with keep := { supply := .lost, keepLost := true, inputReversed := true, xtal := s.keep.xtal } })) ∧
  (∀ (s : State), exec (.keepSupplySwitch true) s = .next { s with keep := { s.keep with supply := .io18 } }) ∧
  (∀ (s : State), s.keep.supply = .io18 → s.pwr.rails = false → exec (.keepSupplySwitch false) s = .next
      { s with keep := { s.keep with supply := .vbat } }) ∧
  (∀ (s : State), s.keep.supply ≠ .io18 → exec .keepDomainReset s = .next
      { s with keep := { supply := .lost, keepLost := true, inputReversed := s.keep.inputReversed, xtal := s.keep.xtal } }) ∧
  (∀ (s : State), exec .vbatValid s = .next
      { s with keep := { s.keep with supply := if s.keep.supply = .lost then .vbat else s.keep.supply, vbatReversed := s.keep.vbatReversed || s.keep.inputReversed, inputReversed := false } })
      ∧
  (∀ (j : Jtag) (s : State), s.otp.debugLocked = true → exec (.jtagAccess j) s = .next
      (match j with | .boundaryScan b => s.send (.tdo b) | _ => s)) ∧
  (∀ (memory core addr len : Nat) (data : Bytes) (m : Mem) (s : State), s.otp.debugLocked = false → m = (if memory = 0 then .cm
      core else if memory = 1 then .kennel else .dram) → exec (.jtagAccess .halt) s = .next
      { s with glb := { s.glb with jtagHalted := true } } ∧ exec (.jtagAccess .resume) s = .next
      { s with glb := { s.glb with jtagHalted := false } } ∧ exec (.jtagAccess (.read memory core addr len)) s = .next ((outsideRead m
      addr len s).2.send (.tdo (outsideRead m addr len s).1)) ∧ exec (.jtagAccess (.write memory core addr data)) s = .next (putOutside m
      addr data s)) ∧
  (∀ (m : Mem) (a n : Nat) (s : State), anyHeld s m a n = false → (∀ k < n, deadByte s m (a + k) = false) → (∀ k < n, s.mem.held.contains
      ((memKey m).1, (memKey m).2, (a + k) / 128) = false) → outsideRead m a n s = (readMem s m a n, s))

/-- The camera commands have the effect of their rules. CSI_CONFIG (R141), SENSOR_PROFILE_LOAD (R142), SET_EXPOSURE (R143 to R145), RFE_SET (R146), IRLED_SET (R147), FSYNC_SET (R148), SENSOR_POWER (R149) and SCTL_XFER (R150), taken with fields and states their rules allow, answer with their result and leave the state of their rules: a port, a source, an exposure set, a section of the front end, a lamp, a sync pin, a supply, a transfer. A change of a source that feeds a running stream enters its shadow set. (04 R141, 04 R142, 04 R143, 04 R145, 04 R146, 04 R147, 04 R148, 04 R149, 04 R150, 06 R257, 06 R779) -/
def Obligations.CameraCommandsAct : Prop :=
  (∀ (h : Hdr) (p : Bytes) (s : State), Taken 0x0300 h p s → resOk p [0x03, 0xFF, 0xFF, 0xFF, 0xFF, 0x03, 0xFF, 0xFF] = true → (fld p 1 1
      = 1 ∨ fld p 1 1 = 2 ∨ fld p 1 1 = 4) → 80 ≤ fld p 2 2 → fld p 2 2 ≤ 4500 → portRuns s
      (bits (fld p 0 1) 0 2) = false → (bit (fld p 5 1) 0 = true → s.glb.capCamera = true ∧ profCsi s.pwr.profile (bits (fld p 0 1) 0 2)
      = true) → (bit (fld p 5 1) 0 = false → portNamed s (bits (fld p 0 1) 0 2) = false) → (s.port (bits (fld p 0 1) 0 2)).orderFault =
      false → Answers (.csiConfig h p) h 0x0300 .ok [] s (setDomain (26 + bits (fld p 0 1) 0 2) (bit (fld p 5 1) 0) (s.setPort (bits (fld
      p 0 1) 0 2)
      { enable := bit (fld p 5 1) 0, lanes := fld p 1 1, rate := fld p 2 2, order := fld p 4 1, embedded := bit (fld p 5 1) 1, vcMask := fld p 6 2 })))
      ∧
  (∀ (h : Hdr) (p : Bytes) (s : State), Taken 0x0301 h p s → resOk p ([0x03, 0x0F, 0, 0] ++ profileMask (((p.drop 4).length - 64) /
      8) ++ full 8) = true → profileOk (p.drop 4) = true → (s.glb.stepping ≠ 0xA0 ∨ bit (fld (p.drop 4) 5 1) 2 = false)
      → (runningSources s).contains (bits (fld p 0 1) 0 2 * 16 + bits (fld p 1 1) 0 4) = false → Answers (.sensorProfileLoad h p) h
      0x0301 .ok [] s (s.setSource (bits (fld p 0 1) 0 2 * 16 + bits (fld p 1 1) 0 4)
      { s.source (bits (fld p 0 1) 0 2 * 16 + bits (fld p 1 1) 0 4) with profile := p.drop 4, rfe := {}, starts := [], endedAt := none }))
      ∧
  (∀ (h : Hdr) (p : Bytes) (s : State), Taken 0x0302 h p s → resOk p ([0x1F, 0x01, 0, 0] ++ full 12) = true → 1 ≤ fld p 8 4 → fld p 8 4 ≤
      1000000 → 0x100 ≤ fld p 12 2 → 0x100 ≤ fld p 14 2 → (s.stream (bits (fld p 0 1) 0 5)).state = .running → (s.stream (bits (fld p 0
      1) 0 5)).cfg.sourceKind = 2 → streamProfile s (bits (fld p 0 1) 0 5) ≠ [] → exposureOk (streamProfile s (bits (fld p 0 1) 0 5))
      (fld p 8 4) (fld p 12 2) (fld p 14 2) = true → (!later (BitVec.ofNat 32 (fld p 4 4)) ((s.stream (bits (fld p 0 1) 0
      5)).lastAccepted + 64) || !later (BitVec.ofNat 32 (fld p 4 4)) (s.stream (bits (fld p 0 1) 0 5)).lastAccepted) = true → Answers
      (.setExposure h p) h 0x0302 .ok (le 2 (s.stream (bits (fld p 0 1) 0 5)).nextEsid.toNat ++ le 2 0 ++ le 4 (BitVec.ofNat 32 (fld p 4
      4) - BitVec.ofNat 32 (spLatency (streamProfile s (bits (fld p 0 1) 0 5)))).toNat ++ le 4 (BitVec.ofNat 32 (fld p 4 4)).toNat) s
      (s.setStream (bits (fld p 0 1) 0 5)
      { s.stream (bits (fld p 0 1) 0 5) with nextEsid := (s.stream (bits (fld p 0 1) 0 5)).nextEsid + 1, exposures := (s.stream (bits (fld p 0 1) 0 5)).exposures.filter (fun e => !supersedes (BitVec.ofNat 32 (fld p 4 4)) e) ++ [{ esid := (s.stream (bits (fld p 0 1) 0 5)).nextEsid, target := BitVec.ofNat 32 (fld p 4 4), lines := exposureLines (streamProfile s (bits (fld p 0 1) 0 5)) (fld p 8 4), again := againCode (streamProfile s (bits (fld p 0 1) 0 5)) (fld p 12 2), dgain := dgainCode (streamProfile s (bits (fld p 0 1) 0 5)) (fld p 14 2), irPulse := bit (fld p 1 1) 0, writing := false, commitSent := false, attempts := 0, lastResult := 0, landing := none }] }))
      ∧
  (∀ (h : Hdr) (p : Bytes) (s : State), Taken 0x0303 h p s → p.length = 4 + rfeTotal (p.drop 4) (fld p 2 2) → resOk (p.take 4) [0x03,
      0x0F, 0x0F, 0] = true → (rfeSections (p.drop 4) (fld p 2 2)).all (fun e => resOk (((p.drop 4).drop e.2).take (rfeLen (p.drop 4) e.2
      e.1)) (rfeMask (p.drop 4) e)) = true → (rfeSections (p.drop 4) (fld p 2 2)).all (rfeForm (p.drop 4)) = true → exec (.rfeSet h p) s
      = .next (sourceCommand 0x0303 h (bits (fld p 0 1) 0 2 * 16 + bits (fld p 1 1) 0 4) (.rfe (bits (fld p 0 1) 0 2 * 16 + bits (fld p 1
      1) 0 4) (fld p 2 2) (p.drop 4)) s) ∧ (feeds s (bits (fld p 0 1) 0 2 * 16 + bits (fld p 1 1) 0 4) = none → Answers (.rfeSet h p) h
      0x0303 .ok (effective 0) s (applySide (.rfe (bits (fld p 0 1) 0 2 * 16 + bits (fld p 1 1) 0 4) (fld p 2 2) (p.drop 4)) s))) ∧
  (∀ (h : Hdr) (p : Bytes) (s : State), Taken 0x0304 h p s → resOk p [0x01, 0xFF, 0xFF, 0xFF, 0xF3, 0xFF, 0, 0] = true → fld p 1 1 = 2 →
      fld p 2 2 ≤ 200 → exec (.irledSet h p) s = .next (complete h 0x0304 .ok (effective 0) ((s.setIrled (bits (fld p 0 1) 0 1)
      { mode := 2, current := fld p 2 2, sinking := true, fresh := true }).send (.pin .irled (bits (fld p 0 1) 0 1) (fld p 2 2))))) ∧
  (∀ (h : Hdr) (p : Bytes) (s : State) (k mode : Nat), Taken 0x0305 h p s → k = bits (fld p 0 1) 0 2 → mode = fld p 1 1 → resOk p ([0x03,
      0xFF, 0x03, 0] ++ full 6 ++ rsv 2) = true → (mode = 1 ∨ mode = 2) → (mode = 1 → 1000 ≤ fld p 4 4 ∧ fld p 4 4 ≤ 1000000) → 1 ≤ fld p
      8 2 → fld p 8 2 ≤ 1000 → fsyncUsed s k = false → Answers (.fsyncSet h p) h 0x0305 .ok [] s (s.setFsync k
      { s.fsync k with mode := mode, follow := if mode = 2 then fld p 2 1 else 0, period := if mode = 1 then fld p 4 4 else 0, pulse := fld p 8 2 }))
      ∧
  (∀ (h : Hdr) (p : Bytes) (s : State), Taken 0x0305 h p s → resOk p ([0x03, 0xFF, 0x03, 0] ++ full 6 ++ rsv 2) = true → fld p 1 1 = 3 →
      Answers (.fsyncSet h p) h 0x0305 .ok [] s (s.setFsync (bits (fld p 0 1) 0 2)
      { s.fsync (bits (fld p 0 1) 0 2) with stamping := true })) ∧
  (∀ (h : Hdr) (p : Bytes) (s : State), Taken 0x0306 h p s → resOk p [0x03, 0x01] = true → bit (fld p 1 1) 0 = true → (s.spwr (bits (fld
      p 0 1) 0 2)).on = true → (s.spwr (bits (fld p 0 1) 0 2)).settling = false → Answers (.sensorPower h p) h 0x0306 .ok [] s s) ∧
  (∀ (h : Hdr) (p : Bytes) (s : State), Taken 0x0306 h p s → resOk p [0x03, 0x01] = true → bit (fld p 1 1) 0 = true → (s.spwr (bits (fld
      p 0 1) 0 2)).on = false → exec (.sensorPower h p) s = .next ((markStarted h (s.setSpwr (bits (fld p 0 1) 0 2)
      { on := true, settling := true, cmd := (s.spwr (bits (fld p 0 1) 0 2)).cmd ++ [h] })).send (.pin .sensorPwr (bits (fld p 0 1) 0 2)
      1))) ∧
  (∀ (h : Hdr) (p : Bytes) (s : State), Taken 0x0306 h p s → resOk p [0x03, 0x01] = true → bit (fld p 1 1) 0 = false → powerUsed s (bits
      (fld p 0 1) 0 2) = false → portRuns s (bits (fld p 0 1) 0 2) = false → (s.spwr (bits (fld p 0 1) 0 2)).cmd = [] → Answers
      (.sensorPower h p) h 0x0306 .ok [] s (s.setSpwr (bits (fld p 0 1) 0 2) {})) ∧
  (∀ (h : Hdr) (p : Bytes) (result nak : Nat) (data : Bytes) (t : Xfer) (s : State), Taken 0x0307 h p s → p.length = 16 + fld p 4 2 → resOk p
      ([0x03, 0x7F, 0xFF, 0x03] ++ full (12 + fld p 4 2)) = true → ((fld p 2 1 = 0 ∧ fld p 3 1 ≤ 2) ∨ (fld p 2 1 = 1 ∧ fld p 3 1 = 3 ∧
      s.glb.stepping ≠ 0xA0)) → fld p 4 2 ≤ 256 → fld p 6 2 ≤ 256 → (fld p 6 2 = 0 → fld p 8 8 = 0) → fld p 8 8 % 64 = 0 → busUsed s
      (bits (fld p 0 1) 0 2) = false → (s.sctl (bits (fld p 0 1) 0 2)).xfers = [] → (s.sctl (bits (fld p 0 1) 0 2)).stuck = false → t =
      { ring := h.ring, tag := h.tag, dest := fld p 8 8, addr := fld p 1 1, speed := fld p 3 1, mode := fld p 2 1, write := (p.drop 16).take (fld p 4 2), readLen := fld p 6 2 }
      → if 15000000 < longestXfer (fld p 3 1) (fld p 4 2) (fld p 6 2) then Answers (.sctlXfer h p result nak data) h 0x0307 .pending stagedResult s
      { s.setSctl (bits (fld p 0 1) 0 2) { s.sctl (bits (fld p 0 1) 0 2) with xfers := [t], recovered := false } with staged := s.staged ++ [waiting h 0x0307 (bits (fld p 0 1) 0 2) true .sctl] }
      else Answers (.sctlXfer h p result nak data) h 0x0307 .ok (xferResult result nak) s s)

/-- Packets of an open CSI port start, fill and end frames, and what is lost is counted. On an open port (R235 to R238): a frame start on an enabled virtual channel opens a frame (R240, R241), a line of the profile's data type goes to the open frame (R244), a frame end ends it (R243); a header past correction, a channel that is not enabled, an end or a line outside a frame are counted (R242). A frame that stays without packets for a sixteenth of its period ends (R243). Accepted host frames start their work (R185, R188). (06 R235, 06 R238, 06 R240, 06 R241, 06 R242, 06 R243, 06 R244, 05 R185, 05 R188, 05 R190) -/
def Obligations.CsiEventsAct : Prop :=
  (∀ (sc pic : Nat) (b : Buf) (bs : List Buf) (s : State), s.running = true → (s.stream sc).state = .running → (s.stream
      sc).cfg.sourceKind = 1 → (s.stream sc).inBufs = b :: bs → nextAcceptAt (s.stream sc) ≤ s.now → lateForGroup s sc = false →
      followsPack s sc = false → exec (.hostFrameAccept sc pic) s = .next (announceAccept sc (acceptFrame sc (some b) (some pic) (s.stream sc).esid 0
      0 (s.setStream sc { s.stream sc with inBufs := bs })))) ∧
  (∀ (port vc sf : Nat) (c : Bool) (s : State), portOpen (s.port port) = true → bit (s.port port).vcMask vc = true → ∃ t f, exec
      (.csiFrameStart port vc sf c false) s = .next t ∧ (t.source (port * 16 + vc)).open_ = some f ∧ f.sensorFrame = sf ∧ f.lines = 0) ∧
  (∀ (port vc sf : Nat) (c : Bool) (s : State), portOpen (s.port port) = true → exec (.csiFrameStart port vc sf c true) s = .next (countCsi
      port vc .header s) ∧ (bit (s.port port).vcMask vc = false → exec (.csiFrameStart port vc sf false false) s = .next (countCsi port vc
      .channel s))) ∧
  (∀ (port vc sf : Nat) (s : State), portOpen (s.port port) = true → (s.port port).awaitStart = false → bit (s.port port).vcMask vc =
      true → exec (.csiFrameEnd port vc sf 0) s = .next (if (s.source (port * 16 + vc)).open_.isSome then endFrame port vc s else
      countCsi port vc .strayEnd s) ∧ exec (.csiFrameEnd port vc sf 2) s = .next (countCsi port vc .header s)) ∧
  (∀ (port vc dt : Nat) (b : Bytes) (f : OpenFrame) (s : State), portOpen (s.port port) = true → (s.port port).awaitStart = false → bit
      (s.port port).vcMask vc = true → dt ≠ 0x12 → (s.source (port * 16 + vc)).profile ≠ [] → dt = fld (s.source (port * 16 +
      vc)).profile 2 1 → (s.source (port * 16 + vc)).open_ = some f → exec (.csiLongPacket port vc dt 0 true b) s = .next (lineArrives
      (port * 16 + vc) f (some b) s)) ∧
  (∀ (port vc dt : Nat) (b : Bytes) (s : State), portOpen (s.port port) = true → (s.port port).awaitStart = false → exec (.csiLongPacket
      port vc dt 2 true b) s = .next (lostLine port vc dt (countCsi port vc .header s)) ∧ exec (.csiLongPacket port vc dt 0 false b) s =
      .next (lostLine port vc dt (countCsi port vc .payload s))) ∧
  (∀ (port vc q : Nat) (f : OpenFrame) (s : State), (s.source (port * 16 + vc)).open_ = some f → sourcePeriod s (port * 16 + vc) = some q
      → f.lines ≠ 0 → f.lastPacketAt + q / 16 ≤ s.now → exec (.frameEndTimeout port vc) s = .next (endFrame port vc (countCsi port vc .timeout s))) ∧
  (∀ (sc : Nat) (s : State), (s.stream sc).state = .running → (s.stream sc).cfg.sourceKind = 2 → (s.stream sc).lost = false → (if
      (s.stream sc).accepted then (s.stream sc).lastAcceptAt else (s.stream sc).startedAt) + 8 * periodNs (s.stream sc).cfg ≤ s.now →
      exec (.sourceLostTimeout sc) s = .next (emit (srcSc sc) 0x0107 (le 4 (s.stream sc).sourceFrame.toNat) (s.setStream sc
      { s.stream sc with lost := true })) ∧ Reaches (.sourceLostTimeout sc) s (s.setStream sc { s.stream sc with lost := true })) ∧
  (∀ (port vc : Nat) (f : OpenFrame) (rest : List OpenFrame) (s : State), (s.source (port * 16 + vc)).closed = f :: rest → ∃ t, exec
      (.statsComplete port vc) s = .next t ∧ (f.accepted = none → t = s.setSource (port * 16 + vc)
      { s.source (port * 16 + vc) with closed := rest }))

/-- Lane events of a CSI port report and recover as their rules say. A burst all of whose lanes started counts as good (R238); an inverted lane is reported once per enable (R236); a deskew at 1,500 Mb/s or more marks the port deskewed and takes the delays, its absence 5 ms after the first burst is a fault (R235); a lost clock is a fault (R238). A port without a fault keeps its frames. (06 R235, 06 R236, 06 R237, 06 R238, 15 R619, 19 R770) -/
def Obligations.CsiLanesAct : Prop :=
  (∀ (port started : Nat) (s : State), (s.port port).enable = true → started % 2 ^ (s.port port).lanes = laneMask (s.port port) →
      (List.range (s.port port).lanes).filter (fun l => 16 ≤ Tab.get 0 (missBursts (s.port port) started).missed l) = [] → exec
      (.csiHsBurst port started 0 none) s = .next (burstsGood port (s.setPort port
      { missBursts (s.port port) started with firstBurst := some ((s.port port).firstBurst.getD s.now), badHeaders := 0, goodBursts := (s.port port).goodBursts + 1 })))
      ∧
  (∀ (port started inv : Nat) (s : State), (s.port port).enable = true → (s.port port).pnReported = false → inv ≠ 0 → started % 2 ^
      (s.port port).lanes ≠ laneMask (s.port port) → (List.range (s.port port).lanes).filter (fun l => 16 ≤ Tab.get 0 (missBursts (s.port
      port) started).missed l) = [] → ∃ t, exec (.csiHsBurst port started inv none) s = .next (burstsGood port t) ∧ t = portFault (srcCsi
      port) 0x02 port inv 0 false (s.setPort port
      { missBursts (s.port port) started with firstBurst := some ((s.port port).firstBurst.getD s.now), pnReported := true, inverted := (s.port port).inverted ||| inv, badHeaders := 0, goodBursts := 0 }))
      ∧
  (∀ (port : Nat) (d : List Nat) (s : State), (s.port port).enable = true → 1500 ≤ (s.port port).rate → exec (.deskewSequence port d) s =
      .next (burstsGood port (s.setPort port { s.port port with deskewed := true, delays := d }))) ∧
  (∀ (port t : Nat) (s : State), (s.port port).firstBurst = some t → (s.port port).enable = true → 1500 ≤ (s.port port).rate → (s.port
      port).deskewed = false → t + 5000000 ≤ s.now → exec (.deskewTimeout port) s = .next (portFault (srcCsi port) 0x01 port 0 0 true s))
      ∧
  (∀ (port : Nat) (s : State), (s.port port).enable = true → (s.port port).clockLost = false → exec (.clockLostTimeout port) s = .next
      (portFault (srcCsi port) 0x05 port 0 0 true (s.setPort port { s.port port with clockLost := true, goodBursts := 0 })))

/-- Exposure writes and serial bus events act as their rules say. A commit that the sensor acknowledged lands the set LATENCY frames after the next frame, with EXPOSURE_LATE when that is not its target (R260, R262); a set whose window closed is tried again and its eighth failure drops it with EXPOSURE_FAILED (R263). A long transfer ends with COMMITTED and its bus result (R150); a stuck bus is recovered or reported, and reported again when it is free (R273, R772). (06 R258, 06 R259, 06 R260, 06 R262, 06 R263, 06 R273, 04 R150, 19 R772, 15 R619) -/
def Obligations.ExposureAndBusAct : Prop :=
  (∀ (sc : Nat) (e : Exposure) (s : State), (s.stream sc).exposures.find? (fun e => e.writing && e.commitSent) = some e → ∃ t, exec
      (.exposureCommitAck sc) s = .next t ∧ t.quiet = (onExposure sc (fun y => y.esid = e.esid) (fun y =>
      { y with writing := false, landing := some ((s.stream sc).nextFrame + BitVec.ofNat 32 (spLatency (streamProfile s sc))) })
      s).quiet) ∧
  (∀ (sc result : Nat) (e : Exposure) (s : State), (s.stream sc).exposures.find? (·.writing) = some e → exec (.exposureWindowClose sc
      result) s = .next (if e.attempts + 1 < 8 then onExposure sc (fun y => y.esid = e.esid) (fun y =>
      { y with writing := false, commitSent := false, attempts := y.attempts + 1, lastResult := result }) s else emit (srcSc sc) 0x0304
      (le 2 e.esid.toNat ++ le 1 result ++ le 1 0 ++ le 4 e.target.toNat) (s.setStream sc
      { s.stream sc with exposures := (s.stream sc).exposures.filter (fun y => y.esid ≠ e.esid) }))) ∧
  (∀ (sc src fs n opens : Nat) (e : Exposure) (edge : Option Nat) (sp : Bytes) (s u : State), s.running = true → (s.stream sc).state = .running
      → (s.stream sc).route = some src → sp = (s.source src).profile → sp ≠ [] → u = supersedeNow sc (spLatency sp) s → (u.stream
      sc).exposures.find? (exposureDue (spLatency sp) (u.stream sc).nextFrame) = some e → predictedStart u src edge = some fs → writeWindow u src edge = some
      (opens, fs - spGuard sp * 1000) → opens ≤ u.now → earlierWindow u sc (spBus sp) (fs - spGuard sp * 1000) = false → (u.sctl (spBus
      sp)).stuck = false → (u.stream sc).exposures.any (·.writing) = false → max u.now (u.sctl (spBus sp)).busyUntil +
      exposureTime sp < fs - spGuard sp * 1000 → n = spCount sp → ∃ t, exec (.exposureWriteWindow sc edge) s = .next (onExposure sc (fun
      y => y.esid = e.esid) (fun y => { y with writing := true, commitSent := true }) t) ∧ (∀ k < n, Sent.sctl (spBus sp) (bits (fld sp 6
      1) 0 7) (spSpeed sp) (b2n (bit (fld sp 5 1) 2)) (templateBytes sp e k) 0 ∈ t.sent)) ∧
  (∀ (bus result nak : Nat) (data : Bytes) (t : Xfer) (rest : List Xfer) (s : State), (s.sctl bus).xfers = t :: rest → Reaches
      (.sctlXferDone bus result nak data) s
      { s.setSctl bus { s.sctl bus with xfers := rest, recovered := false } with staged := s.staged.filter (fun e => !(e.ring == t.ring && e.tag == t.tag && e.opcode = 0x0307)) })
      ∧
  (∀ (bus : Nat) (sda scl : Bool) (s : State), ((s.sctl bus).xfers = [] → exec (.sctlStuckTimeout bus sda scl true) s = .next ((s.send
      (.recovery bus)).setSctl bus { s.sctl bus with recovered := true })) ∧ (∀ t rest, (s.sctl bus).xfers = t :: rest → (s.sctl
      bus).recovered = false → exec (.sctlStuckTimeout bus sda scl true) s = .next (((s.send (.recovery bus)).setSctl bus
      { s.sctl bus with recovered := true }).send (.sctl bus t.addr t.speed t.mode t.write t.readLen))) ∧ exec (.sctlStuckTimeout bus sda
      scl false) s = .next (portFault srcPorts 0x20 (10 + bus) 0 (b2n sda + 2 * b2n scl) true ((s.send (.recovery bus)).setSctl bus
      { s.sctl bus with stuck := true }))) ∧
  (∀ (bus : Nat) (s : State), (s.sctl bus).stuck = true → exec (.sctlBusRecovered bus) s = .next (portRecovered srcPorts (10 + bus)
      (s.setSctl bus { s.sctl bus with stuck := false })))

/-- IR lamps, sync pins and sensor supplies act as their rules say. A pulse starts at its current when one is due and ends after its time (R267, R269, R270); a fault at 50 mA or more switches the channel off and is reported (R270). A sync output pulses at its period, an input is stamped and followed (R271). A supply that settles answers the commands that waited; an overcurrent switches it off, to be retried up to 8 times after 4 ms and twice as long each time; a backfeed switches it off (R764). (06 R267, 06 R268, 06 R269, 06 R270, 06 R271, 04 R149, 19 R764, 15 R619) -/
def Obligations.LampsAndPinsAct : Prop :=
  (∀ (ch sc : Nat) (k : U32) (e : Int) (clip : Bool) (s : State), feeds s (s.irled ch).source = some sc → (s.irled ch).mode = 1 → (s.irled ch).faulted = false → (s.irled ch).pulse
      = none → pulseDue s (s.irled ch) = some (k, e, clip) → ∃ (t : State), exec (.irledPulseStart ch) s = .next (t.send (.pin .irled ch
      (s.irled ch).current)) ∧ t.irled ch = { s.irled ch with sinking := true, pulse := some (k, e.toNat), pulseFor := sc } ∧ ((t.source (s.irled
      ch).source).fired = Tab.put (s.source (s.irled ch).source).fired (firedKey sc k) clip)) ∧
  (∀ (ch e : Nat) (k : U32) (s : State), (s.irled ch).pulse = some (k, e) → e ≤ s.now → (s.irled ch).fresh = false → exec (.irledPulseEnd
      ch) s = .next ((s.setIrled ch { s.irled ch with sinking := false, pulse := none }).send (.pin .irled ch 0))) ∧
  (∀ (ch : Nat) (short : Bool) (s : State), (s.irled ch).sinking = true → 50 ≤ (s.irled ch).current → (s.irled ch).pulse = none → exec
      (.irledFaultDetect ch short) s = .next (portFault srcPorts (if short then 0x19 else 0x18) (8 + ch) 0 0 true ((s.setIrled ch
      { s.irled ch with sinking := false, pulse := none, faulted := true }).send (.pin .irled ch 0)))) ∧
  (∀ (k : Nat) (s : State), (s.fsync k).mode = 1 → s.us % max 1 (s.fsync k).period = 0 → exec (.fsyncOutEdge k) s = .next (fsyncPulse k
      s)) ∧
  (∀ (k : Nat) (s : State), (s.fsync k).stamping = true → (∀ j < 4, (s.fsync j).mode ≠ 2) → exec (.fsyncInEdge k) s = .next (s.setFsync k
      { s.fsync k with stamp := s.us })) ∧
  (∀ (k : Nat) (s : State), (s.spwr k).on = true → (s.spwr k).settling = true → exec (.sensorPwrSettled k) s = .next (powerAnswers
      (s.spwr k).cmd (portRecovered srcPorts (4 + k) (s.setSpwr k { on := true })))) ∧
  (∀ (k : Nat) (s : State), (s.spwr k).on = true → 1 ≤ (s.spwr k).retries → (s.spwr k).retries < 8 → exec (.sensorPwrOvercurrent k) s =
      .next (powerAnswers (s.spwr k).cmd ((s.setSpwr k
      { on := false, retries := (s.spwr k).retries, retryAt := some (s.now + 4000000 * 2 ^ (s.spwr k).retries) }).send (.pin .sensorPwr k
      0)))) ∧
  (∀ (k : Nat) (s : State), (s.spwr k).on = true → (s.spwr k).retries = 8 → exec (.sensorPwrOvercurrent k) s = .next (powerAnswers
      (s.spwr k).cmd (portFault srcPorts 0x12 (4 + k) 0 8 true ((s.setSpwr k { on := false, retries := 8 }).send (.pin .sensorPwr k
      0))))) ∧
  (∀ (k t : Nat) (s : State), (s.spwr k).retryAt = some t → t ≤ s.now → exec (.sensorPwrRetry k) s = .next ((s.setSpwr k
      { s.spwr k with on := true, settling := true, retries := (s.spwr k).retries + 1, retryAt := none }).send (.pin .sensorPwr k 1))) ∧
  (∀ (k : Nat) (s : State), (s.spwr k).on = true → exec (.sensorPwrBackfeed k) s = .next (powerAnswers (s.spwr k).cmd (portFault srcPorts
      0x11 (4 + k) 0 0 true ((s.setSpwr k {}).send (.pin .sensorPwr k 0)))))

/-- The memory commands have the effect of their rules. MEMORY_MODE_SET with no stream running or draining, no job and no pack takes the mode, and a change of it leaves no Kennel domain up and the IAC empty, on only when memory is tiered (R154, R419). WINDOW_OPEN opens a closed window over a range that its owner owns, that holds no held data and that overlaps no open host window (R155); WINDOW_CLOSE closes it and reports cause 1 (R156); SCRUB_SET takes the interval, none below 64 while a stream has a certificate (R157). Each answers OK. (04 R154, 04 R155, 04 R156, 04 R157, 10 R419, 14 R584) -/
def Obligations.MemoryCommandsAct : Prop :=
  (∀ (h : Hdr) (p : Bytes) (s : State) (flat : Bool), Taken 0x0500 h p s → resOk p [0xFF, 0, 0, 0] = true → fld p 0 1 ≤ 1 → modeFree s =
      true → flat = (fld p 0 1 == 1) → ∃ (u : State), Answers (.memoryModeSet h p) h 0x0500 .ok [] s u ∧ (flat = s.mem.flat → u = s) ∧
      (flat ≠ s.mem.flat → u.mem.flat = flat ∧ u.iac.on = !flat ∧ u.iac.sets = [] ∧ u.mem.kennelUp = [])) ∧
  (∀ (h : Hdr) (p : Bytes) (s : State) (w : Window), Taken 0x0501 h p s → w = windowOf p → resOk p ([0x3F, 0xFF, 0xFF, 0xFF, 0xFF, 7, 3,
      0] ++ full 16 ++ rsv 8) = true → w.kind = 0 → w.ownerKind ≤ 1 → w.memory ≤ 1 → ownerLive s w.ownerKind w.owner = true → windowRange
      s w = true → (s.window (fld p 0 1)).isOpen = false → windowHeld s w = false → (∀ k < 64, (s.window k).isOpen = true → (s.window
      k).kind = 0 → (s.window k).bar2 + (s.window k).length ≤ w.bar2 ∨ w.bar2 + w.length ≤ (s.window k).bar2) → Answers (.windowOpen h p)
      h 0x0501 .ok [] s (s.setWindow (fld p 0 1) w)) ∧
  (∀ (h : Hdr) (p : Bytes) (s : State) (w : Window), Taken 0x0502 h p s → resOk p [0x3F, 0, 0, 0] = true → w = s.window (fld p 0 1) →
      w.isOpen = true → w.kind = 0 → Answers (.windowClose h p) h 0x0502 .ok [] s (emit (windowSource w) 0x0504 (le 1 (fld p 0 1) ++ le 1
      w.kind ++ le 1 1 ++ le 1 w.peer) (s.setWindow (fld p 0 1) {}))) ∧
  (∀ (h : Hdr) (p : Bytes) (s : State), Taken 0x0503 h p s → resOk p ([0xFF, 0, 0, 0] ++ full 4) = true → fld p 0 1 ≤ 2 → (fld p 4 4 = 0
      ∨ 16 ≤ fld p 4 4) → fld p 4 4 ≤ 65535 → (fld p 4 4 = 0 ∨ 64 ≤ fld p 4 4 ∨ anyCert s .valid = false) → Answers (.scrubSet h p) h
      0x0503 .ok [] s { s with mem := { s.mem with scrubInterval := Tab.put s.mem.scrubInterval (fld p 0 1) (fld p 4 4) } })

/-- The host reads and writes a task region through its window, and DEBUG_READ reads one. A BAR2 access that lies whole in an open host window that grants it goes to the owner's bytes (R713, R715): a read of a range without held or uncorrectable words returns them, a write stores them and leaves every other Kennel byte. DEBUG_READ of a live task's Kennel range without held or uncorrectable words delivers those bytes and answers OK (R167). (18 R713, 18 R715, 18 R736, 18 R737, 04 R167) -/
def Obligations.WindowAccessesAct : Prop :=
  (∀ (off n a : Nat) (w : Window) (s : State), barOpen s = true → bar2Window s off n false = some w → bar2At s w off = some (.kennel, a)
      → (∀ k < n, deadByte s .kennel (a + k) = false ∧ s.mem.held.contains (1, 0, (a + k) / 128) = false) → anyHeld s .kennel a n = false
      → exec (.bar2Read off n []) s = .next (s.send (.reply (readMem s .kennel a n) false))) ∧
  (∀ (off a : Nat) (data : Bytes) (w : Window) (s : State), barOpen s = true → bar2Window s off data.length true = some w → bar2At s w
      off = some (.kennel, a) → ∃ t, exec (.bar2Write off data) s = .next t ∧ t.mem.kennel = memWrite s.mem.kennel a data ∧ t.dram =
      s.dram ∧ t.mem.cm = s.mem.cm ∧ t.cnt.rx = s.cnt.rx + data.length) ∧
  (∀ (h : Hdr) (p : Bytes) (s : State) (r : Region) (off n : Nat), Taken 0x0801 h p s → resOk p ([0xFF, 0xFF, 0x0F, 0x07] ++ full 20) =
      true → fld p 0 1 = 1 → fld p 1 1 = 1 → off = fld p 8 4 → n = fld p 12 4 → off % 8 = 0 → 8 ≤ n → n ≤ 4096 → n % 8 = 0 → destOk h
      (fld p 16 8) = true → bits (fld p 3 1) 0 3 = s.glb.packPos.toNat → fld p 4 4 < 32 → admitted s (fld p 4 4) = true → (s.stream (fld
      p 4 4)).regions.filter (fun r => r.mem == .kennel) = [r] → off + n ≤ r.len → r.mem = .kennel → (∀ k < n, poisoned s .kennel (r.base
      + off + k) = false) → (∀ k < n, s.mem.held.any (fun e => e.1 == 1 && e.2.1 == 0 && decide (r.base + off + k < (e.2.2 + 1) * 128) &&
      decide (e.2.2 * 128 < r.base + off + k + 8)) = false) → AnswersData (.debugRead h p []) h 0x0801 [] (fld p 16 8) ((List.range (n /
      8)).flatMap (fun i => readMem s .kennel (r.base + off + 8 * i) 8)) s s)

/-- Device reads of host memory complete, are retried once, and give up. The parameter buffer that arrives with its PARAM_CRC makes its command ready, with another CRC it completes BAD_PARAM_CRC (R73). An attempt that is answered with an error, or whose 8 ms pass, is started again at once; when the retry fails too, a parameter read completes HOST_READ_FAILED and a slot fetch halts its ring (R88). (03 R73, 03 R88, 03 R90, 18 R727) -/
def Obligations.DmaReadsAct : Prop :=
  (∀ (id n t : Nat) (r : DmaRead) (e : InFlight) (b : Bytes) (s : State), s.reads.find? (fun x => x.id == id) = some r → r.purpose =
      .params n t → (s.inFlight n).find? (fun x => x.tag.toNat == t && x.phase == .paramRead) = some e → n < 8 → crc32c b = e.paramCrc →
      ∃ t', exec (.dmaReadCompletion id (some b)) s = .next t' ∧ t'.inFlight n = (s.inFlight n).map (fun x => if x.tag = e.tag && x.phase
      == .paramRead then { x with phase := .ready, params := b } else x) ∧ t'.reads = s.reads.filter (fun x => x.id != id) ∧ t'.cnt.rx =
      s.cnt.rx + b.length) ∧
  (∀ (id n t : Nat) (r : DmaRead) (e : InFlight) (b : Bytes) (s : State), s.reads.find? (fun x => x.id == id) = some r → r.purpose =
      .params n t → (s.inFlight n).find? (fun x => x.tag.toNat == t && x.phase == .paramRead) = some e → n < 8 → crc32c b ≠ e.paramCrc →
      exec (.dmaReadCompletion id (some b)) s = .next (complete { ring := n, tag := e.tag, crc := e.crc } e.opcode.toNat .badParamCrc []
      (received b.length { s with reads := s.reads.filter (fun x => x.id != id) }))) ∧
  (∀ (id : Nat) (r : DmaRead) (s u : State), s.reads.find? (fun x => x.id == id) = some r → r.id = id → r.attempt = 0 → (∀ c, r.purpose = .fetch c → hostLive s c = true) → u =
      { s.send (.hostRead id r.addr r.len) with reads := s.reads.map (fun x => if x.id = id then { x with attempt := 1, startedAt := s.now } else x) }
      → exec (.dmaReadCompletion id none) s = .next u ∧ (r.startedAt + completionTimeout s ≤ s.now → exec (.dmaReadTimeout id) s = .next
      u)) ∧
  (∀ (id n i : Nat) (r : DmaRead) (s : State), s.reads.find? (fun x => x.id == id) = some r → r.id = id → r.attempt = 1 → r.purpose =
      .slot n i → n < 8 → ∃ u, exec (.dmaReadCompletion id none) s = .next (haltSettle n (ringFault n 2 (u.ring n).sqHead.toNat u)) ∧
      (u.ring n).halted = true ∧ u.reads = s.reads.filter (fun x => x.id != id)) ∧
  (∀ (id n t : Nat) (r : DmaRead) (e : InFlight) (s : State), s.reads.find? (fun x => x.id == id) = some r → r.id = id → r.attempt = 1 →
      r.purpose = .params n t → (s.inFlight n).find? (fun x => x.tag.toNat == t && x.phase == .paramRead) = some e → exec
      (.dmaReadCompletion id none) s = .next (complete { ring := n, tag := e.tag, crc := e.crc } e.opcode.toNat .hostReadFailed []
      { s with reads := s.reads.filter (fun x => x.id != id) }))

/-- Arithmetic, branches and core registers of the SCU give their results. A retired arithmetic instruction writes its 32-bit result to its register, MUL keeping [31:0] and MULH and MULHU giving [63:32]; a shift by 32 or more writes a free value; no other register changes, and s0 reads 0 and ignores writes (R331, R332). A branch is taken on its condition; JAL and JALR leave the next address (their form is the model's reading, log 26). CSRR reads a core register, CSRW clears the SAT_FLAGS bits written 1, QSTAT gives the free entries of the queues. (08 R331, 08 R332) -/
def Obligations.ScuInstructionsAct : Prop :=
  (∀ (c rd rs : Nat) (op : ScuOp) (arg : ScuArg) (a b v : U32) (s : State), scuGo s c .none ([rd, rs] ++ argRegs arg) = true → a =
      (match arg with | .upper _ => 0 | _ => (s.core c).reg rs) → b = argValue (s.core c) arg → ((op = .shl ∨ op = .shr ∨ op = .sra) →
      b.toNat < 32) → v =
      (match op with | .add => a + b | .sub => a - b | .mul => a * b | .mulh => BitVec.ofInt 32 (a.toInt * b.toInt / 2 ^ 32) | .mulhu => BitVec.ofNat 32 (a.toNat * b.toNat / 2 ^ 32) | .and => a &&& b | .or => a ||| b | .xor => a ^^^ b | .shl => a <<< b.toNat | .shr => a >>> b.toNat | .sra => a.sshiftRight b.toNat | .slt => if a.slt b then 1 else 0 | .sltu => if a.ult b then 1 else 0)
      → exec (.scuArithmetic c op rd rs arg) s = .next (s.setCore c ((((s.core c).setReg rd v).setHeld rd (argHeld (s.core c) rs
      arg)).next s.now))) ∧
  (∀ (c rd rs : Nat) (op : ScuOp) (arg : ScuArg) (s : State), scuGo s c .none ([rd, rs] ++ argRegs arg) = true → (op = .shl ∨ op = .shr ∨
      op = .sra) → 32 ≤ (argValue (s.core c) arg).toNat → ∃ v, exec (.scuArithmetic c op rd rs arg) s = .next
      ({ s with drawn := s.drawn + 1 }.setCore c ((((s.core c).setReg rd v).setHeld rd (argHeld (s.core c) rs arg)).next s.now))) ∧
  (∀ (k : Core) (r q : Nat) (v : U32), (k.setReg r v).reg 0 = 0 ∧ (r % 32 ≠ 0 → (k.setReg r v).reg r = v) ∧ (q % 32 ≠ r % 32 → (k.setReg
      r v).reg q = k.reg q) ∧ (k.setReg 0 v) = k ∧ (∀ b, (k.setHeld r b).reg q = k.reg q)) ∧
  (∀ (c a b : Nat) (cond : ScuCond) (offset : Int) (x y : U32) (taken : Bool) (s : State), scuGo s c .none [a, b] = true → cond ≠ .jal →
      cond ≠ .jalr → x = (s.core c).reg a → y = (s.core c).reg b → taken =
      (match cond with | .eq => x == y | .ne => x != y | .lt => x.slt y | .ge => !(x.slt y) | .ltu => x.ult y | _ => !(x.ult y)) → exec
      (.scuBranch c cond a b offset) s = .next (s.setCore c (if taken then (s.core c).goTo ((((s.core c).pc : Int) + offset) %
      4096).toNat s.now else (s.core c).next s.now))) ∧
  (∀ (c a b : Nat) (offset : Int) (s : State), scuGo s c .none [a, b] = true → exec (.scuBranch c .jal a b offset) s = .next (s.setCore c
      ((((s.core c).setReg a (BitVec.ofNat 32 (((s.core c).pc + 1) % 4096))).setHeld a false).goTo ((((s.core c).pc : Int) + offset) %
      4096).toNat s.now)) ∧ exec (.scuBranch c .jalr a b offset) s = .next (s.setCore c ((((s.core c).setReg a (BitVec.ofNat 32 (((s.core
      c).pc + 1) % 4096))).setHeld a false).goTo (((((s.core c).reg b).toNat : Int) + offset) % 4096).toNat s.now))) ∧
  (∀ (c rd : Nat) (r : CoreReg) (v : Nat) (s : State), scuGo s c .none [rd] = true → v =
      (match r with | .coreId => c | .cycleLo => (s.core c).cycle.toNat % 2 ^ 32 | .cycleHi => (s.core c).cycle.toNat / 2 ^ 32 | .timeLo => s.us % 2 ^ 32 | .timeHi => s.us / 2 ^ 32 | .frame => (s.core c).frame.toNat | .paramBase => (s.core c).paramBase.toNat | .tilesDone0 => (s.core c).tilesDone0.toNat | .tilesDone1 => (s.core c).tilesDone1.toNat | .satFlags => (s.core c).satFlags.toNat | .trapCause => (s.core c).trapCause)
      → exec (.csrr c rd r) s = .next (s.setCore c ((((s.core c).setReg rd (BitVec.ofNat 32 v)).setHeld rd false).next s.now))) ∧
  (∀ (c rs : Nat) (r : CoreReg) (s : State), scuGo s c .none [rs] = true → exec (.csrw c rs r) s = .next (s.setCore c ((if r = .satFlags
      then { s.core c with satFlags := (s.core c).satFlags &&& ~~~(((s.core c).reg rs).setWidth 4) } else s.core c).next s.now))) ∧
  (∀ (c rd : Nat) (s : State), scuGo s c .none [rd] = true → exec (.qstat c rd) s = .next (s.setCore c ((((s.core c).setReg rd
      (BitVec.ofNat 32 ((32 - (s.core c).fetchQueue.length) + 256 * (8 - (s.core c).queue0.length) + 65536 * (8 - (s.core
      c).queue1.length)))).setHeld rd false).next s.now)))

/-- Narrow accesses of the SCU are issued, return and become visible. A load or store that passes its checks and stays within its count is issued (R331, R400, R406); its register waits for a load (R331), which takes the bytes served to it (R402, R434); a load that has waited 64 cycles of a gap-fill bank is served (R404); a new window begins with no requests counted (R406). A store of CM that has no older one to its address becomes visible (R434 to R436). A misaligned access traps with cause 0x15 (R356, R400). (08 R331, 08 R356, 10 R400, 10 R402, 10 R404, 10 R406, 10 R434, 10 R436) -/
def Obligations.ScuAccessesAct : Prop :=
  (∀ (c rd rs n : Nat) (offset : Int) (w : Width) (a : U32) (s : State), scuGo s c .none [rd, rs] = true → a = (s.core c).reg rs +
      BitVec.ofInt 32 offset → n = widthBytes w → narrowFault s c a.toNat n false = none → remoteAt s c a.toNat = none → mustDefer s c
      (bankGroup s c a.toNat) = false → ∃ t, exec (.scuLoad c rd rs offset w []) s = .next t ∧ (t.core c).loads = (s.core c).loads ++
      [{ reg := rd % 32, addr := a, size := n, signed := widthSigned w, issuedAt := s.now, seq := (s.core c).accesses, tag := none, deferred := false, data := none, held := (s.core c).regHeld rs }]
      ∧ (rd % 32 ≠ 0 → (t.core c).busyRegs.contains (rd % 32) = true) ∧ (t.core c).pc = ((s.core c).pc + 1) % 4096 ∧ (t.core c).regs =
      (s.core c).regs) ∧
  (∀ (c rs rb n : Nat) (offset : Int) (w : Width) (a : U32) (s : State), scuGo s c .none [rs, rb] = true → a = (s.core c).reg rb +
      BitVec.ofInt 32 offset → n = widthBytes w → narrowFault s c a.toNat n true = none → remoteAt s c a.toNat = none → mustDefer s c
      (bankGroup s c a.toNat) = false → ∃ t, exec (.scuStore c rs rb offset w) s = .next t ∧ (t.core c).stores = (s.core c).stores ++
      [{ addr := a, data := le n ((s.core c).reg rs).toNat, seq := (s.core c).accesses, window := none, deferred := false, held := (s.core c).regHeld rs }] ∧ (t.core
      c).pc = ((s.core c).pc + 1) % 4096 ∧ (t.core c).regs = (s.core c).regs) ∧
  (∀ (c rd rs : Nat) (offset : Int) (w : Width) (s : State), scuGo s c .none [rd, rs] = true → ((s.core c).reg rs + BitVec.ofInt 32
      offset).toNat % widthBytes w ≠ 0 → exec (.scuLoad c rd rs offset w []) s = .next (raiseTrap c 0x15 s) ∧ (exec (.scuStore c rd rs
      offset w) s = .next (raiseTrap c 0x15 s))) ∧
  (∀ (c rd : Nat) (l : NarrowLoad) (b : Bytes) (s : State), (s.core c).loads.find? (fun l => l.reg == rd % 32 && !l.deferred &&
      (l.tag.isNone || l.data.isSome)) = some l → l.data = some b → (s.core c).loads.find? (fun x => x.seq == l.seq) = some l → (s.core
      c).wait = .none → ∃ t, exec (.scuLoadReturn c rd) s = .next t ∧ (t.core c).loads = (s.core c).loads.filter (fun y => y.seq !=
      l.seq) ∧ (t.core c).regs = ((s.core c).setReg l.reg (if l.signed then BitVec.ofInt 32 (signed (8 * l.size) (leVal b)) else
      BitVec.ofNat 32 (leVal b))).regs) ∧
  (∀ (c reg : Nat) (l : NarrowLoad) (s : State), (s.core c).loads.find? (fun l => l.reg == reg % 32 && !l.deferred && l.tag.isNone &&
      l.data.isNone) = some l → gapFill s c (bankGroup s c l.addr.toNat) = true → l.issuedAt + 64000 / (if bankGroup s c l.addr.toNat = 0
      then (s.core c).clock else 1200) ≤ s.now → exec (.narrowWaitTimeout c reg) s = .next (serveLoad c l s)) ∧
  (∀ (c i x n : Nat) (st : NarrowStore) (s : State), (s.core c).stores[i]? = some st → (s.core c).stores = [st] → (s.core c).loads = [] →
      (s.core c).wait = .none → st.deferred = false → st.window = none → n = st.data.length → coreAt s c .scu st.addr.toNat n = .ok
      [(.mem (.cm c) x, n)] → ∃ t, exec (.scuStoreComplete c i) s = .next t ∧ (t.core c).stores = [] ∧ Tab.get [] t.mem.cm c = memWrite
      (Tab.get [] s.mem.cm c) x st.data ∧ t.mem.kennel = s.mem.kennel) ∧
  (∀ (c : Nat) (s : State), (s.core c).loads = [] → (s.core c).stores = [] → exec (.narrowWindowRollover c 0) s = .next (s.setCore c
      { s.core c with narrow := Tab.del (s.core c).narrow 0 }))

/-- Queues, fences, the end of a run, traps and the watchdog act as their rules say. FQ pushes a legal fetch descriptor and XQ a legal chained command (R332, R333, R340, R341); TWAIT waits for a tile that has not completed and goes on where it has; fences wait for accesses and end with none (R436, R437); EVT passes its code, a fault of the task where the plan says so (R332); DONE stops the core once everything has completed (R353). TRAP stops the SCU with its cause at the next tile boundary (R356). A core without progress for 4 ms is stalled (R357). (08 R332, 08 R333, 08 R340, 08 R341, 08 R353, 08 R356, 08 R357, 10 R436, 10 R437, 10 R439, 05 R186) -/
def Obligations.ScuControlsAct : Prop :=
  (∀ (c rs : Nat) (b : Bytes) (s : State), scuGo s c .fetchQueue [rs] = true → (s.core c).fetchQueue.length < 32 → (s.core c).stores = []
      → (queueEntry c rs s).toOption = some (b, s) → descriptorOk b = true → exec (.fq c rs) s = .next (settleFence c (s.setCore c
      { (s.core c).next s.now with fetchQueue := (s.core c).fetchQueue ++ [{ id := (s.core c).nextDesc, bytes := b }], nextDesc := (s.core c).nextDesc + 1 })))
      ∧
  (∀ (c rs : Nat) (b : Bytes) (s : State), scuGo s c .none [rs] = true → (s.core c).stores = [] → (queueEntry c rs s).toOption = some (b,
      s) → chainLegal b = true → (if cQueue b = 0 then (s.core c).queue0 else (s.core c).queue1).length < 8 → exec (.xq c rs) s = .next
      (notePresent c ((s.core c).next s.now) (s.setCore c (if cQueue b = 0 then
      { (s.core c).next s.now with queue0 := (s.core c).queue0 ++ [{ bytes := b }] } else
      { (s.core c).next s.now with queue1 := (s.core c).queue1 ++ [{ bytes := b }] })))) ∧
  (∀ (c q rs : Nat) (n : U16) (s : State), scuGo s c .none [rs] = true → n = ((s.core c).reg rs).setWidth 16 → exec (.twait c q rs) s =
      .next (s.setCore c (if tileDone (s.core c) q n then (s.core c).next s.now else { (s.core c).next s.now with wait := .tile q n })))
      ∧
  (∀ (c : Nat) (s : State), scuGo s c .none [] = true → exec (.fenceFull c) s = .next (settleFence c (s.setCore c
      { (s.core c).next s.now with wait := .fence })) ∧ exec (.fenceRemote c) s = .next (settleFence c (s.setCore c
      { (s.core c).next s.now with wait := .fenceRemote s.now })) ∧ ((s.core c).loads = [] → (s.core c).stores = [] → exec (.fenceFull c)
      s = .next ((s.setCore c { (s.core c).next s.now with wait := .fence }).setCore c
      { (s.core c).next s.now with wait := .none, scuAt := s.now }))) ∧
  (∀ (c code : Nat) (s : State), scuGo s c .none [] = true → exec (.evt c code) s = .next (if ((taskPlan s c).map (fun p =>
      p.evts.contains (code, 1))).getD false then coreFault c 4 0 (s.setCore c ((s.core c).next s.now)) else s.setCore c ((s.core c).next
      s.now))) ∧
  (∀ (c : Nat) (s : State), scuGo s c .none [] = true → runDrained (s.core c) = true → ∃ t, exec (.done c) s = .next t ∧ ((s.core c).task
      = none → t = s.setCore c { (s.core c).next s.now with stopped := true, state := .idle })) ∧
  (∀ (c code : Nat) (s : State), scuGo s c .none [] = true → exec (.trap c code) s = .next (raiseTrap c code s) ∧ ((s.core
      c).running.isSome = true → exec (.trap c code) s = .next (s.setCore c { s.core c with stopped := true, trapPending := some code }))
      ∧ ((s.core c).running = none → (s.core c).task = none → ∃ t, exec (.trap c code) s = .next t ∧ (t.core c).state = .trapped ∧
      (t.core c).trapCause = code % 256 ∧ (t.core c).stopped = true)) ∧
  (∀ (c : Nat) (s : State), coreBusy s c = true → (s.core c).stopped = false → (s.core c).wait = .none → rowWaiting s c = false → (s.core
      c).scuAt + 4000000 ≤ s.now → exec (.coreWatchdog c false) s = .next (coreFault c 2 0 (errAdd (0x100 + 4 * c) 1 (s.setCore c
      { s.core c with state := .stalled, stopped := true })))) ∧
  (∀ (c : Nat) (s : State), coreBusy s c = true → (s.core c).running.isSome = true → (s.core c).tileAt + 4000000 ≤ s.now → exec
      (.coreWatchdog c true) s = .next (coreFault c 2 0 (errAdd (0x100 + 4 * c) 1 (s.setCore c
      { s.core c with state := .stalled, stopped := true }))))

/-- A descriptor that can start transfers what its fields name. LOAD and STORE start their bursts, checked first (R449, R463, R464, R469); a burst of DRAM without a remote window becomes pieces of one line each. GATHER writes its weight area and moves or fetches its vectors (R450, R455, R456, R480). FILL repeats its pattern by address (R408), COPY moves ranges that do not overlap (R409), each within one memory. PUBLISH raises its counter's fields and gives it the run's generation (R468, R381). Each leaves the queue. (11 R449, 11 R450, 11 R456, 11 R463, 11 R464, 11 R468, 11 R469, 10 R408, 10 R409, 09 R381) -/
def Obligations.FetchesStart : Prop :=
  (∀ (c : Nat) (e : FetchEntry) (l : List (Int × Int × Nat)) (s : State) (r : List Piece × State), coreBusy s c = true → nextDescriptor s
      c 0 = some e → (burstsOf c e.bytes s).toOption = some l → transferFault s c e.bytes l = none → r = (l.foldl (fun (r : List Piece ×
      State) x => ((r.1 ++ (startBurst c e.bytes (waitLost s c e.bytes) x r.2).1), (startBurst c e.bytes (waitLost s c e.bytes) x
      r.2).2)) ([], s)) → windowDenies r.2 r.1 = false → exec (.fetchLoad c []) s = .next (launch c e r.1 (if dKind e.bytes = 0 && dBfr
      e.bytes != 0 then l.map (fun x => (x.2.1.toNat, x.2.2, x.1.toNat)) else []) r.2)) ∧
  (∀ (c : Nat) (e : FetchEntry) (l : List (Int × Int × Nat)) (s : State) (r : List Piece × State), coreBusy s c = true → nextDescriptor s
      c 1 = some e → (burstsOf c e.bytes s).toOption = some l → transferFault s c e.bytes l = none → r = (l.foldl (fun (r : List Piece ×
      State) x => ((r.1 ++ (startBurst c e.bytes (waitLost s c e.bytes) x r.2).1), (startBurst c e.bytes (waitLost s c e.bytes) x
      r.2).2)) ([], s)) → windowDenies r.2 r.1 = false → exec (.fetchStore c []) s = .next (launch c e r.1 (if dKind e.bytes = 0 && dBfr
      e.bytes != 0 then l.map (fun x => (x.2.1.toNat, x.2.2, x.1.toNat)) else []) r.2)) ∧
  (∀ (c far near n : Nat) (b : Bytes) (lost : Bool) (s : State), dSpace b = 1 → dBfr b = 0 → dKind b = 0 → startBurst c b lost ((far :
      Int), (near : Int), n) s = (regionPieces s c 1 ((s.core c).dramBase * 1048576) far near n false lost [], s)) ∧
  (∀ (c n eb aux : Nat) (e : FetchEntry) (ps : List (Place × Nat)) (idx area : Bytes) (srcs : List Nat) (s u : State), coreBusy s c =
      true → nextDescriptor s c 2 = some e → n = fld e.bytes 44 2 → eb = fld e.bytes 18 2 → aux = fld e.bytes 20 4 → (coreAt s c
      .fetchRead (fld e.bytes 40 4) (4 * n)).toOption = some ps → readPlaces c ps s = (idx, s) → area = weightArea e.bytes ((List.range
      n).map (fun k => (gatherVectors e.bytes (fld idx (4 * k) 4) k).2)) → srcs = (List.range n).flatMap (fun k => (gatherVectors e.bytes
      (fld idx (4 * k) 4) k).1) → rowWaits e.bytes = [] → (fld e.bytes 17 1 = 0 → ∀ k < n, fld idx (4 * k) 4 < fld e.bytes 36 2 * fld
      e.bytes 38 2) → (coreAt s c .fetchWrite aux (area.length + srcs.length * eb)).toOption.isSome = true → srcs.findSome? (vectorFault
      s c e.bytes) = none → u = (if area.isEmpty then s else writeCore c aux area false s) → (dSpace e.bytes ≠ 1 → exec (.fetchGather c
      []) s = .next (launch c e [] [] (srcs.zipIdx.foldl (fun s v => moveCore c v.1 (aux + area.length + v.2 * eb) eb (waitLost u c
      e.bytes) s) u))) ∧ (dSpace e.bytes = 1 → u.mem.flat = true → exec (.fetchGather c []) s = .next (launch c e (srcs.zipIdx.flatMap
      (fun v => piecesOf 1 (if isLight ((u.core c).dramBase * 1048576 + v.1) eb then 64 else 128) ((u.core c).dramBase * 1048576 + v.1)
      (aux + area.length + v.2 * eb) eb false (waitLost u c e.bytes) [])) [] u)) ∧ (dSpace e.bytes = 1 → u.mem.flat = false → exec
      (.fetchGather c []) s = .next (launch c e (srcs.zipIdx.flatMap (fun v => piecesOf 3 32 ((u.core c).dramBase * 1048576 + v.1) (aux +
      area.length + v.2 * eb) eb false (waitLost u c e.bytes) [])) [] (srcs.foldl (fun s v => charge c (isLight ((u.core c).dramBase *
      1048576 + v) eb) false s) u)))) ∧
  (∀ (c a n : Nat) (e : FetchEntry) (s : State), coreBusy s c = true → nextDescriptor s c 3 = some e → a = fld e.bytes 16 4 → n = fld
      e.bytes 20 4 → fillTarget s c .fetchWrite a n = none → exec (.fetchFill c) s = .next (launch c e [] [] (writeCore c a ((List.range
      n).map (fun i => nth 0 ((e.bytes.drop 24).take 4) ((a + i) % 4))) false s))) ∧
  (∀ (c a d n : Nat) (e : FetchEntry) (s : State), coreBusy s c = true → nextDescriptor s c 4 = some e → a = fld e.bytes 16 4 → d = fld
      e.bytes 20 4 → n = fld e.bytes 24 4 → fillTarget s c .fetchRead a n = none → fillTarget s c .fetchWrite d n = none → (d + n ≤ a ∨ a
      + n ≤ d) → exec (.fetchCopy c []) s = .next (launch c e [] [] ((cutAt 128 a n).foldl (fun s x => moveCore c x.1 (d + (x.1 - a)) x.2
      false s) s))) ∧
  (∀ (c i : Nat) (e : FetchEntry) (sc : Nat) (v : U16 × U16 × U32) (s : State), coreBusy s c = true → nextDescriptor s c 5 = some e → i =
      fld e.bytes 16 2 % 4096 → i < (s.core c).ctrCount → (s.core c).task = some (0, sc) → packStream s sc = false → v = s.counter
      ((s.core c).ctrBase + i) → ∃ t, exec (.fetchPublish c) s = .next t ∧ t.counter ((s.core c).ctrBase + i) = (if v.2.2 = (s.core
      c).frame ∧ fld e.bytes 20 2 ≤ v.1.toNat then v.1 else BitVec.ofNat 16 (fld e.bytes 20 2), if v.2.2 = (s.core c).frame ∧ fld e.bytes
      22 2 ≤ v.2.1.toNat then v.2.1 else BitVec.ofNat 16 (fld e.bytes 22 2), (s.core c).frame) ∧ (t.core c).fetchQueue = (s.core
      c).fetchQueue.filter (fun f => f.id != e.id))

/-- A tile starts when its operands and slot are ready, and completes with its counts. TILE_START takes the head of a queue whose operands are present and whose output slot is free; the filler queue only when the primary one cannot start (R343, R349); a tile of an output starts only in the order of R24, R297 and R370: a speculative one once no tile of an earlier interval waits, the others once frame n + 1 ends the interval. TILE_COMPLETE moves TILES_DONE to its number, raises the SAT_FLAGS of the kinds that saturated and leaves the Executor free (R319, R334, R344). A fetch descriptor without a piece left completes (R465); a merge entry 32 cycles old is issued when there is a place (R477). (08 R319, 08 R334, 08 R343, 08 R344, 08 R349, 11 R465, 11 R477, 01 R24, 07 R297, 09 R370) -/
def Obligations.TilesRun : Prop :=
  (∀ (c : Nat) (t : Chain) (rest : List Chain) (mark : Option TileMark) (s u : State), coreBusy s c = true → (s.core c).running = none →
      (s.core c).queue0 = t :: rest → tileReady (s.core c) 0 = true → (∀ m, mark = some m → tileMayStart s c m = true) → u =
      (match mark with | some m => enterTile m s | none => s) → exec (.tileStart c ⟨0, mark⟩) s = .next (u.setCore c
      { s.core c with running := some { queue := 0, chain := t, startedAt := s.now, mark := mark }, slots := (s.core c).slots.filter (fun e => e.1 != cOut t.bytes) ++ [(cOut t.bytes, 0, cSeq t.bytes)], queue0 := rest, started0 := (s.core c).started0 + 1 }))
      ∧
  (∀ (c : Nat) (t : Chain) (rest : List Chain) (mark : Option TileMark) (s u : State), coreBusy s c = true → (s.core c).running = none →
      (s.core c).queue1 = t :: rest → tileReady (s.core c) 1 = true → (∀ m, mark = some m → tileMayStart s c m = true) → u =
      (match mark with | some m => enterTile m s | none => s) → exec (.tileStart c ⟨1, mark⟩) s = .next (if tileReady (s.core c) 0 then s
      else u.setCore c
      { s.core c with running := some { queue := 1, chain := t, startedAt := s.now, mark := mark }, slots := (s.core c).slots.filter (fun e => e.1 != cOut t.bytes) ++ [(cOut t.bytes, 1, cSeq t.bytes)], queue1 := rest, started1 := (s.core c).started1 + 1 }))
      ∧
  (∀ (c q : Nat) (m : TileMark) (s : State), tileMayStart s c m = false → exec (.tileStart c ⟨q, some m⟩) s = .next s) ∧
  (∀ (c : Nat) (m : TileMark) (x : Stream) (o : Output) (s : State), x = s.stream m.sc → x.anyOutput (BitVec.ofNat 32 m.frame) m.phase =
      some o → o.interp = true → tileMayStart s c m = true → (m.spec = true → tileState s m.sc o m.index = none ∧ ∀ e ∈ x.interpolated, ∀
      i ∈ (outputTiles s m.sc e.frame).order (((x.frameOf (BitVec.ofNat 32 m.frame)).map (·.cores.idxOf c)).getD 0), tilePending s m.sc e
      i = false) ∧ (m.spec = false → intervalEnded x o = true)) ∧
  (∀ (c : Nat) (r : Running) (w : Work) (k : Core) (s u : State), (s.core c).running = some r → s.glb.boot = .running → s.pwr.tripped =
      false → r.abandoned = false → w = runChain c r.chain.bytes ((r.mark.map (·.spec)).getD false) s → w.trap = none → (w.s.core c).wait
      = .none → k =
      { w.s.core c with running := none, tileAt := w.s.now, satFlags := (w.s.core c).satFlags ||| BitVec.ofNat 4 (toMask ((List.range 4).filter (fun i => nth 0 w.sat i != 0))), tilesDone0 := if r.queue = 0 then cSeq r.chain.bytes else (w.s.core c).tilesDone0, none0 := if r.queue = 0 then false else (w.s.core c).none0, tilesDone1 := if r.queue = 0 then (w.s.core c).tilesDone1 else cSeq r.chain.bytes, none1 := if r.queue = 0 then (w.s.core c).none1 else false }
      → u = (tileCounts c r.queue r.chain.bytes w.sat.sum w.s).setCore c k → exec (.tileComplete c r.queue []) s = .next (settleTrap c (notePass c
      (match r.mark with | some m => if k.task = some (0, m.sc) then markTile m u else u | none => u)))) ∧
  (∀ (c i : Nat) (e : FetchEntry) (s : State), (s.core c).fetching[i]? = some e → e.pieces = [] → e.bursts = [] → exec
      (.fetchDescriptorComplete c i) s = .next (notePresent c (s.core c) (s.setCore c
      { s.core c with fetching := (s.core c).fetching.filter (fun f => f.id != e.id) }))) ∧
  (∀ (c : Nat) (m : MergeEntry) (s : State), (s.core c).merge = [m] → m.openedAt + 32000 / (s.core c).clock ≤ s.now → placesUsed s c <
      24 → exec (.mergeEntryTimeout c) s = .next (issueMerge c m s) ∧ (issueMerge c m s).dram.nextId = s.dram.nextId + 1)

/-- DRAM transactions complete oldest first, and an accepted write changes exactly its masked bytes. The oldest transaction of a channel that is not retraining leaves its queue, a write accepted, a read answered (R466, R474, R486 to R488), its bytes counted (15 R615). An accepted write to a channel that is up stores the bytes its mask names, and every other byte of DRAM reads as before. A fill that has its data is installed or dropped and answers the piece that waits for it (R501, R503). (11 R466, 11 R474, 11 R486, 11 R488, 12 R501, 12 R503, 15 R615) -/
def Obligations.DramTransactionsComplete : Prop :=
  (∀ (ch error : Nat) (t : DramTx) (rest : List DramTx) (s : State), (s.channel ch).queue = t :: rest → (s.channel ch).retrainingSince =
      none → exec (.dramTransactionComplete ch error) s = .next (finishTx t error (perfAdd ((if t.isWrite then 0x580 else 0x560) + 8 *
      ch) (if t.light then 64 else 128) (s.setChannel ch { s.channel ch with queue := rest })))) ∧
  (∀ (error : Nat) (t : DramTx) (s : State), t.isWrite = true → 16 ≤ t.requester → finishTx t error s = acceptWrite t s) ∧
  (∀ (t : DramTx) (s : State) (a : Nat), channelDown s t.addr = false → memGet (acceptWrite t s).dram.bytes a = (if a / 128 = t.addr /
      128 ∧ bit t.mask (a % 128) = true then nth 0 t.data (a % 128) else memGet s.dram.bytes a) ∧ (acceptWrite t s).mem.kennel =
      s.mem.kennel ∧ (acceptWrite t s).mem.cm = s.mem.cm) ∧
  (∀ (id : Nat) (f : Fill) (b : Bytes) (s : State), s.iac.fills.find? (fun g => g.id == id) = some f → f.data = some b → 16 ≤ f.requester
      → exec (.iacFillReturn id) s = .next (landFill f s))

/-- The scrubber, zero fills and power domains act as their rules say. A scrub tick of a bank without errors goes to its next row (R426). The fill of an allocated unit zeroes it (R417), a Kennel domain comes up zeroed (R422), one without an owner goes off (R421), freed DRAM is zeroed (R446). A domain that is on after its power-up time counts as on, the IAC empty, the FyxLink ports training (R678, R558). An idle core's domain goes off 1 s after its last task (R679), the OFM's 10 ms after the last stream (R660). (10 R417, 10 R421, 10 R422, 10 R426, 10 R446, 14 R558, 17 R660, 17 R678, 17 R679) -/
def Obligations.MemoryHardwareActs : Prop :=
  (∀ (m c b : Nat) (s : State), s.running = true → Tab.get 64 s.mem.scrubInterval m ≠ 0 → exec (.scrubTick m c b []) s = .next
      { s with mem := { s.mem with scrubRow := Tab.put s.mem.scrubRow ((m * 16 + c) * 64 + b) ((Tab.get 0 s.mem.scrubRow ((m * 16 + c) * 64 + b) + 1) % (if m = 0 then 768 else 8192)) } })
      ∧
  (∀ (u : Nat) (s : State), s.mem.filling.contains u = true → u < 1000 → exec (.unitFillComplete u) s = .next (writeParams (u / 12)
      (zeroFill (.cm (u / 12)) (u % 12 * 65536) 65536 { s with mem := { s.mem with filling := s.mem.filling.filter (· != u) } }))) ∧
  (∀ (u : Nat) (s : State), s.mem.filling.contains u = true → 1000 ≤ u → s.mem.kennelUp.any (fun e => e.1 == unitDomain (u - 1000)) =
      false → exec (.unitFillComplete u) s = .next (zeroFill .kennel ((u - 1000) * 131072) 131072
      { s with mem := { s.mem with filling := s.mem.filling.filter (· != u) } })) ∧
  (∀ (m : Mem) (a n x : Nat) (s : State), m = .kennel → memGet (zeroFill m a n s).mem.kennel x = (if a ≤ x ∧ x < a + n then 0 else memGet
      s.mem.kennel x) ∧ (zeroFill m a n s).mem.cm = s.mem.cm ∧ (zeroFill m a n s).dram.bytes = s.dram.bytes) ∧
  (∀ (d : Nat) (e : Nat × Nat) (s : State), s.mem.kennelUp.find? (fun e => e.1 == d) = some e → exec (.kennelDomainReady d) s = .next
      (zeroFill .kennel (d * 4194304) 4194304 { s with mem := { s.mem with kennelUp := Tab.del s.mem.kennelUp d } })) ∧
  (∀ (d : Nat) (s : State), domainOn s (16 + d) = true → kennelUsed s d = false → exec (.kennelDomainPowerOff d) s = .next (kennelOff d
      s) ∧ (kennelOff d s).mem.kennelUp = Tab.del (endOrphans 2 (fun o => o.regions.any (fun r => r.mem == .kennel && r.base / 4194304 ≤
      d && d ≤ (r.base + r.len - 1) / 4194304)) s).mem.kennelUp d) ∧
  (∀ (d : Nat) (s : State), s.pwr.poweringUp.any (fun e => e.1 == d && decide (e.2 ≤ s.now)) = true → d ≠ 31 → exec (.domainPoweredUp d) s = .next (if d = 24
      then { setDomain d true s with iac := { s.iac with on := true, sets := [], detectors := [], fills := [] } } else setDomain d true
      s)) ∧
  (∀ (s : State), s.pwr.poweringUp.any (fun e => e.1 == 31 && decide (e.2 ≤ s.now)) = true → exec (.domainPoweredUp 31) s = .next ((List.range 4).foldl (fun s k
      => if bit (fyxPorts s) k then s.setLink k { state := .detect, since := s.now } else s) (setDomain 31 true s))) ∧
  (∀ (c t : Nat) (s : State), s.pwr.idleSince.find? (fun e => e.1 == c) = some (c, t) → c < 16 → (s.core c).task = none → t + 1000000000
      ≤ s.now → exec (.coreDomainIdleTimeout c) s = .next (coreOff c s)) ∧
  (∀ (t : Nat) (s : State), s.pwr.idleSince.find? (fun e => e.1 == 30) = some (30, t) → t + 10000000 ≤ s.now → (List.range 32).all (fun i
      => !(runs s i || (s.stream i).state == .draining)) = true → exec .ofmDomainIdleTimeout s = .next
      { setDomain 30 false s with pwr := { (setDomain 30 false s).pwr with idleSince := Tab.del s.pwr.idleSince 30 } }) ∧
  (∀ (u : Nat) (e : Nat × Nat) (s : State), s.dram.filling.find? (fun e => e.1 == u) = some e → exec (.dramUnitFillDone u) s = .next
      (zeroDram (e.1 * 1048576) (e.2 * 1048576) { s with dram := { s.dram with filling := s.dram.filling.filter (· != e) } }))

/-- DRAM channels, the core voltage and operating points act as their rules say. A channel that retrains is noted and delays every stream (R487, R55); retrained, it reports its rate, a lower one revoking every certificate; failing, it is down, which is reported and revokes every certificate (R487, R488). Every 1 ms the voltage code goes one step towards its band (R683); a pending raise drives one code per 20 us (R684); the change done, the new point holds (R31). (02 R31, 02 R50, 02 R55, 11 R487, 11 R488, 17 R683, 17 R684, 17 R671) -/
def Obligations.DramAndClocksAct : Prop :=
  (∀ (k : Nat) (s : State), (s.channel k).up = true → (s.channel k).retrainingSince = none → exec (.dramRetrainStart k) s = .next
      ((admittedList s).foldl (fun s i => delayBy i 2 s) (s.setChannel k { s.channel k with retrainingSince := some s.now }))) ∧
  (∀ (k rate t : Nat) (s u : State), (s.channel k).retrainingSince = some t → u = emit srcDevice 0x0505 (le 1 k ++ le 1 0 ++ le 2 rate ++
      le 2 ((s.now - t) / 1000)) (errAdd 0x15C 1 (s.setChannel k { s.channel k with retrainingSince := none })) → exec (.dramRetrained k
      rate) s = .next (if rate < s.dram.rate then revokeCerts 2 (fun _ => true) { u with dram := { u.dram with rate := rate } } else u))
      ∧
  (∀ (k : Nat) (s : State), (s.channel k).retrainingSince.isSome = true → exec (.dramChannelDown k) s = .next (revokeCerts 2 (fun _ =>
      true) ((s.channel k).queue.foldl (fun s t => finishTx t 0 s) (emit srcDevice 0x0506 (le 1 k) (iacDropChannel k (s.setChannel k
      { up := false })))))) ∧
  (∀ (margin : Int) (s : State) (lo hi v : Nat), s.running = true → (lo, hi) = avsBand (fastest s) → v = s.pwr.avs.toNat → (v < lo → exec
      (.avsTick margin) s = .next (driveAvs (v + 1) s)) ∧ (hi < v → exec (.avsTick margin) s = .next (driveAvs (v - 1) s)) ∧ (lo ≤ v → v
      ≤ hi → fastest s ≠ 0 → 1 ≤ margin → margin < 2 → exec (.avsTick margin) s = .next
      { s with pwr := { s.pwr with avsSettled := true } }) ∧ (driveAvs (s.pwr.avs.toNat + 1) s =
      { s.send (.pin .avsVid 0 (s.pwr.avs.toNat + 1)) with pwr := { s.pwr with avs := BitVec.ofNat 4 (s.pwr.avs.toNat + 1), avsAt := s.now } }))
      ∧
  (∀ (s : State), s.running = true → s.pwr.avs.toNat < neededCode s → s.pwr.avsAt + 20000 ≤ s.now → ∃ t, exec .avsCodeStep s = .next t ∧
      t.pwr = (driveAvs (s.pwr.avs.toNat + 1) s).pwr ∧ t.sent = (driveAvs (s.pwr.avs.toNat + 1) s).sent) ∧
  (∀ (c op t : Nat) (s : State), (s.core c).opNext = some (op, t) → (op ≤ (s.core c).op ∨ (avsBand (mhz op)).1 ≤ s.pwr.avs.toNat) → exec
      (.operatingPointChangeDone c) s = .next (s.setCore c { s.core c with op := op, opNext := none }))

/-- An unmet row wait times out once per edge and run, and degrades the work. At the halo deadline a wait of a stream that is not met is counted, its edge noted, the outputs of the run's interval that nothing has delivered or replaced are DEGRADED, and the first of the run reported (R387, R388); never at boundary 0 of a camera stream (R390). A job whose counters have not changed for 4 ms notes the edge and goes on DEGRADED (R389). (09 R387, 09 R388, 09 R389, 09 R390) -/
def Obligations.HaloTimeoutsAct : Prop :=
  (∀ (c b co pr k : Nat) (top : Bool) (sc : Nat) (s : State), (s.core c).task = some (0, sc) → coreBusy s c = true → waitsFor s c (k,
      !top) = true → (s.stream sc).haloTimedOut.contains (k, !top) = false → (b ≠ 0 ∨ (s.stream sc).cfg.sourceKind ≠ 2) → ∃ t, exec
      (.haloTimeout c b co pr k top) s = .next t ∧ (t.stream sc).haloTimedOut = (s.stream sc).haloTimedOut ++ [(k, !top)] ∧ (∀ o ∈
      (t.stream sc).outputs, runOutput (s.core c).frame o = true → o.atRisk = true → hasFlag o.flags .degraded = true ∧ o.faultCause ≠ 0) ∧ Reaches (.haloTimeout c b co pr k top) s
      (s.setStream sc (t.stream sc))) ∧
  (∀ (c k : Nat) (top : Bool) (j : Nat) (s : State), (s.core c).task = some (1, j) → coreBusy s c = true → waitsFor s c (k, !top) = true
      → (s.job j).timedOut.contains (k, !top) = false → (s.job j).countedAt + 4000000 ≤ s.now → exec (.jobHaloTimeout c k top) s = .next
      (s.setJob j { s.job j with timedOut := (s.job j).timedOut ++ [(k, !top)], degraded := true }))

/-- Tiles are checked, bands are released or fall back. A HELD tile whose interval has ended is CONFIRMED when every flow sample of its footprint agrees within SPEC_TOL and nothing was uncorrectable, and goes to RECOMPUTE otherwise (R295, R281), unless an error that its reads found ended it; a check of another tile changes nothing. An OPEN band all of whose tiles are final is RELEASED (R282, R298), its lines are held no longer (R432), and its outputs are bound to the next buffer where one is posted. At its release deadline an OPEN band goes to FALLBACK with every output of its phase (R300, R301). Each of the three commands so completes. (07 R281, 07 R282, 07 R295, 07 R298, 07 R300, 07 R301, 10 R432) -/
def Obligations.BandsAndTilesAct : Prop :=
  (∀ (sc f ph i : Nat) (ecc ok : Bool) (l : List ReadError) (o : Output) (s u : State), ((s.stream sc).state = .running ∨ (s.stream
      sc).state = .draining) → (s.stream sc).anyOutput (BitVec.ofNat 32 f) ph = some o → tileOf (s.stream sc) (BitVec.ofNat 32 f) ph i =
      some .held → (ecc = true ∨ intervalEnded (s.stream sc) o = true) → u = foundErrors none l s → ok = (!ecc && tileAgrees u sc
      (BitVec.ofNat 32 f) o i) → ∃ t, exec (.tileCheck sc f ph i ecc l) s = .next t ∧ if tileOf (u.stream sc) (BitVec.ofNat 32 f) ph i =
      some .held then t = u.setStream sc (if ok then (setTile (u.stream sc) (BitVec.ofNat 32 f) ph i .confirmed).count .confirmed else
      setTile (u.stream sc) (BitVec.ofNat 32 f) ph i .recompute) ∧ tileOf (t.stream sc) (BitVec.ofNat 32 f) ph i = some (if ok then
      .confirmed else .recompute) else t = u) ∧
  (∀ (sc f ph i : Nat) (ecc : Bool) (l : List ReadError) (s : State), tileOf (s.stream sc) (BitVec.ofNat 32 f) ph i ≠ some .held → exec
      (.tileCheck sc f ph i ecc l) s = .next s) ∧
  (∀ (sc i : Nat) (n : U32) (o : Output) (p : Plan) (a b : FrameIn) (s : State), planOf s ((s.stream sc).cfgOf n) = some p → (s.stream
      sc).frameAt o.span.2.1 = some a → (s.stream sc).frameAt o.span.2.2 = some b → (tileAgrees s sc n o i = true ↔ ∀ e ∈ footprint
      (netDims p ((s.stream sc).cfgOf n)).1 (netDims p ((s.stream sc).cfgOf n)).2 p.reach (((outputTiles s sc n).span i).1, ((outputTiles
      s sc n).span i).2.1) ((outputTiles s sc n).columns i), ((flowAt p a b e.1 e.2).1 - (specFlow p (s.stream sc) o e.1 e.2).1).natAbs ≤
      ((s.stream sc).cfgOf n).specTol ∧ ((flowAt p a b e.1 e.2).2.1 - (specFlow p (s.stream sc) o e.1 e.2).2.1).natAbs ≤ ((s.stream
      sc).cfgOf n).specTol ∧ (flowAt p a b e.1 e.2).2.2 = (specFlow p (s.stream sc) o e.1 e.2).2.2)) ∧
  (∀ (sc f ph b : Nat) (s u : State), ((s.stream sc).state = .running ∨ (s.stream sc).state = .draining) → bandOf (s.stream sc)
      (BitVec.ofNat 32 f) ph b = some .open_ → bandFinal s sc (BitVec.ofNat 32 f) ph b = true → u = (clearHeld sc (BitVec.ofNat 32 f) ph b
      s).setStream sc (setBand (s.stream sc) (BitVec.ofNat 32 f) ph b .released) → ∃ t, exec (.bandRelease sc f ph b) s = .next t ∧ t =
      (outputDescs (s.stream sc) (BitVec.ofNat 32 f) ph).foldl (fun s d => afterOutputs sc (bindOutput sc (BitVec.ofNat 32 f) ph d s)) u ∧
      bandOf (u.stream sc) (BitVec.ofNat 32 f) ph b = some .released ∧ (outputDescs (s.stream sc) (BitVec.ofNat 32 f) ph = [] → bandOf
      (t.stream sc) (BitVec.ofNat 32 f) ph b = some .released)) ∧
  (∀ (sc ph b k : Nat) (n : U32) (e : Nat × Nat) (s : State), bandRange s sc n ph b = some e → e.1 ≤ k * 128 → k * 128 < e.1 + e.2 → (1,
      0, k) ∉ (clearHeld sc n ph b s).mem.held) ∧
  (∀ (sc ph d : Nat) (n : U32) (o : Output) (w : Buf) (ws : List Buf) (s : State), (s.stream sc).output n ph d = some o → o.bound = false
      → followsPack s sc = false → Tab.get [] (s.stream sc).outBufs d = w :: ws → packStream s sc = false → ((bindOutput sc n ph d
      s).stream sc).output n ph d = some { o with bound := true, buf := some w }) ∧
  (∀ (sc f ph b : Nat) (e : Band) (s : State), ((s.stream sc).state = .running ∨ (s.stream sc).state = .draining) → (s.stream
      sc).bands.find? (fun e => e.interval = (BitVec.ofNat 32 f) && e.phase == ph && e.index == b) = some e → e.state = .open_ →
      e.releaseBy ≤ s.now → ∃ t, exec (.bandReleaseDeadline sc f ph b) s = .next t ∧ t = bandFalls sc (BitVec.ofNat 32 f) ph b s ∧ bandOf
      (t.stream sc) (BitVec.ofNat 32 f) ph b = some .fallback ∧ ∀ o ∈ (t.stream sc).outputs, o.frame = BitVec.ofNat 32 f → o.phase = ph →
      hasFlag o.flags .fallback = true)

/-- Rows are written in order, outputs complete, and late outputs are replaced. The next row of a bound output whose bands are released is written (R310); when all its rows are, the output completes and FRAME_DONE follows in order (R310, R21). An output late under a valid certificate raises DEADLINE_FAULT, with a free cause where the model saw no fault (log 86), and is replaced, by a repeat of the descriptor's last output or black, an interpolated one by the fallback of its open bands (R56, R58, R300); from degrade level 3 on it is replaced without a fault. The window of a group frame closes after a sixteenth of the period, members without a frame having underrun (R206). (07 R308, 07 R310, 01 R21, 02 R55, 02 R56, 02 R58, 07 R300, 05 R206, 05 R209, log 86) -/
def Obligations.OutputsAct : Prop :=
  (∀ (sc f ph d row : Nat) (o : Output) (s : State), (s.stream sc).state = .running → (s.stream sc).output (BitVec.ofNat 32 f) ph d =
      some o → o.complete = false → o.bound = true → rowReleased s sc o row = true → (ownRows s sc o.d)[o.rowsDone]? = some row → exec
      (.ofmRowWrite sc f ph d row) s = .next ((writeOutputRow sc o row s).setStream sc (((writeOutputRow sc o row s).stream sc).onOutput
      (BitVec.ofNat 32 f) ph d (fun o => { o with rowsDone := o.rowsDone + 1 })))) ∧
  (∀ (sc f ph d : Nat) (o : Output) (s : State), (s.stream sc).state = .running → (s.stream sc).output (BitVec.ofNat 32 f) ph d = some o
      → o.complete = false → o.bound = true → o.rowsDone = (ownRows s sc o.d).length → followsPack s sc = false → packStream s sc = false
      → exec (.outputComplete sc f ph d) s = .next (afterOutputs sc (s.setStream sc ((s.stream sc).onOutput (BitVec.ofNat 32 f) ph d (fun
      o => { o with complete := true }))))) ∧
  (∀ (sc f ph d : Nat) (o : Output) (black : Bool) (s : State), ((s.stream sc).state = .running ∨ (s.stream sc).state = .draining) →
      (s.stream sc).output (BitVec.ofNat 32 f) ph d = some o → o.atRisk = true → o.deadline ≤ s.now → followsPack s sc = false →
      levelRepeats (s.stream sc) = false → (s.stream sc).cert.state = .valid → o.uncertified = false → o.interp = false → o.missed = false
      → black = !(Tab.get false (s.stream sc).delivered d) → (o.faultCause ≠ 0 → exec (.outputDeadline sc f ph d) s = .next (substitute sc
      (BitVec.ofNat 32 f) ph d (some (if black then .black else lastPicture (s.stream sc) d)) (if black then [.black] else [])
      (missDeadline sc o (if black then 2 else 0) s))) ∧ (o.faultCause = 0 → ∃ k < 5, exec (.outputDeadline sc f ph d) s = .next
      (substitute sc (BitVec.ofNat 32 f) ph d (some (if black then .black else lastPicture (s.stream sc) d)) (if black then [.black] else
      []) (missDeadline sc { o with faultCause := k + 1 } (if black then 2 else 0) ({ s with drawn := s.drawn + 1 }.setStream sc ((s.stream
      sc).onOutput o.frame o.phase o.desc (fun o => { o with faultCause := k + 1 }))))))) ∧
  (∀ (sc f ph d : Nat) (o : Output) (s u : State), ((s.stream sc).state = .running ∨ (s.stream sc).state = .draining) → (s.stream
      sc).output (BitVec.ofNat 32 f) ph d = some o → o.atRisk = true → o.deadline ≤ s.now → followsPack s sc = false → levelRepeats
      (s.stream sc) = false → (s.stream sc).cert.state = .valid → o.uncertified = false → o.interp = true → o.faultCause ≠ 0 → u =
      ((s.stream sc).bands.filter (fun e => e.interval = (BitVec.ofNat 32 f) && e.phase == ph && e.state == .open_)).foldl (fun s e =>
      bandFalls sc (BitVec.ofNat 32 f) ph e.index s) s → exec (.outputDeadline sc f ph d) s = .next (completeNow sc (BitVec.ofNat 32 f) ph
      d (if nextInTime (s.stream sc) (BitVec.ofNat 32 f) then lateOutput sc o 1 u else u))) ∧
  (∀ (sc f ph d : Nat) (o : Output) (s : State), ((s.stream sc).state = .running ∨ (s.stream sc).state = .draining) → (s.stream sc).output
      (BitVec.ofNat 32 f) ph d = some o → o.atRisk = true → o.deadline ≤ s.now → followsPack s sc = false → levelRepeats (s.stream sc) =
      true → Tab.get false (s.stream sc).delivered d = true → exec (.outputDeadline sc f ph d) s = .next (substitute sc (BitVec.ofNat 32
      f) ph d (some (lastPicture (s.stream sc) d)) [] s)) ∧
  (∀ (g : Nat) (fr : GroupFrame) (s : State), (s.group g).frames.find? (fun f => !f.windowClosed) = some fr → fr.openedAt + groupWindow s
      (s.group g) ≤ s.now → (s.group g).list.filter (fun m => runs s m && (s.stream m).startedAt ≤ fr.openedAt && !fr.present.contains m)
      = [] → exec (.groupWindowExpiry g) s = .next (groupFinish g (s.setGroup g
      { s.group g with frames := (s.group g).frames.map (fun e => if e.number = fr.number then { e with windowClosed := true } else e) })))
      ∧
  (∀ (g m : Nat) (fr : GroupFrame) (s : State), (s.group g).frames.find? (fun f => !f.windowClosed) = some fr → fr.openedAt + groupWindow
      s (s.group g) ≤ s.now → (s.group g).list.filter (fun m => runs s m && (s.stream m).startedAt ≤ fr.openedAt && !fr.present.contains
      m) = [m] → (s.group g).policy ≠ 3 → exec (.groupWindowExpiry g) s = .next (groupFinish g (underrun g m fr.number (s.setGroup g
      { s.group g with frames := (s.group g).frames.map (fun e => if e.number = fr.number then { e with windowClosed := true } else e) }))))

/-- Thermal samples move the thermal state, and critical heat degrades, recovers and trips. A sample stores the temperatures and, at 115 degrees, makes the device critical, revoking certificates and capping cores; at 100 it warns (R694, R695). Every 100 ms of critical heat the lowest-ranked stream below level 4 takes its next level, or a job ends with THERMAL_CRITICAL (R695, R696). After 1 s below 110 degrees it goes to warning, every stream to level 0 (R697); after 1 s below 95 to normal. A trip resets every island but the keep domain, latches TRIP and drives THERMTRIP_N (R698). (02 R51, 02 R52, 02 R53, 17 R694, 17 R695, 17 R696, 17 R697, 17 R698) -/
def Obligations.ThermalActs : Prop :=
  (∀ (l : List Int) (s u : State), s.running = true → s.pwr.rails = true → s.pwr.porst = false → u = takeSamples l s → (u.pwr.thermal ≠ .critical → (readings u).any (115 ≤ ·) =
      true → exec (.thermalSample l) s = .next (enterCritical u)) ∧ (u.pwr.thermal = .normal → (readings u).any (100 ≤ ·) = true →
      (readings u).any (115 ≤ ·) = false → exec (.thermalSample l) s = .next (settleAlert (thermalEvent 0x0202
      { u with pwr := { u.pwr with thermal := .warning } }))) ∧ ((readings u).any (100 ≤ ·) = false → (readings u).any (115 ≤ ·) = false
      → exec (.thermalSample l) s = .next u)) ∧
  (∀ (n : Nat) (l : List Int) (s : State), n < 20 → sensorValid s n = true → Tab.get 0 (takeSamples l s).pwr.temp n = nth 0 l n) ∧
  (∀ (s u : State) (i : Nat), s.running = true → s.pwr.thermal = .critical → (readings s).any (115 ≤ ·) = true → s.pwr.degradeAt +
      100000000 ≤ s.now → u = { s with pwr := { s.pwr with degradeAt := s.now } } → ((byPriority u).filter (fun i => ((u.stream i).state
      == .running || (u.stream i).state == .draining) && (u.stream i).level < 4)).getLast? = some i → exec .thermalDegradeStep s = .next
      (degrade i u)) ∧
  (∀ (s u : State) (j : Nat), s.running = true → s.pwr.thermal = .critical → (readings s).any (115 ≤ ·) = true → s.pwr.degradeAt +
      100000000 ≤ s.now → u = { s with pwr := { s.pwr with degradeAt := s.now } } → (byPriority u).filter (fun i => ((u.stream i).state
      == .running || (u.stream i).state == .draining) && (u.stream i).level < 4) = [] → (activeJobs u).head? = some j → exec
      .thermalDegradeStep s = .next (endJob false Status.thermalCritical.code j u)) ∧
  (∀ (s : State) (t : Nat), s.running = true → s.pwr.thermal = .critical → s.pwr.coolSince = some t → t + 1000000000 ≤ s.now → exec
      .thermalRecoveryTimeout s = .next (settleAlert (settleOps (recertify ((List.range 32).foldl (fun s i => if (s.stream i).level = 0
      then s else undegrade i s) (thermalEvent 0x0204 { s with pwr := { s.pwr with thermal := .warning } })))))) ∧
  (∀ (s : State) (t : Nat), s.running = true → s.pwr.thermal = .warning → s.pwr.clearSince = some t → t + 1000000000 ≤ s.now → exec
      .thermalClearTimeout s = .next (settleAlert (thermalEvent 0x0204 { s with pwr := { s.pwr with thermal := .normal } }))) ∧
  (∀ (n : Nat) (s : State), s.pwr.rails = true → s.pwr.porst = false → s.pwr.tripped = false → ∃ t, exec (.thermalTrip n) s = .next t ∧
      t.keep.trip = some n ∧ t.pwr.tripped = true ∧ t.pwr.thermtrip = true ∧ Sent.pin .thermtripN 0 0 ∈ t.sent ∧ t.otp = s.otp ∧
      t.streams = [] ∧ t.rings = [] ∧ t.models = [])

/-- A FyxLink port trains and reports its lane faults. Eight blocks of one ordered set, a lane with inverted wires among them, are read as that set (R556, R557); what the port sends it so reads. While a port trains (R558): TS1 are counted until 64; lanes in order align and answer with TS2; a TS2 is counted while the far end names itself the same, and the 16th in a row with an ACK and equal RATE brings the link UP with full credits and LINK_UP. An attempt fails after 1 ms and starts again (R558); a DOWN port tries again after 1 ms (R565). A lane fault is reported, and reported gone (R564, R771). (14 R556, 14 R557, 14 R558, 14 R562, 14 R564, 14 R565, 14 R567, 19 R771, 15 R619) -/
def Obligations.FyxPortsTrain : Prop :=
  (∀ (k : OsKind) (pos port rate inv : Nat) (ack : Bool), pos < 8 → port < 4 → rate < 4 → inv < 256 → readSet ((setBlocks k pos port rate
      ack).zipIdx.map (fun e => if bit inv e.2 then uninvert e.1 else e.1)) = some
      { kind := k, pos := if k = .ts2 then pos else 0, port := if k = .ts2 then port else 0, lanes := List.range 8, inverted := inv, ack := decide (k = .ts2) && ack, rate := if k = .ts2 then rate else 0 })
      ∧
  (∀ (n : Nat) (b : List LaneBlock) (o : OrderedSet) (s : State), domainOn s 31 = true → n < 4 → (s.link n).state = .training → readSet b
      = some o → o.kind = .skip → exec (.fyxOrderedSet n b) s = .next (s.setLink n { s.link n with heardAt := s.now })) ∧
  (∀ (n : Nat) (b : List LaneBlock) (s : State), readSet b = none → exec (.fyxOrderedSet n b) s = .next s) ∧
  (∀ (n : Nat) (b : List LaneBlock) (o : OrderedSet) (s : State), domainOn s 31 = true → n < 4 → (s.link n).state = .training → readSet b
      = some o → o.kind = .ts1 → (s.link n).aligned = false → (s.link n).ts1 + 1 < 64 → exec (.fyxOrderedSet n b) s = .next (s.setLink n
      { s.link n with ts1 := (s.link n).ts1 + 1, heardAt := s.now })) ∧
  (∀ (n : Nat) (b : List LaneBlock) (o : OrderedSet) (s : State), domainOn s 31 = true → n < 4 → (s.link n).state = .training → readSet b
      = some o → o.kind = .ts1 → (s.link n).aligned = false → (s.link n).ts1 = 63 → o.lanes = List.range 8 → o.inverted = 0 → exec
      (.fyxOrderedSet n b) s = .next (((s.setLink n { s.link n with ts1 := 64, heardAt := s.now }).setLink n
      { s.link n with ts1 := 64, heardAt := s.now, aligned := true, reversed := false, inverted := 0 }).send (.blocks n (setBlocks .ts2
      s.glb.packPos.toNat n (fyxRate s) false)))) ∧
  (∀ (n : Nat) (b : List LaneBlock) (o : OrderedSet) (s : State), domainOn s 31 = true → n < 4 → (s.link n).state = .training → readSet b
      = some o → o.kind = .ts2 → (s.link n).aligned = true → 15 ≤ (s.link n).ts2 → (s.link n).nPos = o.pos → (s.link n).nPort = o.port →
      (s.link n).nRate = o.rate → (o.ack = true ∨ (s.link n).gotAck = true) → o.rate = fyxRate s → ∃ (u : State), exec (.fyxOrderedSet n
      b) s = .next (emit srcDevice 0x0700 (le 1 n ++ le 1 o.pos ++ le 1 o.port) (portRecovered srcPorts (15 + n) u)) ∧ (u.link n).state =
      .up ∧ (u.link n).nPos = o.pos ∧ (u.link n).nValid = true ∧ (u.link n).credits = [32, 256, 32] ∧ u.quiet = s.quiet) ∧
  (∀ (n : Nat) (s : State), (s.link n).since + 1000000 ≤ s.now → ((s.link n).state = .training → exec (.fyxTrainingTimeout n) s = .next
      (startDetect n s)) ∧ ((s.link n).state = .down → exec (.fyxDownRetryTimeout n) s = .next (startDetect n s)) ∧ startDetect n s =
      (s.setLink n
      { state := .detect, since := s.now, rxSeq := (s.link n).rxSeq, txScr := (s.link n).txScr, rxScr := (s.link n).rxScr }).send (.blocks
      n (setBlocks .ts1 s.glb.packPos.toNat n (fyxRate s) false))) ∧
  (∀ (n lanes : Nat) (short : Bool) (s : State), domainOn s 31 = true → n < 4 → (s.link n).state = .up → exec (.fyxLaneFaultDetect n 0
      short) s = .next (portRecovered srcPorts (15 + n) s) ∧ (lanes ≠ 0 → (short = true ∨ lanes ≠ 0xFF) → exec (.fyxLaneFaultDetect n
      lanes short) s = .next (portFault srcPorts (if short then 0x2C else 0x2B) (15 + n) lanes 0 true s)))

/-- Flits are coded, acknowledged, replayed and answered as their rules say. The eight blocks of a flit, descrambled with the state that scrambled them, give its 64 bytes and its fields again (R556, R559). On a link that is UP: a flit with a bad CRC, or a data flit out of sequence, is answered with one NAK (R567); a data flit of the expected SEQ advances it and its payload joins its packet (R560, R566); credits come back (R569). 32 flit times without sending an idle flit goes out (R566). 1 us without progress every flit not acknowledged is sent again, the 16th time in a row the link enters RECOVERY (R567). A link that hears nothing for 32 us is DOWN and reports it (R568). (14 R556, 14 R559, 14 R560, 14 R566, 14 R567, 14 R568, 14 R569) -/
def Obligations.FyxFlitsMove : Prop :=
  (∀ (k st d : Nat), d < 2 ^ k → descramble k st (scramble k st d).1 = (d, (scramble k st d).2)) ∧
  (∀ (scr : List Nat) (b : Bytes), b.length = 64 → readBlocks scr (flitBlocks scr b).1 = (b, true, (flitBlocks scr b).2)) ∧
  (∀ (seq ftype ack cls credits : Nat) (av nak : Bool) (payload : Bytes), seq < 4096 → ftype < 16 → ack < 4096 → cls < 4 → credits < 64 →
      payload.length = 52 → readFlit (flitBytes seq ftype ack av nak cls credits payload) true =
      { ftype := ftype, seq := seq, ack := ack, ackValid := av, nak := nak, cls := cls, credits := credits, crcOk := true, payload := payload })
      ∧
  (∀ (n : Nat) (b : List LaneBlock) (r : Bytes × Bool × List Nat) (s : State), domainOn s 31 = true → (s.link n).state = .up → r =
      readBlocks (s.link n).rxScr (logicalLanes (s.link n).inverted (s.link n).reversed b) → exec (.fyxFlitReceived n b) s = .next
      (flitArrives n (readFlit r.1 r.2.1) (s.setLink n { s.link n with rxScr := r.2.2 }))) ∧
  (∀ (n : Nat) (f : Flit) (s : State), f.crcOk = false → flitArrives n f s = (if (s.link n).nakSent then s else flitOut n 0 0 [] true
      (s.setLink n { s.link n with nakSent := true }))) ∧
  (∀ (n : Nat) (f : Flit) (s u : State), f.crcOk = true → f.ackValid = false → f.nak = false → u = takeCredits n f.cls f.credits
      (s.setLink n { s.link n with heardAt := s.now }) → (f.ftype = 0 → flitArrives n f s = pumpLink n u) ∧ (f.ftype ≠ 0 → f.seq = (s.link
      n).rxSeq → flitArrives n f s = pumpLink n (takePayload n f (u.setLink n
      { u.link n with rxSeq := ((u.link n).rxSeq + 1) % 4096, nakSent := false }))) ∧ (f.ftype ≠ 0 → f.seq ≠ (s.link n).rxSeq →
      flitArrives n f s = pumpLink n (sendNak n u))) ∧
  (∀ (n : Nat) (s : State), (s.link n).state = .up → (s.link n).sentAt + 32 * tFlit s / 10 ≤ s.now → exec (.fyxIdleFlitTimer n) s = .next
      (flitOut n 0 0 [] false s)) ∧
  (∀ (n : Nat) (s u : State), (s.link n).state = .up → (s.link n).unacked ≠ [] → (s.link n).progressAt + 1000 ≤ s.now → u = (errAdd
      (0x1E0 + 4 * n) 1 s).setLink n { s.link n with replays := (s.link n).replays + 1, progressAt := s.now } → exec (.fyxReplayTimeout
      n) s = .next (if 16 ≤ (s.link n).replays + 1 then startRecovery n u else resend n u)) ∧
  (∀ (n : Nat) (s : State), (s.link n).state = .up → (s.link n).heardAt + 32000 ≤ s.now → memberOk s (s.link n).nPos = false → ∃ u, exec
      (.fyxLinkDown n) s = .next u ∧ (u.link n).state = .down ∧ (s.pack.state = .single → u = emit srcDevice 0x0701 (le 1 n ++ le 1
      (s.link n).nPos) (s.setLink n
      { s.link n with state := .down, since := s.now, unacked := [], queued := [], waiting := [], rx := [], nValid := false })))

/-- The pack commands have the effect of their rules. PACK_FORM of a single device that is the lowest of its members starts a formation and asks on every UP link (R162, R572). PACK_DISSOLVE of a pack without a running stream leaves this device single (R163, R603); PACK_EJECT ejects the named member with cause 1 (R164, R599); PACK_TIMEOUT_SET takes the timeout (R165). (04 R162, 04 R163, 04 R164, 04 R165, 14 R572, 14 R578, 14 R599, 14 R603) -/
def Obligations.PackCommandsAct : Prop :=
  (∀ (h : Hdr) (p : Bytes) (s : State) (m topo : Nat), Taken 0x0700 h p s → resOk p [0xFF, 0xFF, 0, 0] = true → m = fld p 0 1 → topo =
      fld p 1 1 → (popcount m 8 = 2 ∨ popcount m 8 = 4 ∨ (popcount m 8 = 8 ∧ s.glb.stepping ≠ 0xA0)) → topo ≤ 2 → (topo = 2 → popcount m
      8 = 8) → (maskBits m 8).head? = some s.glb.packPos.toNat → s.pack.state = .single → (List.range 32).any (runs s) = false →
      Reaches (.packForm h p) s
      { s with pack := { s.pack with state := .forming, forming := some (h, m, topo, s.now), nextTag := s.pack.nextTag + 1, table := [], duplicate := false, members := m, epoch := 0, seen := (s.glb.packPos.toNat, s.pack.nextTag.toNat, 4) :: s.pack.seen } })
      ∧
  (∀ (h : Hdr) (p : Bytes) (s : State), Taken 0x0701 h p s → inPack s = true → (List.range 32).any (runs s) = false → ∃ u : State,
      Answers (.packDissolve h p) h 0x0701 .ok [] s u ∧ u.pack.state = .single ∧ u.pack.members = 0 ∧ u.pack.epoch = 0 ∧ u.pack.timeout =
      s.pack.timeout) ∧
  (∀ (h : Hdr) (p : Bytes) (s : State) (pos : Nat), Taken 0x0702 h p s → resOk p [0x07, 0, 0, 0] = true → pos = bits (fld p 0 1) 0 3 →
      inPack s = true → pos ≠ s.glb.packPos.toNat → memberOk s pos = true → Answers (.packEject h p) h 0x0702 .ok [] s (ejectMember pos 1
      s)) ∧
  (∀ (h : Hdr) (p : Bytes) (s : State), Taken 0x0703 h p s → 128 ≤ fld p 0 4 → fld p 0 4 ≤ 8000 → Answers (.packTimeoutSet h p) h 0x0703
      .ok [] s { s with pack := { s.pack with timeout := fld p 0 4 } })

/-- Discovery, comparison and FORM make a pack as their rules say. DISCOVER is answered once per source and identifier (R561, R572). The answers are kept, two of one position noted (R572 to R574). 5 ms after PACK_FORM the leader ends it with PACK_POS_DUPLICATE or PACK_MISMATCH, or takes epoch 1 and sends FORM (R572 to R574). FORM makes a single, idle device a follower with the leader's membership, epoch, timeout and timebase (R572, R582). The last follower's answer completes PACK_FORM (R572). (14 R561, 14 R571, 14 R572, 14 R573, 14 R574, 14 R582, 04 R162) -/
def Obligations.PackFormationActs : Prop :=
  (∀ (n : Nat) (k : Packet) (s : State), s.running = true → domainOn s 31 = true → (s.link n).state = .up → s.pack.seen.any (fun e => e.1
      == k.src && e.2.1 == k.tag.toNat) = false → Reaches (.discover n k) s
      { s with pack := { s.pack with seen := (k.src, k.tag.toNat, n) :: s.pack.seen.filter (fun e => e.1 != k.src) } }) ∧
  (∀ (k : Packet) (s : State), s.running = true → domainOn s 31 = true → k.dst = s.glb.packPos.toNat → s.pack.forming.isSome = true →
      k.src ≠ s.glb.packPos.toNat → (s.member k.src).info = [] → exec (.packInfo k) s = .next (s.setMember k.src
      { s.member k.src with state := 1, info := pad 32 k.data, fw := BitVec.ofNat 32 (fld k.data 0 4) })) ∧
  (∀ (k : Packet) (s : State), s.running = true → domainOn s 31 = true → k.dst = s.glb.packPos.toNat → s.pack.forming.isSome = true →
      (s.member k.src).info ≠ [] → exec (.packInfo k) s = .next { s with pack := { s.pack with duplicate := true } }) ∧
  (∀ (k : Packet) (s : State), s.running = true → domainOn s 31 = true → k.dst = s.glb.packPos.toNat → s.pack.forming.isSome = true →
      k.src ≠ s.glb.packPos.toNat → exec (.planHashes k) s = .next (s.setMember k.src
      { s.member k.src with hashes := (s.member k.src).hashes ++ k.data })) ∧
  (∀ (h : Hdr) (m topo at_ : Nat) (s : State), s.running = true → s.pack.forming = some (h, m, topo, at_) → at_ + 5000000 ≤ s.now →
      s.pack.epoch = 0 → (positionsClash s (maskBits m 8) = true → exec .packFormDiscoveryTimeout s = .next (formFails h
      .packPosDuplicate [] s)) ∧ (positionsClash s (maskBits m 8) = false → (∃ q ∈ maskBits m 8, q ≠ s.glb.packPos.toNat ∧ (s.member
      q).info = []) → ∃ r, exec .packFormDiscoveryTimeout s = .next (formFails h .packMismatch r s))) ∧
  (∀ (h : Hdr) (m topo at_ : Nat) (s : State), s.running = true → s.pack.forming = some (h, m, topo, at_) → at_ + 5000000 ≤ s.now →
      s.pack.epoch = 0 → positionsClash s (maskBits m 8) = false → (maskBits m 8).all (fun q => q == s.glb.packPos.toNat || disagreement
      s q == 0) = true → (requiredLinks topo (packOrder topo m)).any (fun e => linksBetween s e.1 e.2.1 < e.2.2) = false → ∃ t, exec
      .packFormDiscoveryTimeout s = .next t ∧ t.pack.epoch = 1 ∧ t.pack.leader = true ∧ t.pack.leaderPos = s.glb.packPos.toNat ∧
      t.pack.topology = topo ∧ t.pack.order = packOrder topo m ∧ (t.member s.glb.packPos.toNat).state = 2) ∧
  (∀ (k : Packet) (lead : Nat) (s : State), s.running = true → domainOn s 31 = true → k.dst = s.glb.packPos.toNat → s.pack.state =
      .single → packBusy s = false → ∃ t, exec (.form k lead) s = .next t ∧ t.pack.state = .formed ∧ t.pack.leader = false ∧
      t.pack.leaderPos = k.src ∧ t.pack.members = fld k.data 0 1 ∧ t.pack.topology = fld k.data 1 1 ∧ t.pack.epoch = k.epoch ∧
      t.pack.timeout = k.arg.toNat ∧ timeNs t = lead) ∧
  (∀ (k : Packet) (h : Hdr) (m topo at_ : Nat) (s u : State), s.running = true → domainOn s 31 = true → k.dst = s.glb.packPos.toNat →
      s.pack.state = .forming → s.pack.forming = some (h, m, topo, at_) → s.pack.epoch = 1 → bit s.pack.members k.src = true → u =
      s.setMember k.src
      { s.member k.src with state := 2, ackEpoch := k.epoch, contactAt := s.now, links := toMask ((List.range 4).filter (fun q => (nth none (portsOf s k.src) q).isSome)) }
      → (maskBits m 8).all (fun p => (u.member p).state == 2) = true → exec (.prepAck k) s = .next (complete h 0x0700 .ok (le 4 0 ++ le 4
      0 ++ le 4 1) { u with pack := { u.pack with state := .formed, forming := none } }))

/-- Packets of pack operations stage, run and drop commands by their epoch. A PREPARE part that does not follow the one before is answered BAD_LENGTH; the last part has the command checked and staged (R575 to R577). COMMIT runs a staged command, ABORT drops it (R575). A later EPOCH from the leader is taken and older operations drop; an older one is counted (R578). At the pack timeout a missing first answer completes PACK_MEMBER_TIMEOUT, the epoch advances, and the second miss of a member ejects it (R578, R579). (14 R575, 14 R576, 14 R577, 14 R578, 14 R579) -/
def Obligations.PackOperationsAct : Prop :=
  (∀ (k : Packet) (s : State), Heard k true s → follows s = true → k.src = s.pack.leaderPos → k.arg.toNat ≠ ((s.pack.ops.find? (fun o =>
      o.id == k.tag.toNat && !o.complete)).map (·.params.length)).getD 0 → exec (.prepare k) s = .next (prepAck k.tag .badLength true
      (dropOp k.tag.toNat s))) ∧
  (∀ (k : Packet) (o : PackOp) (s : State), Heard k true s → follows s = true → k.src = s.pack.leaderPos → s.pack.ops.find? (fun o =>
      o.id == k.tag.toNat && !o.complete) = none → k.arg = 0 → o =
      { id := k.tag.toNat, epoch := k.epoch, opcode := fld k.data 0 2, params := k.data.drop 8, cmd := none, first := [], final := [], issuedAt := s.now, complete := decide (fld k.data 2 2 ≤ (k.data.drop 8).length), len := fld k.data 2 2 }
      → exec (.prepare k) s = .next (if o.complete then stagePrepared o
      { dropOp k.tag.toNat s with pack := { (dropOp k.tag.toNat s).pack with ops := (dropOp k.tag.toNat s).pack.ops ++ [o] } } else
      { dropOp k.tag.toNat s with pack := { (dropOp k.tag.toNat s).pack with ops := (dropOp k.tag.toNat s).pack.ops ++ [o] } })) ∧
  (∀ (k : Packet) (o : PackOp) (s : State), Heard k true s → s.pack.ops.find? (fun o => o.id == k.tag.toNat && o.complete &&
      o.cmd.isNone) = some o → o.opcode ≠ 0x0100 → exec (.commit k) s = .next (runInner o (dropOp o.id s))) ∧
  (∀ (k : Packet) (o : PackOp) (s : State), Heard k true s → s.pack.ops.find? (fun o => o.id == k.tag.toNat && o.cmd.isNone) = some o →
      o.opcode ≠ 0x0100 → exec (.abort k) s = .next
      { dropOp o.id s with staged := s.staged.filter (fun e => !(e.ring == innerRing && e.tag == k.tag)) }) ∧
  (∀ (k : Packet) (s : State), Heard k false s → follows s = true → k.src = s.pack.leaderPos → (later k.arg s.pack.epoch = true → exec
      (.epoch k) s = .next { s with pack := { s.pack with epoch := k.arg, ops := s.pack.ops.filter (fun o => !later k.arg o.epoch) } }) ∧
      (k.arg = s.pack.epoch → exec (.epoch k) s = .next s) ∧ (later k.arg s.pack.epoch = false → k.arg ≠ s.pack.epoch → exec (.epoch k) s
      = .next (errAdd 0x204 1 s))) ∧
  (∀ (id : Nat) (o : PackOp) (h : Hdr) (s : State), s.pack.ops.find? (fun o => o.id == id) = some o → o.cmd = some h → s.running = true →
      leads s = true → o.agreed = false → (peers s).any (fun p => !o.first.any (fun e => e.1 == p)) = true → o.issuedAt + 1000 * o.limit
      ≤ s.now → h.ring < 8 → (peers s).all (fun m => (s.member m).missed == 0) = true → ∃ t, exec (.packTimeoutExpiry id) s = .next t ∧
      Completed h o.opcode .packMemberTimeout [] t ∧ t.pack.epoch = s.pack.epoch + 1 ∧ t.pack.ops = s.pack.ops.filter (fun x => x.id !=
      id))

/-- The pack keeps one time, ejects silent members and leaves a silent leader. The leader sends its time to each follower every tick; a follower answers with its own; the leader takes the offset and sends it on; the follower slews it away (R581, R582). The leader ejects a member it has not heard for the pack timeout (R583, cause 2) or whose offset is more than 1 us for 10 ms (R582, cause 5); a follower that has not heard the leader leaves (R583). EJECT of this device makes it leave, of another revokes the certificates of pack streams (R599). (14 R581, 14 R582, 14 R583, 14 R598, 14 R599, 14 R604) -/
def Obligations.PackTimeActs : Prop :=
  (∀ (s : State), s.running = true → leads s = true → exec .timeSyncTick s = .next ((peers s).foldl (fun s m => sendPkt m 0x20 0 0 (le 8
      (timeNs s).toNat) (s.setMember m { s.member m with t1 := timeNs s })) s)) ∧
  (∀ (k : Packet) (s : State) (t : Nat), Heard k false s → follows s = true → k.src = s.pack.leaderPos → t = (timeNs s).toNat → exec
      (.timeSync k) s = .next (sendPkt k.src 0x21 0 0 (le 8 t ++ le 8 t) { s with pack := { s.pack with sync := some (t, t) } })) ∧
  (∀ (k : Packet) (s : State) (d : Int) (x : Member), Heard k false s → leads s = true → x = s.member k.src → d = ((fld k.data 0 8 -
      x.t1) - (timeNs s - fld k.data 8 8)) / 2 → exec (.timeReply k) s = .next (sendPkt k.src 0x22 0 0 (le 8 x.t1.toNat ++ le 8 (timeNs
      s).toNat) (s.setMember k.src
      { x with contactAt := s.now, offset := d, offSince := if d < -1000 ∨ 1000 < d then some (x.offSince.getD s.now) else none }))) ∧
  (∀ (k : Packet) (s : State) (t2 t3 : Nat) (d : Int), Heard k false s → follows s = true → k.src = s.pack.leaderPos → s.pack.sync = some
      (t2, t3) → d = ((t2 - fld k.data 0 8) - (fld k.data 8 8 - t3)) / 2 → exec (.timeFollow k) s = .next
      { s with pack := { s.pack with heardAt := s.now, sync := none, offset := d, slew := -d } }) ∧
  (∀ (q : Nat) (s : State), s.running = true → leads s = true → memberOk s q = true → ((s.member q).contactAt + 1000 * s.pack.timeout ≤
      s.now → exec (.leaderContactTimeout q) s = .next (ejectMember q 2 s)) ∧ (∀ t, (s.member q).offSince = some t → t + 10000000 ≤ s.now
      → exec (.timeOffsetTimeout q) s = .next (ejectMember q 5 s))) ∧
  (∀ (s : State), s.running = true → follows s = true → s.pack.heardAt + 1000 * s.pack.timeout ≤ s.now → exec .followerContactTimeout s =
      .next (leavePack 7 s)) ∧
  (∀ (k : Packet) (s : State), Heard k true s → follows s = true → k.src = s.pack.leaderPos → (k.arg.toNat % 8 = s.glb.packPos.toNat →
      exec (.eject k) s = .next (leavePack (bits k.arg.toNat 8 8) s)) ∧ (k.arg.toNat % 8 ≠ s.glb.packPos.toNat → packStreams s = [] →
      exec (.eject k) s = .next
      { s.setMember (k.arg.toNat % 8) { s.member (k.arg.toNat % 8) with state := 3 } with pack := { (s.setMember (k.arg.toNat % 8) { s.member (k.arg.toNat % 8) with state := 3 }).pack with state := .degraded } }))
      ∧
  (∀ (k : Packet) (s : State), Heard k false s → leads s = true → k.arg.toNat % 256 = 2 → exec (.memberStatus k) s = .next (ejectMember
      k.src 6 s)) ∧
  (∀ (q t : Nat) (s : State), (s.member q).ejectedAt = some t → s.running = true → leads s = true → (s.member q).filled = false → t +
      1000 * s.pack.timeout ≤ s.now → packStreams s = [] → exec (.packFillStart q) s = .next (s.setMember q
      { s.member q with filled := true }))

/-- Frames, buffers, events, rows and windows cross a pack as their rules say. ACCEPT takes the named buffer into the named frame (R590); BIND_REQ and BIND bind (R593); BAND_REPORT releases input or completes output parts (R594); EVENT_FWD becomes an event of the member or of the pack stream (R595); FEATURE_PART, HALO_DATA and COUNTER_EXPORT arrive (R591, R596). WIN_WRITE stores in an open window and answers WIN_ACK, WIN_READ_REQ and DBG_READ answer with bytes, WIN_ACK and WIN_CLOSED take effect (R584 to R587); a fence that waited the pack timeout ends (R586). (14 R584, 14 R585, 14 R586, 14 R587, 14 R590, 14 R591, 14 R593, 14 R594, 14 R595, 14 R596, 14 R561, 10 R437) -/
def Obligations.PackFramesAct : Prop :=
  (∀ (k : Packet) (b : Buf) (s : State), Heard k false s → (s.stream k.index).inBufs[fld k.data 0 1]? = some b → followsPack s k.index =
      true → (s.stream k.index).state = .running → exec (.accept k) s = .next (acceptFrame k.index (some b) none (s.stream k.index).esid 0 0
      (s.setStream k.index
      { s.stream k.index with inBufs := (s.stream k.index).inBufs.take (fld k.data 0 1) ++ (s.stream k.index).inBufs.drop (fld k.data 0 1 + 1), nextFrame := k.arg })))
      ∧
  (∀ (k : Packet) (s : State), Heard k false s → leads s = true → packStream s k.index = true → exec (.bindReq k) s = .next (bindOutput
      k.index k.arg (fld k.data 0 1) (fld k.data 1 1) s) ∧ exec (.featurePart k) s = .next (partHeard k.index k.arg k.src s)) ∧
  (∀ (k : Packet) (b : Buf) (s : State) (ph d i : Nat), Heard k false s → followsPack s k.index = true → ph = fld k.data 0 1 → d = fld
      k.data 1 1 → i = fld k.data 2 1 → i ≠ 0xFF → (Tab.get [] (s.stream k.index).outBufs d)[i]? = some b → ∃ t, exec (.bind k) s = .next
      t ∧ (t.stream k.index).outputs = ((s.stream k.index).onOutput k.arg ph d (fun o =>
      { o with bound := true, buf := some b })).outputs ∧ Tab.get [] (t.stream k.index).outBufs d = (Tab.get [] (s.stream
      k.index).outBufs d).take i ++ (Tab.get [] (s.stream k.index).outBufs d).drop (i + 1)) ∧
  (∀ (k : Packet) (s : State), Heard k false s → leads s = true → packStream s k.index = true → fld k.data 8 1 = 1 → exec (.bandReport k)
      s = .next (releasePart k.index k.arg k.src s)) ∧
  (∀ (k : Packet) (own : Bool) (s u : State), Heard k false s → leads s = true → own = (decide (fld k.data 3 1 = 1) && packStream s (fld
      k.data 2 1)) → u =
      (match eventCounter (fld k.data 0 2) with | some c => if own then scAdd (fld k.data 2 1) c 1 s else s | none => s)
      → exec (.eventFwd k) s = .next (emitRaw (if own then srcSc (fld k.data 2 1) else srcMember k.src) (fld k.data 0 2) ((k.data.drop
      16).take 16) (emitLost u)) ∧ Reaches (.eventFwd k) s u) ∧
  (∀ (k : Packet) (r : Region) (s : State), Heard k false s → packStream s k.index = true → (s.stream k.index).regions.find? (fun r =>
      r.mem == .kennel) = some r → k.arg.toNat + k.data.length ≤ r.len → ∃ t, exec (.haloData k) s = .next t ∧ t.mem.kennel = memWrite
      s.mem.kennel (r.base + k.arg.toNat) k.data ∧ t.dram = s.dram ∧ t.mem.cm = s.mem.cm) ∧
  (∀ (k : Packet) (base n : Nat) (s : State), Heard k false s → packStream s k.index = true → (s.stream k.index).counterBase = some
      (base, n) → k.arg.toNat < n → exec (.counterExport k) s = .next (s.setCounter (base + k.arg.toNat) (BitVec.ofNat 16 (fld k.data 0
      2), BitVec.ofNat 16 (fld k.data 2 2), BitVec.ofNat 32 (fld k.data 4 4)))) ∧
  (∀ (k : Packet) (a : Nat) (s : State), Heard k false s → ownedAt s k.index k.arg.toNat k.data.length = some (.kennel, a) → (s.window
      k.index).write = true → ∃ t, exec (.winWrite k) s = .next (sendPkt k.src 0x43 k.index (BitVec.ofNat 32 k.tag.toNat) [] t) ∧
      t.mem.kennel = memWrite s.mem.kennel a k.data ∧ t.dram = s.dram) ∧
  (∀ (k : Packet) (a n : Nat) (s : State), Heard k false s → n = fld k.data 0 4 → ownedAt s k.index k.arg.toNat n = some (.kennel, a) →
      exec (.winReadReq k []) s = .next (sendRead k k.arg.toNat (outsideRead .kennel a n s).1 (outsideRead .kennel a n s).2)) ∧
  (∀ (k : Packet) (r : MemberRead) (s : State), Heard k false s → s.pack.reads.find? (fun r => r.tag == k.tag) = some r → k.arg.toNat < 2
      ^ 31 → r.len ≤ (r.data ++ k.data).length → exec (.winReadResp k) s = .next (debugDone r.cmd r.dest .ok (r.data ++ k.data)
      { s with pack := { s.pack with reads := s.pack.reads.filter (fun x => x.tag != r.tag) } })) ∧
  (∀ (k : Packet) (c : Nat) (s : State), Heard k false s → (List.range 16).find? (fun c => (s.core c).remote.any (fun e => e.1 ==
      (BitVec.ofNat 16 k.arg.toNat))) = some c → exec (.winAck k) s = .next (settleFence c (s.setCore c
      { s.core c with remote := (s.core c).remote.filter (fun e => e.1 != (BitVec.ofNat 16 k.arg.toNat)) })) ∧ ((s.window (k.arg.toNat %
      64)).kind ≠ 0 → exec (.winClosed k) s = .next (s.setWindow (k.arg.toNat % 64) {}))) ∧
  (∀ (k : Packet) (b : Bytes) (s u : State), Heard k false s → debugBytes k.data [] s = (.ok, b, u) → b ≠ [] → exec (.dbgRead k []) s =
      .next (sendRead k 0 b u)) ∧
  (∀ (c since : Nat) (s : State), (s.core c).wait = .fenceRemote since → (s.core c).remote ≠ [] → since + 1000 * s.pack.timeout ≤ s.now →
      exec (.windowAckTimeout c) s = .next (if leads s then ((s.core c).remote.map (·.2)).dedup.foldl (fun s w => closeWindow 3 w s)
      (settleFence c (s.setCore c { s.core c with remote := [] })) else settleFence c (s.setCore c { s.core c with remote := [] })))

/-- NOP completes OK, has no effect, and with FENCE waits until every earlier command of its ring has completed. R113. A NOP whose PARAM_LEN is not 0 completes BAD_LENGTH. Taken for execution, it completes OK and leaves the state as it was, but for its record. A NOP with FENCE that can run finds no earlier command of its ring in flight; while one is, the NOP does not start. (04 R113) -/
def Obligations.NopResult : Prop :=
  (∀ (b : Bytes), b.length = 64 → fld b 0 2 = 0x0000 → bit (fld b 4 1) 0 = false → slotForm b = (if fld b 6 2 = 0 then none else some
      .badLength)) ∧
  (∀ (h : Hdr) (p : Bytes) (s : State), Taken 0x0000 h [] s → Answers (.nop h p) h 0x0000 .ok [] s s ∧ (h.fence = true → earlier h s =
      [])) ∧
  (∀ (h : Hdr) (p : Bytes) (s : State), h.ring < 8 → h.fence = true → earlier h s ≠ [] → exec (.nop h p) s = .next s)

/-- GET_INFO answers with the part, stepping, versions, capabilities, limits, fuses, OTP and pins of its table. The RESULT of GET_INFO, field by field as the table of R114 lists them: part number, stepping, ROM version, firmware version (0 before Shepherd runs), capability bits, highest DRAM rate, cores, largest pack, grade, customer key, debug lock, test pins, rollback count and boot straps. The hypotheses say that the stepping is one of the two, which no step changes (StepConsumesOne), and that at most 32 rollback steps are used (RollbackStaysInRange). (04 R114) -/
def Obligations.GetInfoResult : Prop :=
  (∀ (h : Hdr) (p : Bytes) (s : State), Taken 0x0001 h [] s → Answers (.getInfo h p) h 0x0001 .ok (infoResult s) s s) ∧
  (∀ (s : State) (b0 : Bool), s.glb.stepping = (if b0 then 0xB0 else 0xA0) → s.otp.rollback ≤ 32 → (infoResult s).length = 16 ∧ fld
      (infoResult s) 0 2 = 0x3216 ∧ fld (infoResult s) 2 1 = (if b0 then 0xB0 else 0xA0) ∧ fld (infoResult s) 3 1 = (if b0 then 2 else 1)
      ∧ fld (infoResult s) 4 4 = (if s.glb.boot = .running then s.glb.fwVersion.toNat else 0) ∧
    bit (fld (infoResult s) 8 2) 0 = s.glb.capCamera ∧ bit (fld (infoResult s) 8 2) 1 = s.glb.capFyx ∧ bit (fld (infoResult s) 8 2) 2 =
      b0 ∧ bit (fld (infoResult s) 8 2) 3 = true ∧ bit (fld (infoResult s) 8 2) 4 = b0 ∧ fld (infoResult s) 8 2 < 32 ∧
    fld (infoResult s) 10 2 = (if b0 then 8533 else 7500) ∧ fld (infoResult s) 12 1 = 16 ∧ fld (infoResult s) 13 1 = (if b0 then 8 else
      4) ∧
    bit (fld (infoResult s) 14 1) 0 = s.glb.gradeE ∧ bit (fld (infoResult s) 14 1) 1 = s.otp.keyHash.isSome ∧ bit (fld (infoResult s) 14
      1) 2 = s.otp.debugLocked ∧ bit (fld (infoResult s) 14 1) 3 = s.glb.testPins ∧
    bits (fld (infoResult s) 15 1) 0 6 = s.otp.rollback ∧ bits (fld (infoResult s) 15 1) 6 2 = s.glb.bootSrc.toNat)

/-- STREAM_RELEASE frees a CONFIGURED stream outside any alignment group, and otherwise completes BAD_STATE. R134. A slot of STREAM_RELEASE whose PARAM_LEN is not 4 is refused with BAD_LENGTH. Byte 0 [4:0] holds SC; the other bits are 0. On a stream that is not CONFIGURED or is in an alignment group, the command completes BAD_STATE and changes nothing. Otherwise it completes OK: the stream context is FREE and in every field as after reset, its descriptors among them, and no source is routed to it. (04 R134) -/
def Obligations.StreamReleaseResult : Prop :=
  (∀ (b : Bytes), b.length = 64 → fld b 0 2 = 0x0203 → bit (fld b 4 1) 0 = false → slotForm b = (if fld b 6 2 = 4 then none else some
      .badLength)) ∧
  (∀ (h : Hdr) (p : Bytes) (s : State), Taken 0x0203 h p s → resOk p [0x1F] = true → ((s.stream (bits (fld p 0 1) 0 5)).state ≠
      .configured ∨ (s.stream (bits (fld p 0 1) 0 5)).group ≠ none) → Answers (.streamRelease h p) h 0x0203 .badState [] s s) ∧
  (∀ (h : Hdr) (p : Bytes) (s : State), Taken 0x0203 h p s → resOk p [0x1F] = true → (s.stream (bits (fld p 0 1) 0 5)).state =
      .configured → (s.stream (bits (fld p 0 1) 0 5)).group = none → ∃ u : State, Answers (.streamRelease h p) h 0x0203 .ok [] s u ∧
      u.stream (bits (fld p 0 1) 0 5) = {} ∧ (u.stream (bits (fld p 0 1) 0 5)).state = .free ∧ (∀ e ∈ u.routes, e.2 ≠ (bits (fld p 0 1) 0
      5)))

/-- The tally sums the weights per class in 32 bits; the largest sum wins, the lowest class among equals. R540. When a vote completes, its result waits for the stream. Per class, its sum is the sum, in 32 bits, of the weights of the leaves of that class that its trees reached. The winner is a class whose sum no other class exceeds and that every lower class falls short of; so class 0 wins when every sum is 0. (13 R540) -/
def Obligations.VoteWinner : Prop :=
  (∀ (v : VoteJob) (e : Nat) (l : List (Option (Nat × Nat))) (s : State), s.tve.running = some v → (s.stream v.sc).bind.ensemble = some e
      → l = treeResults (s.ensemble e) (frontStage (s.ensemble e).front v.features) v.bad → ∃ t r, exec .voteComplete s = .next t ∧ r ∈
      (t.stream v.sc).votes ∧ r.frame = v.frame ∧ r.winner < 16 ∧ r.winnerSum = classSum l r.winner ∧
    (∀ c < 16, classSum l c ≤ classSum l r.winner) ∧ (∀ c < r.winner, classSum l c < classSum l r.winner) ∧ ((∀ c < 16, classSum l c = 0)
      → r.winner = 0)) ∧
  (∀ (l : List (Option (Nat × Nat))) (c : Nat), classSum l c = (((l.filterMap id).filter (fun x => x.1 == c)).map (·.2)).sum % 2 ^ 32)

/-- A fetched command whose tag is in flight or in the window is a duplicate and executes nothing. R82. A slot with a good CRC is fetched from the ring that is next. In flight with an equal slot CRC: no record is written. In the window with an equal CRC: the cached record is written again with REPLAY set, an OK of it as OK_REPLAY (R83). In flight or in the window with another CRC: a record with TAG_IN_USE is written. In each case the command joins neither the in-flight set nor the window, and apart from reports and the arbitration count nothing changes. (03 R82) -/
def Obligations.DuplicatesAnswer : Prop :=
  (∀ (ring : Nat) (b : Bytes) (tag : U16) (crc : U32) (e : InFlight) (s : State), ringsOpen s = true → arbiter (noteWaiting s) = some
      ring → ring < 8 → b.length = 64 → crc32c (b.take 8 ++ [0, 0, 0, 0] ++ b.drop 12) = crc → crc = BitVec.ofNat 32 (fld b 8 4) → tag =
      BitVec.ofNat 16 (fld b 2 2) → (s.ring ring).inFlight.find? (fun x => x.phase != .slotRead && x.tag == tag) = some e → e.crc = crc →
      ∃ t, exec (.slotFetch ring (some b)) s = .next t ∧ t.sent = s.sent ∧ t.quiet =
      { s with glb := { s.glb with overtakes := t.glb.overtakes } }.quiet ∧ (t.ring ring).window = (s.ring ring).window ∧ (∀ x ∈ (t.ring
      ring).inFlight, x ∈ (s.ring ring).inFlight)) ∧
  (∀ (ring : Nat) (b : Bytes) (tag : U16) (crc : U32) (e : WinEntry) (s : State), ringsOpen s = true → arbiter (noteWaiting s) = some
      ring → ring < 8 → b.length = 64 → crc32c (b.take 8 ++ [0, 0, 0, 0] ++ b.drop 12) = crc → crc = BitVec.ofNat 32 (fld b 8 4) → tag =
      BitVec.ofNat 16 (fld b 2 2) → log2Ok (s.ring ring).cqLog2 = true → (s.ring ring).inFlight.find? (fun x => x.phase != .slotRead &&
      x.tag == tag) = none → (s.ring ring).window.find? (fun x => x.tag == tag) = some e → e.crc = crc → ∃ t, exec (.slotFetch ring (some
      b)) s = .next t ∧ (∃ a q f l, t.sent = s.sent ++ Sent.host a (Record.bytes
      { e.record with replay := true, status := if e.record.status = 0 then 1 else e.record.status } q f s.us) :: l) ∧ t.quiet =
      { s with glb := { s.glb with overtakes := t.glb.overtakes } }.quiet ∧ (t.ring ring).window = (s.ring ring).window ∧ (∀ x ∈ (t.ring
      ring).inFlight, x ∈ (s.ring ring).inFlight)) ∧
  (∀ (ring : Nat) (b : Bytes) (tag : U16) (crc : U32) (s : State), ringsOpen s = true → arbiter (noteWaiting s) = some ring → ring < 8 →
      b.length = 64 → crc32c (b.take 8 ++ [0, 0, 0, 0] ++ b.drop 12) = crc → crc = BitVec.ofNat 32 (fld b 8 4) → tag = BitVec.ofNat 16
      (fld b 2 2) → log2Ok (s.ring ring).cqLog2 = true → ((∃ e, (s.ring ring).inFlight.find? (fun x => x.phase != .slotRead && x.tag ==
      tag) = some e ∧ e.crc ≠ crc) ∨ ((s.ring ring).inFlight.find? (fun x => x.phase != .slotRead && x.tag == tag) = none ∧ ∃ e, (s.ring
      ring).window.find? (fun x => x.tag == tag) = some e ∧ e.crc ≠ crc)) → ∃ t, exec (.slotFetch ring (some b)) s = .next t ∧ (∃ a q f
      l, t.sent = s.sent ++ Sent.host a (Record.bytes
      { tag := tag, status := 0x0202, opcode := BitVec.ofNat 16 (fld b 0 2), ring := ring, replay := false, result := pad 16 [] } q f
      s.us) :: l) ∧ t.quiet = { s with glb := { s.glb with overtakes := t.glb.overtakes } }.quiet ∧ (t.ring ring).window = (s.ring
      ring).window ∧ (∀ x ∈ (t.ring ring).inFlight, x ∈ (s.ring ring).inFlight))

/-- The first check that fails decides the status of a command, and the command executes no part of itself. R73. Once a command can run, its checks are made in their order: lengths that follow from a count, reserved bits, field values, legality on the management port (NOT_ON_PORT) and on a follower, test mode, then state and resources. When the checks before one hold and it fails, the command completes with the status of that check, and apart from reports and answers nothing changes. An opcode with no row completes BAD_OPCODE before any of them. (03 R73, 03 R99, 04 R168, 04 R179) -/
def Obligations.ChecksInOrder : Prop :=
  (∀ (op : Nat) (h : Hdr) (p : Bytes) (len form state before after : List (Bool × Status)) (st : Status) (act : State → State) (s :
      State), canRun h s = true → h.ring ≠ innerRing → len ++ [(slotClean h s, .reservedNonzero)] ++ form ++ [(h.ring != 15 || onPort op,
      .notOnPort), (h.ring == 15 || h.ring == innerRing || onPort op || !s.follower, .notLeader), (!s.glb.testMode, .badState)] ++ state
      = before ++ (false, st) :: after → before.all (·.1) = true → ∃ t, command op h p len form state act s = .next t ∧ Completed h op st
      [] t ∧ t.quiet = s.quiet ∧ Apart h t s) ∧
  (∀ (b : Bytes), opForm (fld b 0 2) = none → slotForm b = some .badOpcode)

/-- An event is written to the event ring, waits in the backlog of 1,024, or is counted as lost. R79, R606. On a device that is no follower of a pack, an event takes the next sequence number of its source. With an empty backlog and room in the ring, its record is written at the producer index, which advances. Otherwise it is the last of the backlog when fewer than 1,024 wait there. Otherwise it is discarded: EVQ_LOST counts it, OVERFLOW is set, and its source is marked, so that its next event carries LOST_BEFORE. The hypothesis says that no earlier loss is still to be reported. A follower of a pack forwards its events to the leader (R595) and leaves its own event ring as it is. (03 R78, 03 R79, 15 R606, 14 R595) -/
def Obligations.EventsArePlaced : Prop :=
  (∀ (source code : Nat) (payload : Bytes) (s : State) (e : Event), s.evq.lostSince = 0 → s.follower = false → e =
      { code := code, source := source, seq := Tab.get 0 s.evq.seqs source, lostBefore := s.evq.lostSources.contains source, time := s.us, payload := pad 16 payload }
      → (emit source code payload s).evq.seqs = Tab.put s.evq.seqs source (e.seq + 1) ∧
    (s.evq.backlog = [] → evqRoom s = true → (emit source code payload s).evq.tail = s.evq.tail + 1 ∧ (emit source code payload
      s).evq.backlog = [] ∧ Sent.host (s.evq.base.toNat + 32 * (s.evq.tail.toNat % 2 ^ s.evq.log2.toNat)) (e.bytes (phaseBit
      s.evq.tail.toNat (2 ^ s.evq.log2.toNat))) ∈ (emit source code payload s).sent) ∧
    ((s.evq.backlog ≠ [] ∨ evqRoom s = false) → (emit source code payload s).evq.tail = s.evq.tail ∧ (s.evq.backlog.length < 1024 → (emit
      source code payload s).evq.backlog = s.evq.backlog ++ [e]) ∧
    (1024 ≤ s.evq.backlog.length → (emit source code payload s).evq.backlog = s.evq.backlog ∧ (emit source code payload s).evq.lost =
      satAdd s.evq.lost 1 ∧ (emit source code payload s).evq.overflow = true ∧ source ∈ (emit source code payload s).evq.lostSources))) ∧
  (∀ (source code : Nat) (payload : Bytes) (s : State), s.follower = true → (emit source code payload s).evq = s.evq)

/-- No step unprograms OTP: the customer key hash, DEBUG_LOCK, the rollback level and the fused remaps stay. Whatever bits of OTP are programmed before a step, by any command or by time, are programmed after it (R636): a key hash stays as it is, DEBUG_LOCK stays set, the anti-rollback level does not fall, and the fused remaps are the same. Stated as the invariant Otp.le o, for every OTP content o. (16 R636, 04 R122, 04 R169, 17 R674) -/
def Obligations.StepKeepsOtp : Prop :=
  ∀ (o : Otp) (s t : State), o.le s.otp → step s = .next t → o.le t.otp

/-- A step takes one command from the queue, or none when it is empty, and leaves the fuses alone. When a step answers a next state, its queue is the rest of the queue before it: no command adds to the queue, reorders it or takes more than its turn. The fuses and silicon facts that GET_INFO reports (R114) are the same after every step. On an empty queue the queue stays empty (the tick is the model's choice, log 11). (INVENTORY.md Agents, 04 R114, log 77, log 11) -/
def Obligations.StepConsumesOne : Prop :=
  ∀ (s t : State), step s = .next t → t.pending = s.pending.tail ∧ t.glb.fuses = s.glb.fuses

/-- Only CUSTOMER_KEY_PROGRAM, DEBUG_LOCK and the rollback timer program OTP fields that stay. Every other command leaves the customer key hash, DEBUG_LOCK, the rollback level and the fused remaps of OTP exactly as they were (R636 names the one agent that programs each). CUSTOMER_KEY_PROGRAM can change only the key hash, and only where none is programmed; DEBUG_LOCK only its bit; the rollback timer only the level. (16 R636, 04 R122, 04 R169) -/
def Obligations.OnlyTheirCommandsProgramOtp : Prop :=
  (∀ (c : Instr) (s t : State), exec c s = .next t → (∀ h p, c ≠ .customerKeyProgram h p) → (∀ h p, c ≠ .debugLock h p) → c ≠
      .rollbackProgram → t.otp.fixed = s.otp.fixed) ∧
  (∀ (h : Hdr) (p : Bytes) (s t : State), exec (.customerKeyProgram h p) s = .next t → t.otp.debugLocked = s.otp.debugLocked ∧
      t.otp.rollback = s.otp.rollback ∧ t.otp.fusedRemaps = s.otp.fusedRemaps ∧ (s.otp.keyHash ≠ none → t.otp.keyHash = s.otp.keyHash)) ∧
  (∀ (h : Hdr) (p : Bytes) (s t : State), exec (.debugLock h p) s = .next t → t.otp.keyHash = s.otp.keyHash ∧ t.otp.rollback =
      s.otp.rollback ∧ t.otp.fusedRemaps = s.otp.fusedRemaps ∧ (s.otp.debugLocked = true → t.otp.debugLocked = true)) ∧
  (∀ (s t : State), exec .rollbackProgram s = .next t → t.otp.keyHash = s.otp.keyHash ∧ t.otp.debugLocked = s.otp.debugLocked ∧
      t.otp.fusedRemaps = s.otp.fusedRemaps ∧ s.otp.rollback ≤ t.otp.rollback)

/-- Memory reads back what was written, zero filling writes zeros, and the canonical form is kept. For each memory of the device (Kennel, DRAM, the CM of a core): a byte read after a write is the byte written inside the written range and the old byte outside it; a byte read after a zero fill is 0 inside the range and the old byte outside it. Writes and zero fills keep every memory in its canonical form, so that equal memories are equal data (a convention of the model, INVENTORY.md Memory and ordering). (10 R393, 10 R417, 10 R422, INVENTORY.md Memory and ordering) -/
def Obligations.MemoryReadsBack : Prop :=
  (∀ (m : List Host.Cell) (a x : Nat) (bs : Bytes), memGet (memWrite m a bs) x = (if a ≤ x ∧ x < a + bs.length then nth 0 bs (x - a) else
      memGet m x)) ∧
  (∀ (m : List Host.Cell) (a n x : Nat), memGet (memZero m a n) x = (if a ≤ x ∧ x < a + n then 0 else memGet m x)) ∧
  (∀ (m : Mem) (a n : Nat) (bs : Bytes) (s : State), memoriesWf s = true → memoriesWf (writeMem m a bs s) = true ∧ memoriesWf (zeroMem m
      a n s) = true)

/-- REQUANT saturates the biased accumulator, multiplies, rounds half up and clamps to its output format. R318, R319. The sum of accumulator and bias saturates to INT32. It is multiplied by mul, half of 2 to the shift is added, and the shift rounds down: the integer n of the result is the one with 2n·2^shift ≤ 2·product + 2^shift < 2(n+1)·2^shift for a shift that is not 0, and the product itself for shift 0. The zero point is added and the result clamped to the format. The count of saturations is 1 for each of the two limits that acted. (08 R314, 08 R318, 08 R319) -/
def Obligations.RequantRounds : Prop :=
  ∀ (out rec : Nat) (zp a t y : Int), out ≤ 2 → t = max (-2147483648) (min (a + signed 32 (bits rec 0 32)) 2147483647) → ((bits rec 48 6
      = 0 ∧ y = t * (bits rec 32 15 : Int)) ∨ (bits rec 48 6 ≠ 0 ∧ 2 * y * 2 ^ bits rec 48 6 ≤ 2 * (t * (bits rec 32 15 : Int)) + 2 ^
      bits rec 48 6 ∧ 2 * (t * (bits rec 32 15 : Int)) + 2 ^ bits rec 48 6 < 2 * (y + 1) * 2 ^ bits rec 48 6)) → (requant out rec zp a).1
      = max (nth 0 [-128, 0, -32768] out) (min (y + zp) (nth 0 [127, 255, 32767] out)) ∧
    (requant out rec zp a).2 = (if t = a + signed 32 (bits rec 0 32) then 0 else 1) + (if (requant out rec zp a).1 = y + zp then 0 else
      1)

/-- Reset leaves rings, event ring, streams, windows, memories and the queue as the register map and rules say. After reset (a device without power): no ring is enabled, its base, size and four indices are 0 and COAL_COUNT is 1 (R710); the event ring is off with no event lost; MSI-X is off, its function mask clear and all vectors masked (R712); every stream is FREE (R183), no window is open, no error or performance counter has counted; the memories are in canonical form and no command waits (the model's queue). (18 R710, 18 R711, 18 R712, 05 R183, 15 R620) -/
def Obligations.ResetLeaves : Prop :=
  (∀ (n : Nat), (State.reset.ring n).enable = false ∧ (State.reset.ring n).sqBase = 0 ∧ (State.reset.ring n).cqBase = 0 ∧
      (State.reset.ring n).sqLog2 = 0 ∧ (State.reset.ring n).cqLog2 = 0 ∧ (State.reset.ring n).sqTail = 0 ∧ (State.reset.ring n).sqHead =
      0 ∧ (State.reset.ring n).cqTail = 0 ∧ (State.reset.ring n).cqHead = 0 ∧ (State.reset.ring n).coalCount = 1 ∧ (State.reset.ring
      n).coalUsec = 0) ∧
  (∀ (n : Nat), (State.reset.stream n).state = .free ∧ (State.reset.stream n).outputs = [] ∧ (State.reset.window n).kind = 0 ∧ Tab.get 0
      State.reset.cnt.errors n = 0 ∧ Tab.get 0 State.reset.cnt.perf n = 0 ∧ Tab.get true State.reset.pcie.vecMask n = true) ∧
  (State.reset.evq.enable = false ∧ State.reset.evq.lost = 0 ∧ State.reset.evq.backlog = [] ∧ State.reset.pcie.msixEnable = false ∧
      State.reset.pcie.msixMask = false ∧ memoriesWf State.reset = true ∧ State.reset.pending = [])

/-- The rollback count never exceeds the 32 bits of its thermometer code. R636, R114: ROLLBACK of OTP has 32 bits and counts 0 to 32 steps. From every state in which at most 32 steps are used, every step, by any command or by time, leaves at most 32 used; and none is used at reset (the unprogrammed OTP is the model's choice, log 4). (16 R636, 16 R648, 04 R114, log 4) -/
def Obligations.RollbackStaysInRange : Prop :=
  (∀ (s t : State), s.otp.rollback ≤ 32 → step s = .next t → t.otp.rollback ≤ 32) ∧
  (State.reset.otp.rollback = 0)
end

