-- ==== Sys2Proof/Laws/KeptOps.lean ====
section
/-! SUPPORT. What the shared operations, the links, the tasks and the streams leave alone: the queue, the programmed bits of OTP and the fuses. -/
set_option linter.unusedVariables false
namespace Sys2Proof.Machine

@[simp] theorem fixed_mk (a : Option Bytes) (b : Nat) (c : Bool) (x : U16) (d : List (Nat × Nat × Nat × Nat × Nat)) :
    Otp.fixed ⟨a, b, c, x, d⟩ = (a, b, c, d) := rfl
@[simp] theorem fixed_fold (o : Otp) : (o.keyHash, o.rollback, o.debugLocked, o.fusedRemaps) = o.fixed := rfl
@[simp] theorem fuses_mk (x0 x1 x2 x3 x4 x5 x6 x7 x8 x9 x10 x11 x12 x13 x14 x15 x16 x17 x18 x19 x20 x21 x22 x23 x24 x25 x26 x27 x28 x29 x30 x31 x32 x33 x34 x35 x36) : Glb.fuses ⟨x0, x1, x2, x3, x4, x5, x6, x7, x8, x9, x10, x11, x12, x13, x14, x15, x16, x17, x18, x19, x20, x21, x22, x23, x24, x25, x26, x27, x28, x29, x30, x31, x32, x33, x34, x35, x36⟩ = (x0, x5, x6, x7) := rfl
@[simp] theorem fuses_fold (g : Glb) : (g.stepping, g.capCamera, g.capFyx, g.gradeE) = g.fuses := rfl
@[simp] theorem kept_mk (x0 x1 x2 x3 x4 x5 x6 x7 x8 x9 x10 x11 x12 x13 x14 x15 x16 x17 x18 x19 x20 x21 x22 x23 x24 x25 x26 x27 x28 x29 x30 x31 x32) : State.kept ⟨x0, x1, x2, x3, x4, x5, x6, x7, x8, x9, x10, x11, x12, x13, x14, x15, x16, x17, x18, x19, x20, x21, x22, x23, x24, x25, x26, x27, x28, x29, x30, x31, x32⟩ = (x32, Otp.fixed x3, Glb.fuses x2) := rfl
@[simp] theorem kept_fold (s : State) : (s.pending, s.otp.fixed, s.glb.fuses) = s.kept := rfl
@[simp] theorem foldl_kept {α : Type} (f : State → α → State) (h : ∀ s a, (f s a).kept = s.kept) (l : List α) (s : State) :
    (l.foldl f s).kept = s.kept := by
  induction l generalizing s with
  | nil => rfl
  | cons a l ih => simp [ih, h]
@[simp] theorem ite_kept (p : Prop) [Decidable p] (a b : State) : (if p then a else b).kept = if p then a.kept else b.kept := by split <;> rfl
@[simp] theorem send_pending (s : State) (m : Sent) : (s.send m).pending = s.pending := rfl
@[simp] theorem send_otp (s : State) (m : Sent) : (s.send m).otp = s.otp := rfl
@[simp] theorem send_glb (s : State) (m : Sent) : (s.send m).glb = s.glb := rfl
theorem foldl2_kept {α β : Type} (f : β × State → α → β × State) (h : ∀ r a, (f r a).2.kept = r.2.kept) (l : List α) (r : β × State) :
    (l.foldl f r).2.kept = r.2.kept := by
  induction l generalizing r with
  | nil => rfl
  | cons a l ih => simp [ih, h]
theorem foldlW_kept {α β : Type} (f : β × Work → α → β × Work) (h : ∀ r a, (f r a).2.s.kept = r.2.s.kept) (l : List α) (r : β × Work) :
    (l.foldl f r).2.s.kept = r.2.s.kept := by
  induction l generalizing r with
  | nil => rfl
  | cons a l ih => simp [ih, h]

/-! Machine/Ops.lean -/

@[simp] theorem State.setRing_kept (s : State) (n : ℕ) (r : Ring) : (State.setRing s n r).kept = s.kept :=
  by simp [State.setRing]
@[simp] theorem State.setStream_kept (s : State) (c : ℕ) (x : Stream) : (State.setStream s c x).kept = s.kept :=
  by simp [State.setStream]
@[simp] theorem State.setModel_kept (s : State) (h : ℕ) (x : Model) : (State.setModel s h x).kept = s.kept :=
  by simp [State.setModel]
@[simp] theorem State.setJob_kept (s : State) (j : ℕ) (x : Job) : (State.setJob s j x).kept = s.kept :=
  by simp [State.setJob]
@[simp] theorem State.setGroup_kept (s : State) (g : ℕ) (x : Group) : (State.setGroup s g x).kept = s.kept :=
  by simp [State.setGroup]
@[simp] theorem State.setCore_kept (s : State) (c : ℕ) (x : Core) : (State.setCore s c x).kept = s.kept :=
  by simp [State.setCore]
@[simp] theorem State.setPort_kept (s : State) (k : ℕ) (x : Port) : (State.setPort s k x).kept = s.kept :=
  by simp [State.setPort]
@[simp] theorem State.setSource_kept (s : State) (k : ℕ) (x : Source) : (State.setSource s k x).kept = s.kept :=
  by simp [State.setSource]
@[simp] theorem State.setIrled_kept (s : State) (k : ℕ) (x : IrLed) : (State.setIrled s k x).kept = s.kept :=
  by simp [State.setIrled]
@[simp] theorem State.setFsync_kept (s : State) (k : ℕ) (x : Fsync) : (State.setFsync s k x).kept = s.kept :=
  by simp [State.setFsync]
@[simp] theorem State.setSpwr_kept (s : State) (k : ℕ) (x : SensorPwr) : (State.setSpwr s k x).kept = s.kept :=
  by simp [State.setSpwr]
@[simp] theorem State.setSctl_kept (s : State) (k : ℕ) (x : Sctl) : (State.setSctl s k x).kept = s.kept :=
  by simp [State.setSctl]
@[simp] theorem State.setWindow_kept (s : State) (w : ℕ) (x : Window) : (State.setWindow s w x).kept = s.kept :=
  by simp [State.setWindow]
@[simp] theorem State.setChannel_kept (s : State) (k : ℕ) (x : Channel) : (State.setChannel s k x).kept = s.kept :=
  by simp [State.setChannel]
@[simp] theorem State.setEnsemble_kept (s : State) (e : ℕ) (x : Ensemble) : (State.setEnsemble s e x).kept = s.kept :=
  by simp [State.setEnsemble]
@[simp] theorem State.setLink_kept (s : State) (k : ℕ) (x : Link) : (State.setLink s k x).kept = s.kept :=
  by simp [State.setLink]
@[simp] theorem State.setMember_kept (s : State) (p : ℕ) (x : Member) : (State.setMember s p x).kept = s.kept :=
  by simp [State.setMember]
@[simp] theorem State.setCounter_kept (s : State) (i : ℕ) (x : U16 × U16 × U32) : (State.setCounter s i x).kept = s.kept :=
  by simp [State.setCounter]
@[simp] theorem State.send_kept (s : State) (m : Sent) : (State.send s m).kept = s.kept :=
  by simp [State.send]
@[simp] theorem flitOut_kept (port : ℕ) (ftype : ℕ) (seq : ℕ) (payload : Bytes) (nak : Bool) (s : State) : (flitOut port ftype seq payload nak s).kept = s.kept :=
  by simp [flitOut]
@[simp] theorem seqFlit_kept (port : ℕ) (e : ℕ × Bytes) (s : State) : (seqFlit port e s).kept = s.kept :=
  by simp [seqFlit]
@[simp] theorem sendFlits_kept (port : ℕ) (x1 : List (ℕ × Bytes)) (x2 : State) : (sendFlits port x1 x2).kept = x2.kept :=
  by fun_induction sendFlits port x1 x2 <;> simp_all
@[simp] theorem pumpLink_kept (port : ℕ) (s : State) : (pumpLink port s).kept = s.kept :=
  by simp [pumpLink]
@[simp] theorem queuePacket_kept (port : ℕ) (k : Packet) (s : State) : (queuePacket port k s).kept = s.kept :=
  by simp [queuePacket]
@[simp] theorem sendFyx_kept (dst : ℕ) (k : Packet) (s : State) : (sendFyx dst k s).kept = s.kept :=
  by
  simp only [sendFyx]
  (repeat' split) <;> simp
@[simp] theorem signal_kept (v : ℕ) (s : State) : (signal v s).kept = s.kept :=
  by simp [signal]
@[simp] theorem logNew_kept (code : ℕ) (source : ℕ) (frame : ℕ) (detail : Bytes) (s : State) : (logNew code source frame detail s).kept = s.kept :=
  by simp [logNew]
@[simp] theorem logRepeat_kept (i : ℕ) (s : State) : (logRepeat i s).kept = s.kept :=
  by simp [logRepeat]
@[simp] theorem logFault_kept (code : ℕ) (source : ℕ) (frame : ℕ) (detail : Bytes) (s : State) : (logFault code source frame detail s).kept = s.kept :=
  by fun_cases logFault code source frame detail s <;> simp
@[simp] theorem evqWrite_kept (e : Event) (s : State) : (evqWrite e s).kept = s.kept :=
  by simp [evqWrite]
@[simp] theorem evqPlace_kept (e : Event) (s : State) : (evqPlace e s).kept = s.kept :=
  by simp [evqPlace]
@[simp] theorem evqNumber_kept (source : ℕ) (code : ℕ) (payload : Bytes) (s : State) : (evqNumber source code payload s).2.kept = s.kept :=
  by simp [evqNumber]
@[simp] theorem evqClearLost_kept (source : ℕ) (placed : Bool) (s : State) : (evqClearLost source placed s).kept = s.kept :=
  by simp [evqClearLost]
@[simp] theorem emitRaw_kept (source : ℕ) (code : ℕ) (payload : Bytes) (s : State) : (emitRaw source code payload s).kept = s.kept :=
  by simp [emitRaw]
@[simp] theorem emitLost_kept (s : State) : (emitLost s).kept = s.kept :=
  by simp [emitLost]
@[simp] theorem eventMarks_kept (code : ℕ) (s : State) : (eventMarks code s).kept = s.kept :=
  by simp [eventMarks]
@[simp] theorem forward_kept (source : ℕ) (code : ℕ) (payload : Bytes) (s : State) : (forward source code payload s).kept = s.kept :=
  by simp [forward]
@[simp] theorem publishEvent_kept (source : ℕ) (code : ℕ) (payload : Bytes) (s : State) : (publishEvent source code payload s).kept = s.kept :=
  by simp [publishEvent]
@[simp] theorem emit_kept (source : ℕ) (code : ℕ) (payload : Bytes) (s : State) : (emit source code payload s).kept = s.kept :=
  by simp [emit]
@[simp] theorem drainList_kept (x0 : List Event) (x1 : State) : (drainList x0 x1).kept = x1.kept :=
  by fun_induction drainList x0 x1 <;> simp_all
@[simp] theorem drain_kept (s : State) : (drain s).kept = s.kept :=
  by simp [drain]
@[simp] theorem errAdd_kept (off : ℕ) (n : ℕ) (s : State) : (errAdd off n s).kept = s.kept :=
  by simp [errAdd]
@[simp] theorem perfAdd_kept (off : ℕ) (n : ℕ) (s : State) : (perfAdd off n s).kept = s.kept :=
  by simp [perfAdd]
@[simp] theorem foldBytes_kept (s : State) : (foldBytes s).kept = s.kept :=
  by simp [foldBytes]
@[simp] theorem received_kept (n : ℕ) (s : State) : (received n s).kept = s.kept :=
  by simp [received]
@[simp] theorem scAdd_kept (sc : ℕ) (c : SCtr) (n : ℕ) (s : State) : (scAdd sc c n s).kept = s.kept :=
  by simp [scAdd]
@[simp] theorem writeRecord_kept (n : ℕ) (rec : Record) (s : State) : (writeRecord n rec s).kept = s.kept :=
  by simp [writeRecord]
@[simp] theorem State.setInFlight_kept (s : State) (ring : ℕ) (l : List InFlight) : (State.setInFlight s ring l).kept = s.kept :=
  by simp [State.setInFlight]
@[simp] theorem noteRing_kept (n : ℕ) (s : State) : (noteRing n s).kept = s.kept :=
  by simp [noteRing]
@[simp] theorem haltSettle_kept (n : ℕ) (s : State) : (haltSettle n s).kept = s.kept :=
  by simp [haltSettle]
@[simp] theorem remember_kept (h : Hdr) (rec : Record) (s : State) : (remember h rec s).kept = s.kept :=
  by simp [remember]
@[simp] theorem deliver_kept (h : Hdr) (rec : Record) (recorded : Bool) (s : State) : (deliver h rec recorded s).kept = s.kept :=
  by simp [deliver]
@[simp] theorem complete_kept (h : Hdr) (op : ℕ) (st : Status) (result : Bytes) (s : State) : (complete h op st result s).kept = s.kept :=
  by simp [complete]
@[simp] theorem answer_kept (h : Hdr) (op : ℕ) (st : Status) (s : State) : (answer h op st s).kept = s.kept :=
  by simp [answer]
@[simp] theorem committed_kept (ring : ℕ) (tag : U16) (op : ℕ) (st : Status) (frame : ℕ) (bus : ℕ) (nak : ℕ) (s : State) : (committed ring tag op st frame bus nak s).kept = s.kept :=
  by simp [committed]
@[simp] theorem prepAck_kept (tag : U16) (st : Status) (final : Bool) (s : State) : (prepAck tag st final s).kept = s.kept :=
  by simp [prepAck]
@[simp] theorem onOp_kept (id : ℕ) (f : PackOp → PackOp) (s : State) : (onOp id f s).kept = s.kept :=
  by simp [onOp]
@[simp] theorem stagedOutcome_kept (ring : ℕ) (tag : U16) (op : ℕ) (st : Status) (frame : ℕ) (result : Bytes) (s : State) : (stagedOutcome ring tag op st frame result s).kept = s.kept :=
  by fun_cases stagedOutcome ring tag op st frame result s <;> simp
@[simp] theorem ringFault_kept (n : ℕ) (error : ℕ) (value : ℕ) (s : State) : (ringFault n error value s).kept = s.kept :=
  by simp [ringFault]
@[simp] theorem evqFault_kept (value : ℕ) (s : State) : (evqFault value s).kept = s.kept :=
  by simp [evqFault]
@[simp] theorem portFault_kept (source : ℕ) (cause : ℕ) (portBit : ℕ) (lanes : ℕ) (detail : ℕ) (active : Bool) (s : State) : (portFault source cause portBit lanes detail active s).kept = s.kept :=
  by simp [portFault]
@[simp] theorem portRecovered_kept (source : ℕ) (portBit : ℕ) (s : State) : (portRecovered source portBit s).kept = s.kept :=
  by
  simp only [portRecovered]
  (repeat' split) <;> simp
@[simp] theorem State.onMem_kept (s : State) (m : Mem) (f : List Host.Cell → List Host.Cell) : (State.onMem s m f).kept = s.kept :=
  by fun_cases State.onMem s m f <;> simp
@[simp] theorem writeMem_kept (m : Mem) (a : ℕ) (bs : Bytes) (s : State) : (writeMem m a bs s).kept = s.kept :=
  by simp [writeMem]
@[simp] theorem zeroMem_kept (m : Mem) (a : ℕ) (n : ℕ) (s : State) : (zeroMem m a n s).kept = s.kept :=
  by simp [zeroMem]
@[simp] theorem startRead_kept (p : ReadFor) (addr : ℕ) (len : ℕ) (s : State) : (startRead p addr len s).kept = s.kept :=
  by simp [startRead]

/-! Machine/Command.lean -/

@[simp] theorem markStarted_kept (h : Hdr) (s : State) : (markStarted h s).kept = s.kept :=
  by simp [markStarted]
@[simp] theorem prepareAll_kept (op : ℕ) (h : Hdr) (p : Bytes) (s : State) : (prepareAll op h p s).kept = s.kept :=
  by simp [prepareAll]
theorem command_kept (op : ℕ) (h : Hdr) (p : Bytes) (len : List (Bool × Status)) (form : List (Bool × Status)) (state : List (Bool × Status)) (act : State → State) (s : State) (hact : ∀ y0, (act y0).kept = y0.kept) (t : State) (ht : command op h p len form state act s = .next t) : t.kept = s.kept :=
  by
  simp only [command, Host.Outcome.next.injEq] at ht; subst ht
  (repeat' split) <;> simp [hact]
@[simp] theorem stage_kept (h : Hdr) (op : ℕ) (target : ℕ) (ready : Bool) (change : Change) (s : State) : (stage h op target ready change s).kept = s.kept :=
  by simp [stage]
@[simp] theorem deliverData_kept (h : Hdr) (dest : ℕ) (data : Bytes) (s : State) : (deliverData h dest data s).kept = s.kept :=
  by simp [deliverData]

/-! Machine/Cert.lean -/

@[simp] theorem settledState_kept (s : State) : (settledState s).kept = s.kept :=
  by simp [settledState]
@[simp] theorem refreshCerts_kept (s : State) : (refreshCerts s).kept = s.kept :=
  by
  unfold refreshCerts
  repeat' first
    | (simp; done)
    | split
    | (refine (foldl_kept _ (fun _ _ => ?_) _ _).trans ?_; try dsimp only)
    | simp
@[simp] theorem relaxFloors_kept (s : State) : (relaxFloors s).kept = s.kept :=
  by
  unfold relaxFloors
  repeat' first
    | (simp; done)
    | split
    | (refine (foldl_kept _ (fun _ _ => ?_) _ _).trans ?_; try dsimp only)
    | simp
@[simp] theorem sharesShrink_kept (s : State) : (sharesShrink s).kept = s.kept :=
  by simp [sharesShrink]
@[simp] theorem revokeCerts_kept (cause : ℕ) (which : ℕ → Bool) (s : State) : (revokeCerts cause which s).kept = s.kept :=
  by simp [revokeCerts]
@[simp] theorem recertify_kept (s : State) : (recertify s).kept = s.kept :=
  by
  unfold recertify
  repeat' first
    | (simp; done)
    | split
    | (refine (foldl_kept _ (fun _ _ => ?_) _ _).trans ?_; try dsimp only)
    | simp
@[simp] theorem setOp_kept (c : ℕ) (op : ℕ) (s : State) : (setOp c op s).kept = s.kept :=
  by simp [setOp]
@[simp] theorem settleOps_kept (s : State) : (settleOps s).kept = s.kept :=
  by simp [settleOps]

/-! Machine/Tasks.lean -/

@[simp] theorem sendPkt_kept (dst : ℕ) (kind : ℕ) (index : ℕ) (arg : U32) (data : Bytes) (s : State) : (sendPkt dst kind index arg data s).kept = s.kept :=
  by simp [sendPkt]
@[simp] theorem becomeSingle_kept (s : State) : (becomeSingle s).kept = s.kept :=
  by simp [becomeSingle]
@[simp] theorem zeroFill_kept (m : Mem) (a : ℕ) (n : ℕ) (s : State) : (zeroFill m a n s).kept = s.kept :=
  by simp [zeroFill]
@[simp] theorem putData_kept (m : Mem) (a : ℕ) (bs : Bytes) (held : Bool) (s : State) : (putData m a bs held s).kept = s.kept :=
  by simp [putData]
@[simp] theorem setDomain_kept (d : ℕ) (on : Bool) (s : State) : (setDomain d on s).kept = s.kept :=
  by simp [setDomain]
@[simp] theorem freeOwner_kept (o : ℕ) (s : State) : (freeOwner o s).kept = s.kept :=
  by simp [freeOwner]
@[simp] theorem endOrphan_kept (cause : ℕ) (id : U32) (s : State) : (endOrphan cause id s).kept = s.kept :=
  by simp [endOrphan]
@[simp] theorem endOrphans_kept (cause : ℕ) (p : Orphan → Bool) (s : State) : (endOrphans cause p s).kept = s.kept :=
  by simp [endOrphans]
@[simp] theorem coreOn_kept (c : ℕ) (s : State) : (coreOn c s).kept = s.kept :=
  by simp [coreOn]
@[simp] theorem coreOff_kept (c : ℕ) (s : State) : (coreOff c s).kept = s.kept :=
  by simp [coreOff]
@[simp] theorem kennelOn_kept (d : ℕ) (s : State) : (kennelOn d s).kept = s.kept :=
  by simp [kennelOn]
@[simp] theorem kennelOff_kept (d : ℕ) (s : State) : (kennelOff d s).kept = s.kept :=
  by simp [kennelOff]
@[simp] theorem takeKennel_kept (o : ℕ) (first : ℕ) (n : ℕ) (s : State) : (takeKennel o first n s).kept = s.kept :=
  by simp [takeKennel]
@[simp] theorem takeCm_kept (o : ℕ) (c : ℕ) (first : ℕ) (n : ℕ) (s : State) : (takeCm o c first n s).kept = s.kept :=
  by simp [takeCm]
@[simp] theorem takeDram_kept (o : ℕ) (first : ℕ) (n : ℕ) (s : State) : (takeDram o first n s).kept = s.kept :=
  by simp [takeDram]
@[simp] theorem freeDram_kept (o : ℕ) (s : State) : (freeDram o s).kept = s.kept :=
  by simp [freeDram]
theorem allocTask_kept (o : ℕ) (cores : List ℕ) (p : Plan) (s : State) (d : List Region) (t : State) (ht : allocTask o cores p s = .ok (d, t)) : t.kept = s.kept :=
  by
  unfold allocTask at ht
  (repeat' split at ht) <;> first
    | (simp at ht; done)
    | (simp only [Except.ok.injEq, Prod.mk.injEq] at ht; obtain ⟨-, rfl⟩ := ht; (try split) <;> simp)
@[simp] theorem freeCounters_kept (x : Option (ℕ × ℕ)) (s : State) : (freeCounters x s).kept = s.kept :=
  by fun_cases freeCounters x s <;> simp
@[simp] theorem allocCounters_kept (n : ℕ) (s : State) : (allocCounters n s).2.kept = s.kept :=
  by fun_cases allocCounters n s <;> simp
@[simp] theorem closeWindow_kept (cause : ℕ) (i : ℕ) (s : State) : (closeWindow cause i s).kept = s.kept :=
  by simp [closeWindow]
@[simp] theorem closeWindows_kept (cause : ℕ) (p : Window → Bool) (s : State) : (closeWindows cause p s).kept = s.kept :=
  by simp [closeWindows]
@[simp] theorem releaseCore_kept (c : ℕ) (s : State) : (releaseCore c s).kept = s.kept :=
  by simp [releaseCore]
@[simp] theorem makeOrphan_kept (o : ℕ) (l : List Region) (s : State) : (makeOrphan o l s).2.kept = s.kept :=
  by fun_cases makeOrphan o l s <;> simp
@[simp] theorem abortStaged_kept (sc : ℕ) (s : State) : (abortStaged sc s).kept = s.kept :=
  by simp [abortStaged]
@[simp] theorem groupFinish_kept (g : ℕ) (s : State) : (groupFinish g s).kept = s.kept :=
  by
  unfold groupFinish
  repeat' first
    | (simp; done)
    | split
    | (refine (foldl_kept _ (fun _ _ => ?_) _ _).trans ?_; try dsimp only)
    | simp
@[simp] theorem leaveGroupFrames_kept (sc : ℕ) (s : State) : (leaveGroupFrames sc s).kept = s.kept :=
  by fun_cases leaveGroupFrames sc s <;> simp
@[simp] theorem commitRoute_kept (src : ℕ) (target : Option ℕ) (s : State) : (commitRoute src target s).kept = s.kept :=
  by
  simp only [commitRoute]
  (repeat' split) <;> simp
@[simp] theorem routeOutcome_kept (src : ℕ) (frame : ℕ) (s : State) : (routeOutcome src frame s).kept = s.kept :=
  by
  simp only [routeOutcome]
  (repeat' split) <;> simp
@[simp] theorem settleRoutes_kept (sc : ℕ) (s : State) : (settleRoutes sc s).kept = s.kept :=
  by fun_cases settleRoutes sc s <;> simp
@[simp] theorem noteOfmIdle_kept (s : State) : (noteOfmIdle s).kept = s.kept :=
  by simp [noteOfmIdle]
@[simp] theorem endStream_kept (killed : Bool) (side : SideChange) (sc : Nat) (s : State) (fin : State → State) (hside : ∀ a x, (side a x).kept = x.kept)
    (hfin : ∀ x, (fin x).kept = x.kept) : (endStream killed side sc s fin).kept = s.kept := by
  cases killed <;> simp [endStream, hside, hfin]
@[simp] theorem faultStream_kept (cause : ℕ) (core : ℕ) (trap : ℕ) (sc : ℕ) (s : State) : (faultStream cause core trap sc s).kept = s.kept :=
  by simp [faultStream]
@[simp] theorem endJob_kept (killed : Bool) (status : Nat) (j : Nat) (s : State) (fin : State → State) (hfin : ∀ x, (fin x).kept = x.kept) :
    (endJob killed status j s fin).kept = s.kept := by
  simp only [endJob]
  (repeat' split) <;> simp [hfin]
@[simp] theorem coreFault_kept (c : ℕ) (cause : ℕ) (trap : ℕ) (s : State) : (coreFault c cause trap s).kept = s.kept :=
  by fun_cases coreFault c cause trap s <;> simp

/-! Machine/Streams.lean -/

@[simp] theorem freeBytes_kept (n : ℕ) (s : State) : (freeBytes n s).2.kept = s.kept :=
  by simp [freeBytes]
@[simp] theorem freeNat_kept (bound : ℕ) (s : State) : (freeNat bound s).2.kept = s.kept :=
  by simp [freeNat]
@[simp] theorem writeRow_kept (c : StreamCfg) (b : Buf) (d : Desc) (plane : ℕ) (r : ℕ) (row : Bytes) (s : State) : (writeRow c b d plane r row s).kept = s.kept :=
  by simp [writeRow]
@[simp] theorem picRow_kept (f : Pic) (d : Desc) (plane : ℕ) (r : ℕ) (s : State) : (picRow f d plane r s).2.kept = s.kept :=
  by
  simp only [picRow]
  (repeat' split) <;> simp
@[simp] theorem writePlane_kept (c : StreamCfg) (b : Buf) (d : Desc) (f : Pic) (plane : ℕ) (s : State) : (writePlane c b d f plane s).kept = s.kept :=
  by
  unfold writePlane
  repeat' first
    | (simp; done)
    | split
    | (refine (foldl_kept _ (fun _ _ => ?_) _ _).trans ?_; try dsimp only)
    | simp
@[simp] theorem writePicture_kept (c : StreamCfg) (b : Buf) (d : Desc) (f : Pic) (s : State) : (writePicture c b d f s).kept = s.kept :=
  by simp [writePicture]
@[simp] theorem strike_kept (sc : ℕ) (cause : ℕ) (s : State) : (strike sc cause s).kept = s.kept :=
  by simp [strike]
@[simp] theorem delayBy_kept (sc : ℕ) (cause : ℕ) (s : State) : (delayBy sc cause s).kept = s.kept :=
  by simp [delayBy]
@[simp] theorem toMembers_kept (kind : ℕ) (index : ℕ) (arg : U32) (data : Bytes) (s : State) : (toMembers kind index arg data s).kept = s.kept :=
  by simp [toMembers]
@[simp] theorem frameDone_kept (sc : ℕ) (o : Output) (s : State) : (frameDone sc o s).kept = s.kept :=
  by simp [frameDone]
@[simp] theorem leave_kept (sc : ℕ) (o : Output) (s : State) : (leave sc o s).kept = s.kept :=
  by simp [leave]
@[simp] theorem flushDesc_kept (sc : ℕ) (d : ℕ) (x2 : ℕ) (x3 : State) : (flushDesc sc d x2 x3).kept = x3.kept :=
  by fun_induction flushDesc sc d x2 x3 <;> simp_all
@[simp] theorem flush_kept (sc : ℕ) (s : State) : (flush sc s).kept = s.kept :=
  by simp [flush]
@[simp] theorem applySide_kept (c : Change) (s : State) : (applySide c s).kept = s.kept :=
  by fun_cases applySide c s <;> simp
@[simp] theorem drainDone_kept (sc : ℕ) (s : State) : (drainDone sc s).kept = s.kept :=
  by simp [drainDone]
@[simp] theorem afterOutputs_kept (sc : ℕ) (s : State) : (afterOutputs sc s).kept = s.kept :=
  by
  simp only [afterOutputs]
  (repeat' split) <;> simp
@[simp] theorem starve_kept (sc : ℕ) (f : U32) (ph : ℕ) (d : ℕ) (s : State) : (starve sc f ph d s).kept = s.kept :=
  by simp [starve]
@[simp] theorem bindOutput_kept (sc : ℕ) (f : U32) (ph : ℕ) (d : ℕ) (s : State) : (bindOutput sc f ph d s).kept = s.kept :=
  by
  simp only [bindOutput]
  (repeat' split) <;> simp
@[simp] theorem putRow_kept (sc : ℕ) (o : Output) (plane : ℕ) (r : ℕ) (row : Bytes) (s : State) : (putRow sc o plane r row s).kept = s.kept :=
  by
  simp only [putRow]
  (repeat' split) <;> simp
@[simp] theorem writeRowOf_kept (sc : ℕ) (o : Output) (pic : Plan → Pix) (y : ℕ) (s : State) : (writeRowOf sc o pic y s).kept = s.kept :=
  by
  simp only [writeRowOf]
  (repeat' split) <;> simp
@[simp] theorem writeOutputRow_kept (sc : ℕ) (o : Output) (y : ℕ) (s : State) : (writeOutputRow sc o y s).kept = s.kept :=
  by
  simp only [writeOutputRow]
  (repeat' split) <;> simp
@[simp] theorem fillPart_kept (sc : ℕ) (f : U32) (ph : ℕ) (d : ℕ) (s : State) (pos : ℕ) : (fillPart sc f ph d s pos).kept = s.kept :=
  by
  simp only [fillPart]
  (repeat' split) <;> simp
@[simp] theorem outputPart_kept (sc : ℕ) (f : U32) (ph : ℕ) (d : ℕ) (pos : ℕ) (s : State) : (outputPart sc f ph d pos s).kept = s.kept :=
  by simp [outputPart]
@[simp] theorem finishOutput_kept (sc : ℕ) (f : U32) (ph : ℕ) (d : ℕ) (s : State) : (finishOutput sc f ph d s).kept = s.kept :=
  by
  simp only [finishOutput]
  (repeat' split) <;> simp
@[simp] theorem substitute_kept (sc : ℕ) (f : U32) (ph : ℕ) (d : ℕ) (fill : Option Pic) (flags : List FFlag) (s : State) : (substitute sc f ph d fill flags s).kept = s.kept :=
  by
  simp only [substitute]
  (repeat' split) <;> simp
@[simp] theorem completeNow_kept (sc : ℕ) (f : U32) (ph : ℕ) (d : ℕ) (s : State) : (completeNow sc f ph d s).kept = s.kept :=
  by
  simp only [completeNow]
  (repeat' split) <;> simp
@[simp] theorem frameDropped_kept (sc : ℕ) (frame : U32) (reason : ℕ) (numbered : Bool) (sensorFrame : ℕ) (s : State) : (frameDropped sc frame reason numbered sensorFrame s).kept = s.kept :=
  by simp [frameDropped]
@[simp] theorem dropFrame_kept (sc : ℕ) (f : U32) (s : State) : (dropFrame sc f s).kept = s.kept :=
  by simp [dropFrame]
@[simp] theorem releasePart_kept (sc : ℕ) (f : U32) (pos : ℕ) (s : State) : (releasePart sc f pos s).kept = s.kept :=
  by
  simp only [releasePart]
  (repeat' split) <;> simp
@[simp] theorem inputDone_kept (sc : ℕ) (f : U32) (s : State) : (inputDone sc f s).kept = s.kept :=
  by
  simp only [inputDone]
  (repeat' split) <;> simp
@[simp] theorem substituteFrame_kept (sc : ℕ) (f : U32) (wide : ℕ) (policy : ℕ) (s : State) : (substituteFrame sc f wide policy s).kept = s.kept :=
  by
  simp only [substituteFrame]
  (repeat' split) <;> simp
@[simp] theorem underrun_kept (g : ℕ) (sc : ℕ) (gf : U32) (s : State) : (underrun g sc gf s).kept = s.kept :=
  by simp [underrun]
@[simp] theorem setGroupMembers_kept (g : ℕ) (members : ℕ) (policy : ℕ) (s : State) : (setGroupMembers g members policy s).kept = s.kept :=
  by simp [setGroupMembers]
@[simp] theorem commitGroup_kept (g : ℕ) (sc : ℕ) (frame : U32) (s : State) : (commitGroup g sc frame s).kept = s.kept :=
  by
  unfold commitGroup
  repeat' first
    | (simp; done)
    | split
    | (refine (foldl_kept _ (fun _ _ => ?_) _ _).trans ?_; try dsimp only)
    | simp
@[simp] theorem countGroup_kept (sc : ℕ) (s : State) : (countGroup sc s).kept = s.kept :=
  by simp [countGroup]
@[simp] theorem groupBoundary_kept (sc : ℕ) (frame : U32) (s : State) : (groupBoundary sc frame s).kept = s.kept :=
  by
  simp only [groupBoundary]
  (repeat' split) <;> simp
@[simp] theorem applyVote_kept (sc : ℕ) (frame : U32) (s : State) (v : VoteResult) : (applyVote sc frame s v).kept = s.kept :=
  by simp [applyVote]
@[simp] theorem applyVotes_kept (sc : ℕ) (frame : U32) (s : State) : (applyVotes sc frame s).kept = s.kept :=
  by
  simp only [applyVotes]
  (repeat' split) <;> simp
@[simp] theorem discardVotes_kept (sc : ℕ) (s : State) : (discardVotes sc s).kept = s.kept :=
  by simp [discardVotes]
@[simp] theorem renameOwner_kept (a : ℕ) (b : ℕ) (s : State) : (renameOwner a b s).kept = s.kept :=
  by simp [renameOwner]
@[simp] theorem writeParams_kept (c : ℕ) (s : State) : (writeParams c s).kept = s.kept :=
  by simp [writeParams]
@[simp] theorem boundCore_kept (kind : ℕ) (num : ℕ) (handle : ℕ) (regs : List Region) (ctr : Option (ℕ × ℕ)) (p : Plan) (c : ℕ) (s : State) : (boundCore kind num handle regs ctr p c s).kept = s.kept :=
  by simp [boundCore]
@[simp] theorem installTask_kept (sc : ℕ) (p : Plan) (cores : List ℕ) (regs : List Region) (s : State) : (installTask sc p cores regs s).kept = s.kept :=
  by simp [installTask]
@[simp] theorem swapTask_kept (sc : ℕ) (s : State) : (swapTask sc s).kept = s.kept :=
  by
  simp only [swapTask]
  (repeat' split) <;> simp
@[simp] theorem commitConfig_kept (sc : ℕ) (cfg : StreamCfg) (s : State) : (commitConfig sc cfg s).kept = s.kept :=
  by simp [commitConfig]
@[simp] theorem commitChange_kept (sc : ℕ) (s : State) (c : Change) : (commitChange sc s c).kept = s.kept :=
  by
  simp only [commitChange]
  (repeat' split) <;> simp
@[simp] theorem recertCommitted_kept (sc : ℕ) (frame : U32) (s : State) : (recertCommitted sc frame s).kept = s.kept :=
  by fun_cases recertCommitted sc frame s <;> simp
@[simp] theorem markReady_kept (s : State) : (markReady s).kept = s.kept :=
  by simp [markReady]
@[simp] theorem commitStaged_kept (sc : ℕ) (frame : U32) (x2 : List Staged) (x3 : Commits) (x4 : State) : (commitStaged sc frame x2 x3 x4).2.kept = x4.kept :=
  by
  induction x2 generalizing x3 x4 with
  | nil => rfl
  | cons e es ih => unfold commitStaged; split <;> simp [ih]
@[simp] theorem countStaged_kept (sc : ℕ) (s : State) : (countStaged sc s).kept = s.kept :=
  by
  unfold countStaged
  repeat' first
    | (simp; done)
    | split
    | (refine (foldl_kept _ (fun _ _ => ?_) _ _).trans ?_; try dsimp only)
    | simp
@[simp] theorem profileChanged_kept (sc : ℕ) (old : ℕ) (cause : ℕ) (frame : U32) (s : State) : (profileChanged sc old cause frame s).kept = s.kept :=
  by simp [profileChanged]
@[simp] theorem takeFloor_kept (sc : ℕ) (frame : U32) (s : State) : (takeFloor sc frame s).kept = s.kept :=
  by
  simp only [takeFloor]
  (repeat' split) <;> simp
@[simp] theorem commitAll_kept (sc : ℕ) (frame : U32) (s : State) : (commitAll sc frame s).kept = s.kept :=
  by simp [commitAll]
@[simp] theorem commitIdle_kept (sc : ℕ) (s : State) : (commitIdle sc s).kept = s.kept :=
  by simp [commitIdle]
@[simp] theorem startCore_kept (first : ℕ) (base : ℕ) (c : ℕ) (s : State) : (startCore first base c s).kept = s.kept :=
  by simp [startCore]
@[simp] theorem cadenceStep_kept (sc : ℕ) (s : State) : (cadenceStep sc s).kept = s.kept :=
  by fun_cases cadenceStep sc s <;> simp
@[simp] theorem clearHeld_kept (sc : ℕ) (n : U32) (ph : ℕ) (b : ℕ) (s : State) : (clearHeld sc n ph b s).kept = s.kept :=
  by fun_cases clearHeld sc n ph b s <;> simp
@[simp] theorem fallbackRows_kept (sc : ℕ) (n : U32) (ph : ℕ) (b : ℕ) (s : State) : (fallbackRows sc n ph b s).kept = s.kept :=
  by
  simp only [fallbackRows]
  (repeat' split) <;> simp
@[simp] theorem discardTiles_kept (sc : ℕ) (n : U32) (ph : ℕ) (s : State) : (discardTiles sc n ph s).kept = s.kept :=
  by simp [discardTiles]
@[simp] theorem fallBand_kept (sc : ℕ) (n : U32) (ph : ℕ) (b : ℕ) (s : State) : (fallBand sc n ph b s).kept = s.kept :=
  by simp [fallBand]
@[simp] theorem releaseInputs_kept (sc : ℕ) (s : State) : (releaseInputs sc s).kept = s.kept :=
  by simp [releaseInputs]
@[simp] theorem abandonWork_kept (sc : ℕ) (s : State) : (abandonWork sc s).kept = s.kept :=
  by
  simp only [abandonWork]
  (repeat' split) <;> simp
@[simp] theorem acceptFrame_kept (sc : ℕ) (buf : Option Buf) (picture : Option ℕ) (esid : U16) (flags : U16) (sensorFrame : ℕ) (s : State) : (acceptFrame sc buf picture esid flags sensorFrame s).kept = s.kept :=
  by
  unfold acceptFrame; dsimp only
  split
  · (repeat' split) <;> simp
  · (repeat' split) <;> first | (simp; done) | (refine (foldl_kept _ (fun _ _ => ?_) _ _).trans ?_ <;> simp)
@[simp] theorem rejectShape_kept (sc : ℕ) (w : ℕ) (h : ℕ) (s : State) : (rejectShape sc w h s).kept = s.kept :=
  by simp [rejectShape]

end Sys2Proof.Machine
end

