-- ==== Sys2Proof/Laws/KeptCommands.lean ====
section
/-! SUPPORT. What the host commands, the transport, the memories and the executor leave alone: the queue, the programmed bits of OTP and the fuses. -/
set_option linter.unusedVariables false
namespace Sys2Proof.Machine

/-! Machine/StreamCmd.lean -/

@[simp] theorem enqueueResidency_kept (o : ResidencyOp) (s : State) : (enqueueResidency o s).kept = s.kept :=
  by simp [enqueueResidency]
@[simp] theorem enqueueMissing_kept (h : Hdr) (sc : ℕ) (c : Change) (s : State) : (enqueueMissing h sc c s).kept = s.kept :=
  by fun_cases enqueueMissing h sc c s <;> simp
@[simp] theorem boundaryCommand_kept (op : ℕ) (h : Hdr) (sc : ℕ) (c : Change) (s : State) : (boundaryCommand op h sc c s).kept = s.kept :=
  by simp [boundaryCommand]
@[simp] theorem trialState_kept (s : State) (sc : ℕ) (x : Stream) : (trialState s sc x).kept = s.kept :=
  by simp [trialState]
theorem reserveNext_kept (sc : ℕ) (p : Plan) (cores : List ℕ) (s : State) (t : State) (ht : reserveNext sc p cores s = .ok t) : t.kept = s.kept :=
  by
  unfold reserveNext at ht
  split at ht
  · cases ht
  · rename_i heq
    simp only [Except.ok.injEq] at ht
    subst ht
    simpa using allocTask_kept _ _ _ _ _ _ heq
@[simp] theorem routeTo_kept (sc : ℕ) (src : ℕ) (s : State) : (routeTo sc src s).kept = s.kept :=
  by simp [routeTo]
@[simp] theorem unroute_kept (sc : ℕ) (s : State) : (unroute sc s).kept = s.kept :=
  by simp [unroute]
@[simp] theorem configureNow_kept (sc : ℕ) (c : StreamCfg) (s : State) : (configureNow sc c s).kept = s.kept :=
  by simp [configureNow]
@[simp] theorem configureRunning_kept (h : Hdr) (sc : ℕ) (c : StreamCfg) (s : State) : (configureRunning h sc c s).kept = s.kept :=
  by
  unfold configureRunning; dsimp only
  (repeat' split) <;> first | (simp; done) | (simp; exact reserveNext_kept _ _ _ _ _ (by assumption))
theorem execStreamConfig_kept (h : Hdr) (p : Bytes) (s : State) (t : State) (ht : execStreamConfig h p s = .next t) : t.kept = s.kept :=
  by
  unfold execStreamConfig at ht
  exact command_kept _ _ _ _ _ _ _ _ (fun _ => by simp) _ ht
@[simp] theorem forgetFrames_kept (sc : ℕ) (s : State) : (forgetFrames sc s).kept = s.kept :=
  by simp [forgetFrames]
@[simp] theorem beginStream_kept (h : Hdr) (sc : ℕ) (p : Plan) (cores : List ℕ) (regs : List Region) (e : Eval) (x : Stream) (s : State) : (beginStream h sc p cores regs e x s).kept = s.kept :=
  by
  simp only [beginStream]
  (repeat' split) <;> simp
@[simp] theorem startStream_kept (h : Hdr) (sc : ℕ) (s : State) : (startStream h sc s).kept = s.kept :=
  by
  unfold startStream; dsimp only
  (repeat' split) <;> first | (simp; done) | (simp; exact allocTask_kept _ _ _ _ _ _ (by with_reducible assumption))
theorem execStreamStart_kept (h : Hdr) (p : Bytes) (s : State) (t : State) (ht : execStreamStart h p s = .next t) : t.kept = s.kept :=
  by
  unfold execStreamStart at ht
  exact command_kept _ _ _ _ _ _ _ _ (fun _ => by simp) _ ht
@[simp] theorem beginDrain_kept (sc : ℕ) (s : State) : (beginDrain sc s).kept = s.kept :=
  by simp [beginDrain]
theorem execStreamRelease_kept (h : Hdr) (p : Bytes) (s : State) (t : State) (ht : execStreamRelease h p s = .next t) : t.kept = s.kept :=
  by
  unfold execStreamRelease at ht
  exact command_kept _ _ _ _ _ _ _ _ (fun _ => by simp) _ ht
@[simp] theorem staleDelivery_kept (sc : ℕ) (d : ℕ) (o : Output) (b : Buf) (s : State) : (staleDelivery sc d o b s).kept = s.kept :=
  by simp [staleDelivery]
@[simp] theorem staleBinding_kept (sc : ℕ) (o : Output) (b : Buf) (s : State) : (staleBinding sc o b s).kept = s.kept :=
  by simp [staleBinding]
theorem execBufferPost_kept (h : Hdr) (p : Bytes) (s : State) (t : State) (ht : execBufferPost h p s = .next t) : t.kept = s.kept :=
  by
  unfold execBufferPost at ht
  refine command_kept _ _ _ _ _ _ _ _ (fun _ => ?_) _ ht
  dsimp only
  (repeat' split) <;> simp
theorem execRouteSet_kept (h : Hdr) (p : Bytes) (s : State) (t : State) (ht : execRouteSet h p s = .next t) : t.kept = s.kept :=
  by
  unfold execRouteSet at ht
  exact command_kept _ _ _ _ _ _ _ _ (fun _ => by simp) _ ht
theorem execOutputSet_kept (h : Hdr) (p : Bytes) (s : State) (t : State) (ht : execOutputSet h p s = .next t) : t.kept = s.kept :=
  by
  unfold execOutputSet at ht
  exact command_kept _ _ _ _ _ _ _ _ (fun _ => by simp) _ ht
theorem execGroupSet_kept (h : Hdr) (p : Bytes) (s : State) (t : State) (ht : execGroupSet h p s = .next t) : t.kept = s.kept :=
  by
  unfold execGroupSet at ht
  exact command_kept _ _ _ _ _ _ _ _ (fun _ => by simp) _ ht
theorem execSetProfile_kept (h : Hdr) (p : Bytes) (s : State) (t : State) (ht : execSetProfile h p s = .next t) : t.kept = s.kept :=
  by
  unfold execSetProfile at ht
  exact command_kept _ _ _ _ _ _ _ _ (fun _ => by simp) _ ht
theorem execCertRead_kept (h : Hdr) (p : Bytes) (s : State) (t : State) (ht : execCertRead h p s = .next t) : t.kept = s.kept :=
  by
  unfold execCertRead at ht
  exact command_kept _ _ _ _ _ _ _ _ (fun _ => by simp) _ ht

/-! Machine/Ecc.lean -/

@[simp] theorem remapFails_kept (memory : ℕ) (core : ℕ) (bank : ℕ) (row : ℕ) (lack : ℕ) (s : State) : (remapFails memory core bank row lack s).kept = s.kept :=
  by simp [remapFails]
@[simp] theorem remapRow_kept (memory : ℕ) (core : ℕ) (bank : ℕ) (row : ℕ) (reason : ℕ) (s : State) : (remapRow memory core bank row reason s).kept = s.kept :=
  by
  simp only [remapRow]
  (repeat' split) <;> simp
@[simp] theorem correctable_kept (memory : ℕ) (core : ℕ) (a : ℕ) (s : State) : (correctable memory core a s).kept = s.kept :=
  by simp [correctable]
@[simp] theorem uncorrectable_kept (m : Mem) (a : ℕ) (cls : ℕ) (s : State) : (uncorrectable m a cls s).kept = s.kept :=
  by simp [uncorrectable]
@[simp] theorem poisonStrikes_kept (task : Option (ℕ × ℕ)) (s : State) : (poisonStrikes task s).kept = s.kept :=
  by fun_cases poisonStrikes task s <;> simp
@[simp] theorem taskRead_kept (task : Option (ℕ × ℕ)) (m : Mem) (a : ℕ) (n : ℕ) (s : State) : (taskRead task m a n s).2.kept = s.kept :=
  by simp [taskRead]
@[simp] theorem outsideRead_kept (m : Mem) (a : ℕ) (n : ℕ) (s : State) : (outsideRead m a n s).2.kept = s.kept :=
  by simp [outsideRead]

/-! Machine/Iac.lean -/

@[simp] theorem State.setIacSet_kept (s : State) (i : ℕ) (x : IacSet) : (State.setIacSet s i x).kept = s.kept :=
  by simp [State.setIacSet]
@[simp] theorem State.setDetector_kept (s : State) (r : ℕ) (d : Detector) : (State.setDetector s r d).kept = s.kept :=
  by simp [State.setDetector]
@[simp] theorem packLine_kept (i : ℕ) (w : ℕ) (s : State) : (packLine i w s).kept = s.kept :=
  by fun_cases packLine i w s <;> simp
@[simp] theorem allocate_kept (i : ℕ) (tag : ℕ) (k : ℕ) (s : State) : (allocate i tag k s).2.kept = s.kept :=
  by fun_cases allocate i tag k s <;> simp
@[simp] theorem lookupMiss_kept (r : ℕ) (sector : ℕ) (s : State) : (lookupMiss r sector s).2.kept = s.kept :=
  by
  simp only [lookupMiss]
  (repeat' split) <;> simp
@[simp] theorem lookup_kept (r : ℕ) (sector : ℕ) (s : State) : (lookup r sector s).2.kept = s.kept :=
  by
  simp only [lookup]
  (repeat' split) <;> simp
@[simp] theorem dropFill_kept (f : Fill) (s : State) : (dropFill f s).kept = s.kept :=
  by
  simp only [dropFill]
  (repeat' split) <;> simp
@[simp] theorem landFill_kept (f : Fill) (s : State) : (landFill f s).kept = s.kept :=
  by
  simp only [landFill]
  (repeat' split) <;> simp
@[simp] theorem iacWriteLine_kept (line : ℕ) (ks : List ℕ) (s : State) : (iacWriteLine line ks s).kept = s.kept :=
  by
  simp only [iacWriteLine]
  (repeat' split) <;> simp
@[simp] theorem iacWrite_kept (a : ℕ) (n : ℕ) (s : State) : (iacWrite a n s).kept = s.kept :=
  by simp [iacWrite]
@[simp] theorem iacClear_kept (s : State) : (iacClear s).kept = s.kept :=
  by simp [iacClear]
@[simp] theorem iacDropChannel_kept (ch : ℕ) (s : State) : (iacDropChannel ch s).kept = s.kept :=
  by simp [iacDropChannel]
@[simp] theorem iacError_kept (sector : ℕ) (uncorrectable : Bool) (tagError : Bool) (s : State) : (iacError sector uncorrectable tagError s).kept = s.kept :=
  by
  simp only [iacError]
  (repeat' split) <;> simp
@[simp] theorem putDram_kept (a : ℕ) (bs : Bytes) (s : State) : (putDram a bs s).kept = s.kept :=
  by simp [putDram]
@[simp] theorem zeroDram_kept (a : ℕ) (n : ℕ) (s : State) : (zeroDram a n s).kept = s.kept :=
  by simp [zeroDram]
@[simp] theorem foundErrors_kept (cls : Option ℕ) (l : List ReadError) (s : State) : (foundErrors cls l s).kept = s.kept :=
  by simp [foundErrors]

/-! Machine/ModelCmd.lean -/

@[simp] theorem evict_kept (h : ℕ) (v : ℕ) (s : State) : (evict h v s).kept = s.kept :=
  by simp [evict]
@[simp] theorem evictMask_kept (h : ℕ) (mask : ℕ) (s : State) : (evictMask h mask s).kept = s.kept :=
  by simp [evictMask]
@[simp] theorem abortResides_kept (h : ℕ) (s : State) : (abortResides h s).kept = s.kept :=
  by simp [abortResides]
@[simp] theorem dropModel_kept (h : ℕ) (s : State) : (dropModel h s).kept = s.kept :=
  by simp [dropModel]
theorem placeVariant_kept (h : ℕ) (v : ℕ) (s : State) (t : State) (ht : placeVariant h v s = some t) : t.kept = s.kept :=
  by
  unfold placeVariant at ht
  dsimp only at ht
  (repeat' split at ht) <;> first
    | (cases ht; done)
    | (simp only [Option.some.injEq] at ht; subst ht; (first | rfl | simp))
theorem placeAll_kept (h : ℕ) (x1 : List ℕ) (x2 : State) (t : State) (ht : placeAll h x1 x2 = some t) : t.kept = x2.kept :=
  by
  induction x1 generalizing x2 with
  | nil => simp only [placeAll, Option.some.injEq] at ht; subst ht; rfl
  | cons v l ih =>
    rw [placeAll] at ht
    obtain ⟨u, hu, hv⟩ := Option.bind_eq_some_iff.mp ht
    exact (ih _ hv).trans (placeVariant_kept _ _ _ _ hu)
@[simp] theorem failStaged_kept (ring : ℕ) (tag : U16) (st : Status) (s : State) : (failStaged ring tag st s).kept = s.kept :=
  by
  simp only [failStaged]
  (repeat' split) <;> simp
@[simp] theorem residencyEnded_kept (o : ResidencyOp) (s : State) : (residencyEnded o s).kept = s.kept :=
  by fun_cases residencyEnded o s <;> simp
theorem execResidencyOperationStart_kept (s : State) (t : State) (ht : execResidencyOperationStart s = .next t) : t.kept = s.kept :=
  by
  simp only [execResidencyOperationStart, Host.Outcome.next.injEq] at ht
  subst ht
  (repeat' split) <;> first
    | (simp; done)
    | (rename_i h; split at h <;> first
        | (exact (placeAll_kept _ _ _ _ h).trans rfl)
        | (cases h; done))
@[simp] theorem fillExtent_kept (h : ℕ) (v : ℕ) (s : State) : (fillExtent h v s).kept = s.kept :=
  by simp [fillExtent]
@[simp] theorem weightsLost_kept (h : ℕ) (mask : ℕ) (s : State) : (weightsLost h mask s).kept = s.kept :=
  by simp [weightsLost]
theorem execResidencyOperationDone_kept (ok : Bool) (s : State) (t : State) (ht : execResidencyOperationDone ok s = .next t) : t.kept = s.kept :=
  by
  simp only [execResidencyOperationDone, Host.Outcome.next.injEq] at ht
  subst ht
  (repeat' split) <;> simp
theorem execModelLoad_kept (h : Hdr) (p : Bytes) (s : State) (t : State) (ht : execModelLoad h p s = .next t) : t.kept = s.kept :=
  by
  unfold execModelLoad at ht
  exact command_kept _ _ _ _ _ _ _ _ (fun _ => by simp) _ ht
@[simp] theorem packagePlaced_kept (handle : ℕ) (e : Staged) (k : Package) (d : ℕ) (s : State) : (packagePlaced handle e k d s).kept = s.kept :=
  by
  have key : ∀ (X : State) (l : List Staged) (h : Nat) (m : Model), X.kept = s.kept →
      (stagedOutcome e.ring e.tag e.opcode.toNat .ok 0 [] (({ X with staged := l }).setModel h m)).kept = s.kept :=
    fun X _ _ _ h => by rw [stagedOutcome_kept, State.setModel_kept]; exact h
  have wait : ∀ (X : State) (l : List ResidencyOp), X.kept = s.kept → ({ X with residency := l } : State).kept = s.kept := fun _ _ h => h
  unfold packagePlaced
  simp only []
  split
  · exact wait _ _ (by rw [State.setModel_kept, putDram_kept, freeBytes_kept, takeDram_kept])
  · exact key _ _ _ _ (by rw [State.setModel_kept, putDram_kept, freeBytes_kept, takeDram_kept])
theorem execModelLoadCopyDone_kept (handle : ℕ) (pkg : Option Package) (s : State) (t : State) (ht : execModelLoadCopyDone handle pkg s = .next t) : t.kept = s.kept :=
  by
  simp only [execModelLoadCopyDone, Host.Outcome.next.injEq] at ht
  subst ht
  (repeat' split) <;> simp
theorem execModelReside_kept (h : Hdr) (p : Bytes) (s : State) (t : State) (ht : execModelReside h p s = .next t) : t.kept = s.kept :=
  by
  unfold execModelReside at ht
  exact command_kept _ _ _ _ _ _ _ _ (fun _ => by simp) _ ht
theorem execModelUnload_kept (h : Hdr) (p : Bytes) (s : State) (t : State) (ht : execModelUnload h p s = .next t) : t.kept = s.kept :=
  by
  unfold execModelUnload at ht
  exact command_kept _ _ _ _ _ _ _ _ (fun _ => by simp) _ ht
theorem execModelQuery_kept (h : Hdr) (p : Bytes) (s : State) (t : State) (ht : execModelQuery h p s = .next t) : t.kept = s.kept :=
  by
  unfold execModelQuery at ht
  exact command_kept _ _ _ _ _ _ _ _ (fun _ => by simp) _ ht

/-! Machine/MemCmd.lean -/

@[simp] theorem changeMode_kept (flat : Bool) (s : State) : (changeMode flat s).kept = s.kept :=
  by simp [changeMode]
theorem execMemoryModeSet_kept (h : Hdr) (p : Bytes) (s : State) (t : State) (ht : execMemoryModeSet h p s = .next t) : t.kept = s.kept :=
  by
  unfold execMemoryModeSet at ht
  exact command_kept _ _ _ _ _ _ _ _ (fun _ => by simp) _ ht
theorem execWindowOpen_kept (h : Hdr) (p : Bytes) (s : State) (t : State) (ht : execWindowOpen h p s = .next t) : t.kept = s.kept :=
  by
  unfold execWindowOpen at ht
  exact command_kept _ _ _ _ _ _ _ _ (fun _ => by simp) _ ht
theorem execWindowClose_kept (h : Hdr) (p : Bytes) (s : State) (t : State) (ht : execWindowClose h p s = .next t) : t.kept = s.kept :=
  by
  unfold execWindowClose at ht
  exact command_kept _ _ _ _ _ _ _ _ (fun _ => by simp) _ ht
theorem execScrubSet_kept (h : Hdr) (p : Bytes) (s : State) (t : State) (ht : execScrubSet h p s = .next t) : t.kept = s.kept :=
  by
  unfold execScrubSet at ht
  exact command_kept _ _ _ _ _ _ _ _ (fun _ => by simp) _ ht

/-! Machine/Resets.lean -/

@[simp] theorem resetHostRegs_kept (s : State) : (resetHostRegs s).kept = s.kept :=
  by simp [resetHostRegs]
@[simp] theorem releaseBuffers_kept (sc : ℕ) (s : State) : (releaseBuffers sc s).kept = s.kept :=
  by simp [releaseBuffers]
@[simp] theorem linkLoss_kept (s : State) : (linkLoss s).kept = s.kept :=
  by simp [linkLoss]
@[simp] theorem writeSettings_kept (l : List (ℕ × U32)) (s : State) : (writeSettings l s).kept = s.kept :=
  by simp [writeSettings]
@[simp] theorem writeUser_kept (w : ℕ) (v : U32) (s : State) : (writeUser w v s).kept = s.kept :=
  by simp [writeUser]
@[simp] theorem loadImage_kept (b : Bytes) (slot : BitVec 2) (s : State) : (loadImage b slot s).kept = s.kept :=
  by simp [loadImage]
@[simp] theorem slotTried_kept (i : ℕ) (bad : Option Status) (s : State) : (slotTried i bad s).2.kept = s.kept :=
  by
  simp only [slotTried]
  (repeat' split) <;> simp
@[simp] theorem trySlot_kept (slotSize : ℕ) (i : ℕ) (s : State) : (trySlot slotSize i s).2.kept = s.kept :=
  by simp [trySlot]
@[simp] theorem trySlots_kept (slotSize : ℕ) (x1 : List ℕ) (x2 : State) : (trySlots slotSize x1 x2).kept = x2.kept :=
  by fun_induction trySlots slotSize x1 x2 <;> simp_all
@[simp] theorem settleAlert_kept (s : State) : (settleAlert s).kept = s.kept :=
  by simp [settleAlert]
@[simp] theorem loadFromSource_kept (s : State) : (loadFromSource s).kept = s.kept :=
  by simp [loadFromSource]
@[simp] theorem bootScars_kept (kind : ℕ) (s : State) : (bootScars kind s).kept = s.kept :=
  by simp [bootScars]
@[simp] theorem bootMemories_kept (train : Bool) (s : State) : (bootMemories train s).kept = s.kept :=
  by
  have key : ∀ (m : Memory) (d : Dram), ({ s with mem := m, dram := d } : State).kept = s.kept := fun _ _ => rfl
  rw [bootMemories]
  cases train
  · rw [if_neg (by decide)]; exact key _ _
  · rw [if_pos rfl]; exact key _ _
@[simp] theorem resetBase_kept (s : State) : (resetBase s).kept = s.kept :=
  by simp [resetBase]
@[simp] theorem coldReset_kept (kind : ℕ) (s : State) : (coldReset kind s).kept = s.kept :=
  by simp [coldReset]
@[simp] theorem warmReset_kept (kind : ℕ) (s : State) : (warmReset kind s).kept = s.kept :=
  by simp [warmReset]
@[simp] theorem bootFromPins_kept (p : BootPins) (s : State) : (bootFromPins p s).kept = s.kept :=
  by simp [bootFromPins]
@[simp] theorem keepLostStart_kept (s : State) : (keepLostStart s).kept = s.kept :=
  by simp [keepLostStart]
@[simp] theorem takeCopy_kept (good : Option Bool) (s : State) : (takeCopy good s).kept = s.kept :=
  by
  simp only [takeCopy]
  (repeat' split) <;> simp
@[simp] theorem keepSettingsStart_kept (s : State) : (keepSettingsStart s).kept = s.kept :=
  by simp [keepSettingsStart]
@[simp] theorem keepRemapStart_kept (s : State) : (keepRemapStart s).kept = s.kept :=
  by simp [keepRemapStart]
@[simp] theorem keepLatchStart_kept (rev : Bool) (s : State) : (keepLatchStart rev s).kept = s.kept :=
  by
  simp only [keepLatchStart]
  (repeat' split) <;> simp
@[simp] theorem keepStart_kept (s : State) : (keepStart s).kept = s.kept :=
  by simp [keepStart]
@[simp] theorem startDomain_kept (d : ℕ) (delay : ℕ) (s : State) : (startDomain d delay s).kept = s.kept :=
  by simp [startDomain]
@[simp] theorem startFixedDomains_kept (s : State) : (startFixedDomains s).kept = s.kept :=
  by simp [startFixedDomains]
@[simp] theorem deviceStarted_kept (s : State) : (deviceStarted s).kept = s.kept :=
  by simp [deviceStarted]
@[simp] theorem shepherdStart_kept (s : State) : (shepherdStart s).kept = s.kept :=
  by simp [shepherdStart]

/-! Machine/Transport.lean -/

@[simp] theorem noteWaiting_kept (s : State) : (noteWaiting s).kept = s.kept :=
  by simp [noteWaiting]
@[simp] theorem dropSlot_kept (ring : ℕ) (index : ℕ) (s : State) : (dropSlot ring index s).kept = s.kept :=
  by simp [dropSlot]
@[simp] theorem fillSlot_kept (ring : ℕ) (index : ℕ) (f : InFlight → InFlight) (s : State) : (fillSlot ring index f s).kept = s.kept :=
  by simp [fillSlot]
@[simp] theorem slotArrived_kept (ring : ℕ) (index : ℕ) (b : Bytes) (s : State) : (slotArrived ring index b s).kept = s.kept :=
  by
  simp only [slotArrived]
  (repeat' split) <;> simp
theorem execSlotFetch_kept (ring : ℕ) (slot : Option Bytes) (s : State) (t : State) (ht : execSlotFetch ring slot s = .next t) : t.kept = s.kept :=
  by
  simp only [execSlotFetch, Host.Outcome.next.injEq] at ht
  subst ht
  (repeat' split) <;> simp
theorem execRingWhistleWrite_kept (ring : ℕ) (value : U32) (s : State) (t : State) (ht : execRingWhistleWrite ring value s = .next t) : t.kept = s.kept :=
  by
  simp only [execRingWhistleWrite, Host.Outcome.next.injEq] at ht
  subst ht
  simp
theorem execRingCqHeadWrite_kept (ring : ℕ) (value : U32) (s : State) (t : State) (ht : execRingCqHeadWrite ring value s = .next t) : t.kept = s.kept :=
  by
  simp only [execRingCqHeadWrite, Host.Outcome.next.injEq] at ht
  subst ht
  simp
theorem execEvqHeadWrite_kept (value : U32) (s : State) (t : State) (ht : execEvqHeadWrite value s = .next t) : t.kept = s.kept :=
  by
  simp only [execEvqHeadWrite, Host.Outcome.next.injEq] at ht
  subst ht
  simp
theorem execRingEnable_kept (ring : ℕ) (coalCount : Byte) (coalUsec : BitVec 10) (s : State) (t : State) (ht : execRingEnable ring coalCount coalUsec s = .next t) : t.kept = s.kept :=
  by
  simp only [execRingEnable, Host.Outcome.next.injEq] at ht
  subst ht
  simp
theorem execRingDisable_kept (ring : ℕ) (s : State) (t : State) (ht : execRingDisable ring s = .next t) : t.kept = s.kept :=
  by
  simp only [execRingDisable, Host.Outcome.next.injEq] at ht
  subst ht
  simp
theorem execEvqEnable_kept (coalCount : Byte) (coalUsec : BitVec 10) (s : State) (t : State) (ht : execEvqEnable coalCount coalUsec s = .next t) : t.kept = s.kept :=
  by
  simp only [execEvqEnable, Host.Outcome.next.injEq] at ht
  subst ht
  simp
theorem execEvqDisable_kept (s : State) (t : State) (ht : execEvqDisable s = .next t) : t.kept = s.kept :=
  by
  simp only [execEvqDisable, Host.Outcome.next.injEq] at ht
  subst ht
  simp
theorem execEvqLostRead_kept (s : State) (t : State) (ht : execEvqLostRead s = .next t) : t.kept = s.kept :=
  by
  simp only [execEvqLostRead, Host.Outcome.next.injEq] at ht
  subst ht
  simp
theorem execGlbStrayRead_kept (s : State) (t : State) (ht : execGlbStrayRead s = .next t) : t.kept = s.kept :=
  by
  simp only [execGlbStrayRead, Host.Outcome.next.injEq] at ht
  subst ht
  simp
theorem execBar0StrayAccess_kept (isRead : Bool) (len : ℕ) (s : State) (t : State) (ht : execBar0StrayAccess isRead len s = .next t) : t.kept = s.kept :=
  by
  simp only [execBar0StrayAccess, Host.Outcome.next.injEq] at ht
  subst ht
  simp
theorem execInterruptCoalesceTimeout_kept (vector : ℕ) (s : State) (t : State) (ht : execInterruptCoalesceTimeout vector s = .next t) : t.kept = s.kept :=
  by
  simp only [execInterruptCoalesceTimeout, Host.Outcome.next.injEq] at ht
  subst ht
  simp
@[simp] theorem sendPending_kept (s : State) : (sendPending s).kept = s.kept :=
  by simp [sendPending]
theorem execMsixUnmask_kept (w : MsixWrite) (s : State) (t : State) (ht : execMsixUnmask w s = .next t) : t.kept = s.kept :=
  by
  simp only [execMsixUnmask, Host.Outcome.next.injEq] at ht
  subst ht
  (repeat' split) <;> simp
theorem execMgmtSubmit_kept (bytes : Bytes) (s : State) (t : State) (ht : execMgmtSubmit bytes s = .next t) : t.kept = s.kept :=
  by
  simp only [execMgmtSubmit, Host.Outcome.next.injEq] at ht
  subst ht
  simp
theorem execMgmtPoll_kept (extra : ℕ) (reads : ℕ) (s : State) (t : State) (ht : execMgmtPoll extra reads s = .next t) : t.kept = s.kept :=
  by
  simp only [execMgmtPoll, Host.Outcome.next.injEq] at ht
  subst ht
  simp
theorem execMgmtRead_kept (offset : ℕ) (count : ℕ) (extra : ℕ) (reads : ℕ) (s : State) (t : State) (ht : execMgmtRead offset count extra reads s = .next t) : t.kept = s.kept :=
  by
  simp only [execMgmtRead, Host.Outcome.next.injEq] at ht
  subst ht
  simp
theorem execMgmtBusTimeout_kept (sda : Bool) (scl : Bool) (s : State) (t : State) (ht : execMgmtBusTimeout sda scl s = .next t) : t.kept = s.kept :=
  by
  simp only [execMgmtBusTimeout, Host.Outcome.next.injEq] at ht
  subst ht
  simp

/-! Machine/Fetch.lean -/

@[simp] theorem settleTrap_kept (c : ℕ) (s : State) : (settleTrap c s).kept = s.kept :=
  by fun_cases settleTrap c s <;> simp
@[simp] theorem raiseTrap_kept (c : ℕ) (cause : ℕ) (s : State) : (raiseTrap c cause s).kept = s.kept :=
  by simp [raiseTrap]
@[simp] theorem readPlaces_kept (c : ℕ) (l : List (Place × ℕ)) (s : State) : (readPlaces c l s).2.kept = s.kept :=
  by
  unfold readPlaces
  refine (foldl2_kept _ (fun r e => ?_) _ _).trans rfl
  dsimp only
  (repeat' split) <;> simp
@[simp] theorem writePlaces_kept (c : ℕ) (l : List (Place × ℕ)) (bs : Bytes) (held : Bool) (s : State) : (writePlaces c l bs held s).kept = s.kept :=
  by
  unfold writePlaces
  refine (foldl2_kept _ (fun r e => ?_) _ _).trans rfl
  dsimp only
  (repeat' split) <;> simp
@[simp] theorem readCore_kept (c : ℕ) (a : ℕ) (n : ℕ) (s : State) : (readCore c a n s).2.kept = s.kept :=
  by fun_cases readCore c a n s <;> simp
@[simp] theorem writeCore_kept (c : ℕ) (a : ℕ) (bs : Bytes) (held : Bool) (s : State) : (writeCore c a bs held s).kept = s.kept :=
  by fun_cases writeCore c a bs held s <;> simp
@[simp] theorem sendTagged_kept (dst : ℕ) (kind : ℕ) (index : ℕ) (arg : U32) (data : Bytes) (s : State) : (sendTagged dst kind index arg data s).2.kept = s.kept :=
  by simp [sendTagged]
@[simp] theorem enqueueTx_kept (t : DramTx) (s : State) : (enqueueTx t s).2.kept = s.kept :=
  by simp [enqueueTx]
@[simp] theorem charge_kept (r : ℕ) (light : Bool) (isWrite : Bool) (s : State) : (charge r light isWrite s).kept = s.kept :=
  by simp [charge]
@[simp] theorem issueMerge_kept (c : ℕ) (m : MergeEntry) (s : State) : (issueMerge c m s).kept = s.kept :=
  by simp [issueMerge]
theorem mergeWrite_kept (c : ℕ) (q : ℕ) (p : Piece) (s : State) (t : State) (ht : mergeWrite c q p s = some t) : t.kept = s.kept :=
  by
  unfold mergeWrite at ht
  dsimp only at ht
  (repeat' split at ht) <;> first
    | (cases ht; done)
    | (simp only [Option.some.injEq] at ht; subst ht; simp)
@[simp] theorem landNear_kept (c : ℕ) (p : Piece) (b : Bytes) (s : State) : (landNear c p b s).kept = s.kept :=
  by simp [landNear]
@[simp] theorem issueGather_kept (c : ℕ) (p : Piece) (s : State) : (issueGather c p s).2.kept = s.kept :=
  by
  have h := lookup_kept c (p.far / 32 * 32) s
  unfold issueGather
  dsimp only
  split <;> rename_i heq <;> rw [heq] at h <;> simpa using h
@[simp] theorem hostReadLost_kept (c : ℕ) (n : ℕ) (off : ℕ) (s : State) : (hostReadLost c n off s).kept = s.kept :=
  by fun_cases hostReadLost c n off s <;> simp
@[simp] theorem issuePiece_kept (c : ℕ) (q : ℕ) (p : Piece) (s : State) : (issuePiece c q p s).2.kept = s.kept :=
  by
  unfold issuePiece
  dsimp only
  (repeat' split) <;> first
    | (simp; done)
    | (exact mergeWrite_kept _ _ _ _ _ (by with_reducible assumption))
    | (refine (foldl_kept _ (fun _ _ => ?_) _ _).trans ?_ <;> simp)
@[simp] theorem issuePieces_kept (c : ℕ) (q : ℕ) (x2 : List Piece) (x3 : State) : (issuePieces c q x2 x3).2.kept = x3.kept :=
  by
  induction x2 generalizing x3 with
  | nil => rfl
  | cons e l ih => unfold issuePieces; simp [ih]
@[simp] theorem issueEntries_kept (c : ℕ) (x1 : List FetchEntry) (x2 : State) : (issueEntries c x1 x2).2.kept = x2.kept :=
  by
  induction x1 generalizing x2 with
  | nil => rfl
  | cons e l ih => unfold issueEntries; simp [ih]
@[simp] theorem pump_kept (c : ℕ) (s : State) : (pump c s).kept = s.kept :=
  by simp [pump]
@[simp] theorem onPieces_kept (c : ℕ) (f : List Piece → List Piece) (s : State) : (onPieces c f s).kept = s.kept :=
  by simp [onPieces]
@[simp] theorem countInput_kept (c : ℕ) (q : ℕ) (seq : U16) (n : ℕ) (s : State) : (countInput c q seq n s).kept = s.kept :=
  by fun_cases countInput c q seq n s <;> simp
@[simp] theorem pieceArrives_kept (c : ℕ) (w : PieceWait) (b : Bytes) (s : State) : (pieceArrives c w b s).kept = s.kept :=
  by
  simp only [pieceArrives]
  (repeat' split) <;> simp
@[simp] theorem rewriteWeights_kept (c : ℕ) (a : ℕ) (n : ℕ) (s : State) : (rewriteWeights c a n s).kept = s.kept :=
  by fun_cases rewriteWeights c a n s <;> simp
@[simp] theorem moveCore_kept (c : ℕ) (src : ℕ) (dst : ℕ) (n : ℕ) (lost : Bool) (s : State) : (moveCore c src dst n lost s).kept = s.kept :=
  by
  simp only [moveCore]
  (repeat' split) <;> simp
@[simp] theorem storeBytes_kept (c : ℕ) (a : ℕ) (n : ℕ) (s : State) : (storeBytes c a n s).2.kept = s.kept :=
  by
  unfold storeBytes
  refine (foldl2_kept _ (fun r e => ?_) _ _).trans rfl
  dsimp only
  (repeat' split) <;> simp
@[simp] theorem startBurst_kept (c : ℕ) (b : Bytes) (lost : Bool) (x : ℤ × ℤ × ℕ) (s : State) : (startBurst c b lost x s).2.kept = s.kept :=
  by
  unfold startBurst
  dsimp only
  (repeat' split) <;> first
    | (simp; done)
    | (refine (foldl2_kept _ (fun r e => ?_) _ _).trans rfl
       generalize (kennelOff_ e.1).bind (windowAt r.2 c 0) = o
       cases o <;> simp)
@[simp] theorem launch_kept (c : ℕ) (e : FetchEntry) (ps : List Piece) (bursts : List (ℕ × ℕ × ℕ)) (s : State) : (launch c e ps bursts s).kept = s.kept :=
  by simp [launch]
@[simp] theorem startTransfer_kept (c : ℕ) (e : FetchEntry) (s : State) : (startTransfer c e s).kept = s.kept :=
  by
  unfold startTransfer
  dsimp only
  (repeat' split) <;> first
    | (simp; done)
    | (rw [launch_kept]; refine (foldl2_kept _ (fun r e => ?_) _ _).trans rfl; simp)
theorem execFetchLoad_kept (core : ℕ) (errors : List ReadError) (s : State) (t : State) (ht : execFetchLoad core errors s = .next t) : t.kept = s.kept :=
  by
  simp only [execFetchLoad, Host.Outcome.next.injEq] at ht
  subst ht
  (repeat' split) <;> simp
theorem execFetchStore_kept (core : ℕ) (errors : List ReadError) (s : State) (t : State) (ht : execFetchStore core errors s = .next t) : t.kept = s.kept :=
  by
  simp only [execFetchStore, Host.Outcome.next.injEq] at ht
  subst ht
  (repeat' split) <;> simp
@[simp] theorem startGather_kept (c : ℕ) (e : FetchEntry) (s : State) : (startGather c e s).kept = s.kept :=
  by
  simp only [startGather]
  (repeat' split) <;> simp
theorem execFetchGather_kept (core : ℕ) (errors : List ReadError) (s : State) (t : State) (ht : execFetchGather core errors s = .next t) : t.kept = s.kept :=
  by
  simp only [execFetchGather, Host.Outcome.next.injEq] at ht
  subst ht
  (repeat' split) <;> simp
theorem execFetchFill_kept (core : ℕ) (s : State) (t : State) (ht : execFetchFill core s = .next t) : t.kept = s.kept :=
  by
  simp only [execFetchFill, Host.Outcome.next.injEq] at ht
  subst ht
  (repeat' split) <;> simp
theorem execFetchCopy_kept (core : ℕ) (errors : List ReadError) (s : State) (t : State) (ht : execFetchCopy core errors s = .next t) : t.kept = s.kept :=
  by
  simp only [execFetchCopy, Host.Outcome.next.injEq] at ht
  subst ht
  (repeat' split) <;> simp
@[simp] theorem publish_kept (c : ℕ) (idx : ℕ) (top : U16) (bottom : U16) (s : State) : (publish c idx top bottom s).kept = s.kept :=
  by
  simp only [publish]
  (repeat' split) <;> simp
@[simp] theorem exportRows_kept (sc : ℕ) (idx : ℕ) (old : U16 × U16 × U32) (new : U16 × U16 × U32) (s : State) : (exportRows sc idx old new s).kept = s.kept :=
  by
  unfold exportRows
  repeat' first
    | (simp; done)
    | split
    | (refine (foldl_kept _ (fun _ _ => ?_) _ _).trans ?_; try dsimp only)
    | simp
theorem execFetchPublish_kept (core : ℕ) (s : State) (t : State) (ht : execFetchPublish core s = .next t) : t.kept = s.kept :=
  by
  simp only [execFetchPublish, Host.Outcome.next.injEq] at ht
  subst ht
  (repeat' split) <;> simp
@[simp] theorem notePresent_kept (c : ℕ) (before : Core) (s : State) : (notePresent c before s).kept = s.kept :=
  by simp [notePresent]
theorem execFetchDescriptorComplete_kept (core : ℕ) (index : ℕ) (s : State) (t : State) (ht : execFetchDescriptorComplete core index s = .next t) : t.kept = s.kept :=
  by
  simp only [execFetchDescriptorComplete, Host.Outcome.next.injEq] at ht
  subst ht
  (repeat' split) <;> simp
theorem execMergeEntryTimeout_kept (core : ℕ) (s : State) (t : State) (ht : execMergeEntryTimeout core s = .next t) : t.kept = s.kept :=
  by
  simp only [execMergeEntryTimeout, Host.Outcome.next.injEq] at ht
  subst ht
  simp
@[simp] theorem acceptWrite_kept (t : DramTx) (s : State) : (acceptWrite t s).kept = s.kept :=
  by simp [acceptWrite]
@[simp] theorem writeDone_kept (t : DramTx) (s : State) : (writeDone t s).kept = s.kept :=
  by simp [writeDone]
@[simp] theorem finishTx_kept (t : DramTx) (error : ℕ) (s : State) : (finishTx t error s).kept = s.kept :=
  by
  simp only [finishTx]
  (repeat' split) <;> simp
theorem execDramTransactionComplete_kept (channel : ℕ) (error : ℕ) (s : State) (t : State) (ht : execDramTransactionComplete channel error s = .next t) : t.kept = s.kept :=
  by
  simp only [execDramTransactionComplete, Host.Outcome.next.injEq] at ht
  subst ht
  (repeat' split) <;> simp
theorem execIacFillReturn_kept (id : ℕ) (s : State) (t : State) (ht : execIacFillReturn id s = .next t) : t.kept = s.kept :=
  by
  simp only [execIacFillReturn, Host.Outcome.next.injEq] at ht
  subst ht
  (repeat' split) <;> simp
theorem execHaloTimeout_kept (core : ℕ) (boundary : ℕ) (consumer : ℕ) (producer : ℕ) (counter : ℕ) (top : Bool) (s : State) (t : State) (ht : execHaloTimeout core boundary consumer producer counter top s = .next t) : t.kept = s.kept :=
  by
  simp only [execHaloTimeout, Host.Outcome.next.injEq] at ht
  subst ht
  (repeat' split) <;> simp
theorem execJobHaloTimeout_kept (core : ℕ) (counter : ℕ) (top : Bool) (s : State) (t : State) (ht : execJobHaloTimeout core counter top s = .next t) : t.kept = s.kept :=
  by
  simp only [execJobHaloTimeout, Host.Outcome.next.injEq] at ht
  subst ht
  (repeat' split) <;> simp

/-! Machine/Tree.lean -/

@[simp] theorem loadEnsemble_kept (h : Hdr) (e : ℕ) (nc : ℕ) (tc : ℕ) (frontLen : ℕ) (crc : ℕ) (nb : Bytes) (rb : Bytes) (fb : Bytes) (s : State) : (loadEnsemble h e nc tc frontLen crc nb rb fb s).kept = s.kept :=
  by
  simp only [loadEnsemble]
  (repeat' split) <;> simp
theorem execTreeLoad_kept (h : Hdr) (p : Bytes) (nodes : Option Bytes) (roots : Option Bytes) (front : Option Bytes) (s : State) (t : State) (ht : execTreeLoad h p nodes roots front s = .next t) : t.kept = s.kept :=
  by
  unfold execTreeLoad at ht
  refine command_kept _ _ _ _ _ _ _ _ (fun _ => ?_) _ ht
  repeat' first
    | (simp; done)
    | split
    | (refine (foldl_kept _ (fun _ _ => ?_) _ _).trans ?_; try dsimp only)
    | simp
theorem execTreeUnload_kept (h : Hdr) (p : Bytes) (s : State) (t : State) (ht : execTreeUnload h p s = .next t) : t.kept = s.kept :=
  by
  unfold execTreeUnload at ht
  exact command_kept _ _ _ _ _ _ _ _ (fun _ => by simp) _ ht
theorem execTreeBind_kept (h : Hdr) (p : Bytes) (s : State) (t : State) (ht : execTreeBind h p s = .next t) : t.kept = s.kept :=
  by
  unfold execTreeBind at ht
  exact command_kept _ _ _ _ _ _ _ _ (fun _ => by simp) _ ht
theorem execProfileTableSet_kept (h : Hdr) (p : Bytes) (s : State) (t : State) (ht : execProfileTableSet h p s = .next t) : t.kept = s.kept :=
  by
  unfold execProfileTableSet at ht
  exact command_kept _ _ _ _ _ _ _ _ (fun _ => by simp) _ ht
@[simp] theorem featureSet_kept (sc : ℕ) (frame : U32) (features : List (Option ℕ)) (degraded : Bool) (s : State) : (featureSet sc frame features degraded s).kept = s.kept :=
  by simp [featureSet]
@[simp] theorem readNode_kept (base : ℕ) (i : ℕ) (s : State) : (readNode base i s).kept = s.kept :=
  by
  have h := lookup_kept 16 ((base + 8 * i) / 32 * 32) (perfAdd 0x5B8 1 s)
  unfold readNode
  dsimp only
  split
  · split <;> simp
  · split <;> rename_i heq <;> rw [heq] at h <;> simpa using h
theorem execVoteStart_kept (badTrees : List ℕ) (tableError : Bool) (s : State) (t : State) (ht : execVoteStart badTrees tableError s = .next t) : t.kept = s.kept :=
  by
  simp only [execVoteStart, Host.Outcome.next.injEq] at ht
  subst ht
  (repeat' split) <;> simp
theorem execVoteComplete_kept (s : State) (t : State) (ht : execVoteComplete s = .next t) : t.kept = s.kept :=
  by
  simp only [execVoteComplete, Host.Outcome.next.injEq] at ht
  subst ht
  (repeat' split) <;> simp

/-! Machine/Outputs.lean -/

theorem execTileCheck_kept (sc : ℕ) (frame : ℕ) (phase : ℕ) (tile : ℕ) (eccError : Bool) (errors : List ReadError) (s : State) (t : State) (ht : execTileCheck sc frame phase tile eccError errors s = .next t) : t.kept = s.kept :=
  by
  simp only [execTileCheck, Host.Outcome.next.injEq] at ht
  subst ht
  (repeat' split) <;> simp
theorem execBandRelease_kept (sc : ℕ) (frame : ℕ) (phase : ℕ) (band : ℕ) (s : State) (t : State) (ht : execBandRelease sc frame phase band s = .next t) : t.kept = s.kept :=
  by
  simp only [execBandRelease, Host.Outcome.next.injEq] at ht
  subst ht
  simp
@[simp] theorem missDeadline_kept (sc : ℕ) (o : Output) (sub : ℕ) (s : State) : (missDeadline sc o sub s).kept = s.kept :=
  by simp [missDeadline]
@[simp] theorem bandFalls_kept (sc : ℕ) (n : U32) (ph : ℕ) (b : ℕ) (s : State) : (bandFalls sc n ph b s).kept = s.kept :=
  by simp [bandFalls]
theorem execBandReleaseDeadline_kept (sc : ℕ) (frame : ℕ) (phase : ℕ) (band : ℕ) (s : State) (t : State) (ht : execBandReleaseDeadline sc frame phase band s = .next t) : t.kept = s.kept :=
  by
  simp only [execBandReleaseDeadline, Host.Outcome.next.injEq] at ht
  subst ht
  (repeat' split) <;> simp
@[simp] theorem lateCause_kept (sc : ℕ) (o : Output) (s : State) : (lateCause sc o s).kept = s.kept :=
  by simp [lateCause]
@[simp] theorem lateOutput_kept (sc : ℕ) (o : Output) (sub : ℕ) (s : State) : (lateOutput sc o sub s).kept = s.kept :=
  by
  simp only [lateOutput]
  (repeat' split) <;> simp
theorem execOutputDeadline_kept (sc : ℕ) (frame : ℕ) (phase : ℕ) (desc : ℕ) (s : State) (t : State) (ht : execOutputDeadline sc frame phase desc s = .next t) : t.kept = s.kept :=
  by
  simp only [execOutputDeadline, Host.Outcome.next.injEq] at ht
  subst ht
  (repeat' split) <;> simp
theorem execOfmRowWrite_kept (sc : ℕ) (frame : ℕ) (phase : ℕ) (desc : ℕ) (row : ℕ) (s : State) (t : State) (ht : execOfmRowWrite sc frame phase desc row s = .next t) : t.kept = s.kept :=
  by
  simp only [execOfmRowWrite, Host.Outcome.next.injEq] at ht
  subst ht
  (repeat' split) <;> simp
theorem execOutputComplete_kept (sc : ℕ) (frame : ℕ) (phase : ℕ) (desc : ℕ) (s : State) (t : State) (ht : execOutputComplete sc frame phase desc s = .next t) : t.kept = s.kept :=
  by
  simp only [execOutputComplete, Host.Outcome.next.injEq] at ht
  subst ht
  (repeat' split) <;> simp
@[simp] theorem strictDrop_kept (f : GroupFrame) (sc : ℕ) (s : State) : (strictDrop f sc s).kept = s.kept :=
  by simp [strictDrop]
theorem execGroupWindowExpiry_kept (group : ℕ) (s : State) (t : State) (ht : execGroupWindowExpiry group s = .next t) : t.kept = s.kept :=
  by
  simp only [execGroupWindowExpiry, Host.Outcome.next.injEq] at ht
  subst ht
  (repeat' split) <;> simp

/-! Machine/FirstPass.lean -/

@[simp] theorem partHeard_kept (sc : ℕ) (f : U32) (pos : ℕ) (s : State) : (partHeard sc f pos s).kept = s.kept :=
  by simp [partHeard]
@[simp] theorem frameWorked_kept (sc : ℕ) (f : U32) (s : State) : (frameWorked sc f s).kept = s.kept :=
  by simp [frameWorked]
@[simp] theorem notePass_kept (c : ℕ) (s : State) : (notePass c s).kept = s.kept :=
  by fun_cases notePass c s <;> simp

/-! Machine/Executor.lean -/

@[simp] theorem Work.plane_kept (k : Work) (kind : ℕ) (fmt : ℕ) (d : Dims) (f : ℕ → ℕ → ℕ → Counted) : (Work.plane k kind fmt d f).2.s.kept = k.s.kept :=
  by simp [Work.plane]
@[simp] theorem Work.free_kept (k : Work) (w : At) (kind : ℕ) (fmt : ℕ) (d : Dims) (operands : List ℤ) : (Work.free k w kind fmt d operands).2.s.kept = k.s.kept :=
  by simp [Work.free]
@[simp] theorem Work.read_kept (c : ℕ) (k : Work) (a : ℕ) (n : ℕ) : (Work.read c k a n).2.s.kept = k.s.kept :=
  by
  simp only [Work.read]
  (repeat' split) <;> simp
@[simp] theorem Work.slot_kept (c : ℕ) (k : Work) (chain : Bytes) (which : ℕ) (base : ℕ) (fmt : ℕ) (d : Dims) : (Work.slot c k chain which base fmt d).2.s.kept = k.s.kept :=
  by
  unfold Work.slot
  refine (foldlW_kept _ (fun r e => ?_) _ _).trans rfl
  simp
@[simp] theorem convStage_kept (c : ℕ) (chain : Bytes) (w : StageWord) (d : Dims) (k : Work) : (convStage c chain w d k).2.s.kept = k.s.kept :=
  by
  unfold convStage
  dsimp only
  (repeat' split) <;> simp
@[simp] theorem Work.params_kept (c : ℕ) (k : Work) (a : ℕ) (size : ℕ) (n : ℕ) : (Work.params c k a size n).2.s.kept = k.s.kept :=
  by simp [Work.params]
@[simp] theorem requantStage_kept (c : ℕ) (w : StageWord) (p : Plane) (k : Work) : (requantStage c w p k).2.s.kept = k.s.kept :=
  by
  simp only [requantStage]
  (repeat' split) <;> simp
@[simp] theorem convertStage_kept (i : At) (w : StageWord) (p : Plane) (k : Work) : (convertStage i w p k).2.s.kept = k.s.kept :=
  by
  simp only [convertStage]
  (repeat' split) <;> simp
@[simp] theorem lutStage_kept (c : ℕ) (i : At) (w : StageWord) (p : Plane) (k : Work) : (lutStage c i w p k).2.s.kept = k.s.kept :=
  by
  simp only [lutStage]
  (repeat' split) <;> simp
@[simp] theorem eltStage_kept (c : ℕ) (i : At) (w : StageWord) (p : Plane) (k : Work) : (eltStage c i w p k).2.s.kept = k.s.kept :=
  by
  unfold eltStage
  dsimp only
  (repeat' split) <;> simp
@[simp] theorem poolStage_kept (c : ℕ) (i : At) (w : StageWord) (d : Dims) (k : Work) : (poolStage c i w d k).2.s.kept = k.s.kept :=
  by
  unfold poolStage
  dsimp only
  (repeat' split) <;> simp
@[simp] theorem d2sStage_kept (i : At) (w : StageWord) (d : Dims) (p : Plane) (k : Work) : (d2sStage i w d p k).2.s.kept = k.s.kept :=
  by fun_cases d2sStage i w d p k <;> simp
@[simp] theorem resampleStage_kept (c : ℕ) (i : At) (w : StageWord) (d : Dims) (k : Work) : (resampleStage c i w d k).2.s.kept = k.s.kept :=
  by
  simp only [resampleStage]
  (repeat' split) <;> simp
@[simp] theorem warpStage_kept (c : ℕ) (i : At) (w : StageWord) (d : Dims) (k : Work) : (warpStage c i w d k).2.s.kept = k.s.kept :=
  by
  simp only [warpStage]
  (repeat' split) <;> simp
@[simp] theorem depthwiseStage_kept (c : ℕ) (i : At) (w : StageWord) (d : Dims) (k : Work) : (depthwiseStage c i w d k).2.s.kept = k.s.kept :=
  by
  unfold depthwiseStage
  dsimp only
  split
  · simp [foldlW_kept]
  · simp [foldlW_kept]
@[simp] theorem stage__kept (c : ℕ) (chain : Bytes) (n : ℕ) (w : StageWord) (d : Dims) (prev : Plane) (k : Work) : (stage_ c chain n w d prev k).2.s.kept = k.s.kept :=
  by
  unfold stage_
  dsimp only
  (repeat' split) <;> simp
@[simp] theorem runStages_kept (c : ℕ) (chain : Bytes) (x2 : List (StageWord × Dims)) (x3 : ℕ) (x4 : Plane) (x5 : Work) : (runStages c chain x2 x3 x4 x5).2.s.kept = x5.s.kept :=
  by
  induction x2 generalizing x3 x4 x5 with
  | nil => rfl
  | cons e l ih => obtain ⟨w, d⟩ := e; rw [runStages]; simp [ih]
@[simp] theorem Work.output_kept (c : ℕ) (k : Work) (chain : Bytes) (p : Plane) (held : Bool) : (Work.output c k chain p held).s.kept = k.s.kept :=
  by
  unfold Work.output
  repeat' first
    | (simp; done)
    | split
    | (refine (foldl_kept _ (fun _ _ => ?_) _ _).trans ?_; try dsimp only)
    | simp
@[simp] theorem runChain_kept (c : ℕ) (chain : Bytes) (held : Bool) (s : State) : (runChain c chain held s).s.kept = s.kept :=
  by simp [runChain]
@[simp] theorem enterTile_kept (m : TileMark) (s : State) : (enterTile m s).kept = s.kept :=
  by fun_cases enterTile m s <;> simp
theorem execTileStart_kept (core : ℕ) (tile : QueuedTile) (s : State) (t : State) (ht : execTileStart core tile s = .next t) : t.kept = s.kept :=
  by
  simp only [execTileStart, Host.Outcome.next.injEq] at ht
  subst ht
  (repeat' split) <;> simp
@[simp] theorem markTile_kept (m : TileMark) (s : State) : (markTile m s).kept = s.kept :=
  by
  simp only [markTile]
  (repeat' split) <;> simp
@[simp] theorem tileCounts_kept (c : ℕ) (q : ℕ) (chain : Bytes) (sat : ℕ) (s : State) : (tileCounts c q chain sat s).kept = s.kept :=
  by simp [tileCounts]
@[simp] theorem tileEnds_kept (core : ℕ) (errors : List ReadError) (s : State) : (tileEnds core errors s).kept = s.kept :=
  by
  simp only [tileEnds]
  (repeat' split) <;> simp
theorem execTileComplete_kept (core : ℕ) (queue : ℕ) (errors : List ReadError) (s : State) (t : State) (ht : execTileComplete core queue errors s = .next t) : t.kept = s.kept :=
  by
  simp only [execTileComplete, Host.Outcome.next.injEq] at ht
  subst ht
  (repeat' split) <;> simp

/-! Machine/JobCmd.lean -/

@[simp] theorem startJob_kept (h : Hdr) (j : ℕ) (x : Job) (p : Plan) (s : State) : (startJob h j x p s).kept = s.kept :=
  by
  unfold startJob
  dsimp only
  split
  · simp
  · rename_i regs t1 h1
    have h := allocCounters_kept (counterNeed p (jobCfg x.shape) none (maskBits x.coreMask 16).length) t1
    split
    · simp
    · rename_i ctr t2 h2
      rw [h2] at h
      simp
      exact h.trans (allocTask_kept _ _ _ _ _ _ h1)
theorem execJobSubmit_kept (h : Hdr) (p : Bytes) (shape : Option (List ℕ)) (s : State) (t : State) (ht : execJobSubmit h p shape s = .next t) : t.kept = s.kept :=
  by
  unfold execJobSubmit at ht
  refine command_kept _ _ _ _ _ _ _ _ (fun _ => ?_) _ ht
  repeat' first
    | (simp; done)
    | split
    | (refine (foldl_kept _ (fun _ _ => ?_) _ _).trans ?_; try dsimp only)
    | simp

/-! Machine/Kill.lean -/

@[simp] theorem finishTiles_kept (cores : List ℕ) (s : State) : (finishTiles cores s).kept = s.kept :=
  by simp [finishTiles]
@[simp] theorem killStream_kept (sc : Nat) (s : State) (fin : State → State) (hfin : ∀ x, (fin x).kept = x.kept) :
    (killStream sc s fin).kept = s.kept := by
  simp only [killStream]
  rw [endStream_kept _ _ _ _ _ (fun _ _ => by simp) hfin]
  simp
@[simp] theorem killJob_kept (j : Nat) (s : State) (fin : State → State) (hfin : ∀ x, (fin x).kept = x.kept) :
    (killJob j s fin).kept = s.kept := by
  simp [killJob, hfin]
theorem execStreamStop_kept (h : Hdr) (p : Bytes) (s : State) (t : State) (ht : execStreamStop h p s = .next t) : t.kept = s.kept :=
  by
  unfold execStreamStop at ht
  refine command_kept _ _ _ _ _ _ _ _ (fun _ => ?_) _ ht
  dsimp only
  split
  · simp
  · exact killStream_kept _ _ _ (fun _ => complete_kept _ _ _ _ _)
theorem execJobKill_kept (h : Hdr) (p : Bytes) (s : State) (t : State) (ht : execJobKill h p s = .next t) : t.kept = s.kept :=
  by
  unfold execJobKill at ht
  exact command_kept _ _ _ _ _ _ _ _ (fun _ => by simp) _ ht
@[simp] theorem killAll_kept (s : State) : (killAll s).kept = s.kept :=
  by simp [killAll]

/-! Machine/SysCmd.lean -/

theorem romCommand_kept (op : ℕ) (h : Hdr) (form : List (Bool × Status)) (state : List (Bool × Status)) (act : State → State) (s : State) (hact : ∀ y0, (act y0).kept = y0.kept) (t : State) (ht : romCommand op h form state act s = .next t) : t.kept = s.kept :=
  by
  unfold romCommand at ht
  split at ht
  · simp only [Host.Outcome.next.injEq] at ht; subst ht; split <;> simp [hact]
  · exact command_kept _ _ _ _ _ _ _ _ hact _ ht
theorem execNop_kept (h : Hdr) (x1 : Bytes) (s : State) (t : State) (ht : execNop h x1 s = .next t) : t.kept = s.kept :=
  by
  unfold execNop at ht
  exact romCommand_kept _ _ _ _ _ _ (fun _ => by simp) _ ht
theorem execGetInfo_kept (h : Hdr) (x1 : Bytes) (s : State) (t : State) (ht : execGetInfo h x1 s = .next t) : t.kept = s.kept :=
  by
  unfold execGetInfo at ht
  exact romCommand_kept _ _ _ _ _ _ (fun _ => by simp) _ ht
theorem execResync_kept (h : Hdr) (p : Bytes) (s : State) (t : State) (ht : execResync h p s = .next t) : t.kept = s.kept :=
  by
  unfold execResync at ht
  exact command_kept _ _ _ _ _ _ _ _ (fun _ => by simp) _ ht
@[simp] theorem applyProfile_kept (p : ℕ) (s : State) : (applyProfile p s).kept = s.kept :=
  by simp [applyProfile]
theorem execPowerProfile_kept (h : Hdr) (p : Bytes) (s : State) (t : State) (ht : execPowerProfile h p s = .next t) : t.kept = s.kept :=
  by
  unfold execPowerProfile at ht
  exact command_kept _ _ _ _ _ _ _ _ (fun _ => by simp) _ ht
theorem execKeepRead_kept (h : Hdr) (p : Bytes) (s : State) (t : State) (ht : execKeepRead h p s = .next t) : t.kept = s.kept :=
  by
  unfold execKeepRead at ht
  exact command_kept _ _ _ _ _ _ _ _ (fun _ => by simp) _ ht
@[simp] theorem writeUsers_kept (l : List (ℕ × U32)) (s : State) : (writeUsers l s).kept = s.kept :=
  by simp [writeUsers]
theorem execKeepWrite_kept (h : Hdr) (p : Bytes) (s : State) (t : State) (ht : execKeepWrite h p s = .next t) : t.kept = s.kept :=
  by
  unfold execKeepWrite at ht
  exact command_kept _ _ _ _ _ _ _ _ (fun _ => by simp) _ ht
theorem execFaultExport_kept (h : Hdr) (p : Bytes) (s : State) (t : State) (ht : execFaultExport h p s = .next t) : t.kept = s.kept :=
  by
  unfold execFaultExport at ht
  refine romCommand_kept _ _ _ _ _ _ (fun x => ?_) _ ht
  generalize List.replicate 3072 (0 : BitVec 8) = z
  split
  · simp
  · rw [complete_kept, deliverData_kept]
theorem execFwInstall_kept (h : Hdr) (p : Bytes) (image : Option Bytes) (s : State) (t : State) (ht : execFwInstall h p image s = .next t) : t.kept = s.kept :=
  by
  unfold execFwInstall at ht
  refine command_kept _ _ _ _ _ _ _ _ (fun _ => ?_) _ ht
  dsimp only
  (repeat' split) <;> simp
theorem execDeviceReset_kept (h : Hdr) (p : Bytes) (s : State) (t : State) (ht : execDeviceReset h p s = .next t) : t.kept = s.kept :=
  by
  unfold execDeviceReset at ht
  exact command_kept _ _ _ _ _ _ _ _ (fun _ => by simp) _ ht
@[simp] theorem installImage_kept (image : Bytes) (activate : Bool) (s : State) : (installImage image activate s).kept = s.kept :=
  by simp [installImage]
theorem execFlashOperationDone_kept (ok : Bool) (s : State) (t : State) (ht : execFlashOperationDone ok s = .next t) : t.kept = s.kept :=
  by
  simp only [execFlashOperationDone, Host.Outcome.next.injEq] at ht
  subst ht
  (repeat' split) <;> simp
theorem execCountersSnapshot_kept (h : Hdr) (p : Bytes) (s : State) (t : State) (ht : execCountersSnapshot h p s = .next t) : t.kept = s.kept :=
  by
  unfold execCountersSnapshot at ht
  exact command_kept _ _ _ _ _ _ _ _ (fun _ => by simp) _ ht
theorem execTestChallenge_kept (h : Hdr) (x1 : Bytes) (s : State) (t : State) (ht : execTestChallenge h x1 s = .next t) : t.kept = s.kept :=
  by
  unfold execTestChallenge at ht
  exact command_kept _ _ _ _ _ _ _ _ (fun _ => by simp) _ ht
@[simp] theorem clearOnChip_kept (s : State) : (clearOnChip s).kept = s.kept :=
  by simp [clearOnChip]
@[simp] theorem clearDramTasks_kept (s : State) : (clearDramTasks s).kept = s.kept :=
  by simp [clearDramTasks]
theorem execTestUnlock_kept (h : Hdr) (p : Bytes) (s : State) (t : State) (ht : execTestUnlock h p s = .next t) : t.kept = s.kept :=
  by
  unfold execTestUnlock at ht
  exact command_kept _ _ _ _ _ _ _ _ (fun _ => by simp) _ ht
@[simp] theorem stopFlash_kept (e : Staged) (s : State) : (stopFlash e s).kept = s.kept :=
  by simp [stopFlash]
@[simp] theorem dropPower_kept (h : Hdr) (k : ℕ) (s : State) : (dropPower h k s).kept = s.kept :=
  by simp [dropPower]
@[simp] theorem dropOps_kept (h : Hdr) (s : State) : (dropOps h s).kept = s.kept :=
  by simp [dropOps]
@[simp] theorem dropForming_kept (h : Hdr) (s : State) : (dropForming h s).kept = s.kept :=
  by fun_cases dropForming h s <;> simp
@[simp] theorem stopCommand_kept (h : Hdr) (s : State) : (stopCommand h s).kept = s.kept :=
  by
  simp only [stopCommand]
  (repeat' split) <;> simp
@[simp] theorem partialWrite_kept (h : Hdr) (op : ℕ) (p : Bytes) (s : State) : (partialWrite h op p s).2.kept = s.kept :=
  by
  simp only [partialWrite]
  (repeat' split) <;> simp
theorem execCommandBoundTimeout_kept (ring : ℕ) (tag : U16) (s : State) (t : State) (ht : execCommandBoundTimeout ring tag s = .next t) : t.kept = s.kept :=
  by
  simp only [execCommandBoundTimeout, Host.Outcome.next.injEq] at ht
  subst ht
  (repeat' split) <;> simp

end Sys2Proof.Machine
end

