-- ==== Sys2Proof/Laws/KeptUnits.lean ====
section
/-! SUPPORT. What the registers, the cores, the camera front, the fabric and the pack leave alone: the queue, the programmed bits of OTP and the fuses. -/
set_option linter.unusedVariables false
namespace Sys2Proof.Machine

/-! Machine/Registers.lean -/

@[simp] theorem writeRing_kept (n : ℕ) (o : ℕ) (v : U32) (s : State) : (writeRing n o v s).kept = s.kept :=
  by fun_cases writeRing n o v s <;> simp
@[simp] theorem writeEvq_kept (o : ℕ) (v : U32) (s : State) : (writeEvq o v s).kept = s.kept :=
  by
  have key : ∀ q : Evq, ({ s with evq := q } : State).kept = s.kept := fun _ => rfl
  unfold writeEvq
  extract_lets q x
  (repeat' split) <;> first | with_reducible rfl | (extract_lets a; split <;> first | with_reducible rfl | exact key _) | exact key _
@[simp] theorem writeGlb_kept (o : ℕ) (v : U32) (s : State) : (writeGlb o v s).kept = s.kept :=
  by
  have key : ∀ (a : U64) (b c : U32), ({ s with glb := { s.glb with bootAddr := a, bootLen := b, scratch := c } } : State).kept = s.kept :=
    fun _ _ _ => rfl
  unfold writeGlb
  extract_lets wait
  (repeat' split) <;> first | with_reducible rfl | exact key _ _ _
@[simp] theorem strayWrite_kept (s : State) : (strayWrite s).kept = s.kept :=
  by simp [strayWrite]
theorem execRegisterWrite_kept (t : RegTarget) (value : U32) (s : State) (tt : State) (ht : execRegisterWrite t value s = .next tt) : tt.kept = s.kept :=
  by
  simp only [execRegisterWrite, Host.Outcome.next.injEq] at ht
  subst ht
  (repeat' split) <;> simp
@[simp] theorem pcieDown_kept (s : State) : (pcieDown s).kept = s.kept :=
  by simp [pcieDown]
theorem execPcieLinkDown_kept (s : State) (t : State) (ht : execPcieLinkDown s = .next t) : t.kept = s.kept :=
  by
  simp only [execPcieLinkDown, Host.Outcome.next.injEq] at ht
  subst ht
  simp
theorem execPcieLinkUp_kept (s : State) (t : State) (ht : execPcieLinkUp s = .next t) : t.kept = s.kept :=
  by
  simp only [execPcieLinkUp, Host.Outcome.next.injEq] at ht
  subst ht
  simp
theorem execPciePerstNAssert_kept (s : State) (t : State) (ht : execPciePerstNAssert s = .next t) : t.kept = s.kept :=
  by
  simp only [execPciePerstNAssert, Host.Outcome.next.injEq] at ht
  subst ht
  simp
theorem execPciePerstNRelease_kept (s : State) (t : State) (ht : execPciePerstNRelease s = .next t) : t.kept = s.kept :=
  by
  simp only [execPciePerstNRelease, Host.Outcome.next.injEq] at ht
  subst ht
  simp
@[simp] theorem emptyBacklog_kept (s : State) : (emptyBacklog s).kept = s.kept :=
  by simp [emptyBacklog]
@[simp] theorem announceEject_kept (pos : ℕ) (cause : ℕ) (targets : List ℕ) (s : State) : (announceEject pos cause targets s).kept = s.kept :=
  by simp [announceEject]
@[simp] theorem dissolvePack_kept (s : State) : (dissolvePack s).kept = s.kept :=
  by simp [dissolvePack]
@[simp] theorem forgetCommands_kept (s : State) : (forgetCommands s).kept = s.kept :=
  by simp [forgetCommands]
@[simp] theorem flrPack_kept (s : State) : (flrPack s).kept = s.kept :=
  by fun_cases flrPack s <;> simp
@[simp] theorem flrTasks_kept (s : State) : (flrTasks s).kept = s.kept :=
  by simp [flrTasks]
theorem execFlr_kept (s : State) (t : State) (ht : execFlr s = .next t) : t.kept = s.kept :=
  by
  simp only [execFlr, Host.Outcome.next.injEq] at ht
  subst ht
  simp
theorem execBusMasterEnableClear_kept (s : State) (t : State) (ht : execBusMasterEnableClear s = .next t) : t.kept = s.kept :=
  by
  simp only [execBusMasterEnableClear, Host.Outcome.next.injEq] at ht
  subst ht
  simp
theorem execD3hotEntry_kept (s : State) (t : State) (ht : execD3hotEntry s = .next t) : t.kept = s.kept :=
  by
  simp only [execD3hotEntry, Host.Outcome.next.injEq] at ht
  subst ht
  simp
theorem execD3hotExit_kept (s : State) (t : State) (ht : execD3hotExit s = .next t) : t.kept = s.kept :=
  by
  simp only [execD3hotExit, Host.Outcome.next.injEq] at ht
  subst ht
  simp
theorem execPoisonedTlpWrite_kept (x0 : ℕ) (s : State) (t : State) (ht : execPoisonedTlpWrite x0 s = .next t) : t.kept = s.kept :=
  by
  simp only [execPoisonedTlpWrite, Host.Outcome.next.injEq] at ht
  subst ht
  simp
theorem execTimeNowLoRead_kept (s : State) (t : State) (ht : execTimeNowLoRead s = .next t) : t.kept = s.kept :=
  by
  simp only [execTimeNowLoRead, Host.Outcome.next.injEq] at ht
  subst ht
  simp
theorem execTimeCapture_kept (s : State) (t : State) (ht : execTimeCapture s = .next t) : t.kept = s.kept :=
  by
  simp only [execTimeCapture, Host.Outcome.next.injEq] at ht
  subst ht
  simp
@[simp] theorem queueKeep_kept (w : KeepWrite) (s : State) : (queueKeep w s).kept = s.kept :=
  by simp [queueKeep]
theorem execKeepwUserWrite_kept (word : ℕ) (value : U32) (s : State) (t : State) (ht : execKeepwUserWrite word value s = .next t) : t.kept = s.kept :=
  by
  simp only [execKeepwUserWrite, Host.Outcome.next.injEq] at ht
  subst ht
  simp
theorem execKeepwSetWrite_kept (word : ℕ) (value : U32) (s : State) (t : State) (ht : execKeepwSetWrite word value s = .next t) : t.kept = s.kept :=
  by
  simp only [execKeepwSetWrite, Host.Outcome.next.injEq] at ht
  subst ht
  simp
theorem execKeepwQueueEntry_kept (s : State) (t : State) (ht : execKeepwQueueEntry s = .next t) : t.kept = s.kept :=
  by
  simp only [execKeepwQueueEntry, Host.Outcome.next.injEq] at ht
  subst ht
  (repeat' split) <;> simp
theorem execPerfLatch_kept (value : U32) (s : State) (t : State) (ht : execPerfLatch value s = .next t) : t.kept = s.kept :=
  by
  simp only [execPerfLatch, Host.Outcome.next.injEq] at ht
  subst ht
  simp
theorem execPerfLatchDone_kept (s : State) (t : State) (ht : execPerfLatchDone s = .next t) : t.kept = s.kept :=
  by
  simp only [execPerfLatchDone, Host.Outcome.next.injEq] at ht
  subst ht
  simp

/-! Machine/Scu.lean -/

@[simp] theorem scuResult_kept (op : ScuOp) (a : U32) (b : U32) (s : State) : (scuResult op a b s).2.kept = s.kept :=
  by
  simp only [scuResult]
  (repeat' split) <;> simp
theorem execScuArithmetic_kept (core : ℕ) (op : ScuOp) (rd : ℕ) (rs : ℕ) (arg : ScuArg) (s : State) (t : State) (ht : execScuArithmetic core op rd rs arg s = .next t) : t.kept = s.kept :=
  by
  simp only [execScuArithmetic, Host.Outcome.next.injEq] at ht
  subst ht
  simp
theorem execScuBranch_kept (core : ℕ) (cond : ScuCond) (a : ℕ) (b : ℕ) (offset : ℤ) (s : State) (t : State) (ht : execScuBranch core cond a b offset s = .next t) : t.kept = s.kept :=
  by
  simp only [execScuBranch, Host.Outcome.next.injEq] at ht
  subst ht
  simp
@[simp] theorem countNarrow_kept (c : ℕ) (g : ℕ) (deferred : Bool) (s : State) : (countNarrow c g deferred s).kept = s.kept :=
  by simp [countNarrow]
theorem execScuLoad_kept (core : ℕ) (rd : ℕ) (rs : ℕ) (offset : ℤ) (width : Width) (errors : List ReadError) (s : State) (t : State) (ht : execScuLoad core rd rs offset width errors s = .next t) : t.kept = s.kept :=
  by
  simp only [execScuLoad, Host.Outcome.next.injEq] at ht
  subst ht
  (repeat' split) <;> simp
@[simp] theorem serveLoad_kept (c : ℕ) (l : NarrowLoad) (s : State) : (serveLoad c l s).kept = s.kept :=
  by
  simp only [serveLoad]
  (repeat' split) <;> simp
@[simp] theorem settleFence_kept (c : ℕ) (s : State) : (settleFence c s).kept = s.kept :=
  by simp [settleFence]
theorem execScuLoadReturn_kept (core : ℕ) (rd : ℕ) (s : State) (t : State) (ht : execScuLoadReturn core rd s = .next t) : t.kept = s.kept :=
  by
  simp only [execScuLoadReturn, Host.Outcome.next.injEq] at ht
  subst ht
  (repeat' split) <;> simp
theorem execScuStore_kept (core : ℕ) (rs : ℕ) (rb : ℕ) (offset : ℤ) (width : Width) (s : State) (t : State) (ht : execScuStore core rs rb offset width s = .next t) : t.kept = s.kept :=
  by
  simp only [execScuStore, Host.Outcome.next.injEq] at ht
  subst ht
  (repeat' split) <;> simp
@[simp] theorem completeStore_kept (c : ℕ) (st : NarrowStore) (s : State) : (completeStore c st s).kept = s.kept :=
  by
  simp only [completeStore]
  (repeat' split) <;> simp
theorem execScuStoreComplete_kept (core : ℕ) (index : ℕ) (s : State) (t : State) (ht : execScuStoreComplete core index s = .next t) : t.kept = s.kept :=
  by
  simp only [execScuStoreComplete, Host.Outcome.next.injEq] at ht
  subst ht
  (repeat' split) <;> simp
theorem execNarrowWaitTimeout_kept (core : ℕ) (reg : ℕ) (s : State) (t : State) (ht : execNarrowWaitTimeout core reg s = .next t) : t.kept = s.kept :=
  by
  simp only [execNarrowWaitTimeout, Host.Outcome.next.injEq] at ht
  subst ht
  (repeat' split) <;> simp
@[simp] theorem releaseNarrow_kept (c : ℕ) (g : ℕ) (s : State) : (releaseNarrow c g s).kept = s.kept :=
  by simp [releaseNarrow]
theorem execNarrowWindowRollover_kept (core : ℕ) (group : ℕ) (s : State) (t : State) (ht : execNarrowWindowRollover core group s = .next t) : t.kept = s.kept :=
  by
  simp only [execNarrowWindowRollover, Host.Outcome.next.injEq] at ht
  subst ht
  simp
@[simp] theorem flushStores_kept (c : ℕ) (s : State) : (flushStores c s).kept = s.kept :=
  by simp [flushStores]
theorem queueEntry_kept (c : ℕ) (rs : ℕ) (s : State) (d : Bytes) (t : State) (ht : queueEntry c rs s = .ok (d, t)) : t.kept = s.kept :=
  by
  unfold queueEntry at ht
  dsimp only at ht
  split at ht
  · cases ht
  · rename_i l _
    have h := readPlaces_kept c l s
    simp only [Except.ok.injEq] at ht
    rw [ht] at h
    exact h
theorem execFq_kept (core : ℕ) (rs : ℕ) (s : State) (t : State) (ht : execFq core rs s = .next t) : t.kept = s.kept :=
  by
  simp only [execFq, Host.Outcome.next.injEq] at ht
  subst ht
  (repeat' split) <;> first
    | (simp; done)
    | (simp; exact (queueEntry_kept _ _ _ _ _ (by with_reducible assumption)).trans (by simp))
theorem execXq_kept (core : ℕ) (rs : ℕ) (s : State) (t : State) (ht : execXq core rs s = .next t) : t.kept = s.kept :=
  by
  simp only [execXq, Host.Outcome.next.injEq] at ht
  subst ht
  (repeat' split) <;> first
    | (simp; done)
    | (simp; exact (queueEntry_kept _ _ _ _ _ (by with_reducible assumption)).trans (by simp))
theorem execTwait_kept (core : ℕ) (queue : ℕ) (rs : ℕ) (s : State) (t : State) (ht : execTwait core queue rs s = .next t) : t.kept = s.kept :=
  by
  simp only [execTwait, Host.Outcome.next.injEq] at ht
  subst ht
  simp
theorem execQstat_kept (core : ℕ) (rd : ℕ) (s : State) (t : State) (ht : execQstat core rd s = .next t) : t.kept = s.kept :=
  by
  simp only [execQstat, Host.Outcome.next.injEq] at ht
  subst ht
  simp
theorem execFenceFull_kept (core : ℕ) (s : State) (t : State) (ht : execFenceFull core s = .next t) : t.kept = s.kept :=
  by
  simp only [execFenceFull, Host.Outcome.next.injEq] at ht
  subst ht
  simp
theorem execFenceRemote_kept (core : ℕ) (s : State) (t : State) (ht : execFenceRemote core s = .next t) : t.kept = s.kept :=
  by
  simp only [execFenceRemote, Host.Outcome.next.injEq] at ht
  subst ht
  simp
theorem execCsrr_kept (core : ℕ) (rd : ℕ) (r : CoreReg) (s : State) (t : State) (ht : execCsrr core rd r s = .next t) : t.kept = s.kept :=
  by
  simp only [execCsrr, Host.Outcome.next.injEq] at ht
  subst ht
  simp
theorem execCsrw_kept (core : ℕ) (rs : ℕ) (r : CoreReg) (s : State) (t : State) (ht : execCsrw core rs r s = .next t) : t.kept = s.kept :=
  by
  simp only [execCsrw, Host.Outcome.next.injEq] at ht
  subst ht
  simp
theorem execEvt_kept (core : ℕ) (code : ℕ) (s : State) (t : State) (ht : execEvt core code s = .next t) : t.kept = s.kept :=
  by
  simp only [execEvt, Host.Outcome.next.injEq] at ht
  subst ht
  simp
theorem execTrap_kept (core : ℕ) (code : ℕ) (s : State) (t : State) (ht : execTrap core code s = .next t) : t.kept = s.kept :=
  by
  simp only [execTrap, Host.Outcome.next.injEq] at ht
  subst ht
  simp
@[simp] theorem streamRunDone_kept (sc : ℕ) (c : ℕ) (s : State) : (streamRunDone sc c s).kept = s.kept :=
  by simp [streamRunDone]
@[simp] theorem jobRunDone_kept (j : ℕ) (c : ℕ) (s : State) : (jobRunDone j c s).kept = s.kept :=
  by simp [jobRunDone]
theorem execDone_kept (core : ℕ) (s : State) (t : State) (ht : execDone core s = .next t) : t.kept = s.kept :=
  by
  simp only [execDone, Host.Outcome.next.injEq] at ht
  subst ht
  (repeat' split) <;> simp
theorem execCoreWatchdog_kept (core : ℕ) (executor : Bool) (s : State) (t : State) (ht : execCoreWatchdog core executor s = .next t) : t.kept = s.kept :=
  by
  simp only [execCoreWatchdog, Host.Outcome.next.injEq] at ht
  subst ht
  simp

/-! Machine/Windows.lean -/

@[simp] theorem bar2Stray_kept (isRead : Bool) (n : ℕ) (s : State) : (bar2Stray isRead n s).kept = s.kept :=
  by simp [bar2Stray]
theorem execBar2Read_kept (offset : ℕ) (len : ℕ) (errors : List ReadError) (s : State) (t : State) (ht : execBar2Read offset len errors s = .next t) : t.kept = s.kept :=
  by
  simp only [execBar2Read, Host.Outcome.next.injEq] at ht
  subst ht
  (repeat' split) <;> simp
@[simp] theorem putOutside_kept (m : Mem) (a : ℕ) (b : Bytes) (s : State) : (putOutside m a b s).kept = s.kept :=
  by fun_cases putOutside m a b s <;> simp
theorem execBar2Write_kept (offset : ℕ) (data : Bytes) (s : State) (t : State) (ht : execBar2Write offset data s = .next t) : t.kept = s.kept :=
  by
  simp only [execBar2Write, Host.Outcome.next.injEq] at ht
  subst ht
  (repeat' split) <;> simp
theorem execBar2StrayAccess_kept (isRead : Bool) (len : ℕ) (s : State) (t : State) (ht : execBar2StrayAccess isRead len s = .next t) : t.kept = s.kept :=
  by
  simp only [execBar2StrayAccess, Host.Outcome.next.injEq] at ht
  subst ht
  simp
@[simp] theorem debugBytes_kept (p : Bytes) (errors : List ReadError) (s : State) : (debugBytes p errors s).2.2.kept = s.kept :=
  by
  simp only [debugBytes]
  (repeat' split) <;> simp
@[simp] theorem debugDone_kept (h : Hdr) (dest : ℕ) (st : Status) (b : Bytes) (s : State) : (debugDone h dest st b s).kept = s.kept :=
  by simp [debugDone]
theorem execDebugRead_kept (h : Hdr) (p : Bytes) (errors : List ReadError) (s : State) (t : State) (ht : execDebugRead h p errors s = .next t) : t.kept = s.kept :=
  by
  unfold execDebugRead at ht
  exact command_kept _ _ _ _ _ _ _ _ (fun _ => by simp) _ ht

/-! Machine/Boot.lean -/

theorem execPowerOn_kept (s : State) (t : State) (ht : execPowerOn s = .next t) : t.kept = s.kept :=
  by
  simp only [execPowerOn, Host.Outcome.next.injEq] at ht
  subst ht
  simp
theorem execPowerLoss_kept (s : State) (t : State) (ht : execPowerLoss s = .next t) : t.kept = s.kept :=
  by
  simp only [execPowerLoss, Host.Outcome.next.injEq] at ht
  subst ht
  simp
theorem execPorstNAssert_kept (lowUs : ℕ) (s : State) (t : State) (ht : execPorstNAssert lowUs s = .next t) : t.kept = s.kept :=
  by
  unfold execPorstNAssert at ht
  (repeat' split at ht) <;> first
    | (cases ht; done)
    | (simp only [Host.Outcome.next.injEq] at ht; subst ht; simp)
theorem execPorstNRise_kept (b : BootPins) (s : State) (t : State) (ht : execPorstNRise b s = .next t) : t.kept = s.kept :=
  by
  simp only [execPorstNRise, Host.Outcome.next.injEq] at ht
  subst ht
  simp
theorem execShepherdStart_kept (s : State) (t : State) (ht : execShepherdStart s = .next t) : t.kept = s.kept :=
  by
  simp only [execShepherdStart, Host.Outcome.next.injEq] at ht
  subst ht
  simp
@[simp] theorem restart_kept (cause : ℕ) (kind : ℕ) (s : State) : (restart cause kind s).kept = s.kept :=
  by simp [restart]
theorem execShepherdWatchdog_kept (s : State) (t : State) (ht : execShepherdWatchdog s = .next t) : t.kept = s.kept :=
  by
  simp only [execShepherdWatchdog, Host.Outcome.next.injEq] at ht
  subst ht
  simp
theorem execLockstepMismatch_kept (s : State) (t : State) (ht : execLockstepMismatch s = .next t) : t.kept = s.kept :=
  by
  simp only [execLockstepMismatch, Host.Outcome.next.injEq] at ht
  subst ht
  simp
theorem execHeartbeatTick_kept (s : State) (t : State) (ht : execHeartbeatTick s = .next t) : t.kept = s.kept :=
  by
  simp only [execHeartbeatTick, Host.Outcome.next.injEq] at ht
  subst ht
  simp
theorem execKeepSecondsTick_kept (s : State) (t : State) (ht : execKeepSecondsTick s = .next t) : t.kept = s.kept :=
  by
  simp only [execKeepSecondsTick, Host.Outcome.next.injEq] at ht
  subst ht
  simp
theorem execXtal32kLoss_kept (s : State) (t : State) (ht : execXtal32kLoss s = .next t) : t.kept = s.kept :=
  by
  simp only [execXtal32kLoss, Host.Outcome.next.injEq] at ht
  subst ht
  simp
theorem execXtal32kRestored_kept (s : State) (t : State) (ht : execXtal32kRestored s = .next t) : t.kept = s.kept :=
  by
  simp only [execXtal32kRestored, Host.Outcome.next.injEq] at ht
  subst ht
  simp
theorem execKeepSupplySwitch_kept (toIo : Bool) (s : State) (t : State) (ht : execKeepSupplySwitch toIo s = .next t) : t.kept = s.kept :=
  by
  simp only [execKeepSupplySwitch, Host.Outcome.next.injEq] at ht
  subst ht
  simp
theorem execKeepDomainReset_kept (s : State) (t : State) (ht : execKeepDomainReset s = .next t) : t.kept = s.kept :=
  by
  simp only [execKeepDomainReset, Host.Outcome.next.injEq] at ht
  subst ht
  simp
theorem execVbatReversalLatch_kept (s : State) (t : State) (ht : execVbatReversalLatch s = .next t) : t.kept = s.kept :=
  by
  simp only [execVbatReversalLatch, Host.Outcome.next.injEq] at ht
  subst ht
  simp
theorem execVbatValid_kept (s : State) (t : State) (ht : execVbatValid s = .next t) : t.kept = s.kept :=
  by
  simp only [execVbatValid, Host.Outcome.next.injEq] at ht
  subst ht
  simp
theorem execGlbBootGo_kept (s : State) (t : State) (ht : execGlbBootGo s = .next t) : t.kept = s.kept :=
  by
  simp only [execGlbBootGo, Host.Outcome.next.injEq] at ht
  subst ht
  simp
theorem execHostDownloadDone_kept (image : Option Bytes) (s : State) (t : State) (ht : execHostDownloadDone image s = .next t) : t.kept = s.kept :=
  by
  simp only [execHostDownloadDone, Host.Outcome.next.injEq] at ht
  subst ht
  (repeat' split) <;> simp
theorem execJtagAccess_kept (j : Jtag) (s : State) (t : State) (ht : execJtagAccess j s = .next t) : t.kept = s.kept :=
  by
  simp only [execJtagAccess, Host.Outcome.next.injEq] at ht
  subst ht
  (repeat' split) <;> simp

/-! Machine/CameraCmd.lean -/

theorem execCsiConfig_kept (h : Hdr) (p : Bytes) (s : State) (t : State) (ht : execCsiConfig h p s = .next t) : t.kept = s.kept :=
  by
  unfold execCsiConfig at ht
  exact command_kept _ _ _ _ _ _ _ _ (fun _ => by simp) _ ht
theorem execSensorProfileLoad_kept (h : Hdr) (p : Bytes) (s : State) (t : State) (ht : execSensorProfileLoad h p s = .next t) : t.kept = s.kept :=
  by
  unfold execSensorProfileLoad at ht
  exact command_kept _ _ _ _ _ _ _ _ (fun _ => by simp) _ ht
@[simp] theorem announceSuperseded_kept (sc : ℕ) (by_ : U16) (l : List Exposure) (s : State) : (announceSuperseded sc by_ l s).kept = s.kept :=
  by simp [announceSuperseded]
theorem execSetExposure_kept (h : Hdr) (p : Bytes) (s : State) (t : State) (ht : execSetExposure h p s = .next t) : t.kept = s.kept :=
  by
  unfold execSetExposure at ht
  exact command_kept _ _ _ _ _ _ _ _ (fun _ => by simp) _ ht
@[simp] theorem sourceCommand_kept (op : ℕ) (h : Hdr) (src : ℕ) (c : Change) (s : State) : (sourceCommand op h src c s).kept = s.kept :=
  by fun_cases sourceCommand op h src c s <;> simp
theorem execRfeSet_kept (h : Hdr) (p : Bytes) (s : State) (t : State) (ht : execRfeSet h p s = .next t) : t.kept = s.kept :=
  by
  unfold execRfeSet at ht
  exact command_kept _ _ _ _ _ _ _ _ (fun _ => by simp) _ ht
theorem execIrledSet_kept (h : Hdr) (p : Bytes) (s : State) (t : State) (ht : execIrledSet h p s = .next t) : t.kept = s.kept :=
  by
  unfold execIrledSet at ht
  exact command_kept _ _ _ _ _ _ _ _ (fun _ => by simp) _ ht
theorem execFsyncSet_kept (h : Hdr) (p : Bytes) (s : State) (t : State) (ht : execFsyncSet h p s = .next t) : t.kept = s.kept :=
  by
  unfold execFsyncSet at ht
  exact command_kept _ _ _ _ _ _ _ _ (fun _ => by simp) _ ht
theorem execSensorPower_kept (h : Hdr) (p : Bytes) (s : State) (t : State) (ht : execSensorPower h p s = .next t) : t.kept = s.kept :=
  by
  unfold execSensorPower at ht
  exact command_kept _ _ _ _ _ _ _ _ (fun _ => by simp) _ ht
@[simp] theorem startXfer_kept (bus : ℕ) (t : Xfer) (s : State) : (startXfer bus t s).kept = s.kept :=
  by simp [startXfer]
@[simp] theorem xferData_kept (t : Xfer) (result : ℕ) (data : Bytes) (s : State) : (xferData t result data s).kept = s.kept :=
  by simp [xferData]
@[simp] theorem retryXfer_kept (bus : ℕ) (t : Xfer) (s : State) : (retryXfer bus t s).kept = s.kept :=
  by simp [retryXfer]
theorem execSctlXfer_kept (h : Hdr) (p : Bytes) (result : ℕ) (nak : ℕ) (data : Bytes) (s : State) (t : State) (ht : execSctlXfer h p result nak data s = .next t) : t.kept = s.kept :=
  by
  unfold execSctlXfer at ht
  exact command_kept _ _ _ _ _ _ _ _ (fun _ => by simp) _ ht

/-! Machine/Camera.lean -/

@[simp] theorem announceAccept_kept (sc : ℕ) (s : State) : (announceAccept sc s).kept = s.kept :=
  by simp [announceAccept]
theorem execHostFrameAccept_kept (sc : ℕ) (picture : ℕ) (s : State) (t : State) (ht : execHostFrameAccept sc picture s = .next t) : t.kept = s.kept :=
  by
  simp only [execHostFrameAccept, Host.Outcome.next.injEq] at ht
  subst ht
  (repeat' split) <;> simp
@[simp] theorem countCsi_kept (k : ℕ) (vc : ℕ) (c : CsiCount) (s : State) : (countCsi k vc c s).kept = s.kept :=
  by simp [countCsi]
@[simp] theorem csiError_kept (k : ℕ) (vc : ℕ) (sensorFrame : ℕ) (s : State) : (csiError k vc sensorFrame s).kept = s.kept :=
  by simp [csiError]
@[simp] theorem burstsGood_kept (k : ℕ) (s : State) : (burstsGood k s).kept = s.kept :=
  by simp [burstsGood]
theorem execCsiHsBurst_kept (port : ℕ) (started : ℕ) (inverted : ℕ) (order : Option ℕ) (s : State) (t : State) (ht : execCsiHsBurst port started inverted order s = .next t) : t.kept = s.kept :=
  by
  simp only [execCsiHsBurst, Host.Outcome.next.injEq] at ht
  subst ht
  (repeat' split) <;> simp
theorem execDeskewSequence_kept (port : ℕ) (delays : List ℕ) (s : State) (t : State) (ht : execDeskewSequence port delays s = .next t) : t.kept = s.kept :=
  by
  simp only [execDeskewSequence, Host.Outcome.next.injEq] at ht
  subst ht
  simp
theorem execDeskewTimeout_kept (port : ℕ) (s : State) (t : State) (ht : execDeskewTimeout port s = .next t) : t.kept = s.kept :=
  by
  simp only [execDeskewTimeout, Host.Outcome.next.injEq] at ht
  subst ht
  (repeat' split) <;> simp
theorem execClockLostTimeout_kept (port : ℕ) (s : State) (t : State) (ht : execClockLostTimeout port s = .next t) : t.kept = s.kept :=
  by
  simp only [execClockLostTimeout, Host.Outcome.next.injEq] at ht
  subst ht
  simp
@[simp] theorem raiseCounters_kept (sc : ℕ) (frame : U32) (n : ℕ) (final : Bool) (s : State) : (raiseCounters sc frame n final s).kept = s.kept :=
  by fun_cases raiseCounters sc frame n final s <;> simp
@[simp] theorem putInputRow_kept (sc : ℕ) (n : U32) (f : OpenFrame) (r : List ℕ) (s : State) : (putInputRow sc n f r s).kept = s.kept :=
  by
  simp only [putInputRow]
  (repeat' split) <;> simp
@[simp] theorem pushRows_kept (sc : ℕ) (n : U32) (final : Bool) (x3 : ℕ) (x4 : OpenFrame) (x5 : State) : (pushRows sc n final x3 x4 x5).2.kept = x5.kept :=
  by
  induction x3 generalizing x4 x5 with
  | zero => simp [pushRows]
  | succ n ih =>
    rw [pushRows]
    generalize nextRow x4 x5.drawn final = o
    cases o with
    | none => rfl
    | some r => dsimp only; rw [ih]; split <;> simp
@[simp] theorem flagInput_kept (sc : ℕ) (n : U32) (fl : FFlag) (s : State) : (flagInput sc n fl s).kept = s.kept :=
  by simp [flagInput]
@[simp] theorem stopWork_kept (sc : ℕ) (n : U32) (s : State) : (stopWork sc n s).kept = s.kept :=
  by simp [stopWork]
@[simp] theorem dropShort_kept (sc : ℕ) (n : U32) (sensorFrame : ℕ) (s : State) : (dropShort sc n sensorFrame s).kept = s.kept :=
  by simp [dropShort]
@[simp] theorem endFrame_kept (k : ℕ) (vc : ℕ) (s : State) : (endFrame k vc s).kept = s.kept :=
  by
  simp only [endFrame]
  (repeat' split) <;> simp
theorem execCsiFrameEnd_kept (port : ℕ) (vc : ℕ) (_sensorFrame : ℕ) (ecc : ℕ) (s : State) (t : State) (ht : execCsiFrameEnd port vc _sensorFrame ecc s = .next t) : t.kept = s.kept :=
  by
  simp only [execCsiFrameEnd, Host.Outcome.next.injEq] at ht
  subst ht
  simp
theorem execFrameEndTimeout_kept (port : ℕ) (vc : ℕ) (s : State) (t : State) (ht : execFrameEndTimeout port vc s = .next t) : t.kept = s.kept :=
  by
  simp only [execFrameEndTimeout, Host.Outcome.next.injEq] at ht
  subst ht
  (repeat' split) <;> simp
@[simp] theorem landExposures_kept (sc : ℕ) (n : U32) (s : State) : (landExposures sc n s).kept = s.kept :=
  by fun_cases landExposures sc n s <;> simp
@[simp] theorem routeAtStart_kept (src : ℕ) (s : State) : (routeAtStart src s).kept = s.kept :=
  by fun_cases routeAtStart src s <;> simp
@[simp] theorem routeFrame_kept (src : ℕ) (sensorFrame : ℕ) (s : State) : (routeFrame src sensorFrame s).2.kept = s.kept :=
  by
  simp only [routeFrame]
  (repeat' split) <;> simp
theorem execCsiFrameStart_kept (port : ℕ) (vc : ℕ) (sensorFrame : ℕ) (corrected lost : Bool) (s : State) (t : State) (ht : execCsiFrameStart port vc sensorFrame corrected lost s = .next t) : t.kept = s.kept :=
  by
  simp only [execCsiFrameStart, Host.Outcome.next.injEq] at ht
  subst ht
  simp
@[simp] theorem lineArrives_kept (src : ℕ) (f : OpenFrame) (payload : Option Bytes) (s : State) : (lineArrives src f payload s).kept = s.kept :=
  by
  simp only [lineArrives]
  (repeat' split) <;> simp
@[simp] theorem embedded_kept (src : ℕ) (f : OpenFrame) (payload : Bytes) (s : State) : (embedded src f payload s).kept = s.kept :=
  by simp [embedded]
@[simp] theorem lostLine_kept (port : ℕ) (vc : ℕ) (dataType : ℕ) (s : State) : (lostLine port vc dataType s).kept = s.kept :=
  by fun_cases lostLine port vc dataType s <;> simp
theorem execCsiLongPacket_kept (port : ℕ) (vc : ℕ) (dataType : ℕ) (ecc : ℕ) (crcOk : Bool) (payload : Bytes) (s : State) (t : State) (ht : execCsiLongPacket port vc dataType ecc crcOk payload s = .next t) : t.kept = s.kept :=
  by
  simp only [execCsiLongPacket, Host.Outcome.next.injEq] at ht
  subst ht
  (repeat' split) <;> simp
theorem execSourceLostTimeout_kept (sc : ℕ) (s : State) (t : State) (ht : execSourceLostTimeout sc s = .next t) : t.kept = s.kept :=
  by
  simp only [execSourceLostTimeout, Host.Outcome.next.injEq] at ht
  subst ht
  simp
@[simp] theorem freeNats_kept (bound : ℕ) (x1 : ℕ) (x2 : State) : (freeNats bound x1 x2).2.kept = x2.kept :=
  by
  induction x1 generalizing x2 with
  | zero => simp [freeNats]
  | succ n ih => rw [freeNats]; simp [ih]
@[simp] theorem exposureCodes_kept (f : OpenFrame) (s : State) : (exposureCodes f s).2.kept = s.kept :=
  by fun_cases exposureCodes f s <;> simp
theorem execStatsComplete_kept (port : ℕ) (vc : ℕ) (s : State) (t : State) (ht : execStatsComplete port vc s = .next t) : t.kept = s.kept :=
  by
  simp only [execStatsComplete, Host.Outcome.next.injEq] at ht
  subst ht
  (repeat' split) <;> simp
@[simp] theorem supersedeNow_kept (sc : ℕ) (l : ℕ) (s : State) : (supersedeNow sc l s).kept = s.kept :=
  by simp [supersedeNow]
@[simp] theorem onExposure_kept (sc : ℕ) (p : Exposure → Bool) (g : Exposure → Exposure) (s : State) : (onExposure sc p g s).kept = s.kept :=
  by fun_cases onExposure sc p g s <;> simp
theorem execExposureWriteWindow_kept (sc : ℕ) (edge : Option ℕ) (s : State) (t : State) (ht : execExposureWriteWindow sc edge s = .next t) : t.kept = s.kept :=
  by
  simp only [execExposureWriteWindow, Host.Outcome.next.injEq] at ht
  subst ht
  (repeat' split) <;> simp
theorem execExposureCommitAck_kept (sc : ℕ) (s : State) (t : State) (ht : execExposureCommitAck sc s = .next t) : t.kept = s.kept :=
  by
  simp only [execExposureCommitAck, Host.Outcome.next.injEq] at ht
  subst ht
  (repeat' split) <;> simp
theorem execExposureWindowClose_kept (sc : ℕ) (result : ℕ) (s : State) (t : State) (ht : execExposureWindowClose sc result s = .next t) : t.kept = s.kept :=
  by
  simp only [execExposureWindowClose, Host.Outcome.next.injEq] at ht
  subst ht
  (repeat' split) <;> simp
theorem execSctlXferDone_kept (bus : ℕ) (result : ℕ) (nak : ℕ) (data : Bytes) (s : State) (t : State) (ht : execSctlXferDone bus result nak data s = .next t) : t.kept = s.kept :=
  by
  simp only [execSctlXferDone, Host.Outcome.next.injEq] at ht
  subst ht
  (repeat' split) <;> simp
theorem execSctlStuckTimeout_kept (bus : ℕ) (sda : Bool) (scl : Bool) (released : Bool) (s : State) (t : State) (ht : execSctlStuckTimeout bus sda scl released s = .next t) : t.kept = s.kept :=
  by
  simp only [execSctlStuckTimeout, Host.Outcome.next.injEq] at ht
  subst ht
  (repeat' split) <;> simp
theorem execSctlBusRecovered_kept (bus : ℕ) (s : State) (t : State) (ht : execSctlBusRecovered bus s = .next t) : t.kept = s.kept :=
  by
  simp only [execSctlBusRecovered, Host.Outcome.next.injEq] at ht
  subst ht
  simp
theorem execIrledPulseStart_kept (channel : ℕ) (s : State) (t : State) (ht : execIrledPulseStart channel s = .next t) : t.kept = s.kept :=
  by
  simp only [execIrledPulseStart, Host.Outcome.next.injEq] at ht
  subst ht
  (repeat' split) <;> simp
theorem execIrledPulseEnd_kept (channel : ℕ) (s : State) (t : State) (ht : execIrledPulseEnd channel s = .next t) : t.kept = s.kept :=
  by
  simp only [execIrledPulseEnd, Host.Outcome.next.injEq] at ht
  subst ht
  (repeat' split) <;> simp
theorem execIrledFaultDetect_kept (channel : ℕ) (short : Bool) (s : State) (t : State) (ht : execIrledFaultDetect channel short s = .next t) : t.kept = s.kept :=
  by
  simp only [execIrledFaultDetect, Host.Outcome.next.injEq] at ht
  subst ht
  (repeat' split) <;> simp
@[simp] theorem fsyncPulse_kept (k : ℕ) (s : State) : (fsyncPulse k s).kept = s.kept :=
  by simp [fsyncPulse]
theorem execFsyncOutEdge_kept (k : ℕ) (s : State) (t : State) (ht : execFsyncOutEdge k s = .next t) : t.kept = s.kept :=
  by
  simp only [execFsyncOutEdge, Host.Outcome.next.injEq] at ht
  subst ht
  simp
theorem execFsyncInEdge_kept (k : ℕ) (s : State) (t : State) (ht : execFsyncInEdge k s = .next t) : t.kept = s.kept :=
  by
  simp only [execFsyncInEdge, Host.Outcome.next.injEq] at ht
  subst ht
  simp
@[simp] theorem powerAnswers_kept (l : List Hdr) (s : State) : (powerAnswers l s).kept = s.kept :=
  by simp [powerAnswers]
theorem execSensorPwrSettled_kept (k : ℕ) (s : State) (t : State) (ht : execSensorPwrSettled k s = .next t) : t.kept = s.kept :=
  by
  simp only [execSensorPwrSettled, Host.Outcome.next.injEq] at ht
  subst ht
  simp
theorem execSensorPwrOvercurrent_kept (k : ℕ) (s : State) (t : State) (ht : execSensorPwrOvercurrent k s = .next t) : t.kept = s.kept :=
  by
  simp only [execSensorPwrOvercurrent, Host.Outcome.next.injEq] at ht
  subst ht
  simp
theorem execSensorPwrRetry_kept (k : ℕ) (s : State) (t : State) (ht : execSensorPwrRetry k s = .next t) : t.kept = s.kept :=
  by
  simp only [execSensorPwrRetry, Host.Outcome.next.injEq] at ht
  subst ht
  (repeat' split) <;> simp
theorem execSensorPwrBackfeed_kept (k : ℕ) (s : State) (t : State) (ht : execSensorPwrBackfeed k s = .next t) : t.kept = s.kept :=
  by
  simp only [execSensorPwrBackfeed, Host.Outcome.next.injEq] at ht
  subst ht
  simp

/-! Machine/Dma.lean -/

@[simp] theorem fetchReadFailed_kept (c : ℕ) (id : ℕ) (s : State) : (fetchReadFailed c id s).kept = s.kept :=
  by
  simp only [fetchReadFailed]
  (repeat' split) <;> simp
@[simp] theorem readGivesUp_kept (r : DmaRead) (s : State) : (readGivesUp r s).kept = s.kept :=
  by
  simp only [readGivesUp]
  (repeat' split) <;> simp
@[simp] theorem readFailed_kept (r : DmaRead) (s : State) : (readFailed r s).kept = s.kept :=
  by simp [readFailed]
@[simp] theorem paramsArrived_kept (ring : ℕ) (tag : ℕ) (b : Bytes) (s : State) : (paramsArrived ring tag b s).kept = s.kept :=
  by fun_cases paramsArrived ring tag b s <;> simp
theorem execDmaReadCompletion_kept (id : ℕ) (data : Option Bytes) (s : State) (t : State) (ht : execDmaReadCompletion id data s = .next t) : t.kept = s.kept :=
  by
  simp only [execDmaReadCompletion, Host.Outcome.next.injEq] at ht
  subst ht
  (repeat' split) <;> simp
theorem execDmaReadTimeout_kept (id : ℕ) (s : State) (t : State) (ht : execDmaReadTimeout id s = .next t) : t.kept = s.kept :=
  by
  simp only [execDmaReadTimeout, Host.Outcome.next.injEq] at ht
  subst ht
  (repeat' split) <;> simp

/-! Machine/Fyx.lean -/

@[simp] theorem sendSet_kept (port : ℕ) (k : OsKind) (ack : Bool) (s : State) : (sendSet port k ack s).kept = s.kept :=
  by simp [sendSet]
@[simp] theorem startDetect_kept (port : ℕ) (s : State) : (startDetect port s).kept = s.kept :=
  by simp [startDetect]
@[simp] theorem alignLanes_kept (port : ℕ) (o : OrderedSet) (s : State) : (alignLanes port o s).kept = s.kept :=
  by simp [alignLanes]
@[simp] theorem resend_kept (port : ℕ) (s : State) : (resend port s).kept = s.kept :=
  by simp [resend]
@[simp] theorem linkUp_kept (port : ℕ) (s : State) : (linkUp port s).kept = s.kept :=
  by simp [linkUp]
@[simp] theorem configSet_kept (port : ℕ) (o : OrderedSet) (s : State) : (configSet port o s).kept = s.kept :=
  by simp [configSet]
@[simp] theorem startRecovery_kept (port : ℕ) (s : State) : (startRecovery port s).kept = s.kept :=
  by simp [startRecovery]
@[simp] theorem setArrives_kept (port : ℕ) (o : OrderedSet) (s : State) : (setArrives port o s).kept = s.kept :=
  by
  simp only [setArrives]
  (repeat' split) <;> simp
theorem execFyxOrderedSet_kept (port : ℕ) (lanes : List LaneBlock) (s : State) (t : State) (ht : execFyxOrderedSet port lanes s = .next t) : t.kept = s.kept :=
  by
  simp only [execFyxOrderedSet, Host.Outcome.next.injEq] at ht
  subst ht
  (repeat' split) <;> simp
theorem execFyxTrainingTimeout_kept (port : ℕ) (s : State) (t : State) (ht : execFyxTrainingTimeout port s = .next t) : t.kept = s.kept :=
  by
  simp only [execFyxTrainingTimeout, Host.Outcome.next.injEq] at ht
  subst ht
  simp
theorem execFyxDownRetryTimeout_kept (port : ℕ) (s : State) (t : State) (ht : execFyxDownRetryTimeout port s = .next t) : t.kept = s.kept :=
  by
  simp only [execFyxDownRetryTimeout, Host.Outcome.next.injEq] at ht
  subst ht
  simp
theorem execFyxLaneFaultDetect_kept (port : ℕ) (lanes : ℕ) (short : Bool) (s : State) (t : State) (ht : execFyxLaneFaultDetect port lanes short s = .next t) : t.kept = s.kept :=
  by
  simp only [execFyxLaneFaultDetect, Host.Outcome.next.injEq] at ht
  subst ht
  simp
@[simp] theorem takeAck_kept (port : ℕ) (ack : ℕ) (s : State) : (takeAck port ack s).kept = s.kept :=
  by simp [takeAck]
@[simp] theorem replay_kept (port : ℕ) (s : State) : (replay port s).kept = s.kept :=
  by simp [replay]
@[simp] theorem takeCredits_kept (port : ℕ) (cls : ℕ) (n : ℕ) (s : State) : (takeCredits port cls n s).kept = s.kept :=
  by simp [takeCredits]
@[simp] theorem packetArrived_kept (port : ℕ) (cls : ℕ) (k : Packet) (s : State) : (packetArrived port cls k s).kept = s.kept :=
  by simp [packetArrived]
@[simp] theorem takePayload_kept (port : ℕ) (f : Flit) (s : State) : (takePayload port f s).kept = s.kept :=
  by fun_cases takePayload port f s <;> simp
@[simp] theorem sendNak_kept (port : ℕ) (s : State) : (sendNak port s).kept = s.kept :=
  by simp [sendNak]
@[simp] theorem flitArrives_kept (port : ℕ) (f : Flit) (s : State) : (flitArrives port f s).kept = s.kept :=
  by simp [flitArrives]
theorem execFyxFlitReceived_kept (port : ℕ) (lanes : List LaneBlock) (s : State) (t : State) (ht : execFyxFlitReceived port lanes s = .next t) : t.kept = s.kept :=
  by
  simp only [execFyxFlitReceived, Host.Outcome.next.injEq] at ht
  subst ht
  (repeat' split) <;> simp
theorem execFyxIdleFlitTimer_kept (port : ℕ) (s : State) (t : State) (ht : execFyxIdleFlitTimer port s = .next t) : t.kept = s.kept :=
  by
  simp only [execFyxIdleFlitTimer, Host.Outcome.next.injEq] at ht
  subst ht
  simp
theorem execFyxReplayTimeout_kept (port : ℕ) (s : State) (t : State) (ht : execFyxReplayTimeout port s = .next t) : t.kept = s.kept :=
  by
  simp only [execFyxReplayTimeout, Host.Outcome.next.injEq] at ht
  subst ht
  simp

/-! Machine/MemHw.lean -/

theorem execScrubTick_kept (memory : ℕ) (core : ℕ) (bank : ℕ) (errors : List ScrubError) (s : State) (t : State) (ht : execScrubTick memory core bank errors s = .next t) : t.kept = s.kept :=
  by
  simp only [execScrubTick, Host.Outcome.next.injEq] at ht
  subst ht
  simp
theorem execUnitFillComplete_kept (unit : ℕ) (s : State) (t : State) (ht : execUnitFillComplete unit s = .next t) : t.kept = s.kept :=
  by
  simp only [execUnitFillComplete, Host.Outcome.next.injEq] at ht
  subst ht
  simp
theorem execKennelDomainReady_kept (d : ℕ) (s : State) (t : State) (ht : execKennelDomainReady d s = .next t) : t.kept = s.kept :=
  by
  simp only [execKennelDomainReady, Host.Outcome.next.injEq] at ht
  subst ht
  (repeat' split) <;> simp
theorem execKennelDomainPowerOff_kept (d : ℕ) (s : State) (t : State) (ht : execKennelDomainPowerOff d s = .next t) : t.kept = s.kept :=
  by
  simp only [execKennelDomainPowerOff, Host.Outcome.next.injEq] at ht
  subst ht
  simp
theorem execDomainPoweredUp_kept (d : ℕ) (s : State) (t : State) (ht : execDomainPoweredUp d s = .next t) : t.kept = s.kept :=
  by
  simp only [execDomainPoweredUp, Host.Outcome.next.injEq] at ht
  subst ht
  simp
theorem execCoreDomainIdleTimeout_kept (core : ℕ) (s : State) (t : State) (ht : execCoreDomainIdleTimeout core s = .next t) : t.kept = s.kept :=
  by
  simp only [execCoreDomainIdleTimeout, Host.Outcome.next.injEq] at ht
  subst ht
  (repeat' split) <;> simp
theorem execOfmDomainIdleTimeout_kept (s : State) (t : State) (ht : execOfmDomainIdleTimeout s = .next t) : t.kept = s.kept :=
  by
  simp only [execOfmDomainIdleTimeout, Host.Outcome.next.injEq] at ht
  subst ht
  (repeat' split) <;> simp
theorem execDramUnitFillDone_kept (first : ℕ) (s : State) (t : State) (ht : execDramUnitFillDone first s = .next t) : t.kept = s.kept :=
  by
  simp only [execDramUnitFillDone, Host.Outcome.next.injEq] at ht
  subst ht
  (repeat' split) <;> simp
theorem execDramRetrainStart_kept (channel : ℕ) (s : State) (t : State) (ht : execDramRetrainStart channel s = .next t) : t.kept = s.kept :=
  by
  simp only [execDramRetrainStart, Host.Outcome.next.injEq] at ht
  subst ht
  simp
theorem execDramRetrained_kept (channel : ℕ) (rate : ℕ) (s : State) (t : State) (ht : execDramRetrained channel rate s = .next t) : t.kept = s.kept :=
  by
  simp only [execDramRetrained, Host.Outcome.next.injEq] at ht
  subst ht
  (repeat' split) <;> simp
theorem execDramChannelDown_kept (channel : ℕ) (s : State) (t : State) (ht : execDramChannelDown channel s = .next t) : t.kept = s.kept :=
  by
  simp only [execDramChannelDown, Host.Outcome.next.injEq] at ht
  subst ht
  simp
@[simp] theorem driveAvs_kept (v : ℕ) (s : State) : (driveAvs v s).kept = s.kept :=
  by simp [driveAvs]
theorem execAvsTick_kept (margin : ℤ) (s : State) (t : State) (ht : execAvsTick margin s = .next t) : t.kept = s.kept :=
  by
  simp only [execAvsTick, Host.Outcome.next.injEq] at ht
  subst ht
  simp
theorem execAvsCodeStep_kept (s : State) (t : State) (ht : execAvsCodeStep s = .next t) : t.kept = s.kept :=
  by
  simp only [execAvsCodeStep, Host.Outcome.next.injEq] at ht
  subst ht
  simp
theorem execOperatingPointChangeDone_kept (core : ℕ) (s : State) (t : State) (ht : execOperatingPointChangeDone core s = .next t) : t.kept = s.kept :=
  by
  simp only [execOperatingPointChangeDone, Host.Outcome.next.injEq] at ht
  subst ht
  (repeat' split) <;> simp

/-! Machine/Pack.lean -/

theorem onPacket_kept (k : Packet) (marked : Bool) (act : State → State) (s : State) (hact : ∀ y0, (act y0).kept = y0.kept) (t : State) (ht : onPacket k marked act s = .next t) : t.kept = s.kept :=
  by
  simp only [onPacket, Host.Outcome.next.injEq] at ht
  subst ht
  (repeat' split) <;> simp [hact]
theorem onForming_kept (k : Packet) (act : State → State) (s : State) (hact : ∀ y0, (act y0).kept = y0.kept) (t : State) (ht : onForming k act s = .next t) : t.kept = s.kept :=
  by
  simp only [onForming, Host.Outcome.next.injEq] at ht
  subst ht
  (repeat' split) <;> simp [hact]
@[simp] theorem sendBy_kept (port : ℕ) (dst : ℕ) (kind : ℕ) (tag : U16) (arg : U32) (data : Bytes) (s : State) : (sendBy port dst kind tag arg data s).kept = s.kept :=
  by simp [sendBy]
theorem execPackForm_kept (h : Hdr) (p : Bytes) (s : State) (t : State) (ht : execPackForm h p s = .next t) : t.kept = s.kept :=
  by
  unfold execPackForm at ht
  exact command_kept _ _ _ _ _ _ _ _ (fun _ => by simp) _ ht
theorem execDiscover_kept (port : ℕ) (k : Packet) (s : State) (t : State) (ht : execDiscover port k s = .next t) : t.kept = s.kept :=
  by
  simp only [execDiscover, Host.Outcome.next.injEq] at ht
  subst ht
  simp
theorem execPackInfo_kept (k : Packet) (s : State) (t : State) (ht : execPackInfo k s = .next t) : t.kept = s.kept :=
  by
  unfold execPackInfo at ht
  exact onForming_kept _ _ _ (fun _ => by simp) _ ht
theorem execPlanHashes_kept (k : Packet) (s : State) (t : State) (ht : execPlanHashes k s = .next t) : t.kept = s.kept :=
  by
  unfold execPlanHashes at ht
  exact onForming_kept _ _ _ (fun _ => by simp) _ ht
@[simp] theorem formFails_kept (h : Hdr) (st : Status) (result : Bytes) (s : State) : (formFails h st result s).kept = s.kept :=
  by simp [formFails]
theorem execPackFormDiscoveryTimeout_kept (s : State) (t : State) (ht : execPackFormDiscoveryTimeout s = .next t) : t.kept = s.kept :=
  by
  simp only [execPackFormDiscoveryTimeout, Host.Outcome.next.injEq] at ht
  subst ht
  (repeat' split) <;> simp
theorem execForm_kept (k : Packet) (lead : ℕ) (s : State) (t : State) (ht : execForm k lead s = .next t) : t.kept = s.kept :=
  by
  unfold execForm at ht
  exact onForming_kept _ _ _ (fun _ => by simp) _ ht
@[simp] theorem settleForming_kept (s : State) : (settleForming s).kept = s.kept :=
  by fun_cases settleForming s <;> simp
theorem execPackTimeoutSet_kept (h : Hdr) (p : Bytes) (s : State) (t : State) (ht : execPackTimeoutSet h p s = .next t) : t.kept = s.kept :=
  by
  unfold execPackTimeoutSet at ht
  exact command_kept _ _ _ _ _ _ _ _ (fun _ => by simp) _ ht
@[simp] theorem runOpcode_kept (op : ℕ) (h : Hdr) (p : Bytes) (s : State) : (runOpcode op h p s).kept = s.kept :=
  by
  have key : ∀ o : Out, (∀ t, o = .next t → t.kept = s.kept) →
      (match o with | .next t => t | .fault _ => s | .refused _ => s).kept = s.kept := by
    intro o ho
    cases o with
    | next t => exact ho t rfl
    | fault _ => rfl
    | refused _ => rfl
  unfold runOpcode
  refine key _ (fun t ht => ?_)
  split at ht
  · exact execModelLoad_kept _ _ _ _ ht
  · exact execModelReside_kept _ _ _ _ ht
  · exact execModelUnload_kept _ _ _ _ ht
  · exact execStreamConfig_kept _ _ _ _ ht
  · exact execStreamStart_kept _ _ _ _ ht
  · exact execStreamStop_kept _ _ _ _ ht
  · exact execStreamRelease_kept _ _ _ _ ht
  · exact execBufferPost_kept _ _ _ _ ht
  · exact execOutputSet_kept _ _ _ _ ht
  · exact execGroupSet_kept _ _ _ _ ht
  · exact execSetProfile_kept _ _ _ _ ht
  · exact execProfileTableSet_kept _ _ _ _ ht
  · exact execWindowOpen_kept _ _ _ _ ht
  · exact execWindowClose_kept _ _ _ _ ht
  · exact execScrubSet_kept _ _ _ _ ht
  · exact execPackTimeoutSet_kept _ _ _ _ ht
  · injection ht with ht; subst ht; rfl
@[simp] theorem runInner_kept (o : PackOp) (s : State) : (runInner o s).kept = s.kept :=
  by
  simp only [runInner]
  (repeat' split) <;> simp
@[simp] theorem dropOp_kept (id : ℕ) (s : State) : (dropOp id s).kept = s.kept :=
  by simp [dropOp]
@[simp] theorem stagePrepared_kept (o : PackOp) (s : State) : (stagePrepared o s).kept = s.kept :=
  by simp [stagePrepared]
theorem execPrepare_kept (k : Packet) (s : State) (t : State) (ht : execPrepare k s = .next t) : t.kept = s.kept :=
  by
  unfold execPrepare at ht
  exact onPacket_kept _ _ _ _ (fun _ => by simp) _ ht
theorem execCommit_kept (k : Packet) (s : State) (t : State) (ht : execCommit k s = .next t) : t.kept = s.kept :=
  by
  unfold execCommit at ht
  refine onPacket_kept _ _ _ _ (fun _ => ?_) _ ht
  dsimp only
  (repeat' split) <;> simp
@[simp] theorem undoLoad_kept (opcode : ℕ) (p : Bytes) (ring : ℕ) (tag : U16) (s : State) : (undoLoad opcode p ring tag s).kept = s.kept :=
  by simp [undoLoad]
theorem execAbort_kept (k : Packet) (s : State) (t : State) (ht : execAbort k s = .next t) : t.kept = s.kept :=
  by
  unfold execAbort at ht
  refine onPacket_kept _ _ _ _ (fun _ => ?_) _ ht
  repeat' first
    | (simp; done)
    | split
    | (refine (foldl_kept _ (fun _ _ => ?_) _ _).trans ?_; try dsimp only)
    | simp
@[simp] theorem tellMembers_kept (kind : ℕ) (o : PackOp) (arg : U32) (s : State) : (tellMembers kind o arg s).kept = s.kept :=
  by simp [tellMembers]
@[simp] theorem settleOp_kept (id : ℕ) (s : State) : (settleOp id s).kept = s.kept :=
  by
  simp only [settleOp]
  (repeat' split) <;> simp
theorem execPrepAck_kept (k : Packet) (s : State) (t : State) (ht : execPrepAck k s = .next t) : t.kept = s.kept :=
  by
  unfold execPrepAck at ht
  (repeat' split at ht) <;> (injection ht with ht; subst ht; simp)
@[simp] theorem leavePack_kept (cause : ℕ) (s : State) : (leavePack cause s).kept = s.kept :=
  by simp [leavePack]
@[simp] theorem ejectOne_kept (pos : ℕ) (cause : ℕ) (s : State) : (ejectOne pos cause s).kept = s.kept :=
  by simp [ejectOne]
@[simp] theorem ejectUnreachable_kept (x0 : ℕ) (x1 : State) : (ejectUnreachable x0 x1).kept = x1.kept :=
  by fun_induction ejectUnreachable x0 x1 <;> simp_all
@[simp] theorem ejectMember_kept (pos : ℕ) (cause : ℕ) (s : State) : (ejectMember pos cause s).kept = s.kept :=
  by simp [ejectMember]
theorem execPackEject_kept (h : Hdr) (p : Bytes) (s : State) (t : State) (ht : execPackEject h p s = .next t) : t.kept = s.kept :=
  by
  unfold execPackEject at ht
  exact command_kept _ _ _ _ _ _ _ _ (fun _ => by simp) _ ht
theorem execPackDissolve_kept (h : Hdr) (p : Bytes) (s : State) (t : State) (ht : execPackDissolve h p s = .next t) : t.kept = s.kept :=
  by
  unfold execPackDissolve at ht
  exact command_kept _ _ _ _ _ _ _ _ (fun _ => by simp) _ ht
theorem execEpoch_kept (k : Packet) (s : State) (t : State) (ht : execEpoch k s = .next t) : t.kept = s.kept :=
  by
  unfold execEpoch at ht
  exact onPacket_kept _ _ _ _ (fun _ => by simp) _ ht
theorem execEject_kept (k : Packet) (s : State) (t : State) (ht : execEject k s = .next t) : t.kept = s.kept :=
  by
  unfold execEject at ht
  exact onPacket_kept _ _ _ _ (fun _ => by simp) _ ht
@[simp] theorem linkLost_kept (a : ℕ) (b : ℕ) (s : State) : (linkLost a b s).kept = s.kept :=
  by simp [linkLost]
theorem execFyxLinkDown_kept (port : ℕ) (s : State) (t : State) (ht : execFyxLinkDown port s = .next t) : t.kept = s.kept :=
  by
  simp only [execFyxLinkDown, Host.Outcome.next.injEq] at ht
  subst ht
  simp
theorem execMemberStatus_kept (k : Packet) (s : State) (t : State) (ht : execMemberStatus k s = .next t) : t.kept = s.kept :=
  by
  unfold execMemberStatus at ht
  refine onPacket_kept _ _ _ _ (fun _ => ?_) _ ht
  dsimp only
  (repeat' split) <;> simp
theorem execPackTimeoutExpiry_kept (op : ℕ) (s : State) (t : State) (ht : execPackTimeoutExpiry op s = .next t) : t.kept = s.kept :=
  by
  simp only [execPackTimeoutExpiry, Host.Outcome.next.injEq] at ht
  subst ht
  (repeat' split) <;> simp
theorem execLeaderContactTimeout_kept (pos : ℕ) (s : State) (t : State) (ht : execLeaderContactTimeout pos s = .next t) : t.kept = s.kept :=
  by
  simp only [execLeaderContactTimeout, Host.Outcome.next.injEq] at ht
  subst ht
  simp
theorem execFollowerContactTimeout_kept (s : State) (t : State) (ht : execFollowerContactTimeout s = .next t) : t.kept = s.kept :=
  by
  simp only [execFollowerContactTimeout, Host.Outcome.next.injEq] at ht
  subst ht
  simp
theorem execTimeOffsetTimeout_kept (pos : ℕ) (s : State) (t : State) (ht : execTimeOffsetTimeout pos s = .next t) : t.kept = s.kept :=
  by
  simp only [execTimeOffsetTimeout, Host.Outcome.next.injEq] at ht
  subst ht
  (repeat' split) <;> simp
theorem execPackFillStart_kept (pos : ℕ) (s : State) (t : State) (ht : execPackFillStart pos s = .next t) : t.kept = s.kept :=
  by
  simp only [execPackFillStart, Host.Outcome.next.injEq] at ht
  subst ht
  (repeat' split) <;> simp
theorem execTimeSyncTick_kept (s : State) (t : State) (ht : execTimeSyncTick s = .next t) : t.kept = s.kept :=
  by
  simp only [execTimeSyncTick, Host.Outcome.next.injEq] at ht
  subst ht
  simp
theorem execTimeSync_kept (k : Packet) (s : State) (t : State) (ht : execTimeSync k s = .next t) : t.kept = s.kept :=
  by
  unfold execTimeSync at ht
  exact onPacket_kept _ _ _ _ (fun _ => by simp) _ ht
theorem execTimeReply_kept (k : Packet) (s : State) (t : State) (ht : execTimeReply k s = .next t) : t.kept = s.kept :=
  by
  unfold execTimeReply at ht
  exact onPacket_kept _ _ _ _ (fun _ => by simp) _ ht
theorem execTimeFollow_kept (k : Packet) (s : State) (t : State) (ht : execTimeFollow k s = .next t) : t.kept = s.kept :=
  by
  unfold execTimeFollow at ht
  refine onPacket_kept _ _ _ _ (fun _ => ?_) _ ht
  dsimp only
  (repeat' split) <;> simp
theorem execAccept_kept (k : Packet) (s : State) (t : State) (ht : execAccept k s = .next t) : t.kept = s.kept :=
  by
  unfold execAccept at ht
  refine onPacket_kept _ _ _ _ (fun _ => ?_) _ ht
  dsimp only
  (repeat' split) <;> simp
theorem execBindReq_kept (k : Packet) (s : State) (t : State) (ht : execBindReq k s = .next t) : t.kept = s.kept :=
  by
  unfold execBindReq at ht
  exact onPacket_kept _ _ _ _ (fun _ => by simp) _ ht
theorem execBind_kept (k : Packet) (s : State) (t : State) (ht : execBind k s = .next t) : t.kept = s.kept :=
  by
  unfold execBind at ht
  refine onPacket_kept _ _ _ _ (fun _ => ?_) _ ht
  dsimp only
  (repeat' split) <;> simp
theorem execBandReport_kept (k : Packet) (s : State) (t : State) (ht : execBandReport k s = .next t) : t.kept = s.kept :=
  by
  unfold execBandReport at ht
  refine onPacket_kept _ _ _ _ (fun _ => ?_) _ ht
  dsimp only
  (repeat' split) <;> simp
theorem execEventFwd_kept (k : Packet) (s : State) (t : State) (ht : execEventFwd k s = .next t) : t.kept = s.kept :=
  by
  unfold execEventFwd at ht
  refine onPacket_kept _ _ _ _ (fun _ => ?_) _ ht
  dsimp only
  (repeat' split) <;> simp
theorem execFeaturePart_kept (k : Packet) (s : State) (t : State) (ht : execFeaturePart k s = .next t) : t.kept = s.kept :=
  by
  unfold execFeaturePart at ht
  exact onPacket_kept _ _ _ _ (fun _ => by simp) _ ht
theorem execHaloData_kept (k : Packet) (s : State) (t : State) (ht : execHaloData k s = .next t) : t.kept = s.kept :=
  by
  unfold execHaloData at ht
  refine onPacket_kept _ _ _ _ (fun _ => ?_) _ ht
  repeat' first
    | (simp; done)
    | split
    | (refine (foldl_kept _ (fun _ _ => ?_) _ _).trans ?_; try dsimp only)
    | simp
theorem execCounterExport_kept (k : Packet) (s : State) (t : State) (ht : execCounterExport k s = .next t) : t.kept = s.kept :=
  by
  unfold execCounterExport at ht
  refine onPacket_kept _ _ _ _ (fun _ => ?_) _ ht
  repeat' first
    | (simp; done)
    | split
    | (refine (foldl_kept _ (fun _ _ => ?_) _ _).trans ?_; try dsimp only)
    | simp
theorem execWinWrite_kept (k : Packet) (s : State) (t : State) (ht : execWinWrite k s = .next t) : t.kept = s.kept :=
  by
  unfold execWinWrite at ht
  refine onPacket_kept _ _ _ _ (fun _ => ?_) _ ht
  repeat' first
    | (simp; done)
    | split
    | (refine (foldl_kept _ (fun _ _ => ?_) _ _).trans ?_; try dsimp only)
    | simp
@[simp] theorem sendRead_kept (k : Packet) (off : ℕ) (b : Bytes) (s : State) : (sendRead k off b s).kept = s.kept :=
  by simp [sendRead]
theorem execWinReadReq_kept (k : Packet) (errors : List ReadError) (s : State) (t : State) (ht : execWinReadReq k errors s = .next t) : t.kept = s.kept :=
  by
  unfold execWinReadReq at ht
  refine onPacket_kept _ _ _ _ (fun _ => ?_) _ ht
  dsimp only
  (repeat' split) <;> simp
@[simp] theorem memberReadArrives_kept (r : MemberRead) (k : Packet) (s : State) : (memberReadArrives r k s).kept = s.kept :=
  by simp [memberReadArrives]
theorem execWinReadResp_kept (k : Packet) (s : State) (t : State) (ht : execWinReadResp k s = .next t) : t.kept = s.kept :=
  by
  unfold execWinReadResp at ht
  refine onPacket_kept _ _ _ _ (fun _ => ?_) _ ht
  dsimp only
  (repeat' split) <;> simp
theorem execWinAck_kept (k : Packet) (s : State) (t : State) (ht : execWinAck k s = .next t) : t.kept = s.kept :=
  by
  unfold execWinAck at ht
  refine onPacket_kept _ _ _ _ (fun _ => ?_) _ ht
  dsimp only
  (repeat' split) <;> simp
theorem execWinClosed_kept (k : Packet) (s : State) (t : State) (ht : execWinClosed k s = .next t) : t.kept = s.kept :=
  by
  unfold execWinClosed at ht
  exact onPacket_kept _ _ _ _ (fun _ => by simp) _ ht
theorem execDbgRead_kept (k : Packet) (errors : List ReadError) (s : State) (t : State) (ht : execDbgRead k errors s = .next t) : t.kept = s.kept :=
  by
  unfold execDbgRead at ht
  exact onPacket_kept _ _ _ _ (fun _ => by simp) _ ht
theorem execWindowAckTimeout_kept (core : ℕ) (s : State) (t : State) (ht : execWindowAckTimeout core s = .next t) : t.kept = s.kept :=
  by
  simp only [execWindowAckTimeout, Host.Outcome.next.injEq] at ht
  subst ht
  (repeat' split) <;> simp

/-! Machine/Thermal.lean -/

@[simp] theorem thermalEvent_kept (code : ℕ) (s : State) : (thermalEvent code s).kept = s.kept :=
  by simp [thermalEvent]
@[simp] theorem takeSamples_kept (temps : List ℤ) (s : State) : (takeSamples temps s).kept = s.kept :=
  by simp [takeSamples]
@[simp] theorem enterCritical_kept (s : State) : (enterCritical s).kept = s.kept :=
  by simp [enterCritical]
theorem execThermalSample_kept (temps : List ℤ) (s : State) (t : State) (ht : execThermalSample temps s = .next t) : t.kept = s.kept :=
  by
  simp only [execThermalSample, Host.Outcome.next.injEq] at ht
  subst ht
  simp
@[simp] theorem degrade_kept (sc : ℕ) (s : State) : (degrade sc s).kept = s.kept :=
  by simp [degrade]
theorem execThermalDegradeStep_kept (s : State) (t : State) (ht : execThermalDegradeStep s = .next t) : t.kept = s.kept :=
  by
  simp only [execThermalDegradeStep, Host.Outcome.next.injEq] at ht
  subst ht
  (repeat' split) <;> simp
@[simp] theorem undegrade_kept (sc : ℕ) (s : State) : (undegrade sc s).kept = s.kept :=
  by
  simp only [undegrade]
  (repeat' split) <;> simp
theorem execThermalRecoveryTimeout_kept (s : State) (t : State) (ht : execThermalRecoveryTimeout s = .next t) : t.kept = s.kept :=
  by
  simp only [execThermalRecoveryTimeout, Host.Outcome.next.injEq] at ht
  subst ht
  (repeat' split) <;> simp
theorem execThermalClearTimeout_kept (s : State) (t : State) (ht : execThermalClearTimeout s = .next t) : t.kept = s.kept :=
  by
  simp only [execThermalClearTimeout, Host.Outcome.next.injEq] at ht
  subst ht
  (repeat' split) <;> simp
theorem execThermalTrip_kept (sensor : ℕ) (s : State) (t : State) (ht : execThermalTrip sensor s = .next t) : t.kept = s.kept :=
  by
  simp only [execThermalTrip, Host.Outcome.next.injEq] at ht
  subst ht
  simp

/-! Machine/Time.lean -/

@[simp] theorem coreTick_kept (s : State) (c : ℕ) : (coreTick s c).kept = s.kept :=
  by simp [coreTick]
@[simp] theorem slewTick_kept (s : State) : (slewTick s).kept = s.kept :=
  by simp [slewTick]
@[simp] theorem tick_kept (s : State) : (tick s).kept = s.kept :=
  by simp [tick]

end Sys2Proof.Machine
end

