-- ==== Sys2Proof/Laws/Ops.lean ====
section
/-! SUPPORT. What the shared operations do, once each: completing a command, reporting an event, the numbered parts. -/
namespace Sys2Proof.Machine

theorem tab_get_put {α : Type} (d a : α) (t : Tab α) (k : Nat) : Tab.get d (Tab.put t k a) k = a := by
  induction t with
  | nil => simp [Tab.put, Tab.get]
  | cons e t ih =>
    obtain ⟨j, b⟩ := e
    simp only [Tab.put]
    split
    · simp [Tab.get]
    · split
      · simp [Tab.get]
      · rename_i h _; simp [Tab.get, h, ih]

theorem tab_get_put_ne {α : Type} (d a : α) (t : Tab α) (j k : Nat) (hne : j ≠ k) : Tab.get d (Tab.put t k a) j = Tab.get d t j := by
  induction t with
  | nil => simp [Tab.put, Tab.get, Ne.symm hne]
  | cons e t ih =>
    obtain ⟨i, b⟩ := e
    simp only [Tab.put]
    split
    · rename_i h; subst h; simp [Tab.get, Ne.symm hne]
    · split
      · simp [Tab.get, Ne.symm hne]
      · simp only [Tab.get]; split
        · rfl
        · exact ih

@[simp] theorem ring_setRing (s : State) (n : Nat) (r : Ring) : (s.setRing n r).ring n = r := tab_get_put _ _ _ _
@[simp] theorem stream_setStream (s : State) (n : Nat) (x : Stream) : (s.setStream n x).stream n = x := tab_get_put _ _ _ _
@[simp] theorem model_setModel (s : State) (n : Nat) (x : Model) : (s.setModel n x).model n = x := tab_get_put _ _ _ _
@[simp] theorem job_setJob (s : State) (n : Nat) (x : Job) : (s.setJob n x).job n = x := tab_get_put _ _ _ _
@[simp] theorem group_setGroup (s : State) (n : Nat) (x : Group) : (s.setGroup n x).group n = x := tab_get_put _ _ _ _
@[simp] theorem core_setCore (s : State) (n : Nat) (x : Core) : (s.setCore n x).core n = x := tab_get_put _ _ _ _
@[simp] theorem port_setPort (s : State) (n : Nat) (x : Port) : (s.setPort n x).port n = x := tab_get_put _ _ _ _
@[simp] theorem source_setSource (s : State) (n : Nat) (x : Source) : (s.setSource n x).source n = x := tab_get_put _ _ _ _
@[simp] theorem irled_setIrled (s : State) (n : Nat) (x : IrLed) : (s.setIrled n x).irled n = x := tab_get_put _ _ _ _
@[simp] theorem fsync_setFsync (s : State) (n : Nat) (x : Fsync) : (s.setFsync n x).fsync n = x := tab_get_put _ _ _ _
@[simp] theorem spwr_setSpwr (s : State) (n : Nat) (x : SensorPwr) : (s.setSpwr n x).spwr n = x := tab_get_put _ _ _ _
@[simp] theorem sctl_setSctl (s : State) (n : Nat) (x : Sctl) : (s.setSctl n x).sctl n = x := tab_get_put _ _ _ _
@[simp] theorem window_setWindow (s : State) (n : Nat) (x : Window) : (s.setWindow n x).window n = x := tab_get_put _ _ _ _
@[simp] theorem channel_setChannel (s : State) (n : Nat) (x : Channel) : (s.setChannel n x).channel n = x := tab_get_put _ _ _ _
@[simp] theorem ensemble_setEnsemble (s : State) (n : Nat) (x : Ensemble) : (s.setEnsemble n x).ensemble n = x := tab_get_put _ _ _ _
@[simp] theorem link_setLink (s : State) (n : Nat) (x : Link) : (s.setLink n x).link n = x := tab_get_put _ _ _ _
@[simp] theorem member_setMember (s : State) (n : Nat) (x : Member) : (s.setMember n x).member n = x := tab_get_put _ _ _ _
@[simp] theorem counter_setCounter (s : State) (n : Nat) (x : U16 × U16 × U32) : (s.setCounter n x).counter n = x := tab_get_put _ _ _ _

/-! ### Completing a command -/

@[simp] theorem ring_send (s : State) (m : Sent) (n : Nat) : (s.send m).ring n = s.ring n := rfl

/-- Signalling a vector changes pending bits and the messages sent (03 R69, 18 R725). -/
theorem signal_eq (v : Nat) (s : State) :
    signal v s = { s with cnt := (signal v s).cnt, pcie := (signal v s).pcie, sent := (signal v s).sent } := by
  simp only [signal]; (repeat' split) <;> rfl

@[simp] theorem quiet_signal (v : Nat) (s : State) : (signal v s).quiet = s.quiet := by
  simp only [signal]; split <;> rfl

@[simp] theorem ring_signal (v : Nat) (s : State) (n : Nat) : (signal v s).ring n = s.ring n := by
  rw [signal_eq]; rfl

@[simp] theorem mgmt_signal (v : Nat) (s : State) : (signal v s).mgmt = s.mgmt := by
  rw [signal_eq]

theorem ring_setRing_ne (s : State) {n m : Nat} (r : Ring) (hne : m ≠ n) : (s.setRing n r).ring m = s.ring m := tab_get_put_ne _ _ _ _ _ hne

/-- Writing a record keeps what a ring holds but its index, totals and signalling (03 R78). -/
theorem writeRecord_spec (n : Nat) (r : Record) (s : State) :
    (writeRecord n r s).quiet = s.quiet ∧ ((writeRecord n r s).ring n).window = (s.ring n).window ∧
      ((writeRecord n r s).ring n).inFlight = (s.ring n).inFlight ∧ (∀ m, m ≠ n → (writeRecord n r s).ring m = s.ring m) ∧
      (writeRecord n r s).mgmt = s.mgmt := by
  unfold writeRecord
  dsimp only
  split
  · split
    · refine ⟨?_, ?_, ?_, ?_, ?_⟩
      · rw [quiet_signal]; rfl
      · simp
      · simp
      · intro m hm; simp [ring_setRing_ne _ _ hm]
      · simp; rfl
    · refine ⟨rfl, ?_, ?_, ?_, rfl⟩
      · simp
      · simp
      · intro m hm; simp [ring_setRing_ne _ _ hm]
  · exact ⟨rfl, rfl, rfl, fun _ _ => rfl, rfl⟩

/-- A halted ring with nothing in flight loses ENABLE; nothing else changes (18 R721). -/
theorem haltSettle_spec (n : Nat) (s : State) :
    (haltSettle n s).quiet = s.quiet ∧ ((haltSettle n s).ring n).window = (s.ring n).window ∧
      ((haltSettle n s).ring n).inFlight = (s.ring n).inFlight ∧ (∀ m, m ≠ n → (haltSettle n s).ring m = s.ring m) ∧
      (haltSettle n s).mgmt = s.mgmt := by
  unfold haltSettle
  dsimp only
  split
  · refine ⟨rfl, ?_, ?_, ?_, rfl⟩
    · simp
    · simp
    · intro m hm; simp [ring_setRing_ne _ _ hm]
  · exact ⟨rfl, rfl, rfl, fun _ _ => rfl, rfl⟩

/-- Noting whether a ring waits to be fetched from changes that note alone (03 R72). -/
theorem noteRing_spec (n : Nat) (s : State) :
    (noteRing n s).quiet = s.quiet ∧ ((noteRing n s).ring n).window = (s.ring n).window ∧
      ((noteRing n s).ring n).inFlight = (s.ring n).inFlight ∧ (∀ m, m ≠ n → (noteRing n s).ring m = s.ring m) ∧
      (noteRing n s).mgmt = s.mgmt ∧ (noteRing n s).sent = s.sent := by
  unfold noteRing
  dsimp only
  split
  · split
    · refine ⟨rfl, ?_, ?_, ?_, rfl, rfl⟩
      · simp
      · simp
      · intro m hm; simp [ring_setRing_ne _ _ hm]
    · exact ⟨rfl, rfl, rfl, fun _ _ => rfl, rfl, rfl⟩
  · refine ⟨rfl, ?_, ?_, ?_, rfl, rfl⟩
    · simp
    · simp
    · intro m hm; simp [ring_setRing_ne _ _ hm]

/-- Remembering a record changes its ring's or port's window alone, and only where the Shepherd firmware runs (03 R81). -/
theorem remember_spec (h : Hdr) (r : Record) (s : State) (h15 : h.ring ≠ 15) :
    (s.glb.boot = .running → ((remember h r s).ring h.ring).window.head? = some { tag := h.tag, crc := h.crc, record := r }) ∧
      ((remember h r s).ring h.ring).inFlight = (s.ring h.ring).inFlight ∧ (remember h r s).quiet = s.quiet ∧
      (∀ m, m ≠ h.ring → (remember h r s).ring m = s.ring m) ∧ (remember h r s).mgmt = s.mgmt := by
  unfold remember
  dsimp only
  split
  · rename_i hb
    exact ⟨fun hr => by simp [hr] at hb, rfl, rfl, fun _ _ => rfl, rfl⟩
  · refine ⟨fun _ => ?_, ?_, rfl, ?_, rfl⟩
    · simp
    · simp
    · intro m hm; simp [ring_setRing_ne _ _ hm]

theorem all_filter_tag (l : List InFlight) (t : U16) : ((l.filter (fun e => e.tag != t)).all (fun e => e.tag != t)) = true := by
  simp [List.all_filter]

/-- What completing a command does, whoever answers it (03 R75): its tag leaves the in-flight set, and nothing but its ring or port, the
messages and the interrupts changes; and where the Shepherd firmware runs, its record is the newest of the duplicate window (03 R81). -/
theorem complete_parts (h : Hdr) (op : Nat) (st : Status) (res : Bytes) (s : State) (hr : h.ring ≠ 16) :
    (s.glb.boot = .running → Completed h op st res (complete h op st res s)) ∧ (complete h op st res s).quiet = s.quiet ∧
      Apart h (complete h op st res s) s := by
  have h16 : h.ring ≠ innerRing := hr
  unfold complete
  rw [if_neg h16]
  by_cases h15 : h.ring = 15
  · simp only [h15, if_true, deliver, remember, State.setInFlight, State.inFlight]
    refine ⟨fun hb => ⟨?_, ?_⟩, ?_, ?_, ?_⟩
    · simp [newest, h15, recordOf, hb]
    · simp only [State.inFlight, h15, if_true]
      split <;> exact all_filter_tag _ _
    · split <;> rfl
    · intro n _; split <;> rfl
    · intro hn; exact absurd h15 hn
  · simp only [h15, if_false, deliver, State.setInFlight, State.inFlight]
    generalize (!List.any (s.ring h.ring).inFlight fun e => e.tag == h.tag && e.unrecorded) = rc
    obtain ⟨w1, w2, w3, w4, w5⟩ := remember_spec h (recordOf h op st res).record
      (s.setRing h.ring { s.ring h.ring with inFlight := (s.ring h.ring).inFlight.filter (fun e => e.tag != h.tag) }) h15
    simp only [recordOf] at w1 w2 w3 w4 w5
    generalize hu : remember _ _ _ = u at w1 w2 w3 w4 w5 ⊢
    have hw : s.glb.boot = .running → (u.ring h.ring).window.head? = some (recordOf h op st res) := w1
    have hf : ((u.ring h.ring).inFlight.all (fun e => e.tag != h.tag)) = true := by
      rw [w2, ring_setRing]; exact all_filter_tag _ _
    have ha : u.quiet = s.quiet := w3
    have ho : ∀ m, m ≠ h.ring → u.ring m = s.ring m := by
      intro m hm; rw [w4 m hm, ring_setRing_ne _ _ hm]
    have hg : u.mgmt = s.mgmt := w5
    have key : ∀ v : State, v.quiet = u.quiet → (v.ring h.ring).window = (u.ring h.ring).window →
        (v.ring h.ring).inFlight = (u.ring h.ring).inFlight → (∀ m, m ≠ h.ring → v.ring m = u.ring m) → v.mgmt = u.mgmt →
        (s.glb.boot = .running → Completed h op st res (noteRing h.ring (haltSettle h.ring v))) ∧
          (noteRing h.ring (haltSettle h.ring v)).quiet = s.quiet ∧ Apart h (noteRing h.ring (haltSettle h.ring v)) s := by
      intro v hv hvw hvf hvo hvg
      obtain ⟨e1, e2, e3, e4, e5⟩ := haltSettle_spec h.ring v
      obtain ⟨n1, n2, n3, n4, n5, -⟩ := noteRing_spec h.ring (haltSettle h.ring v)
      refine ⟨fun hb => ⟨?_, ?_⟩, n1.trans (e1.trans (hv.trans ha)), ?_, ?_⟩
      · rw [newest, if_neg h15, n2, e2, hvw, hw hb]
      · rw [State.inFlight, if_neg h15, n3, e3, hvf]; exact hf
      · intro m hm; rw [n4 m hm, e4 m hm, hvo m hm, ho m hm]
      · intro _; rw [n5, e5, hvg, hg]
    cases rc with
    | false => exact key u rfl rfl rfl (fun _ _ => rfl) rfl
    | true =>
      obtain ⟨a, b, c, d, e⟩ := writeRecord_spec h.ring (recordOf h op st res).record u
      exact key _ a b c d e

/-- What completing a command does where the Shepherd firmware runs (03 R75, R81). -/
theorem complete_spec (h : Hdr) (op : Nat) (st : Status) (res : Bytes) (s : State) (hr : h.ring ≠ 16) (hb : s.glb.boot = .running) :
    Completed h op st res (complete h op st res s) ∧ (complete h op st res s).quiet = s.quiet ∧ Apart h (complete h op st res s) s :=
  ⟨(complete_parts h op st res s hr).1 hb, (complete_parts h op st res s hr).2⟩

/-- A command that completes as its last act answers (03 R75). -/
theorem answers_of_complete {c : Instr} {h : Hdr} {op : Nat} {st : Status} {res : Bytes} {s u : State} (hr : h.ring ≠ 16)
    (hb : u.glb.boot = .running) (he : exec c s = .next (complete h op st res u)) : Answers c h op st res s u :=
  ⟨_, he, complete_spec h op st res u hr hb⟩

/-- The same when the state that completes differs from u in reports alone. -/
theorem answers_of_quiet {c : Instr} {h : Hdr} {op : Nat} {st : Status} {res : Bytes} {s u v : State} (hr : h.ring ≠ 16)
    (hb : v.glb.boot = .running) (he : exec c s = .next (complete h op st res v)) (hq : v.quiet = u.quiet) (h1 : v.rings = u.rings) (h2 : v.mgmt = u.mgmt) :
    Answers c h op st res s u := by
  obtain ⟨a, b, c, d⟩ := complete_spec h op st res v hr hb
  refine ⟨_, he, a, b.trans hq, ?_, ?_⟩
  · intro n hn; rw [c n hn]; unfold State.ring; rw [h1]
  · intro hn; rw [d hn, h2]

/-- No check of a list fails exactly when each holds. -/
theorem firstFail_cons (b : Bool) (st : Status) (l : List (Bool × Status)) : firstFail ((b, st) :: l) = none ↔ b = true ∧ firstFail l = none := by
  cases b <;> simp [firstFail]

theorem firstFail_append (a b : List (Bool × Status)) : firstFail (a ++ b) = none ↔ firstFail a = none ∧ firstFail b = none := by
  induction a with
  | nil => simp [firstFail]
  | cons e a ih => obtain ⟨x, st⟩ := e; cases x <;> simp [firstFail, ih]

theorem firstFail_nil : firstFail [] = none := rfl

/-- A command that is taken and passes its checks has its effect (03 R73). -/
theorem command_runs {op : Nat} {h : Hdr} {p : Bytes} {len form state : List (Bool × Status)} {act : State → State} {s : State}
    (ht : Taken op h p s) (hc : firstFail (len ++ form ++ state) = none) :
    command op h p len form state act s = .next (act s) := by
  obtain ⟨h1, h2, h3, h4, h5, h6⟩ := ht
  have hport : (h.ring != 15 || onPort op) = true := by
    rcases h6 with h6 | ⟨_, h6⟩
    · simp; omega
    · simp [h6]
  have ff : ∀ a b : List (Bool × Status), firstFail (a ++ b) = none ↔ firstFail a = none ∧ firstFail b = none := by
    intro a b
    induction a with
    | nil => simp [firstFail]
    | cons e a ih => obtain ⟨x, st⟩ := e; cases x <;> simp [firstFail, ih]
  have hall : firstFail (len ++ [(slotClean h s, Status.reservedNonzero)] ++ form
      ++ [(h.ring != 15 || onPort op, Status.notOnPort),
          (h.ring == 15 || h.ring == innerRing || onPort op || !s.follower, .notLeader), (!s.glb.testMode, .badState)] ++ state) = none := by
    rw [ff, ff] at hc
    obtain ⟨⟨a, b⟩, c⟩ := hc
    rw [ff, ff, ff, ff]
    exact ⟨⟨⟨⟨a, by simp [h2, firstFail]⟩, b⟩, by simp [hport, h3, h4, firstFail]⟩, c⟩
  unfold command
  rw [if_pos h1]
  simp only [hall, h5]
  rfl

/-- A command that is taken is taken by the running Shepherd firmware. -/
theorem taken_boot {op : Nat} {h : Hdr} {p : Bytes} {s : State} (ht : Taken op h p s) : s.glb.boot = .running := by
  have := ht.1
  simp [canRun, State.running] at this
  exact this.1.1.1

/-- The same for a command the boot ROM answers too (03 R100). -/
theorem romCommand_runs {op : Nat} {h : Hdr} {form state : List (Bool × Status)} {act : State → State} {s : State}
    (ht : Taken op h [] s) (hc : firstFail (form ++ state) = none) :
    romCommand op h form state act s = .next (act s) := by
  unfold romCommand
  rw [if_neg (by simp [taken_boot ht])]
  exact command_runs ht (by simpa using hc)

theorem taken_ring {op : Nat} {h : Hdr} {p : Bytes} {s : State} (ht : Taken op h p s) : h.ring ≠ 16 := by
  rcases ht.2.2.2.2.2 with h6 | ⟨h6, _⟩ <;> omega

/-- A command that the port does not accept comes from a ring (03 R99). -/
theorem taken_not_port {op : Nat} {h : Hdr} {p : Bytes} {s : State} (ht : Taken op h p s) (hp : onPort op = false) : h.ring ≠ 15 := by
  rcases ht.2.2.2.2.2 with h6 | ⟨_, h6⟩
  · omega
  · simp [hp] at h6

/-- A command of a ring that stages a change completes PENDING and the change waits (03 R75). -/
theorem answers_of_stage {c : Instr} {h : Hdr} {op target : Nat} {ready : Bool} {ch : Change} {s u : State} (hr : h.ring ≠ 16) (hp : h.ring ≠ 15)
    (hb : u.glb.boot = .running) (he : exec c s = .next (stage h op target ready ch u)) :
    Answers c h op .pending stagedResult s { u with staged := u.staged ++ [waiting h op target ready ch] } := by
  refine answers_of_complete hr hb (he.trans ?_)
  unfold stage
  rw [if_neg hp]
  rfl

/-- Completing keeps what has been sent and the response buffer. -/
theorem complete_keeps (h : Hdr) (op : Nat) (st : Status) (res : Bytes) (s : State) :
    (∀ m ∈ s.sent, m ∈ (complete h op st res s).sent) ∧ (complete h op st res s).mgmt.resp = s.mgmt.resp := by
  have hs : ∀ (v : Nat) (x : State), (∀ m ∈ x.sent, m ∈ (signal v x).sent) ∧ (signal v x).mgmt = x.mgmt := by
    intro v x; unfold signal; split
    · exact ⟨fun m hm => List.mem_append_left _ hm, rfl⟩
    · exact ⟨fun m hm => hm, rfl⟩
  have hw : ∀ (n : Nat) (r : Record) (x : State), (∀ m ∈ x.sent, m ∈ (writeRecord n r x).sent) ∧ (writeRecord n r x).mgmt = x.mgmt := by
    intro n r x; unfold writeRecord; dsimp only; split
    · split
      · exact ⟨fun m hm => (hs _ _).1 m (List.mem_append_left _ hm), (hs _ _).2⟩
      · exact ⟨fun m hm => List.mem_append_left _ hm, rfl⟩
    · exact ⟨fun m hm => hm, rfl⟩
  have hh : ∀ (n : Nat) (x : State), (haltSettle n x).sent = x.sent ∧ (haltSettle n x).mgmt = x.mgmt := by
    intro n x; rw [(show haltSettle n x = _ from rfl)]; unfold haltSettle; dsimp only; split <;> exact ⟨rfl, rfl⟩
  have hm : ∀ r (x : State), (remember h r x).sent = x.sent ∧ (h.ring ≠ 15 → (remember h r x).mgmt = x.mgmt) ∧
      (remember h r x).mgmt.resp = x.mgmt.resp := by
    intro r x; unfold remember; (repeat' split) <;> first | exact ⟨rfl, fun _ => rfl, rfl⟩ | exact ⟨rfl, fun h => absurd (by assumption) h, rfl⟩
  unfold complete
  split
  · exact ⟨fun m hm => hm, rfl⟩
  · by_cases h15 : h.ring = 15
    · simp only [h15, if_true, deliver, State.setInFlight]
      exact ⟨fun m hx => by rw [(hm _ _).1]; exact hx, by rw [(hm _ _).2.2]⟩
    · simp only [h15, if_false, deliver, State.setInFlight]
      rw [(noteRing_spec _ _).2.2.2.2.2, (noteRing_spec _ _).2.2.2.2.1, (hh _ _).1, (hh _ _).2]
      split
      · exact ⟨fun m hx => (hw _ _ _).1 m (by rw [(hm _ _).1]; exact hx), by rw [(hw _ _ _).2, (hm _ _).2.2]; rfl⟩
      · exact ⟨fun m hx => by rw [(hm _ _).1]; exact hx, by rw [(hm _ _).2.2]; rfl⟩

/-- A command that delivers data and completes answers with it. -/
theorem answersData_of_complete {c : Instr} {h : Hdr} {op : Nat} {res : Bytes} {dest : Nat} {d : Bytes} {s u : State} (hr : h.ring ≠ 16)
    (hb : u.glb.boot = .running) (he : exec c s = .next (complete h op .ok res (deliverData h dest d u))) : AnswersData c h op res dest d s u := by
  have hd : (deliverData h dest d u).glb.boot = .running := by rw [← hb]; unfold deliverData; split <;> rfl
  refine ⟨_, he, (complete_spec h op .ok res _ hr hd).1, ?_, ?_, ?_⟩
  · obtain ⟨k1, k2⟩ := complete_keeps h op .ok res (deliverData h dest d u)
    unfold Delivered
    split
    · rename_i h15; rw [k2]; simp [deliverData, h15]
    · rename_i h15; exact k1 _ (by simp [deliverData, h15, State.send])
  · rw [(complete_spec h op .ok res _ hr hd).2.1]
    unfold deliverData; split <;> rfl
  · obtain ⟨c1, c2⟩ := (complete_spec h op .ok res (deliverData h dest d u) hr hd).2.2
    refine ⟨fun n hn => (c1 n hn).trans ?_, fun hn => (c2 hn).trans ?_⟩
    · unfold deliverData; split <;> rfl
    · unfold deliverData; rw [if_neg hn]; rfl

/-! ### Reports -/

@[simp] theorem quiet_send (s : State) (m : Sent) : (s.send m).quiet = s.quiet := rfl

theorem quiet_setLink (s : State) (k : Nat) (l : Link) : (s.setLink k l).quiet = s.quiet := rfl

@[simp] theorem quiet_flitOut (port ftype seq : Nat) (payload : Bytes) (nak : Bool) (s : State) :
    (flitOut port ftype seq payload nak s).quiet = s.quiet := by
  unfold flitOut; dsimp only; split <;> rfl

@[simp] theorem quiet_seqFlit (port : Nat) (e : Nat × Bytes) (s : State) : (seqFlit port e s).quiet = s.quiet := by
  unfold seqFlit; dsimp only; rw [quiet_setLink, quiet_flitOut]

@[simp] theorem quiet_sendFlits (port : Nat) (l : List (Nat × Bytes)) (s : State) : (sendFlits port l s).quiet = s.quiet := by
  induction l generalizing s with
  | nil => rfl
  | cons t ts ih =>
    unfold sendFlits; dsimp only; split
    · rw [ih, quiet_seqFlit]
    · rfl

@[simp] theorem quiet_queuePacket (port : Nat) (k : Packet) (s : State) : (queuePacket port k s).quiet = s.quiet := by
  unfold queuePacket pumpLink; dsimp only; split
  · rw [quiet_sendFlits, quiet_setLink, quiet_setLink]
  · rfl

/-- Sending a packet changes the links and the messages alone. -/
@[simp] theorem quiet_sendFyx (dst : Nat) (k : Packet) (s : State) : (sendFyx dst k s).quiet = s.quiet := by
  unfold sendFyx; dsimp only; split <;> simp

@[simp] theorem quiet_evqWrite (e : Event) (s : State) : (evqWrite e s).quiet = s.quiet := by
  unfold evqWrite; dsimp only; split
  · rw [quiet_signal]; rfl
  · rfl

@[simp] theorem quiet_evqPlace (e : Event) (s : State) : (evqPlace e s).quiet = s.quiet := by
  unfold evqPlace; split
  · simp
  · split <;> rfl

@[simp] theorem quiet_emitRaw (source code : Nat) (p : Bytes) (s : State) : (emitRaw source code p s).quiet = s.quiet := by
  have h : ∀ n x, (evqClearLost source n x).quiet = x.quiet := by
    intro n x; unfold evqClearLost; split <;> rfl
  unfold emitRaw evqNumber; dsimp only
  rw [h, quiet_evqPlace]; rfl

/-- Emitting an event writes reports alone (03 R79, 15 R629). -/
@[simp] theorem quiet_emit (source code : Nat) (p : Bytes) (s : State) : (emit source code p s).quiet = s.quiet := by
  have hl : ∀ x, (emitLost x).quiet = x.quiet := by
    intro x; unfold emitLost; split
    · rw [quiet_emitRaw]; rfl
    · rfl
  have hf : ∀ x, (forward source code p x).quiet = x.quiet := by
    intro x; unfold forward; simp
  have hm : ∀ x, (eventMarks code x).quiet = x.quiet := by
    intro x; unfold eventMarks; (repeat' split) <;> rfl
  have hg : ∀ a b d x, (logFault a b d (p.take 12) x).quiet = x.quiet := by
    intro a b d x; unfold logFault logRepeat logNew; (repeat' split) <;> rfl
  have hp : (publishEvent source code p s).quiet = s.quiet := by
    unfold publishEvent; split
    · exact hf s
    · rw [quiet_emitRaw, hl]
  unfold emit
  dsimp only
  split
  · rw [hg, hm, hp]
  · rw [hm, hp]

/-- A report touches no ring and not the management port. -/
theorem apart_emit (source code : Nat) (p : Bytes) (s : State) :
    (emit source code p s).rings = s.rings ∧ (emit source code p s).mgmt = s.mgmt := by
  have hs : ∀ v x, (signal v x).rings = x.rings ∧ (signal v x).mgmt = x.mgmt := by
    intro v x; rw [signal_eq]; exact ⟨rfl, rfl⟩
  have hfl : ∀ a e x, (seqFlit a e x).rings = x.rings ∧ (seqFlit a e x).mgmt = x.mgmt := by
    intro a e x
    have e1 : ∀ (y : State) k l, (y.setLink k l).rings = y.rings := fun _ _ _ => rfl
    have e2 : ∀ (y : State) k l, (y.setLink k l).mgmt = y.mgmt := fun _ _ _ => rfl
    have e3 : ∀ (y : State) m, (y.send m).rings = y.rings := fun _ _ => rfl
    have e4 : ∀ (y : State) m, (y.send m).mgmt = y.mgmt := fun _ _ => rfl
    unfold seqFlit flitOut
    dsimp only
    split <;> simp only [e1, e2, e3, e4, and_self]
  have hsf : ∀ a l x, (sendFlits a l x).rings = x.rings ∧ (sendFlits a l x).mgmt = x.mgmt := by
    intro a l; induction l with
    | nil => intro x; exact ⟨rfl, rfl⟩
    | cons t ts ih =>
      intro x; unfold sendFlits; dsimp only; split
      · refine ⟨(ih _).1.trans ?_, (ih _).2.trans ?_⟩
        · exact (hfl _ _ _).1
        · exact (hfl _ _ _).2
      · exact ⟨rfl, rfl⟩
  have hqp : ∀ a k x, (queuePacket a k x).rings = x.rings ∧ (queuePacket a k x).mgmt = x.mgmt := by
    intro a k x; unfold queuePacket pumpLink; dsimp only; split
    · exact hsf _ _ _
    · exact ⟨rfl, rfl⟩
  have hsx : ∀ d k x, (sendFyx d k x).rings = x.rings ∧ (sendFyx d k x).mgmt = x.mgmt := by
    intro d k x; unfold sendFyx; dsimp only; split
    · exact hqp _ _ _
    · exact ⟨rfl, rfl⟩
  have hev : ∀ e x, (evqPlace e x).rings = x.rings ∧ (evqPlace e x).mgmt = x.mgmt := by
    intro e x; unfold evqPlace; split
    · unfold evqWrite; dsimp only; split
      · exact hs _ _
      · exact ⟨rfl, rfl⟩
    · split <;> exact ⟨rfl, rfl⟩
  have hr : ∀ a b c x, (emitRaw a b c x).rings = x.rings ∧ (emitRaw a b c x).mgmt = x.mgmt := by
    intro a b c x; unfold emitRaw evqNumber evqClearLost; dsimp only; split <;> exact hev _ _
  have hl : ∀ x, (emitLost x).rings = x.rings ∧ (emitLost x).mgmt = x.mgmt := by
    intro x; unfold emitLost; split
    · exact hr _ _ _ _
    · exact ⟨rfl, rfl⟩
  have hf : ∀ x, (forward source code p x).rings = x.rings ∧ (forward source code p x).mgmt = x.mgmt := by
    intro x; unfold forward; exact hsx _ _ _
  have hm : ∀ x, (eventMarks code x).rings = x.rings ∧ (eventMarks code x).mgmt = x.mgmt := by
    intro x; unfold eventMarks; (repeat' split) <;> exact ⟨rfl, rfl⟩
  have hg : ∀ a b d x, (logFault a b d (p.take 12) x).rings = x.rings ∧ (logFault a b d (p.take 12) x).mgmt = x.mgmt := by
    intro a b d x; unfold logFault logRepeat logNew; (repeat' split) <;> exact ⟨rfl, rfl⟩
  have hp : (publishEvent source code p s).rings = s.rings ∧ (publishEvent source code p s).mgmt = s.mgmt := by
    unfold publishEvent; split
    · exact hf s
    · exact ⟨(hr _ _ _ _).1.trans (hl s).1, (hr _ _ _ _).2.trans (hl s).2⟩
  unfold emit
  dsimp only
  split
  · exact ⟨((hg _ _ _ _).1.trans (hm _).1).trans hp.1, ((hg _ _ _ _).2.trans (hm _).2).trans hp.2⟩
  · exact ⟨(hm _).1.trans hp.1, (hm _).2.trans hp.2⟩

@[simp] theorem rings_emit (source code : Nat) (p : Bytes) (s : State) : (emit source code p s).rings = s.rings := (apart_emit _ _ _ _).1
@[simp] theorem mgmt_emit (source code : Nat) (p : Bytes) (s : State) : (emit source code p s).mgmt = s.mgmt := (apart_emit _ _ _ _).2

@[simp] theorem quiet_logNew (code source frame : Nat) (d : Bytes) (s : State) : (logNew code source frame d s).quiet = s.quiet := rfl

/-- Ending a staged command writes its ring's or port's window and one event (03 R75, 15 R609). -/
@[simp] theorem quiet_committed (ring : Nat) (tag : U16) (op : Nat) (st : Status) (f b n : Nat) (s : State) :
    (committed ring tag op st f b n s).quiet = s.quiet := by
  unfold committed
  dsimp only
  rw [quiet_emit]
  split <;> rfl

/-- The outcome of a staged command, where no pack operation waits (14 R576). -/
theorem quiet_stagedOutcome (ring : Nat) (tag : U16) (op : Nat) (st : Status) (f : Nat) (res : Bytes) (s : State)
    (hp : s.pack.ops = []) : (stagedOutcome ring tag op st f res s).quiet = s.quiet := by
  unfold stagedOutcome
  split
  · exact (complete_parts _ _ _ _ _ (show (15 : Nat) ≠ 16 by decide)).2.1
  · split
    · rw [hp]; rfl
    · simp [holdsOutcome, opOf, hp]

end Sys2Proof.Machine
end

