-- ==== Sys2Proof/Laws/Memory.lean ====
section
/-! SUPPORT. Laws of the byte memories: a read after a write, what a write leaves, and the canonical form that every operation keeps. -/
namespace Sys2Proof.Machine

/-! ### Reads and writes -/

theorem tab_get_del {α : Type} (d : α) (t : Tab α) (j k : Nat) : Tab.get d (Tab.del t k) j = if j = k then d else Tab.get d t j := by
  induction t with
  | nil => simp [Tab.del, Tab.get]
  | cons e t ih =>
    obtain ⟨i, a⟩ := e
    simp only [Tab.del] at ih ⊢
    by_cases hik : i = k
    · subst hik
      simp only [List.filter_cons, bne_self_eq_false, Bool.false_eq_true, if_false, ih, Tab.get]
      by_cases hj : j = i
      · simp [hj]
      · simp [hj, Ne.symm hj]
    · simp only [List.filter_cons, bne_iff_ne, ne_eq, hik, not_false_eq_true, if_true, Tab.get, ih]
      by_cases hij : i = j
      · subst hij; simp [hik]
      · simp [hij]

/-- A read after a write of one byte. -/
theorem memGet_memPut (m : List Host.Cell) (a x : Nat) (b : Byte) : memGet (memPut m a b) x = if x = a then b else memGet m x := by
  unfold memGet memPut
  split
  · rename_i h
    rw [tab_get_del, h]
  · by_cases hx : x = a
    · subst hx; rw [tab_get_put]; simp
    · rw [tab_get_put_ne _ _ _ _ _ hx]; simp [hx]

/-- A read after a write of a byte string. -/
theorem memGet_memWrite (m : List Host.Cell) (a x : Nat) (bs : Bytes) :
    memGet (memWrite m a bs) x = if a ≤ x ∧ x < a + bs.length then nth 0 bs (x - a) else memGet m x := by
  induction bs generalizing m a with
  | nil =>
    have : ¬ (a ≤ x ∧ x < a + 0) := by omega
    simp only [memWrite, List.length_nil, if_neg this]
  | cons b bs ih =>
    simp only [memWrite, ih, memGet_memPut, List.length_cons]
    by_cases hx : x = a
    · subst hx
      rw [if_neg (by omega), if_pos rfl, if_pos (by omega), Nat.sub_self]
      simp [nth]
    · by_cases h : a + 1 ≤ x ∧ x < a + 1 + bs.length
      · rw [if_pos h, if_pos (by omega), show x - a = (x - (a + 1)) + 1 by omega]
        simp [nth]
      · rw [if_neg h, if_neg hx, if_neg (by omega)]

/-- A read after a range is zeroed. -/
theorem memGet_memZero (m : List Host.Cell) (a n x : Nat) : memGet (memZero m a n) x = if a ≤ x ∧ x < a + n then 0 else memGet m x := by
  unfold memGet memZero
  induction m with
  | nil => simp [Tab.get]
  | cons e m ih =>
    obtain ⟨i, b⟩ := e
    simp only [List.filter_cons, Bool.or_eq_true, decide_eq_true_eq]
    by_cases hi : i < a ∨ a + n ≤ i
    · rw [if_pos hi]
      simp only [Tab.get, ih]
      by_cases hix : i = x
      · subst hix; rw [if_pos rfl, if_neg (by omega)]; simp
      · simp [hix]
    · rw [if_neg hi, ih]
      by_cases hx : a ≤ x ∧ x < a + n
      · simp [hx]
      · rw [if_neg hx, if_neg hx]
        simp only [Tab.get]
        rw [if_neg (by omega)]

@[simp] theorem length_memRead (m : List Host.Cell) (a n : Nat) : (memRead m a n).length = n := by
  induction n generalizing a with
  | zero => rfl
  | succ n ih => simp [memRead, ih]

/-- A byte of a string read. -/
theorem nth_memRead (m : List Host.Cell) (a n k : Nat) (h : k < n) : nth 0 (memRead m a n) k = memGet m (a + k) := by
  induction n generalizing a k with
  | zero => omega
  | succ n ih =>
    cases k with
    | zero => simp [memRead, nth]
    | succ k =>
      have := ih (a + 1) k (by omega)
      simpa [memRead, nth, Nat.add_comm, Nat.add_left_comm] using this

/-! ### The canonical form -/

theorem sortedFrom_mono {a b : Nat} {m : List Host.Cell} (hab : a ≤ b) (h : sortedFrom b m = true) : sortedFrom a m = true := by
  cases m with
  | nil => rfl
  | cons c cs =>
    simp only [sortedFrom, Bool.and_eq_true, decide_eq_true_eq] at h ⊢
    exact ⟨by omega, h.2⟩

theorem sortedFrom_filter (p : Host.Cell → Bool) (a : Nat) (m : List Host.Cell) (h : sortedFrom a m = true) : sortedFrom a (m.filter p) = true := by
  induction m generalizing a with
  | nil => rfl
  | cons c cs ih =>
    simp only [sortedFrom, Bool.and_eq_true, decide_eq_true_eq] at h
    simp only [List.filter_cons]
    split
    · simp only [sortedFrom, Bool.and_eq_true, decide_eq_true_eq]
      exact ⟨h.1, ih _ h.2⟩
    · exact sortedFrom_mono (by omega) (ih _ h.2)

theorem sortedFrom_put (a k : Nat) (b : Byte) (m : List Host.Cell) (hak : a ≤ k) (h : sortedFrom a m = true) :
    sortedFrom a (Tab.put m k b) = true := by
  induction m generalizing a with
  | nil => simp [Tab.put, sortedFrom, hak]
  | cons c cs ih =>
    obtain ⟨i, v⟩ := c
    simp only [sortedFrom, Bool.and_eq_true, decide_eq_true_eq] at h
    simp only [Tab.put]
    split
    · rename_i hik
      subst hik
      simp only [sortedFrom, Bool.and_eq_true, decide_eq_true_eq]
      exact ⟨h.1, h.2⟩
    · split
      · simp only [sortedFrom, Bool.and_eq_true, decide_eq_true_eq]
        exact ⟨hak, by omega, h.2⟩
      · simp only [sortedFrom, Bool.and_eq_true, decide_eq_true_eq]
        exact ⟨h.1, ih _ (by omega) h.2⟩

theorem all_put (p : Byte → Bool) (k : Nat) (b : Byte) (m : List Host.Cell) (hb : p b = true) (h : m.all (fun c => p c.2) = true) :
    (Tab.put m k b).all (fun c => p c.2) = true := by
  induction m with
  | nil => simp [Tab.put, hb]
  | cons c cs ih =>
    obtain ⟨i, v⟩ := c
    simp only [List.all_cons, Bool.and_eq_true] at h
    simp only [Tab.put]
    split
    · simp [hb, h.2]
    · split
      · simp only [List.all_cons, Bool.and_eq_true]; exact ⟨hb, h.1, h.2⟩
      · simp only [List.all_cons, Bool.and_eq_true]; exact ⟨h.1, ih h.2⟩

theorem memWf_filter (p : Host.Cell → Bool) (m : List Host.Cell) (h : memWf m = true) : memWf (m.filter p) = true := by
  simp only [memWf, Bool.and_eq_true] at h ⊢
  refine ⟨sortedFrom_filter _ _ _ h.1, ?_⟩
  simp only [List.all_eq_true, List.mem_filter] at h ⊢
  exact fun c hc => h.2 c hc.1

/-- Writing one byte keeps the canonical form. -/
theorem memWf_memPut (m : List Host.Cell) (a : Nat) (b : Byte) (h : memWf m = true) : memWf (memPut m a b) = true := by
  unfold memPut
  split
  · exact memWf_filter _ _ h
  · rename_i hb
    simp only [memWf, Bool.and_eq_true] at h ⊢
    exact ⟨sortedFrom_put _ _ _ _ (Nat.zero_le _) h.1, all_put (fun v => v != 0) _ _ _ (by simpa using hb) h.2⟩

/-- Writing a byte string keeps the canonical form. -/
theorem memWf_memWrite (m : List Host.Cell) (a : Nat) (bs : Bytes) (h : memWf m = true) : memWf (memWrite m a bs) = true := by
  induction bs generalizing m a with
  | nil => exact h
  | cons b bs ih => exact ih _ _ (memWf_memPut _ _ _ h)

/-- Zeroing a range keeps the canonical form. -/
theorem memWf_memZero (m : List Host.Cell) (a n : Nat) (h : memWf m = true) : memWf (memZero m a n) = true := memWf_filter _ _ h

theorem tab_all_put {α : Type} (p : α → Bool) (t : Tab α) (k : Nat) (a : α) (ha : p a = true) (h : t.all (fun e => p e.2) = true) :
    (Tab.put t k a).all (fun e => p e.2) = true := by
  induction t with
  | nil => simp [Tab.put, ha]
  | cons e t ih =>
    obtain ⟨i, v⟩ := e
    simp only [List.all_cons, Bool.and_eq_true] at h
    simp only [Tab.put]
    split
    · simp [ha, h.2]
    · split
      · simp only [List.all_cons, Bool.and_eq_true]; exact ⟨ha, h.1, h.2⟩
      · simp only [List.all_cons, Bool.and_eq_true]; exact ⟨h.1, ih h.2⟩

theorem tab_all_get {α : Type} (p : α → Bool) (d : α) (t : Tab α) (k : Nat) (hd : p d = true) (h : t.all (fun e => p e.2) = true) :
    p (Tab.get d t k) = true := by
  induction t with
  | nil => simpa [Tab.get] using hd
  | cons e t ih =>
    obtain ⟨i, v⟩ := e
    simp only [List.all_cons, Bool.and_eq_true] at h
    simp only [Tab.get]
    split
    · exact h.1
    · exact ih h.2

/-- A change of one memory that keeps the form keeps it for all. -/
theorem memoriesWf_onMem (s : State) (m : Mem) (f : List Host.Cell → List Host.Cell) (hf : ∀ c, memWf c = true → memWf (f c) = true)
    (h : memoriesWf s = true) : memoriesWf (s.onMem m f) = true := by
  simp only [memoriesWf, Bool.and_eq_true] at h
  cases m with
  | cm c =>
    simp only [State.onMem, memoriesWf, Bool.and_eq_true]
    exact ⟨⟨h.1.1, tab_all_put memWf _ _ _ (hf _ (tab_all_get memWf [] s.mem.cm c (by rfl) h.1.2)) h.1.2⟩, h.2⟩
  | kennel =>
    simp only [State.onMem, memoriesWf, Bool.and_eq_true]
    exact ⟨⟨⟨hf _ h.1.1.1, h.1.1.2⟩, h.1.2⟩, h.2⟩
  | dram =>
    simp only [State.onMem, memoriesWf, Bool.and_eq_true]
    exact ⟨⟨⟨h.1.1.1, hf _ h.1.1.2⟩, h.1.2⟩, h.2⟩

theorem memoriesWf_writeMem (m : Mem) (a : Nat) (bs : Bytes) (s : State) (h : memoriesWf s = true) : memoriesWf (writeMem m a bs s) = true :=
  memoriesWf_onMem _ _ _ (fun c => memWf_memWrite c a bs) h

theorem memoriesWf_zeroMem (m : Mem) (a n : Nat) (s : State) (h : memoriesWf s = true) : memoriesWf (zeroMem m a n s) = true :=
  memoriesWf_onMem _ _ _ (fun c => memWf_memZero c a n) h

/-- After reset every memory is empty. -/
theorem memoriesWf_reset : memoriesWf State.reset = true := by decide

end Sys2Proof.Machine
end

