-- ==== Sys2Proof/Laws/PerInstr.lean ====
section
/-! SUPPORT. Per command, as syntax: the table spells none of them by bits, and a host command is well formed when its header is. -/
set_option Elab.async false
namespace Sys2Proof.Laws.Row
open Sys2Proof

/-- The header of a host command that was fetched from a ring or the management port (03 R64); other commands have none. -/
def header : Instr → Option Hdr
  | .nop h _ => some h
  | .getInfo h _ => some h
  | .resync h _ => some h
  | .powerProfile h _ => some h
  | .keepRead h _ => some h
  | .keepWrite h _ => some h
  | .faultExport h _ => some h
  | .fwInstall h _ _ => some h
  | .customerKeyProgram h _ => some h
  | .deviceReset h _ => some h
  | .modelLoad h _ => some h
  | .modelReside h _ => some h
  | .modelUnload h _ => some h
  | .modelQuery h _ => some h
  | .streamConfig h _ => some h
  | .streamStart h _ => some h
  | .streamStop h _ => some h
  | .streamRelease h _ => some h
  | .bufferPost h _ => some h
  | .routeSet h _ => some h
  | .outputSet h _ => some h
  | .groupSet h _ => some h
  | .setProfile h _ => some h
  | .certRead h _ => some h
  | .csiConfig h _ => some h
  | .sensorProfileLoad h _ => some h
  | .setExposure h _ => some h
  | .rfeSet h _ => some h
  | .irledSet h _ => some h
  | .fsyncSet h _ => some h
  | .sensorPower h _ => some h
  | .sctlXfer h _ _ _ _ => some h
  | .jobSubmit h _ _ => some h
  | .jobKill h _ => some h
  | .memoryModeSet h _ => some h
  | .windowOpen h _ => some h
  | .windowClose h _ => some h
  | .scrubSet h _ => some h
  | .treeLoad h _ _ _ _ => some h
  | .treeUnload h _ => some h
  | .treeBind h _ => some h
  | .profileTableSet h _ => some h
  | .packForm h _ => some h
  | .packDissolve h _ => some h
  | .packEject h _ => some h
  | .packTimeoutSet h _ => some h
  | .countersSnapshot h _ => some h
  | .debugRead h _ _ => some h
  | .testChallenge h _ => some h
  | .testUnlock h _ => some h
  | .debugLock h _ => some h
  | _ => none

/-- The command table gives the row no bits, so no word spells the command; and a command with a header is well formed exactly when its ring
is 0 to 7, or 15 for the management port (03 R60, R66). -/
def Statement (i : Instr) : Prop := (∀ n w, decodeTableWord n w ≠ some i) ∧ ∀ h, header i = some h → (i.wf = true ↔ h.ring < 8 ∨ h.ring = 15)

/-- No word spells a command. -/
theorem no_word (i : Instr) (n w : Nat) : decodeTableWord n w ≠ some i := nofun

theorem nop (h : Hdr) (p : Bytes) : Statement (.nop h p) := ⟨no_word _, fun h e => by cases e; simp [Instr.wf, hdrOk]⟩
theorem getInfo (h : Hdr) (p : Bytes) : Statement (.getInfo h p) := ⟨no_word _, fun h e => by cases e; simp [Instr.wf, hdrOk]⟩
theorem resync (h : Hdr) (p : Bytes) : Statement (.resync h p) := ⟨no_word _, fun h e => by cases e; simp [Instr.wf, hdrOk]⟩
theorem powerProfile (h : Hdr) (p : Bytes) : Statement (.powerProfile h p) := ⟨no_word _, fun h e => by cases e; simp [Instr.wf, hdrOk]⟩
theorem keepRead (h : Hdr) (p : Bytes) : Statement (.keepRead h p) := ⟨no_word _, fun h e => by cases e; simp [Instr.wf, hdrOk]⟩
theorem keepWrite (h : Hdr) (p : Bytes) : Statement (.keepWrite h p) := ⟨no_word _, fun h e => by cases e; simp [Instr.wf, hdrOk]⟩
theorem faultExport (h : Hdr) (p : Bytes) : Statement (.faultExport h p) := ⟨no_word _, fun h e => by cases e; simp [Instr.wf, hdrOk]⟩
theorem fwInstall (h : Hdr) (p : Bytes) (image : Option Bytes) : Statement (.fwInstall h p image) := ⟨no_word _, fun h e => by cases e; simp [Instr.wf, hdrOk]⟩
theorem customerKeyProgram (h : Hdr) (p : Bytes) : Statement (.customerKeyProgram h p) := ⟨no_word _, fun h e => by cases e; simp [Instr.wf, hdrOk]⟩
theorem deviceReset (h : Hdr) (p : Bytes) : Statement (.deviceReset h p) := ⟨no_word _, fun h e => by cases e; simp [Instr.wf, hdrOk]⟩
theorem modelLoad (h : Hdr) (p : Bytes) : Statement (.modelLoad h p) := ⟨no_word _, fun h e => by cases e; simp [Instr.wf, hdrOk]⟩
theorem modelReside (h : Hdr) (p : Bytes) : Statement (.modelReside h p) := ⟨no_word _, fun h e => by cases e; simp [Instr.wf, hdrOk]⟩
theorem modelUnload (h : Hdr) (p : Bytes) : Statement (.modelUnload h p) := ⟨no_word _, fun h e => by cases e; simp [Instr.wf, hdrOk]⟩
theorem modelQuery (h : Hdr) (p : Bytes) : Statement (.modelQuery h p) := ⟨no_word _, fun h e => by cases e; simp [Instr.wf, hdrOk]⟩
theorem streamConfig (h : Hdr) (p : Bytes) : Statement (.streamConfig h p) := ⟨no_word _, fun h e => by cases e; simp [Instr.wf, hdrOk]⟩
theorem streamStart (h : Hdr) (p : Bytes) : Statement (.streamStart h p) := ⟨no_word _, fun h e => by cases e; simp [Instr.wf, hdrOk]⟩
theorem streamStop (h : Hdr) (p : Bytes) : Statement (.streamStop h p) := ⟨no_word _, fun h e => by cases e; simp [Instr.wf, hdrOk]⟩
theorem streamRelease (h : Hdr) (p : Bytes) : Statement (.streamRelease h p) := ⟨no_word _, fun h e => by cases e; simp [Instr.wf, hdrOk]⟩
theorem bufferPost (h : Hdr) (p : Bytes) : Statement (.bufferPost h p) := ⟨no_word _, fun h e => by cases e; simp [Instr.wf, hdrOk]⟩
theorem routeSet (h : Hdr) (p : Bytes) : Statement (.routeSet h p) := ⟨no_word _, fun h e => by cases e; simp [Instr.wf, hdrOk]⟩
theorem outputSet (h : Hdr) (p : Bytes) : Statement (.outputSet h p) := ⟨no_word _, fun h e => by cases e; simp [Instr.wf, hdrOk]⟩
theorem groupSet (h : Hdr) (p : Bytes) : Statement (.groupSet h p) := ⟨no_word _, fun h e => by cases e; simp [Instr.wf, hdrOk]⟩
theorem setProfile (h : Hdr) (p : Bytes) : Statement (.setProfile h p) := ⟨no_word _, fun h e => by cases e; simp [Instr.wf, hdrOk]⟩
theorem certRead (h : Hdr) (p : Bytes) : Statement (.certRead h p) := ⟨no_word _, fun h e => by cases e; simp [Instr.wf, hdrOk]⟩
theorem csiConfig (h : Hdr) (p : Bytes) : Statement (.csiConfig h p) := ⟨no_word _, fun h e => by cases e; simp [Instr.wf, hdrOk]⟩
theorem sensorProfileLoad (h : Hdr) (p : Bytes) : Statement (.sensorProfileLoad h p) := ⟨no_word _, fun h e => by cases e; simp [Instr.wf, hdrOk]⟩
theorem setExposure (h : Hdr) (p : Bytes) : Statement (.setExposure h p) := ⟨no_word _, fun h e => by cases e; simp [Instr.wf, hdrOk]⟩
theorem rfeSet (h : Hdr) (p : Bytes) : Statement (.rfeSet h p) := ⟨no_word _, fun h e => by cases e; simp [Instr.wf, hdrOk]⟩
theorem irledSet (h : Hdr) (p : Bytes) : Statement (.irledSet h p) := ⟨no_word _, fun h e => by cases e; simp [Instr.wf, hdrOk]⟩
theorem fsyncSet (h : Hdr) (p : Bytes) : Statement (.fsyncSet h p) := ⟨no_word _, fun h e => by cases e; simp [Instr.wf, hdrOk]⟩
theorem sensorPower (h : Hdr) (p : Bytes) : Statement (.sensorPower h p) := ⟨no_word _, fun h e => by cases e; simp [Instr.wf, hdrOk]⟩
theorem sctlXfer (h : Hdr) (p : Bytes) (result nak : Nat) (data : Bytes) : Statement (.sctlXfer h p result nak data) := ⟨no_word _, fun h e => by cases e; simp [Instr.wf, hdrOk]⟩
theorem jobSubmit (h : Hdr) (p : Bytes) (shape : Option (List Nat)) : Statement (.jobSubmit h p shape) := ⟨no_word _, fun h e => by cases e; simp [Instr.wf, hdrOk]⟩
theorem jobKill (h : Hdr) (p : Bytes) : Statement (.jobKill h p) := ⟨no_word _, fun h e => by cases e; simp [Instr.wf, hdrOk]⟩
theorem memoryModeSet (h : Hdr) (p : Bytes) : Statement (.memoryModeSet h p) := ⟨no_word _, fun h e => by cases e; simp [Instr.wf, hdrOk]⟩
theorem windowOpen (h : Hdr) (p : Bytes) : Statement (.windowOpen h p) := ⟨no_word _, fun h e => by cases e; simp [Instr.wf, hdrOk]⟩
theorem windowClose (h : Hdr) (p : Bytes) : Statement (.windowClose h p) := ⟨no_word _, fun h e => by cases e; simp [Instr.wf, hdrOk]⟩
theorem scrubSet (h : Hdr) (p : Bytes) : Statement (.scrubSet h p) := ⟨no_word _, fun h e => by cases e; simp [Instr.wf, hdrOk]⟩
theorem treeLoad (h : Hdr) (p : Bytes) (nodes roots front : Option Bytes) : Statement (.treeLoad h p nodes roots front) := ⟨no_word _, fun h e => by cases e; simp [Instr.wf, hdrOk]⟩
theorem treeUnload (h : Hdr) (p : Bytes) : Statement (.treeUnload h p) := ⟨no_word _, fun h e => by cases e; simp [Instr.wf, hdrOk]⟩
theorem treeBind (h : Hdr) (p : Bytes) : Statement (.treeBind h p) := ⟨no_word _, fun h e => by cases e; simp [Instr.wf, hdrOk]⟩
theorem profileTableSet (h : Hdr) (p : Bytes) : Statement (.profileTableSet h p) := ⟨no_word _, fun h e => by cases e; simp [Instr.wf, hdrOk]⟩
theorem packForm (h : Hdr) (p : Bytes) : Statement (.packForm h p) := ⟨no_word _, fun h e => by cases e; simp [Instr.wf, hdrOk]⟩
theorem packDissolve (h : Hdr) (p : Bytes) : Statement (.packDissolve h p) := ⟨no_word _, fun h e => by cases e; simp [Instr.wf, hdrOk]⟩
theorem packEject (h : Hdr) (p : Bytes) : Statement (.packEject h p) := ⟨no_word _, fun h e => by cases e; simp [Instr.wf, hdrOk]⟩
theorem packTimeoutSet (h : Hdr) (p : Bytes) : Statement (.packTimeoutSet h p) := ⟨no_word _, fun h e => by cases e; simp [Instr.wf, hdrOk]⟩
theorem countersSnapshot (h : Hdr) (p : Bytes) : Statement (.countersSnapshot h p) := ⟨no_word _, fun h e => by cases e; simp [Instr.wf, hdrOk]⟩
theorem debugRead (h : Hdr) (p : Bytes) (errors : List ReadError) : Statement (.debugRead h p errors) := ⟨no_word _, fun h e => by cases e; simp [Instr.wf, hdrOk]⟩
theorem testChallenge (h : Hdr) (p : Bytes) : Statement (.testChallenge h p) := ⟨no_word _, fun h e => by cases e; simp [Instr.wf, hdrOk]⟩
theorem testUnlock (h : Hdr) (p : Bytes) : Statement (.testUnlock h p) := ⟨no_word _, fun h e => by cases e; simp [Instr.wf, hdrOk]⟩
theorem debugLock (h : Hdr) (p : Bytes) : Statement (.debugLock h p) := ⟨no_word _, fun h e => by cases e; simp [Instr.wf, hdrOk]⟩
theorem slotFetch (ring : Nat) (slot : Option Bytes) : Statement (.slotFetch ring slot) := ⟨no_word _, nofun⟩
theorem ringWhistleWrite (ring : Nat) (value : U32) : Statement (.ringWhistleWrite ring value) := ⟨no_word _, nofun⟩
theorem ringCqHeadWrite (ring : Nat) (value : U32) : Statement (.ringCqHeadWrite ring value) := ⟨no_word _, nofun⟩
theorem evqHeadWrite (value : U32) : Statement (.evqHeadWrite value) := ⟨no_word _, nofun⟩
theorem ringEnable (ring : Nat) (coalCount : Byte) (coalUsec : BitVec 10) : Statement (.ringEnable ring coalCount coalUsec) := ⟨no_word _, nofun⟩
theorem ringDisable (ring : Nat) : Statement (.ringDisable ring) := ⟨no_word _, nofun⟩
theorem evqEnable (coalCount : Byte) (coalUsec : BitVec 10) : Statement (.evqEnable coalCount coalUsec) := ⟨no_word _, nofun⟩
theorem evqDisable : Statement (.evqDisable) := ⟨no_word _, nofun⟩
theorem evqLostRead : Statement (.evqLostRead) := ⟨no_word _, nofun⟩
theorem glbStrayRead : Statement (.glbStrayRead) := ⟨no_word _, nofun⟩
theorem registerWrite (t : RegTarget) (value : U32) : Statement (.registerWrite t value) := ⟨no_word _, nofun⟩
theorem bar0StrayAccess (isRead : Bool) (len : Nat) : Statement (.bar0StrayAccess isRead len) := ⟨no_word _, nofun⟩
theorem interruptCoalesceTimeout (vector : Nat) : Statement (.interruptCoalesceTimeout vector) := ⟨no_word _, nofun⟩
theorem msixUnmask (w : MsixWrite) : Statement (.msixUnmask w) := ⟨no_word _, nofun⟩
theorem commandBoundTimeout (ring : Nat) (tag : U16) : Statement (.commandBoundTimeout ring tag) := ⟨no_word _, nofun⟩
theorem dmaReadCompletion (id : Nat) (data : Option Bytes) : Statement (.dmaReadCompletion id data) := ⟨no_word _, nofun⟩
theorem dmaReadTimeout (id : Nat) : Statement (.dmaReadTimeout id) := ⟨no_word _, nofun⟩
theorem mgmtSubmit (bytes : Bytes) : Statement (.mgmtSubmit bytes) := ⟨no_word _, nofun⟩
theorem mgmtPoll (extra reads : Nat) : Statement (.mgmtPoll extra reads) := ⟨no_word _, nofun⟩
theorem mgmtRead (offset count extra reads : Nat) : Statement (.mgmtRead offset count extra reads) := ⟨no_word _, nofun⟩
theorem mgmtBusTimeout (sda scl : Bool) : Statement (.mgmtBusTimeout sda scl) := ⟨no_word _, nofun⟩
theorem pcieLinkDown : Statement (.pcieLinkDown) := ⟨no_word _, nofun⟩
theorem pcieLinkUp : Statement (.pcieLinkUp) := ⟨no_word _, nofun⟩
theorem pciePerstNAssert : Statement (.pciePerstNAssert) := ⟨no_word _, nofun⟩
theorem pciePerstNRelease : Statement (.pciePerstNRelease) := ⟨no_word _, nofun⟩
theorem flr : Statement (.flr) := ⟨no_word _, nofun⟩
theorem busMasterEnableClear : Statement (.busMasterEnableClear) := ⟨no_word _, nofun⟩
theorem d3hotEntry : Statement (.d3hotEntry) := ⟨no_word _, nofun⟩
theorem poisonedTlpWrite (bar : Nat) : Statement (.poisonedTlpWrite bar) := ⟨no_word _, nofun⟩
theorem bar2Read (offset len : Nat) (errors : List ReadError) : Statement (.bar2Read offset len errors) := ⟨no_word _, nofun⟩
theorem bar2Write (offset : Nat) (data : Bytes) : Statement (.bar2Write offset data) := ⟨no_word _, nofun⟩
theorem bar2StrayAccess (isRead : Bool) (len : Nat) : Statement (.bar2StrayAccess isRead len) := ⟨no_word _, nofun⟩
theorem timeNowLoRead : Statement (.timeNowLoRead) := ⟨no_word _, nofun⟩
theorem timeCapture : Statement (.timeCapture) := ⟨no_word _, nofun⟩
theorem keepwUserWrite (word : Nat) (value : U32) : Statement (.keepwUserWrite word value) := ⟨no_word _, nofun⟩
theorem keepwSetWrite (word : Nat) (value : U32) : Statement (.keepwSetWrite word value) := ⟨no_word _, nofun⟩
theorem keepwQueueEntry : Statement (.keepwQueueEntry) := ⟨no_word _, nofun⟩
theorem perfLatch (value : U32) : Statement (.perfLatch value) := ⟨no_word _, nofun⟩
theorem perfLatchDone : Statement (.perfLatchDone) := ⟨no_word _, nofun⟩
theorem glbBootGo : Statement (.glbBootGo) := ⟨no_word _, nofun⟩
theorem hostDownloadDone (image : Option Bytes) : Statement (.hostDownloadDone image) := ⟨no_word _, nofun⟩
theorem hostFrameAccept (sc picture : Nat) : Statement (.hostFrameAccept sc picture) := ⟨no_word _, nofun⟩
theorem csiFrameStart (port vc sensorFrame : Nat) (corrected lost : Bool) : Statement (.csiFrameStart port vc sensorFrame corrected lost) := ⟨no_word _, nofun⟩
theorem csiFrameEnd (port vc sensorFrame ecc : Nat) : Statement (.csiFrameEnd port vc sensorFrame ecc) := ⟨no_word _, nofun⟩
theorem csiLongPacket (port vc dataType ecc : Nat) (crcOk : Bool) (payload : Bytes) : Statement (.csiLongPacket port vc dataType ecc crcOk payload) := ⟨no_word _, nofun⟩
theorem frameEndTimeout (port vc : Nat) : Statement (.frameEndTimeout port vc) := ⟨no_word _, nofun⟩
theorem csiHsBurst (port started inverted : Nat) (order : Option Nat) : Statement (.csiHsBurst port started inverted order) := ⟨no_word _, nofun⟩
theorem deskewSequence (port : Nat) (delays : List Nat) : Statement (.deskewSequence port delays) := ⟨no_word _, nofun⟩
theorem deskewTimeout (port : Nat) : Statement (.deskewTimeout port) := ⟨no_word _, nofun⟩
theorem clockLostTimeout (port : Nat) : Statement (.clockLostTimeout port) := ⟨no_word _, nofun⟩
theorem sourceLostTimeout (sc : Nat) : Statement (.sourceLostTimeout sc) := ⟨no_word _, nofun⟩
theorem statsComplete (port vc : Nat) : Statement (.statsComplete port vc) := ⟨no_word _, nofun⟩
theorem exposureWriteWindow (sc : Nat) (edge : Option Nat) : Statement (.exposureWriteWindow sc edge) := ⟨no_word _, nofun⟩
theorem exposureCommitAck (sc : Nat) : Statement (.exposureCommitAck sc) := ⟨no_word _, nofun⟩
theorem exposureWindowClose (sc result : Nat) : Statement (.exposureWindowClose sc result) := ⟨no_word _, nofun⟩
theorem sctlXferDone (bus result nak : Nat) (data : Bytes) : Statement (.sctlXferDone bus result nak data) := ⟨no_word _, nofun⟩
theorem sctlStuckTimeout (bus : Nat) (sda scl released : Bool) : Statement (.sctlStuckTimeout bus sda scl released) := ⟨no_word _, nofun⟩
theorem sctlBusRecovered (bus : Nat) : Statement (.sctlBusRecovered bus) := ⟨no_word _, nofun⟩
theorem irledPulseStart (channel : Nat) : Statement (.irledPulseStart channel) := ⟨no_word _, nofun⟩
theorem irledPulseEnd (channel : Nat) : Statement (.irledPulseEnd channel) := ⟨no_word _, nofun⟩
theorem irledFaultDetect (channel : Nat) (short : Bool) : Statement (.irledFaultDetect channel short) := ⟨no_word _, nofun⟩
theorem fsyncOutEdge (k : Nat) : Statement (.fsyncOutEdge k) := ⟨no_word _, nofun⟩
theorem fsyncInEdge (k : Nat) : Statement (.fsyncInEdge k) := ⟨no_word _, nofun⟩
theorem sensorPwrSettled (k : Nat) : Statement (.sensorPwrSettled k) := ⟨no_word _, nofun⟩
theorem sensorPwrOvercurrent (k : Nat) : Statement (.sensorPwrOvercurrent k) := ⟨no_word _, nofun⟩
theorem sensorPwrRetry (k : Nat) : Statement (.sensorPwrRetry k) := ⟨no_word _, nofun⟩
theorem sensorPwrBackfeed (k : Nat) : Statement (.sensorPwrBackfeed k) := ⟨no_word _, nofun⟩
theorem tileStart (core : Nat) (tile : QueuedTile) : Statement (.tileStart core tile) := ⟨no_word _, nofun⟩
theorem tileComplete (core queue : Nat) (errors : List ReadError) : Statement (.tileComplete core queue errors) := ⟨no_word _, nofun⟩
theorem scuArithmetic (core : Nat) (op : ScuOp) (rd rs : Nat) (arg : ScuArg) : Statement (.scuArithmetic core op rd rs arg) := ⟨no_word _, nofun⟩
theorem scuLoad (core rd rs : Nat) (offset : Int) (width : Width) (errors : List ReadError) : Statement (.scuLoad core rd rs offset width errors) := ⟨no_word _, nofun⟩
theorem scuLoadReturn (core rd : Nat) : Statement (.scuLoadReturn core rd) := ⟨no_word _, nofun⟩
theorem scuStore (core rs rb : Nat) (offset : Int) (width : Width) : Statement (.scuStore core rs rb offset width) := ⟨no_word _, nofun⟩
theorem scuBranch (core : Nat) (cond : ScuCond) (a b : Nat) (offset : Int) : Statement (.scuBranch core cond a b offset) := ⟨no_word _, nofun⟩
theorem fq (core rs : Nat) : Statement (.fq core rs) := ⟨no_word _, nofun⟩
theorem xq (core rs : Nat) : Statement (.xq core rs) := ⟨no_word _, nofun⟩
theorem twait (core queue rs : Nat) : Statement (.twait core queue rs) := ⟨no_word _, nofun⟩
theorem qstat (core rd : Nat) : Statement (.qstat core rd) := ⟨no_word _, nofun⟩
theorem fenceFull (core : Nat) : Statement (.fenceFull core) := ⟨no_word _, nofun⟩
theorem fenceRemote (core : Nat) : Statement (.fenceRemote core) := ⟨no_word _, nofun⟩
theorem csrr (core rd : Nat) (r : CoreReg) : Statement (.csrr core rd r) := ⟨no_word _, nofun⟩
theorem csrw (core rs : Nat) (r : CoreReg) : Statement (.csrw core rs r) := ⟨no_word _, nofun⟩
theorem evt (core code : Nat) : Statement (.evt core code) := ⟨no_word _, nofun⟩
theorem done (core : Nat) : Statement (.done core) := ⟨no_word _, nofun⟩
theorem trap (core code : Nat) : Statement (.trap core code) := ⟨no_word _, nofun⟩
theorem fetchLoad (core : Nat) (errors : List ReadError) : Statement (.fetchLoad core errors) := ⟨no_word _, nofun⟩
theorem fetchStore (core : Nat) (errors : List ReadError) : Statement (.fetchStore core errors) := ⟨no_word _, nofun⟩
theorem fetchGather (core : Nat) (errors : List ReadError) : Statement (.fetchGather core errors) := ⟨no_word _, nofun⟩
theorem fetchFill (core : Nat) : Statement (.fetchFill core) := ⟨no_word _, nofun⟩
theorem fetchCopy (core : Nat) (errors : List ReadError) : Statement (.fetchCopy core errors) := ⟨no_word _, nofun⟩
theorem fetchPublish (core : Nat) : Statement (.fetchPublish core) := ⟨no_word _, nofun⟩
theorem fetchDescriptorComplete (core index : Nat) : Statement (.fetchDescriptorComplete core index) := ⟨no_word _, nofun⟩
theorem mergeEntryTimeout (core : Nat) : Statement (.mergeEntryTimeout core) := ⟨no_word _, nofun⟩
theorem dramTransactionComplete (channel error : Nat) : Statement (.dramTransactionComplete channel error) := ⟨no_word _, nofun⟩
theorem iacFillReturn (id : Nat) : Statement (.iacFillReturn id) := ⟨no_word _, nofun⟩
theorem haloTimeout (core boundary consumer producer counter : Nat) (top : Bool) : Statement (.haloTimeout core boundary consumer producer counter top) := ⟨no_word _, nofun⟩
theorem jobHaloTimeout (core counter : Nat) (top : Bool) : Statement (.jobHaloTimeout core counter top) := ⟨no_word _, nofun⟩
theorem coreWatchdog (core : Nat) (executor : Bool) : Statement (.coreWatchdog core executor) := ⟨no_word _, nofun⟩
theorem narrowWaitTimeout (core reg : Nat) : Statement (.narrowWaitTimeout core reg) := ⟨no_word _, nofun⟩
theorem narrowWindowRollover (core group : Nat) : Statement (.narrowWindowRollover core group) := ⟨no_word _, nofun⟩
theorem scrubTick (memory core bank : Nat) (errors : List ScrubError) : Statement (.scrubTick memory core bank errors) := ⟨no_word _, nofun⟩
theorem unitFillComplete (unit : Nat) : Statement (.unitFillComplete unit) := ⟨no_word _, nofun⟩
theorem kennelDomainReady (d : Nat) : Statement (.kennelDomainReady d) := ⟨no_word _, nofun⟩
theorem kennelDomainPowerOff (d : Nat) : Statement (.kennelDomainPowerOff d) := ⟨no_word _, nofun⟩
theorem domainPoweredUp (d : Nat) : Statement (.domainPoweredUp d) := ⟨no_word _, nofun⟩
theorem coreDomainIdleTimeout (core : Nat) : Statement (.coreDomainIdleTimeout core) := ⟨no_word _, nofun⟩
theorem ofmDomainIdleTimeout : Statement (.ofmDomainIdleTimeout) := ⟨no_word _, nofun⟩
theorem dramUnitFillDone (first : Nat) : Statement (.dramUnitFillDone first) := ⟨no_word _, nofun⟩
theorem residencyOperationStart : Statement (.residencyOperationStart) := ⟨no_word _, nofun⟩
theorem residencyOperationDone (ok : Bool) : Statement (.residencyOperationDone ok) := ⟨no_word _, nofun⟩
theorem modelLoadCopyDone (handle : Nat) (pkg : Option Package) : Statement (.modelLoadCopyDone handle pkg) := ⟨no_word _, nofun⟩
theorem flashOperationDone (ok : Bool) : Statement (.flashOperationDone ok) := ⟨no_word _, nofun⟩
theorem dramRetrainStart (channel : Nat) : Statement (.dramRetrainStart channel) := ⟨no_word _, nofun⟩
theorem dramRetrained (channel rate : Nat) : Statement (.dramRetrained channel rate) := ⟨no_word _, nofun⟩
theorem dramChannelDown (channel : Nat) : Statement (.dramChannelDown channel) := ⟨no_word _, nofun⟩
theorem operatingPointChangeDone (core : Nat) : Statement (.operatingPointChangeDone core) := ⟨no_word _, nofun⟩
theorem avsTick (margin : Int) : Statement (.avsTick margin) := ⟨no_word _, nofun⟩
theorem avsCodeStep : Statement (.avsCodeStep) := ⟨no_word _, nofun⟩
theorem outputDeadline (sc frame phase desc : Nat) : Statement (.outputDeadline sc frame phase desc) := ⟨no_word _, nofun⟩
theorem tileCheck (sc frame phase tile : Nat) (eccError : Bool) (errors : List ReadError) : Statement (.tileCheck sc frame phase tile eccError errors) := ⟨no_word _, nofun⟩
theorem bandRelease (sc frame phase band : Nat) : Statement (.bandRelease sc frame phase band) := ⟨no_word _, nofun⟩
theorem bandReleaseDeadline (sc frame phase band : Nat) : Statement (.bandReleaseDeadline sc frame phase band) := ⟨no_word _, nofun⟩
theorem ofmRowWrite (sc frame phase desc row : Nat) : Statement (.ofmRowWrite sc frame phase desc row) := ⟨no_word _, nofun⟩
theorem outputComplete (sc frame phase desc : Nat) : Statement (.outputComplete sc frame phase desc) := ⟨no_word _, nofun⟩
theorem groupWindowExpiry (group : Nat) : Statement (.groupWindowExpiry group) := ⟨no_word _, nofun⟩
theorem voteStart (badTrees : List Nat) (tableError : Bool) : Statement (.voteStart badTrees tableError) := ⟨no_word _, nofun⟩
theorem voteComplete : Statement (.voteComplete) := ⟨no_word _, nofun⟩
theorem thermalSample (temps : List Int) : Statement (.thermalSample temps) := ⟨no_word _, nofun⟩
theorem thermalDegradeStep : Statement (.thermalDegradeStep) := ⟨no_word _, nofun⟩
theorem thermalRecoveryTimeout : Statement (.thermalRecoveryTimeout) := ⟨no_word _, nofun⟩
theorem thermalClearTimeout : Statement (.thermalClearTimeout) := ⟨no_word _, nofun⟩
theorem thermalTrip (sensor : Nat) : Statement (.thermalTrip sensor) := ⟨no_word _, nofun⟩
theorem fyxOrderedSet (port : Nat) (lanes : List LaneBlock) : Statement (.fyxOrderedSet port lanes) := ⟨no_word _, nofun⟩
theorem fyxTrainingTimeout (port : Nat) : Statement (.fyxTrainingTimeout port) := ⟨no_word _, nofun⟩
theorem fyxFlitReceived (port : Nat) (lanes : List LaneBlock) : Statement (.fyxFlitReceived port lanes) := ⟨no_word _, nofun⟩
theorem fyxIdleFlitTimer (port : Nat) : Statement (.fyxIdleFlitTimer port) := ⟨no_word _, nofun⟩
theorem fyxReplayTimeout (port : Nat) : Statement (.fyxReplayTimeout port) := ⟨no_word _, nofun⟩
theorem fyxLinkDown (port : Nat) : Statement (.fyxLinkDown port) := ⟨no_word _, nofun⟩
theorem fyxDownRetryTimeout (port : Nat) : Statement (.fyxDownRetryTimeout port) := ⟨no_word _, nofun⟩
theorem fyxLaneFaultDetect (port lanes : Nat) (short : Bool) : Statement (.fyxLaneFaultDetect port lanes short) := ⟨no_word _, nofun⟩
theorem discover (port : Nat) (k : Packet) : Statement (.discover port k) := ⟨no_word _, nofun⟩
theorem packInfo (k : Packet) : Statement (.packInfo k) := ⟨no_word _, nofun⟩
theorem planHashes (k : Packet) : Statement (.planHashes k) := ⟨no_word _, nofun⟩
theorem packFormDiscoveryTimeout : Statement (.packFormDiscoveryTimeout) := ⟨no_word _, nofun⟩
theorem form (k : Packet) (lead : Nat) : Statement (.form k lead) := ⟨no_word _, nofun⟩
theorem prepare (k : Packet) : Statement (.prepare k) := ⟨no_word _, nofun⟩
theorem prepAck (k : Packet) : Statement (.prepAck k) := ⟨no_word _, nofun⟩
theorem commit (k : Packet) : Statement (.commit k) := ⟨no_word _, nofun⟩
theorem abort (k : Packet) : Statement (.abort k) := ⟨no_word _, nofun⟩
theorem epoch (k : Packet) : Statement (.epoch k) := ⟨no_word _, nofun⟩
theorem eject (k : Packet) : Statement (.eject k) := ⟨no_word _, nofun⟩
theorem timeSyncTick : Statement (.timeSyncTick) := ⟨no_word _, nofun⟩
theorem timeSync (k : Packet) : Statement (.timeSync k) := ⟨no_word _, nofun⟩
theorem timeReply (k : Packet) : Statement (.timeReply k) := ⟨no_word _, nofun⟩
theorem timeFollow (k : Packet) : Statement (.timeFollow k) := ⟨no_word _, nofun⟩
theorem accept (k : Packet) : Statement (.accept k) := ⟨no_word _, nofun⟩
theorem bindReq (k : Packet) : Statement (.bindReq k) := ⟨no_word _, nofun⟩
theorem bind (k : Packet) : Statement (.bind k) := ⟨no_word _, nofun⟩
theorem bandReport (k : Packet) : Statement (.bandReport k) := ⟨no_word _, nofun⟩
theorem eventFwd (k : Packet) : Statement (.eventFwd k) := ⟨no_word _, nofun⟩
theorem featurePart (k : Packet) : Statement (.featurePart k) := ⟨no_word _, nofun⟩
theorem haloData (k : Packet) : Statement (.haloData k) := ⟨no_word _, nofun⟩
theorem counterExport (k : Packet) : Statement (.counterExport k) := ⟨no_word _, nofun⟩
theorem winWrite (k : Packet) : Statement (.winWrite k) := ⟨no_word _, nofun⟩
theorem winReadReq (k : Packet) (errors : List ReadError) : Statement (.winReadReq k errors) := ⟨no_word _, nofun⟩
theorem winReadResp (k : Packet) : Statement (.winReadResp k) := ⟨no_word _, nofun⟩
theorem winAck (k : Packet) : Statement (.winAck k) := ⟨no_word _, nofun⟩
theorem winClosed (k : Packet) : Statement (.winClosed k) := ⟨no_word _, nofun⟩
theorem dbgRead (k : Packet) (errors : List ReadError) : Statement (.dbgRead k errors) := ⟨no_word _, nofun⟩
theorem memberStatus (k : Packet) : Statement (.memberStatus k) := ⟨no_word _, nofun⟩
theorem packTimeoutExpiry (op : Nat) : Statement (.packTimeoutExpiry op) := ⟨no_word _, nofun⟩
theorem leaderContactTimeout (pos : Nat) : Statement (.leaderContactTimeout pos) := ⟨no_word _, nofun⟩
theorem followerContactTimeout : Statement (.followerContactTimeout) := ⟨no_word _, nofun⟩
theorem timeOffsetTimeout (pos : Nat) : Statement (.timeOffsetTimeout pos) := ⟨no_word _, nofun⟩
theorem packFillStart (pos : Nat) : Statement (.packFillStart pos) := ⟨no_word _, nofun⟩
theorem powerOn : Statement (.powerOn) := ⟨no_word _, nofun⟩
theorem powerLoss : Statement (.powerLoss) := ⟨no_word _, nofun⟩
theorem porstNAssert (lowUs : Nat) : Statement (.porstNAssert lowUs) := ⟨no_word _, nofun⟩
theorem porstNRise (b : BootPins) : Statement (.porstNRise b) := ⟨no_word _, nofun⟩
theorem shepherdStart : Statement (.shepherdStart) := ⟨no_word _, nofun⟩
theorem shepherdWatchdog : Statement (.shepherdWatchdog) := ⟨no_word _, nofun⟩
theorem lockstepMismatch : Statement (.lockstepMismatch) := ⟨no_word _, nofun⟩
theorem rollbackProgram : Statement (.rollbackProgram) := ⟨no_word _, nofun⟩
theorem heartbeatTick : Statement (.heartbeatTick) := ⟨no_word _, nofun⟩
theorem keepSecondsTick : Statement (.keepSecondsTick) := ⟨no_word _, nofun⟩
theorem xtal32kLoss : Statement (.xtal32kLoss) := ⟨no_word _, nofun⟩
theorem keepSupplySwitch (toIo : Bool) : Statement (.keepSupplySwitch toIo) := ⟨no_word _, nofun⟩
theorem keepDomainReset : Statement (.keepDomainReset) := ⟨no_word _, nofun⟩
theorem vbatReversalLatch : Statement (.vbatReversalLatch) := ⟨no_word _, nofun⟩
theorem vbatValid : Statement (.vbatValid) := ⟨no_word _, nofun⟩
theorem windowAckTimeout (core : Nat) : Statement (.windowAckTimeout core) := ⟨no_word _, nofun⟩
theorem scuStoreComplete (core index : Nat) : Statement (.scuStoreComplete core index) := ⟨no_word _, nofun⟩
theorem jtagAccess (j : Jtag) : Statement (.jtagAccess j) := ⟨no_word _, nofun⟩
theorem d3hotExit : Statement (.d3hotExit) := ⟨no_word _, nofun⟩
theorem xtal32kRestored : Statement (.xtal32kRestored) := ⟨no_word _, nofun⟩

end Sys2Proof.Laws.Row
end

