-- ==== Sys2Proof/Laws/State.lean ====
section
/-! SUPPORT. What each update of a numbered part leaves: one lemma per update and field, true by definition. -/
namespace Sys2Proof.Machine

section
variable (s : State) (n : Nat) (x : Ring)
@[simp] theorem State.setRing_now : (s.setRing n x).now = s.now := rfl
@[simp] theorem State.setRing_shift : (s.setRing n x).shift = s.shift := rfl
@[simp] theorem State.setRing_glb : (s.setRing n x).glb = s.glb := rfl
@[simp] theorem State.setRing_otp : (s.setRing n x).otp = s.otp := rfl
@[simp] theorem State.setRing_keep : (s.setRing n x).keep = s.keep := rfl
@[simp] theorem State.setRing_flash : (s.setRing n x).flash = s.flash := rfl
@[simp] theorem State.setRing_pwr : (s.setRing n x).pwr = s.pwr := rfl
@[simp] theorem State.setRing_perf : (s.setRing n x).perf = s.perf := rfl
@[simp] theorem State.setRing_cnt : (s.setRing n x).cnt = s.cnt := rfl
@[simp] theorem State.setRing_pcie : (s.setRing n x).pcie = s.pcie := rfl
@[simp] theorem State.setRing_evq : (s.setRing n x).evq = s.evq := rfl
@[simp] theorem State.setRing_mgmt : (s.setRing n x).mgmt = s.mgmt := rfl
@[simp] theorem State.setRing_reads : (s.setRing n x).reads = s.reads := rfl
@[simp] theorem State.setRing_nextRead : (s.setRing n x).nextRead = s.nextRead := rfl
@[simp] theorem State.setRing_staged : (s.setRing n x).staged = s.staged := rfl
@[simp] theorem State.setRing_residency : (s.setRing n x).residency = s.residency := rfl
@[simp] theorem State.setRing_residing : (s.setRing n x).residing = s.residing := rfl
@[simp] theorem State.setRing_streams : (s.setRing n x).streams = s.streams := rfl
@[simp] theorem State.setRing_routes : (s.setRing n x).routes = s.routes := rfl
@[simp] theorem State.setRing_groups : (s.setRing n x).groups = s.groups := rfl
@[simp] theorem State.setRing_models : (s.setRing n x).models = s.models := rfl
@[simp] theorem State.setRing_jobs : (s.setRing n x).jobs = s.jobs := rfl
@[simp] theorem State.setRing_cam : (s.setRing n x).cam = s.cam := rfl
@[simp] theorem State.setRing_cores : (s.setRing n x).cores = s.cores := rfl
@[simp] theorem State.setRing_mem : (s.setRing n x).mem = s.mem := rfl
@[simp] theorem State.setRing_dram : (s.setRing n x).dram = s.dram := rfl
@[simp] theorem State.setRing_iac : (s.setRing n x).iac = s.iac := rfl
@[simp] theorem State.setRing_tve : (s.setRing n x).tve = s.tve := rfl
@[simp] theorem State.setRing_pack : (s.setRing n x).pack = s.pack := rfl
@[simp] theorem State.setRing_sent : (s.setRing n x).sent = s.sent := rfl
@[simp] theorem State.setRing_drawn : (s.setRing n x).drawn = s.drawn := rfl
@[simp] theorem State.setRing_pending : (s.setRing n x).pending = s.pending := rfl
end

section
variable (s : State) (n : Nat) (x : Stream)
@[simp] theorem State.setStream_now : (s.setStream n x).now = s.now := rfl
@[simp] theorem State.setStream_shift : (s.setStream n x).shift = s.shift := rfl
@[simp] theorem State.setStream_glb : (s.setStream n x).glb = s.glb := rfl
@[simp] theorem State.setStream_otp : (s.setStream n x).otp = s.otp := rfl
@[simp] theorem State.setStream_keep : (s.setStream n x).keep = s.keep := rfl
@[simp] theorem State.setStream_flash : (s.setStream n x).flash = s.flash := rfl
@[simp] theorem State.setStream_pwr : (s.setStream n x).pwr = s.pwr := rfl
@[simp] theorem State.setStream_perf : (s.setStream n x).perf = s.perf := rfl
@[simp] theorem State.setStream_cnt : (s.setStream n x).cnt = s.cnt := rfl
@[simp] theorem State.setStream_pcie : (s.setStream n x).pcie = s.pcie := rfl
@[simp] theorem State.setStream_rings : (s.setStream n x).rings = s.rings := rfl
@[simp] theorem State.setStream_evq : (s.setStream n x).evq = s.evq := rfl
@[simp] theorem State.setStream_mgmt : (s.setStream n x).mgmt = s.mgmt := rfl
@[simp] theorem State.setStream_reads : (s.setStream n x).reads = s.reads := rfl
@[simp] theorem State.setStream_nextRead : (s.setStream n x).nextRead = s.nextRead := rfl
@[simp] theorem State.setStream_staged : (s.setStream n x).staged = s.staged := rfl
@[simp] theorem State.setStream_residency : (s.setStream n x).residency = s.residency := rfl
@[simp] theorem State.setStream_residing : (s.setStream n x).residing = s.residing := rfl
@[simp] theorem State.setStream_routes : (s.setStream n x).routes = s.routes := rfl
@[simp] theorem State.setStream_groups : (s.setStream n x).groups = s.groups := rfl
@[simp] theorem State.setStream_models : (s.setStream n x).models = s.models := rfl
@[simp] theorem State.setStream_jobs : (s.setStream n x).jobs = s.jobs := rfl
@[simp] theorem State.setStream_cam : (s.setStream n x).cam = s.cam := rfl
@[simp] theorem State.setStream_cores : (s.setStream n x).cores = s.cores := rfl
@[simp] theorem State.setStream_mem : (s.setStream n x).mem = s.mem := rfl
@[simp] theorem State.setStream_dram : (s.setStream n x).dram = s.dram := rfl
@[simp] theorem State.setStream_iac : (s.setStream n x).iac = s.iac := rfl
@[simp] theorem State.setStream_tve : (s.setStream n x).tve = s.tve := rfl
@[simp] theorem State.setStream_pack : (s.setStream n x).pack = s.pack := rfl
@[simp] theorem State.setStream_sent : (s.setStream n x).sent = s.sent := rfl
@[simp] theorem State.setStream_drawn : (s.setStream n x).drawn = s.drawn := rfl
@[simp] theorem State.setStream_pending : (s.setStream n x).pending = s.pending := rfl
end

section
variable (s : State) (n : Nat) (x : Model)
@[simp] theorem State.setModel_now : (s.setModel n x).now = s.now := rfl
@[simp] theorem State.setModel_shift : (s.setModel n x).shift = s.shift := rfl
@[simp] theorem State.setModel_glb : (s.setModel n x).glb = s.glb := rfl
@[simp] theorem State.setModel_otp : (s.setModel n x).otp = s.otp := rfl
@[simp] theorem State.setModel_keep : (s.setModel n x).keep = s.keep := rfl
@[simp] theorem State.setModel_flash : (s.setModel n x).flash = s.flash := rfl
@[simp] theorem State.setModel_pwr : (s.setModel n x).pwr = s.pwr := rfl
@[simp] theorem State.setModel_perf : (s.setModel n x).perf = s.perf := rfl
@[simp] theorem State.setModel_cnt : (s.setModel n x).cnt = s.cnt := rfl
@[simp] theorem State.setModel_pcie : (s.setModel n x).pcie = s.pcie := rfl
@[simp] theorem State.setModel_rings : (s.setModel n x).rings = s.rings := rfl
@[simp] theorem State.setModel_evq : (s.setModel n x).evq = s.evq := rfl
@[simp] theorem State.setModel_mgmt : (s.setModel n x).mgmt = s.mgmt := rfl
@[simp] theorem State.setModel_reads : (s.setModel n x).reads = s.reads := rfl
@[simp] theorem State.setModel_nextRead : (s.setModel n x).nextRead = s.nextRead := rfl
@[simp] theorem State.setModel_staged : (s.setModel n x).staged = s.staged := rfl
@[simp] theorem State.setModel_residency : (s.setModel n x).residency = s.residency := rfl
@[simp] theorem State.setModel_residing : (s.setModel n x).residing = s.residing := rfl
@[simp] theorem State.setModel_streams : (s.setModel n x).streams = s.streams := rfl
@[simp] theorem State.setModel_routes : (s.setModel n x).routes = s.routes := rfl
@[simp] theorem State.setModel_groups : (s.setModel n x).groups = s.groups := rfl
@[simp] theorem State.setModel_jobs : (s.setModel n x).jobs = s.jobs := rfl
@[simp] theorem State.setModel_cam : (s.setModel n x).cam = s.cam := rfl
@[simp] theorem State.setModel_cores : (s.setModel n x).cores = s.cores := rfl
@[simp] theorem State.setModel_mem : (s.setModel n x).mem = s.mem := rfl
@[simp] theorem State.setModel_dram : (s.setModel n x).dram = s.dram := rfl
@[simp] theorem State.setModel_iac : (s.setModel n x).iac = s.iac := rfl
@[simp] theorem State.setModel_tve : (s.setModel n x).tve = s.tve := rfl
@[simp] theorem State.setModel_pack : (s.setModel n x).pack = s.pack := rfl
@[simp] theorem State.setModel_sent : (s.setModel n x).sent = s.sent := rfl
@[simp] theorem State.setModel_drawn : (s.setModel n x).drawn = s.drawn := rfl
@[simp] theorem State.setModel_pending : (s.setModel n x).pending = s.pending := rfl
end

section
variable (s : State) (n : Nat) (x : Job)
@[simp] theorem State.setJob_now : (s.setJob n x).now = s.now := rfl
@[simp] theorem State.setJob_shift : (s.setJob n x).shift = s.shift := rfl
@[simp] theorem State.setJob_glb : (s.setJob n x).glb = s.glb := rfl
@[simp] theorem State.setJob_otp : (s.setJob n x).otp = s.otp := rfl
@[simp] theorem State.setJob_keep : (s.setJob n x).keep = s.keep := rfl
@[simp] theorem State.setJob_flash : (s.setJob n x).flash = s.flash := rfl
@[simp] theorem State.setJob_pwr : (s.setJob n x).pwr = s.pwr := rfl
@[simp] theorem State.setJob_perf : (s.setJob n x).perf = s.perf := rfl
@[simp] theorem State.setJob_cnt : (s.setJob n x).cnt = s.cnt := rfl
@[simp] theorem State.setJob_pcie : (s.setJob n x).pcie = s.pcie := rfl
@[simp] theorem State.setJob_rings : (s.setJob n x).rings = s.rings := rfl
@[simp] theorem State.setJob_evq : (s.setJob n x).evq = s.evq := rfl
@[simp] theorem State.setJob_mgmt : (s.setJob n x).mgmt = s.mgmt := rfl
@[simp] theorem State.setJob_reads : (s.setJob n x).reads = s.reads := rfl
@[simp] theorem State.setJob_nextRead : (s.setJob n x).nextRead = s.nextRead := rfl
@[simp] theorem State.setJob_staged : (s.setJob n x).staged = s.staged := rfl
@[simp] theorem State.setJob_residency : (s.setJob n x).residency = s.residency := rfl
@[simp] theorem State.setJob_residing : (s.setJob n x).residing = s.residing := rfl
@[simp] theorem State.setJob_streams : (s.setJob n x).streams = s.streams := rfl
@[simp] theorem State.setJob_routes : (s.setJob n x).routes = s.routes := rfl
@[simp] theorem State.setJob_groups : (s.setJob n x).groups = s.groups := rfl
@[simp] theorem State.setJob_models : (s.setJob n x).models = s.models := rfl
@[simp] theorem State.setJob_cam : (s.setJob n x).cam = s.cam := rfl
@[simp] theorem State.setJob_cores : (s.setJob n x).cores = s.cores := rfl
@[simp] theorem State.setJob_mem : (s.setJob n x).mem = s.mem := rfl
@[simp] theorem State.setJob_dram : (s.setJob n x).dram = s.dram := rfl
@[simp] theorem State.setJob_iac : (s.setJob n x).iac = s.iac := rfl
@[simp] theorem State.setJob_tve : (s.setJob n x).tve = s.tve := rfl
@[simp] theorem State.setJob_pack : (s.setJob n x).pack = s.pack := rfl
@[simp] theorem State.setJob_sent : (s.setJob n x).sent = s.sent := rfl
@[simp] theorem State.setJob_drawn : (s.setJob n x).drawn = s.drawn := rfl
@[simp] theorem State.setJob_pending : (s.setJob n x).pending = s.pending := rfl
end

section
variable (s : State) (n : Nat) (x : Group)
@[simp] theorem State.setGroup_now : (s.setGroup n x).now = s.now := rfl
@[simp] theorem State.setGroup_shift : (s.setGroup n x).shift = s.shift := rfl
@[simp] theorem State.setGroup_glb : (s.setGroup n x).glb = s.glb := rfl
@[simp] theorem State.setGroup_otp : (s.setGroup n x).otp = s.otp := rfl
@[simp] theorem State.setGroup_keep : (s.setGroup n x).keep = s.keep := rfl
@[simp] theorem State.setGroup_flash : (s.setGroup n x).flash = s.flash := rfl
@[simp] theorem State.setGroup_pwr : (s.setGroup n x).pwr = s.pwr := rfl
@[simp] theorem State.setGroup_perf : (s.setGroup n x).perf = s.perf := rfl
@[simp] theorem State.setGroup_cnt : (s.setGroup n x).cnt = s.cnt := rfl
@[simp] theorem State.setGroup_pcie : (s.setGroup n x).pcie = s.pcie := rfl
@[simp] theorem State.setGroup_rings : (s.setGroup n x).rings = s.rings := rfl
@[simp] theorem State.setGroup_evq : (s.setGroup n x).evq = s.evq := rfl
@[simp] theorem State.setGroup_mgmt : (s.setGroup n x).mgmt = s.mgmt := rfl
@[simp] theorem State.setGroup_reads : (s.setGroup n x).reads = s.reads := rfl
@[simp] theorem State.setGroup_nextRead : (s.setGroup n x).nextRead = s.nextRead := rfl
@[simp] theorem State.setGroup_staged : (s.setGroup n x).staged = s.staged := rfl
@[simp] theorem State.setGroup_residency : (s.setGroup n x).residency = s.residency := rfl
@[simp] theorem State.setGroup_residing : (s.setGroup n x).residing = s.residing := rfl
@[simp] theorem State.setGroup_streams : (s.setGroup n x).streams = s.streams := rfl
@[simp] theorem State.setGroup_routes : (s.setGroup n x).routes = s.routes := rfl
@[simp] theorem State.setGroup_models : (s.setGroup n x).models = s.models := rfl
@[simp] theorem State.setGroup_jobs : (s.setGroup n x).jobs = s.jobs := rfl
@[simp] theorem State.setGroup_cam : (s.setGroup n x).cam = s.cam := rfl
@[simp] theorem State.setGroup_cores : (s.setGroup n x).cores = s.cores := rfl
@[simp] theorem State.setGroup_mem : (s.setGroup n x).mem = s.mem := rfl
@[simp] theorem State.setGroup_dram : (s.setGroup n x).dram = s.dram := rfl
@[simp] theorem State.setGroup_iac : (s.setGroup n x).iac = s.iac := rfl
@[simp] theorem State.setGroup_tve : (s.setGroup n x).tve = s.tve := rfl
@[simp] theorem State.setGroup_pack : (s.setGroup n x).pack = s.pack := rfl
@[simp] theorem State.setGroup_sent : (s.setGroup n x).sent = s.sent := rfl
@[simp] theorem State.setGroup_drawn : (s.setGroup n x).drawn = s.drawn := rfl
@[simp] theorem State.setGroup_pending : (s.setGroup n x).pending = s.pending := rfl
end

section
variable (s : State) (n : Nat) (x : Core)
@[simp] theorem State.setCore_now : (s.setCore n x).now = s.now := rfl
@[simp] theorem State.setCore_shift : (s.setCore n x).shift = s.shift := rfl
@[simp] theorem State.setCore_glb : (s.setCore n x).glb = s.glb := rfl
@[simp] theorem State.setCore_otp : (s.setCore n x).otp = s.otp := rfl
@[simp] theorem State.setCore_keep : (s.setCore n x).keep = s.keep := rfl
@[simp] theorem State.setCore_flash : (s.setCore n x).flash = s.flash := rfl
@[simp] theorem State.setCore_pwr : (s.setCore n x).pwr = s.pwr := rfl
@[simp] theorem State.setCore_perf : (s.setCore n x).perf = s.perf := rfl
@[simp] theorem State.setCore_cnt : (s.setCore n x).cnt = s.cnt := rfl
@[simp] theorem State.setCore_pcie : (s.setCore n x).pcie = s.pcie := rfl
@[simp] theorem State.setCore_rings : (s.setCore n x).rings = s.rings := rfl
@[simp] theorem State.setCore_evq : (s.setCore n x).evq = s.evq := rfl
@[simp] theorem State.setCore_mgmt : (s.setCore n x).mgmt = s.mgmt := rfl
@[simp] theorem State.setCore_reads : (s.setCore n x).reads = s.reads := rfl
@[simp] theorem State.setCore_nextRead : (s.setCore n x).nextRead = s.nextRead := rfl
@[simp] theorem State.setCore_staged : (s.setCore n x).staged = s.staged := rfl
@[simp] theorem State.setCore_residency : (s.setCore n x).residency = s.residency := rfl
@[simp] theorem State.setCore_residing : (s.setCore n x).residing = s.residing := rfl
@[simp] theorem State.setCore_streams : (s.setCore n x).streams = s.streams := rfl
@[simp] theorem State.setCore_routes : (s.setCore n x).routes = s.routes := rfl
@[simp] theorem State.setCore_groups : (s.setCore n x).groups = s.groups := rfl
@[simp] theorem State.setCore_models : (s.setCore n x).models = s.models := rfl
@[simp] theorem State.setCore_jobs : (s.setCore n x).jobs = s.jobs := rfl
@[simp] theorem State.setCore_cam : (s.setCore n x).cam = s.cam := rfl
@[simp] theorem State.setCore_mem : (s.setCore n x).mem = s.mem := rfl
@[simp] theorem State.setCore_dram : (s.setCore n x).dram = s.dram := rfl
@[simp] theorem State.setCore_iac : (s.setCore n x).iac = s.iac := rfl
@[simp] theorem State.setCore_tve : (s.setCore n x).tve = s.tve := rfl
@[simp] theorem State.setCore_pack : (s.setCore n x).pack = s.pack := rfl
@[simp] theorem State.setCore_sent : (s.setCore n x).sent = s.sent := rfl
@[simp] theorem State.setCore_drawn : (s.setCore n x).drawn = s.drawn := rfl
@[simp] theorem State.setCore_pending : (s.setCore n x).pending = s.pending := rfl
end

section
variable (s : State) (n : Nat) (x : Port)
@[simp] theorem State.setPort_now : (s.setPort n x).now = s.now := rfl
@[simp] theorem State.setPort_shift : (s.setPort n x).shift = s.shift := rfl
@[simp] theorem State.setPort_glb : (s.setPort n x).glb = s.glb := rfl
@[simp] theorem State.setPort_otp : (s.setPort n x).otp = s.otp := rfl
@[simp] theorem State.setPort_keep : (s.setPort n x).keep = s.keep := rfl
@[simp] theorem State.setPort_flash : (s.setPort n x).flash = s.flash := rfl
@[simp] theorem State.setPort_pwr : (s.setPort n x).pwr = s.pwr := rfl
@[simp] theorem State.setPort_perf : (s.setPort n x).perf = s.perf := rfl
@[simp] theorem State.setPort_cnt : (s.setPort n x).cnt = s.cnt := rfl
@[simp] theorem State.setPort_pcie : (s.setPort n x).pcie = s.pcie := rfl
@[simp] theorem State.setPort_rings : (s.setPort n x).rings = s.rings := rfl
@[simp] theorem State.setPort_evq : (s.setPort n x).evq = s.evq := rfl
@[simp] theorem State.setPort_mgmt : (s.setPort n x).mgmt = s.mgmt := rfl
@[simp] theorem State.setPort_reads : (s.setPort n x).reads = s.reads := rfl
@[simp] theorem State.setPort_nextRead : (s.setPort n x).nextRead = s.nextRead := rfl
@[simp] theorem State.setPort_staged : (s.setPort n x).staged = s.staged := rfl
@[simp] theorem State.setPort_residency : (s.setPort n x).residency = s.residency := rfl
@[simp] theorem State.setPort_residing : (s.setPort n x).residing = s.residing := rfl
@[simp] theorem State.setPort_streams : (s.setPort n x).streams = s.streams := rfl
@[simp] theorem State.setPort_routes : (s.setPort n x).routes = s.routes := rfl
@[simp] theorem State.setPort_groups : (s.setPort n x).groups = s.groups := rfl
@[simp] theorem State.setPort_models : (s.setPort n x).models = s.models := rfl
@[simp] theorem State.setPort_jobs : (s.setPort n x).jobs = s.jobs := rfl
@[simp] theorem State.setPort_cores : (s.setPort n x).cores = s.cores := rfl
@[simp] theorem State.setPort_mem : (s.setPort n x).mem = s.mem := rfl
@[simp] theorem State.setPort_dram : (s.setPort n x).dram = s.dram := rfl
@[simp] theorem State.setPort_iac : (s.setPort n x).iac = s.iac := rfl
@[simp] theorem State.setPort_tve : (s.setPort n x).tve = s.tve := rfl
@[simp] theorem State.setPort_pack : (s.setPort n x).pack = s.pack := rfl
@[simp] theorem State.setPort_sent : (s.setPort n x).sent = s.sent := rfl
@[simp] theorem State.setPort_drawn : (s.setPort n x).drawn = s.drawn := rfl
@[simp] theorem State.setPort_pending : (s.setPort n x).pending = s.pending := rfl
end

section
variable (s : State) (n : Nat) (x : Source)
@[simp] theorem State.setSource_now : (s.setSource n x).now = s.now := rfl
@[simp] theorem State.setSource_shift : (s.setSource n x).shift = s.shift := rfl
@[simp] theorem State.setSource_glb : (s.setSource n x).glb = s.glb := rfl
@[simp] theorem State.setSource_otp : (s.setSource n x).otp = s.otp := rfl
@[simp] theorem State.setSource_keep : (s.setSource n x).keep = s.keep := rfl
@[simp] theorem State.setSource_flash : (s.setSource n x).flash = s.flash := rfl
@[simp] theorem State.setSource_pwr : (s.setSource n x).pwr = s.pwr := rfl
@[simp] theorem State.setSource_perf : (s.setSource n x).perf = s.perf := rfl
@[simp] theorem State.setSource_cnt : (s.setSource n x).cnt = s.cnt := rfl
@[simp] theorem State.setSource_pcie : (s.setSource n x).pcie = s.pcie := rfl
@[simp] theorem State.setSource_rings : (s.setSource n x).rings = s.rings := rfl
@[simp] theorem State.setSource_evq : (s.setSource n x).evq = s.evq := rfl
@[simp] theorem State.setSource_mgmt : (s.setSource n x).mgmt = s.mgmt := rfl
@[simp] theorem State.setSource_reads : (s.setSource n x).reads = s.reads := rfl
@[simp] theorem State.setSource_nextRead : (s.setSource n x).nextRead = s.nextRead := rfl
@[simp] theorem State.setSource_staged : (s.setSource n x).staged = s.staged := rfl
@[simp] theorem State.setSource_residency : (s.setSource n x).residency = s.residency := rfl
@[simp] theorem State.setSource_residing : (s.setSource n x).residing = s.residing := rfl
@[simp] theorem State.setSource_streams : (s.setSource n x).streams = s.streams := rfl
@[simp] theorem State.setSource_routes : (s.setSource n x).routes = s.routes := rfl
@[simp] theorem State.setSource_groups : (s.setSource n x).groups = s.groups := rfl
@[simp] theorem State.setSource_models : (s.setSource n x).models = s.models := rfl
@[simp] theorem State.setSource_jobs : (s.setSource n x).jobs = s.jobs := rfl
@[simp] theorem State.setSource_cores : (s.setSource n x).cores = s.cores := rfl
@[simp] theorem State.setSource_mem : (s.setSource n x).mem = s.mem := rfl
@[simp] theorem State.setSource_dram : (s.setSource n x).dram = s.dram := rfl
@[simp] theorem State.setSource_iac : (s.setSource n x).iac = s.iac := rfl
@[simp] theorem State.setSource_tve : (s.setSource n x).tve = s.tve := rfl
@[simp] theorem State.setSource_pack : (s.setSource n x).pack = s.pack := rfl
@[simp] theorem State.setSource_sent : (s.setSource n x).sent = s.sent := rfl
@[simp] theorem State.setSource_drawn : (s.setSource n x).drawn = s.drawn := rfl
@[simp] theorem State.setSource_pending : (s.setSource n x).pending = s.pending := rfl
end

section
variable (s : State) (n : Nat) (x : IrLed)
@[simp] theorem State.setIrled_now : (s.setIrled n x).now = s.now := rfl
@[simp] theorem State.setIrled_shift : (s.setIrled n x).shift = s.shift := rfl
@[simp] theorem State.setIrled_glb : (s.setIrled n x).glb = s.glb := rfl
@[simp] theorem State.setIrled_otp : (s.setIrled n x).otp = s.otp := rfl
@[simp] theorem State.setIrled_keep : (s.setIrled n x).keep = s.keep := rfl
@[simp] theorem State.setIrled_flash : (s.setIrled n x).flash = s.flash := rfl
@[simp] theorem State.setIrled_pwr : (s.setIrled n x).pwr = s.pwr := rfl
@[simp] theorem State.setIrled_perf : (s.setIrled n x).perf = s.perf := rfl
@[simp] theorem State.setIrled_cnt : (s.setIrled n x).cnt = s.cnt := rfl
@[simp] theorem State.setIrled_pcie : (s.setIrled n x).pcie = s.pcie := rfl
@[simp] theorem State.setIrled_rings : (s.setIrled n x).rings = s.rings := rfl
@[simp] theorem State.setIrled_evq : (s.setIrled n x).evq = s.evq := rfl
@[simp] theorem State.setIrled_mgmt : (s.setIrled n x).mgmt = s.mgmt := rfl
@[simp] theorem State.setIrled_reads : (s.setIrled n x).reads = s.reads := rfl
@[simp] theorem State.setIrled_nextRead : (s.setIrled n x).nextRead = s.nextRead := rfl
@[simp] theorem State.setIrled_staged : (s.setIrled n x).staged = s.staged := rfl
@[simp] theorem State.setIrled_residency : (s.setIrled n x).residency = s.residency := rfl
@[simp] theorem State.setIrled_residing : (s.setIrled n x).residing = s.residing := rfl
@[simp] theorem State.setIrled_streams : (s.setIrled n x).streams = s.streams := rfl
@[simp] theorem State.setIrled_routes : (s.setIrled n x).routes = s.routes := rfl
@[simp] theorem State.setIrled_groups : (s.setIrled n x).groups = s.groups := rfl
@[simp] theorem State.setIrled_models : (s.setIrled n x).models = s.models := rfl
@[simp] theorem State.setIrled_jobs : (s.setIrled n x).jobs = s.jobs := rfl
@[simp] theorem State.setIrled_cores : (s.setIrled n x).cores = s.cores := rfl
@[simp] theorem State.setIrled_mem : (s.setIrled n x).mem = s.mem := rfl
@[simp] theorem State.setIrled_dram : (s.setIrled n x).dram = s.dram := rfl
@[simp] theorem State.setIrled_iac : (s.setIrled n x).iac = s.iac := rfl
@[simp] theorem State.setIrled_tve : (s.setIrled n x).tve = s.tve := rfl
@[simp] theorem State.setIrled_pack : (s.setIrled n x).pack = s.pack := rfl
@[simp] theorem State.setIrled_sent : (s.setIrled n x).sent = s.sent := rfl
@[simp] theorem State.setIrled_drawn : (s.setIrled n x).drawn = s.drawn := rfl
@[simp] theorem State.setIrled_pending : (s.setIrled n x).pending = s.pending := rfl
end

section
variable (s : State) (n : Nat) (x : Fsync)
@[simp] theorem State.setFsync_now : (s.setFsync n x).now = s.now := rfl
@[simp] theorem State.setFsync_shift : (s.setFsync n x).shift = s.shift := rfl
@[simp] theorem State.setFsync_glb : (s.setFsync n x).glb = s.glb := rfl
@[simp] theorem State.setFsync_otp : (s.setFsync n x).otp = s.otp := rfl
@[simp] theorem State.setFsync_keep : (s.setFsync n x).keep = s.keep := rfl
@[simp] theorem State.setFsync_flash : (s.setFsync n x).flash = s.flash := rfl
@[simp] theorem State.setFsync_pwr : (s.setFsync n x).pwr = s.pwr := rfl
@[simp] theorem State.setFsync_perf : (s.setFsync n x).perf = s.perf := rfl
@[simp] theorem State.setFsync_cnt : (s.setFsync n x).cnt = s.cnt := rfl
@[simp] theorem State.setFsync_pcie : (s.setFsync n x).pcie = s.pcie := rfl
@[simp] theorem State.setFsync_rings : (s.setFsync n x).rings = s.rings := rfl
@[simp] theorem State.setFsync_evq : (s.setFsync n x).evq = s.evq := rfl
@[simp] theorem State.setFsync_mgmt : (s.setFsync n x).mgmt = s.mgmt := rfl
@[simp] theorem State.setFsync_reads : (s.setFsync n x).reads = s.reads := rfl
@[simp] theorem State.setFsync_nextRead : (s.setFsync n x).nextRead = s.nextRead := rfl
@[simp] theorem State.setFsync_staged : (s.setFsync n x).staged = s.staged := rfl
@[simp] theorem State.setFsync_residency : (s.setFsync n x).residency = s.residency := rfl
@[simp] theorem State.setFsync_residing : (s.setFsync n x).residing = s.residing := rfl
@[simp] theorem State.setFsync_streams : (s.setFsync n x).streams = s.streams := rfl
@[simp] theorem State.setFsync_routes : (s.setFsync n x).routes = s.routes := rfl
@[simp] theorem State.setFsync_groups : (s.setFsync n x).groups = s.groups := rfl
@[simp] theorem State.setFsync_models : (s.setFsync n x).models = s.models := rfl
@[simp] theorem State.setFsync_jobs : (s.setFsync n x).jobs = s.jobs := rfl
@[simp] theorem State.setFsync_cores : (s.setFsync n x).cores = s.cores := rfl
@[simp] theorem State.setFsync_mem : (s.setFsync n x).mem = s.mem := rfl
@[simp] theorem State.setFsync_dram : (s.setFsync n x).dram = s.dram := rfl
@[simp] theorem State.setFsync_iac : (s.setFsync n x).iac = s.iac := rfl
@[simp] theorem State.setFsync_tve : (s.setFsync n x).tve = s.tve := rfl
@[simp] theorem State.setFsync_pack : (s.setFsync n x).pack = s.pack := rfl
@[simp] theorem State.setFsync_sent : (s.setFsync n x).sent = s.sent := rfl
@[simp] theorem State.setFsync_drawn : (s.setFsync n x).drawn = s.drawn := rfl
@[simp] theorem State.setFsync_pending : (s.setFsync n x).pending = s.pending := rfl
end

section
variable (s : State) (n : Nat) (x : SensorPwr)
@[simp] theorem State.setSpwr_now : (s.setSpwr n x).now = s.now := rfl
@[simp] theorem State.setSpwr_shift : (s.setSpwr n x).shift = s.shift := rfl
@[simp] theorem State.setSpwr_glb : (s.setSpwr n x).glb = s.glb := rfl
@[simp] theorem State.setSpwr_otp : (s.setSpwr n x).otp = s.otp := rfl
@[simp] theorem State.setSpwr_keep : (s.setSpwr n x).keep = s.keep := rfl
@[simp] theorem State.setSpwr_flash : (s.setSpwr n x).flash = s.flash := rfl
@[simp] theorem State.setSpwr_pwr : (s.setSpwr n x).pwr = s.pwr := rfl
@[simp] theorem State.setSpwr_perf : (s.setSpwr n x).perf = s.perf := rfl
@[simp] theorem State.setSpwr_cnt : (s.setSpwr n x).cnt = s.cnt := rfl
@[simp] theorem State.setSpwr_pcie : (s.setSpwr n x).pcie = s.pcie := rfl
@[simp] theorem State.setSpwr_rings : (s.setSpwr n x).rings = s.rings := rfl
@[simp] theorem State.setSpwr_evq : (s.setSpwr n x).evq = s.evq := rfl
@[simp] theorem State.setSpwr_mgmt : (s.setSpwr n x).mgmt = s.mgmt := rfl
@[simp] theorem State.setSpwr_reads : (s.setSpwr n x).reads = s.reads := rfl
@[simp] theorem State.setSpwr_nextRead : (s.setSpwr n x).nextRead = s.nextRead := rfl
@[simp] theorem State.setSpwr_staged : (s.setSpwr n x).staged = s.staged := rfl
@[simp] theorem State.setSpwr_residency : (s.setSpwr n x).residency = s.residency := rfl
@[simp] theorem State.setSpwr_residing : (s.setSpwr n x).residing = s.residing := rfl
@[simp] theorem State.setSpwr_streams : (s.setSpwr n x).streams = s.streams := rfl
@[simp] theorem State.setSpwr_routes : (s.setSpwr n x).routes = s.routes := rfl
@[simp] theorem State.setSpwr_groups : (s.setSpwr n x).groups = s.groups := rfl
@[simp] theorem State.setSpwr_models : (s.setSpwr n x).models = s.models := rfl
@[simp] theorem State.setSpwr_jobs : (s.setSpwr n x).jobs = s.jobs := rfl
@[simp] theorem State.setSpwr_cores : (s.setSpwr n x).cores = s.cores := rfl
@[simp] theorem State.setSpwr_mem : (s.setSpwr n x).mem = s.mem := rfl
@[simp] theorem State.setSpwr_dram : (s.setSpwr n x).dram = s.dram := rfl
@[simp] theorem State.setSpwr_iac : (s.setSpwr n x).iac = s.iac := rfl
@[simp] theorem State.setSpwr_tve : (s.setSpwr n x).tve = s.tve := rfl
@[simp] theorem State.setSpwr_pack : (s.setSpwr n x).pack = s.pack := rfl
@[simp] theorem State.setSpwr_sent : (s.setSpwr n x).sent = s.sent := rfl
@[simp] theorem State.setSpwr_drawn : (s.setSpwr n x).drawn = s.drawn := rfl
@[simp] theorem State.setSpwr_pending : (s.setSpwr n x).pending = s.pending := rfl
end

section
variable (s : State) (n : Nat) (x : Sctl)
@[simp] theorem State.setSctl_now : (s.setSctl n x).now = s.now := rfl
@[simp] theorem State.setSctl_shift : (s.setSctl n x).shift = s.shift := rfl
@[simp] theorem State.setSctl_glb : (s.setSctl n x).glb = s.glb := rfl
@[simp] theorem State.setSctl_otp : (s.setSctl n x).otp = s.otp := rfl
@[simp] theorem State.setSctl_keep : (s.setSctl n x).keep = s.keep := rfl
@[simp] theorem State.setSctl_flash : (s.setSctl n x).flash = s.flash := rfl
@[simp] theorem State.setSctl_pwr : (s.setSctl n x).pwr = s.pwr := rfl
@[simp] theorem State.setSctl_perf : (s.setSctl n x).perf = s.perf := rfl
@[simp] theorem State.setSctl_cnt : (s.setSctl n x).cnt = s.cnt := rfl
@[simp] theorem State.setSctl_pcie : (s.setSctl n x).pcie = s.pcie := rfl
@[simp] theorem State.setSctl_rings : (s.setSctl n x).rings = s.rings := rfl
@[simp] theorem State.setSctl_evq : (s.setSctl n x).evq = s.evq := rfl
@[simp] theorem State.setSctl_mgmt : (s.setSctl n x).mgmt = s.mgmt := rfl
@[simp] theorem State.setSctl_reads : (s.setSctl n x).reads = s.reads := rfl
@[simp] theorem State.setSctl_nextRead : (s.setSctl n x).nextRead = s.nextRead := rfl
@[simp] theorem State.setSctl_staged : (s.setSctl n x).staged = s.staged := rfl
@[simp] theorem State.setSctl_residency : (s.setSctl n x).residency = s.residency := rfl
@[simp] theorem State.setSctl_residing : (s.setSctl n x).residing = s.residing := rfl
@[simp] theorem State.setSctl_streams : (s.setSctl n x).streams = s.streams := rfl
@[simp] theorem State.setSctl_routes : (s.setSctl n x).routes = s.routes := rfl
@[simp] theorem State.setSctl_groups : (s.setSctl n x).groups = s.groups := rfl
@[simp] theorem State.setSctl_models : (s.setSctl n x).models = s.models := rfl
@[simp] theorem State.setSctl_jobs : (s.setSctl n x).jobs = s.jobs := rfl
@[simp] theorem State.setSctl_cores : (s.setSctl n x).cores = s.cores := rfl
@[simp] theorem State.setSctl_mem : (s.setSctl n x).mem = s.mem := rfl
@[simp] theorem State.setSctl_dram : (s.setSctl n x).dram = s.dram := rfl
@[simp] theorem State.setSctl_iac : (s.setSctl n x).iac = s.iac := rfl
@[simp] theorem State.setSctl_tve : (s.setSctl n x).tve = s.tve := rfl
@[simp] theorem State.setSctl_pack : (s.setSctl n x).pack = s.pack := rfl
@[simp] theorem State.setSctl_sent : (s.setSctl n x).sent = s.sent := rfl
@[simp] theorem State.setSctl_drawn : (s.setSctl n x).drawn = s.drawn := rfl
@[simp] theorem State.setSctl_pending : (s.setSctl n x).pending = s.pending := rfl
end

section
variable (s : State) (n : Nat) (x : Window)
@[simp] theorem State.setWindow_now : (s.setWindow n x).now = s.now := rfl
@[simp] theorem State.setWindow_shift : (s.setWindow n x).shift = s.shift := rfl
@[simp] theorem State.setWindow_glb : (s.setWindow n x).glb = s.glb := rfl
@[simp] theorem State.setWindow_otp : (s.setWindow n x).otp = s.otp := rfl
@[simp] theorem State.setWindow_keep : (s.setWindow n x).keep = s.keep := rfl
@[simp] theorem State.setWindow_flash : (s.setWindow n x).flash = s.flash := rfl
@[simp] theorem State.setWindow_pwr : (s.setWindow n x).pwr = s.pwr := rfl
@[simp] theorem State.setWindow_perf : (s.setWindow n x).perf = s.perf := rfl
@[simp] theorem State.setWindow_cnt : (s.setWindow n x).cnt = s.cnt := rfl
@[simp] theorem State.setWindow_pcie : (s.setWindow n x).pcie = s.pcie := rfl
@[simp] theorem State.setWindow_rings : (s.setWindow n x).rings = s.rings := rfl
@[simp] theorem State.setWindow_evq : (s.setWindow n x).evq = s.evq := rfl
@[simp] theorem State.setWindow_mgmt : (s.setWindow n x).mgmt = s.mgmt := rfl
@[simp] theorem State.setWindow_reads : (s.setWindow n x).reads = s.reads := rfl
@[simp] theorem State.setWindow_nextRead : (s.setWindow n x).nextRead = s.nextRead := rfl
@[simp] theorem State.setWindow_staged : (s.setWindow n x).staged = s.staged := rfl
@[simp] theorem State.setWindow_residency : (s.setWindow n x).residency = s.residency := rfl
@[simp] theorem State.setWindow_residing : (s.setWindow n x).residing = s.residing := rfl
@[simp] theorem State.setWindow_streams : (s.setWindow n x).streams = s.streams := rfl
@[simp] theorem State.setWindow_routes : (s.setWindow n x).routes = s.routes := rfl
@[simp] theorem State.setWindow_groups : (s.setWindow n x).groups = s.groups := rfl
@[simp] theorem State.setWindow_models : (s.setWindow n x).models = s.models := rfl
@[simp] theorem State.setWindow_jobs : (s.setWindow n x).jobs = s.jobs := rfl
@[simp] theorem State.setWindow_cam : (s.setWindow n x).cam = s.cam := rfl
@[simp] theorem State.setWindow_cores : (s.setWindow n x).cores = s.cores := rfl
@[simp] theorem State.setWindow_dram : (s.setWindow n x).dram = s.dram := rfl
@[simp] theorem State.setWindow_iac : (s.setWindow n x).iac = s.iac := rfl
@[simp] theorem State.setWindow_tve : (s.setWindow n x).tve = s.tve := rfl
@[simp] theorem State.setWindow_pack : (s.setWindow n x).pack = s.pack := rfl
@[simp] theorem State.setWindow_sent : (s.setWindow n x).sent = s.sent := rfl
@[simp] theorem State.setWindow_drawn : (s.setWindow n x).drawn = s.drawn := rfl
@[simp] theorem State.setWindow_pending : (s.setWindow n x).pending = s.pending := rfl
end

section
variable (s : State) (n : Nat) (x : Channel)
@[simp] theorem State.setChannel_now : (s.setChannel n x).now = s.now := rfl
@[simp] theorem State.setChannel_shift : (s.setChannel n x).shift = s.shift := rfl
@[simp] theorem State.setChannel_glb : (s.setChannel n x).glb = s.glb := rfl
@[simp] theorem State.setChannel_otp : (s.setChannel n x).otp = s.otp := rfl
@[simp] theorem State.setChannel_keep : (s.setChannel n x).keep = s.keep := rfl
@[simp] theorem State.setChannel_flash : (s.setChannel n x).flash = s.flash := rfl
@[simp] theorem State.setChannel_pwr : (s.setChannel n x).pwr = s.pwr := rfl
@[simp] theorem State.setChannel_perf : (s.setChannel n x).perf = s.perf := rfl
@[simp] theorem State.setChannel_cnt : (s.setChannel n x).cnt = s.cnt := rfl
@[simp] theorem State.setChannel_pcie : (s.setChannel n x).pcie = s.pcie := rfl
@[simp] theorem State.setChannel_rings : (s.setChannel n x).rings = s.rings := rfl
@[simp] theorem State.setChannel_evq : (s.setChannel n x).evq = s.evq := rfl
@[simp] theorem State.setChannel_mgmt : (s.setChannel n x).mgmt = s.mgmt := rfl
@[simp] theorem State.setChannel_reads : (s.setChannel n x).reads = s.reads := rfl
@[simp] theorem State.setChannel_nextRead : (s.setChannel n x).nextRead = s.nextRead := rfl
@[simp] theorem State.setChannel_staged : (s.setChannel n x).staged = s.staged := rfl
@[simp] theorem State.setChannel_residency : (s.setChannel n x).residency = s.residency := rfl
@[simp] theorem State.setChannel_residing : (s.setChannel n x).residing = s.residing := rfl
@[simp] theorem State.setChannel_streams : (s.setChannel n x).streams = s.streams := rfl
@[simp] theorem State.setChannel_routes : (s.setChannel n x).routes = s.routes := rfl
@[simp] theorem State.setChannel_groups : (s.setChannel n x).groups = s.groups := rfl
@[simp] theorem State.setChannel_models : (s.setChannel n x).models = s.models := rfl
@[simp] theorem State.setChannel_jobs : (s.setChannel n x).jobs = s.jobs := rfl
@[simp] theorem State.setChannel_cam : (s.setChannel n x).cam = s.cam := rfl
@[simp] theorem State.setChannel_cores : (s.setChannel n x).cores = s.cores := rfl
@[simp] theorem State.setChannel_mem : (s.setChannel n x).mem = s.mem := rfl
@[simp] theorem State.setChannel_iac : (s.setChannel n x).iac = s.iac := rfl
@[simp] theorem State.setChannel_tve : (s.setChannel n x).tve = s.tve := rfl
@[simp] theorem State.setChannel_pack : (s.setChannel n x).pack = s.pack := rfl
@[simp] theorem State.setChannel_sent : (s.setChannel n x).sent = s.sent := rfl
@[simp] theorem State.setChannel_drawn : (s.setChannel n x).drawn = s.drawn := rfl
@[simp] theorem State.setChannel_pending : (s.setChannel n x).pending = s.pending := rfl
end

section
variable (s : State) (n : Nat) (x : Ensemble)
@[simp] theorem State.setEnsemble_now : (s.setEnsemble n x).now = s.now := rfl
@[simp] theorem State.setEnsemble_shift : (s.setEnsemble n x).shift = s.shift := rfl
@[simp] theorem State.setEnsemble_glb : (s.setEnsemble n x).glb = s.glb := rfl
@[simp] theorem State.setEnsemble_otp : (s.setEnsemble n x).otp = s.otp := rfl
@[simp] theorem State.setEnsemble_keep : (s.setEnsemble n x).keep = s.keep := rfl
@[simp] theorem State.setEnsemble_flash : (s.setEnsemble n x).flash = s.flash := rfl
@[simp] theorem State.setEnsemble_pwr : (s.setEnsemble n x).pwr = s.pwr := rfl
@[simp] theorem State.setEnsemble_perf : (s.setEnsemble n x).perf = s.perf := rfl
@[simp] theorem State.setEnsemble_cnt : (s.setEnsemble n x).cnt = s.cnt := rfl
@[simp] theorem State.setEnsemble_pcie : (s.setEnsemble n x).pcie = s.pcie := rfl
@[simp] theorem State.setEnsemble_rings : (s.setEnsemble n x).rings = s.rings := rfl
@[simp] theorem State.setEnsemble_evq : (s.setEnsemble n x).evq = s.evq := rfl
@[simp] theorem State.setEnsemble_mgmt : (s.setEnsemble n x).mgmt = s.mgmt := rfl
@[simp] theorem State.setEnsemble_reads : (s.setEnsemble n x).reads = s.reads := rfl
@[simp] theorem State.setEnsemble_nextRead : (s.setEnsemble n x).nextRead = s.nextRead := rfl
@[simp] theorem State.setEnsemble_staged : (s.setEnsemble n x).staged = s.staged := rfl
@[simp] theorem State.setEnsemble_residency : (s.setEnsemble n x).residency = s.residency := rfl
@[simp] theorem State.setEnsemble_residing : (s.setEnsemble n x).residing = s.residing := rfl
@[simp] theorem State.setEnsemble_streams : (s.setEnsemble n x).streams = s.streams := rfl
@[simp] theorem State.setEnsemble_routes : (s.setEnsemble n x).routes = s.routes := rfl
@[simp] theorem State.setEnsemble_groups : (s.setEnsemble n x).groups = s.groups := rfl
@[simp] theorem State.setEnsemble_models : (s.setEnsemble n x).models = s.models := rfl
@[simp] theorem State.setEnsemble_jobs : (s.setEnsemble n x).jobs = s.jobs := rfl
@[simp] theorem State.setEnsemble_cam : (s.setEnsemble n x).cam = s.cam := rfl
@[simp] theorem State.setEnsemble_cores : (s.setEnsemble n x).cores = s.cores := rfl
@[simp] theorem State.setEnsemble_mem : (s.setEnsemble n x).mem = s.mem := rfl
@[simp] theorem State.setEnsemble_dram : (s.setEnsemble n x).dram = s.dram := rfl
@[simp] theorem State.setEnsemble_iac : (s.setEnsemble n x).iac = s.iac := rfl
@[simp] theorem State.setEnsemble_pack : (s.setEnsemble n x).pack = s.pack := rfl
@[simp] theorem State.setEnsemble_sent : (s.setEnsemble n x).sent = s.sent := rfl
@[simp] theorem State.setEnsemble_drawn : (s.setEnsemble n x).drawn = s.drawn := rfl
@[simp] theorem State.setEnsemble_pending : (s.setEnsemble n x).pending = s.pending := rfl
end

section
variable (s : State) (n : Nat) (x : Link)
@[simp] theorem State.setLink_now : (s.setLink n x).now = s.now := rfl
@[simp] theorem State.setLink_shift : (s.setLink n x).shift = s.shift := rfl
@[simp] theorem State.setLink_glb : (s.setLink n x).glb = s.glb := rfl
@[simp] theorem State.setLink_otp : (s.setLink n x).otp = s.otp := rfl
@[simp] theorem State.setLink_keep : (s.setLink n x).keep = s.keep := rfl
@[simp] theorem State.setLink_flash : (s.setLink n x).flash = s.flash := rfl
@[simp] theorem State.setLink_pwr : (s.setLink n x).pwr = s.pwr := rfl
@[simp] theorem State.setLink_perf : (s.setLink n x).perf = s.perf := rfl
@[simp] theorem State.setLink_cnt : (s.setLink n x).cnt = s.cnt := rfl
@[simp] theorem State.setLink_pcie : (s.setLink n x).pcie = s.pcie := rfl
@[simp] theorem State.setLink_rings : (s.setLink n x).rings = s.rings := rfl
@[simp] theorem State.setLink_evq : (s.setLink n x).evq = s.evq := rfl
@[simp] theorem State.setLink_mgmt : (s.setLink n x).mgmt = s.mgmt := rfl
@[simp] theorem State.setLink_reads : (s.setLink n x).reads = s.reads := rfl
@[simp] theorem State.setLink_nextRead : (s.setLink n x).nextRead = s.nextRead := rfl
@[simp] theorem State.setLink_staged : (s.setLink n x).staged = s.staged := rfl
@[simp] theorem State.setLink_residency : (s.setLink n x).residency = s.residency := rfl
@[simp] theorem State.setLink_residing : (s.setLink n x).residing = s.residing := rfl
@[simp] theorem State.setLink_streams : (s.setLink n x).streams = s.streams := rfl
@[simp] theorem State.setLink_routes : (s.setLink n x).routes = s.routes := rfl
@[simp] theorem State.setLink_groups : (s.setLink n x).groups = s.groups := rfl
@[simp] theorem State.setLink_models : (s.setLink n x).models = s.models := rfl
@[simp] theorem State.setLink_jobs : (s.setLink n x).jobs = s.jobs := rfl
@[simp] theorem State.setLink_cam : (s.setLink n x).cam = s.cam := rfl
@[simp] theorem State.setLink_cores : (s.setLink n x).cores = s.cores := rfl
@[simp] theorem State.setLink_mem : (s.setLink n x).mem = s.mem := rfl
@[simp] theorem State.setLink_dram : (s.setLink n x).dram = s.dram := rfl
@[simp] theorem State.setLink_iac : (s.setLink n x).iac = s.iac := rfl
@[simp] theorem State.setLink_tve : (s.setLink n x).tve = s.tve := rfl
@[simp] theorem State.setLink_sent : (s.setLink n x).sent = s.sent := rfl
@[simp] theorem State.setLink_drawn : (s.setLink n x).drawn = s.drawn := rfl
@[simp] theorem State.setLink_pending : (s.setLink n x).pending = s.pending := rfl
end

section
variable (s : State) (n : Nat) (x : Member)
@[simp] theorem State.setMember_now : (s.setMember n x).now = s.now := rfl
@[simp] theorem State.setMember_shift : (s.setMember n x).shift = s.shift := rfl
@[simp] theorem State.setMember_glb : (s.setMember n x).glb = s.glb := rfl
@[simp] theorem State.setMember_otp : (s.setMember n x).otp = s.otp := rfl
@[simp] theorem State.setMember_keep : (s.setMember n x).keep = s.keep := rfl
@[simp] theorem State.setMember_flash : (s.setMember n x).flash = s.flash := rfl
@[simp] theorem State.setMember_pwr : (s.setMember n x).pwr = s.pwr := rfl
@[simp] theorem State.setMember_perf : (s.setMember n x).perf = s.perf := rfl
@[simp] theorem State.setMember_cnt : (s.setMember n x).cnt = s.cnt := rfl
@[simp] theorem State.setMember_pcie : (s.setMember n x).pcie = s.pcie := rfl
@[simp] theorem State.setMember_rings : (s.setMember n x).rings = s.rings := rfl
@[simp] theorem State.setMember_evq : (s.setMember n x).evq = s.evq := rfl
@[simp] theorem State.setMember_mgmt : (s.setMember n x).mgmt = s.mgmt := rfl
@[simp] theorem State.setMember_reads : (s.setMember n x).reads = s.reads := rfl
@[simp] theorem State.setMember_nextRead : (s.setMember n x).nextRead = s.nextRead := rfl
@[simp] theorem State.setMember_staged : (s.setMember n x).staged = s.staged := rfl
@[simp] theorem State.setMember_residency : (s.setMember n x).residency = s.residency := rfl
@[simp] theorem State.setMember_residing : (s.setMember n x).residing = s.residing := rfl
@[simp] theorem State.setMember_streams : (s.setMember n x).streams = s.streams := rfl
@[simp] theorem State.setMember_routes : (s.setMember n x).routes = s.routes := rfl
@[simp] theorem State.setMember_groups : (s.setMember n x).groups = s.groups := rfl
@[simp] theorem State.setMember_models : (s.setMember n x).models = s.models := rfl
@[simp] theorem State.setMember_jobs : (s.setMember n x).jobs = s.jobs := rfl
@[simp] theorem State.setMember_cam : (s.setMember n x).cam = s.cam := rfl
@[simp] theorem State.setMember_cores : (s.setMember n x).cores = s.cores := rfl
@[simp] theorem State.setMember_mem : (s.setMember n x).mem = s.mem := rfl
@[simp] theorem State.setMember_dram : (s.setMember n x).dram = s.dram := rfl
@[simp] theorem State.setMember_iac : (s.setMember n x).iac = s.iac := rfl
@[simp] theorem State.setMember_tve : (s.setMember n x).tve = s.tve := rfl
@[simp] theorem State.setMember_sent : (s.setMember n x).sent = s.sent := rfl
@[simp] theorem State.setMember_drawn : (s.setMember n x).drawn = s.drawn := rfl
@[simp] theorem State.setMember_pending : (s.setMember n x).pending = s.pending := rfl
end

section
variable (s : State) (n : Nat) (x : U16 × U16 × U32)
@[simp] theorem State.setCounter_now : (s.setCounter n x).now = s.now := rfl
@[simp] theorem State.setCounter_shift : (s.setCounter n x).shift = s.shift := rfl
@[simp] theorem State.setCounter_glb : (s.setCounter n x).glb = s.glb := rfl
@[simp] theorem State.setCounter_otp : (s.setCounter n x).otp = s.otp := rfl
@[simp] theorem State.setCounter_keep : (s.setCounter n x).keep = s.keep := rfl
@[simp] theorem State.setCounter_flash : (s.setCounter n x).flash = s.flash := rfl
@[simp] theorem State.setCounter_pwr : (s.setCounter n x).pwr = s.pwr := rfl
@[simp] theorem State.setCounter_perf : (s.setCounter n x).perf = s.perf := rfl
@[simp] theorem State.setCounter_cnt : (s.setCounter n x).cnt = s.cnt := rfl
@[simp] theorem State.setCounter_pcie : (s.setCounter n x).pcie = s.pcie := rfl
@[simp] theorem State.setCounter_rings : (s.setCounter n x).rings = s.rings := rfl
@[simp] theorem State.setCounter_evq : (s.setCounter n x).evq = s.evq := rfl
@[simp] theorem State.setCounter_mgmt : (s.setCounter n x).mgmt = s.mgmt := rfl
@[simp] theorem State.setCounter_reads : (s.setCounter n x).reads = s.reads := rfl
@[simp] theorem State.setCounter_nextRead : (s.setCounter n x).nextRead = s.nextRead := rfl
@[simp] theorem State.setCounter_staged : (s.setCounter n x).staged = s.staged := rfl
@[simp] theorem State.setCounter_residency : (s.setCounter n x).residency = s.residency := rfl
@[simp] theorem State.setCounter_residing : (s.setCounter n x).residing = s.residing := rfl
@[simp] theorem State.setCounter_streams : (s.setCounter n x).streams = s.streams := rfl
@[simp] theorem State.setCounter_routes : (s.setCounter n x).routes = s.routes := rfl
@[simp] theorem State.setCounter_groups : (s.setCounter n x).groups = s.groups := rfl
@[simp] theorem State.setCounter_models : (s.setCounter n x).models = s.models := rfl
@[simp] theorem State.setCounter_jobs : (s.setCounter n x).jobs = s.jobs := rfl
@[simp] theorem State.setCounter_cam : (s.setCounter n x).cam = s.cam := rfl
@[simp] theorem State.setCounter_cores : (s.setCounter n x).cores = s.cores := rfl
@[simp] theorem State.setCounter_dram : (s.setCounter n x).dram = s.dram := rfl
@[simp] theorem State.setCounter_iac : (s.setCounter n x).iac = s.iac := rfl
@[simp] theorem State.setCounter_tve : (s.setCounter n x).tve = s.tve := rfl
@[simp] theorem State.setCounter_pack : (s.setCounter n x).pack = s.pack := rfl
@[simp] theorem State.setCounter_sent : (s.setCounter n x).sent = s.sent := rfl
@[simp] theorem State.setCounter_drawn : (s.setCounter n x).drawn = s.drawn := rfl
@[simp] theorem State.setCounter_pending : (s.setCounter n x).pending = s.pending := rfl
end

section
variable (s : State) (m : Sent)
@[simp] theorem State.send_now : (s.send m).now = s.now := rfl
@[simp] theorem State.send_shift : (s.send m).shift = s.shift := rfl
@[simp] theorem State.send_glb : (s.send m).glb = s.glb := rfl
@[simp] theorem State.send_otp : (s.send m).otp = s.otp := rfl
@[simp] theorem State.send_keep : (s.send m).keep = s.keep := rfl
@[simp] theorem State.send_flash : (s.send m).flash = s.flash := rfl
@[simp] theorem State.send_pwr : (s.send m).pwr = s.pwr := rfl
@[simp] theorem State.send_perf : (s.send m).perf = s.perf := rfl
@[simp] theorem State.send_pcie : (s.send m).pcie = s.pcie := rfl
@[simp] theorem State.send_rings : (s.send m).rings = s.rings := rfl
@[simp] theorem State.send_evq : (s.send m).evq = s.evq := rfl
@[simp] theorem State.send_mgmt : (s.send m).mgmt = s.mgmt := rfl
@[simp] theorem State.send_reads : (s.send m).reads = s.reads := rfl
@[simp] theorem State.send_nextRead : (s.send m).nextRead = s.nextRead := rfl
@[simp] theorem State.send_staged : (s.send m).staged = s.staged := rfl
@[simp] theorem State.send_residency : (s.send m).residency = s.residency := rfl
@[simp] theorem State.send_residing : (s.send m).residing = s.residing := rfl
@[simp] theorem State.send_streams : (s.send m).streams = s.streams := rfl
@[simp] theorem State.send_routes : (s.send m).routes = s.routes := rfl
@[simp] theorem State.send_groups : (s.send m).groups = s.groups := rfl
@[simp] theorem State.send_models : (s.send m).models = s.models := rfl
@[simp] theorem State.send_jobs : (s.send m).jobs = s.jobs := rfl
@[simp] theorem State.send_cam : (s.send m).cam = s.cam := rfl
@[simp] theorem State.send_cores : (s.send m).cores = s.cores := rfl
@[simp] theorem State.send_mem : (s.send m).mem = s.mem := rfl
@[simp] theorem State.send_dram : (s.send m).dram = s.dram := rfl
@[simp] theorem State.send_iac : (s.send m).iac = s.iac := rfl
@[simp] theorem State.send_tve : (s.send m).tve = s.tve := rfl
@[simp] theorem State.send_pack : (s.send m).pack = s.pack := rfl
@[simp] theorem State.send_drawn : (s.send m).drawn = s.drawn := rfl
@[simp] theorem State.send_pending : (s.send m).pending = s.pending := rfl
@[simp] theorem State.send_sent : (s.send m).sent = s.sent ++ [m] := rfl
end

end Sys2Proof.Machine
end

