-- ==== Sys2Proof/Tests/Slice0.lean ====
section
/-! SUPPORT. Tests: an ill-formed term for each check of WellFormed, small steps on small states, and for every statement that has
hypotheses a state and operands that meet them. -/
namespace Sys2Proof.Tests
open Sys2Proof Sys2Proof.Machine
set_option Elab.async false
set_option linter.unusedVariables false

/-- A device whose Shepherd runs and whose host is connected. -/
def live : State :=
  { State.reset with
    glb := { State.reset.glb with boot := .running }
    pwr := { State.reset.pwr with porst := false }
    dram := { State.reset.dram with rate := 6400, size := 8589934592, channels := (List.range 4).map (fun k => (k, { up := true })) }
    pcie := { State.reset.pcie with linkUp := true, perst := false, memSpace := true, busMaster := true } }

/-- A command of ring 2. -/
def hdr : Hdr := { ring := 2, tag := 7 }

/-- A command of the management port. -/
def port : Hdr := { ring := 15, tag := 7 }

/-- A plan of one core and no layers. -/
def plan : Plan := { coreCount := 1, maxH := 4320, maxW := 7680, maxC := 64, ratios := [(1, 1)] }

/-- The first 60 bytes of a package of one variant and one plan. -/
def head60 : Bytes :=
  le 4 0x50564441 ++ le 2 3 ++ [0, 3] ++ le 4 0 ++ [1, 1] ++ le 2 2 ++ le 4 4096 ++ le 2 0 ++ le 2 0 ++ List.replicate 32 0 ++ le 4 0

/-- The package. -/
def package : Package :=
  { head := head60 ++ le 4 (crc32c head60).toNat ++ section_ 1 ++ section_ 2, copied := true, crc := 0, hash := List.replicate 32 0, plans := [plan] }
where
  /-- A section entry of a type, with no bytes. -/
  section_ (t : Byte) : Bytes := [t, 0, 0, 0] ++ le 8 128 ++ List.replicate 20 0

/-- Model 0 is loaded, with its one variant resident. -/
def loaded : State := live.setModel 0 { state := 2, resident := 1, length := 4096, package := some package }

/-- A picture of 64 by 64 at 30 frames a second from the host, one output. -/
def cfg : StreamCfg :=
  { sourceKind := 1, inW := 64, inH := 64, inFormat := 1, inNum := 30, outNum := 30
    descs := [(0, { format := 1, cropX := 0, cropY := 0, cropW := 64, cropH := 64, outW := 64, outH := 64, rateDiv := 1 })] }

/-- Stream 0 is configured. -/
def ready : State := loaded.setStream 0 { state := .configured, cfg := cfg }

/-- Stream 0 runs. -/
def flowing : State := loaded.setStream 0 { state := .running, cfg := cfg, cores := [0], nextFrame := 5, lastAccepted := 4, accepted := true }

/-- The parameters of a STREAM_CONFIG that spells cfg. -/
def configBytes : Bytes :=
  [0, 1, 0, 0, 0, 0, 0, 0] ++ le 2 64 ++ le 2 64 ++ [1, 0, 1, 0] ++ le 2 30 ++ le 2 1 ++ le 2 30 ++ le 2 1 ++ List.replicate 40 0 ++ descBytes
where
  /-- One descriptor of 04 R130. -/
  descBytes : Bytes := [1, 0, 0, 0] ++ le 2 0 ++ le 2 0 ++ le 2 64 ++ le 2 64 ++ le 2 64 ++ le 2 64 ++ le 2 1 ++ List.replicate 14 0

/-- A held output of descriptor 0. -/
def held : Output :=
  { frame := 3, phase := 0, pos := 0, desc := 0, d := { format := 1, cropX := 0, cropY := 0, cropW := 64, cropH := 64, outW := 64, outH := 64, rateDiv := 1 }
    interp := false, cadence := 0, filmPos := 0, deadline := 0, buf := none, bound := true, flags := 0, rowsDone := 64, fallbackBands := 0
    esid := 0, held := true, faultCause := 0, complete := true }

/-- A command in flight. -/
def flight : InFlight :=
  { tag := 7, opcode := 0x0001, crc := 0, fence := false, phase := .started, params := [], paramCrc := 0, fetchedAt := 0, index := 0
    clean := true, unrecorded := false }

/-- A sensor profile with two register templates. -/
def sensor : Bytes :=
  le 2 80 ++ [0x2A, 0, 0, 0x20, 0x10, 1] ++ le 4 10000000 ++ le 2 64 ++ le 2 64 ++ le 2 1064 ++ le 2 1 ++ le 2 4 ++ le 2 0x1000 ++ le 2 0x1000
    ++ le 2 0x100 ++ [8, 8] ++ le 2 0x100 ++ le 2 0xFFFF ++ le 2 0xFFFF ++ le 4 0 ++ le 2 20 ++ [0, 2] ++ List.replicate 20 0
    ++ [0, 0, 1, 0, 0, 0, 0, 0] ++ [1, 0, 9, 0, 0, 0, 0, 0]

/-- Port 0 is open, its source 0 has a profile and feeds stream 0, which runs. -/
def filming : State :=
  let s := loaded.setPort 0 { enable := true, lanes := 1, rate := 100, vcMask := 0xFFFF }
  let s := s.setSource 0 { profile := sensor }
  { s with routes := [(0, 0)] }.setStream 0
    { state := .running, cfg := { cfg with sourceKind := 2, inFormat := 0 }, cores := [0], route := some 0, lastAccepted := 10, nextFrame := 11, accepted := true }

/-- An exposure set that waits. -/
def exposure : Exposure :=
  { esid := 1, target := 12, lines := 5, again := 256, dgain := 256, irPulse := false, writing := false, commitSent := false, attempts := 7
    lastResult := 0, landing := none }

/-- A frame is open whose exposure has an IR pulse that is due. -/
def lit : State :=
  (({ filming with now := 995000000 }).setStream 0 { filming.stream 0 with landed := some { exposure with lines := 1000, irPulse := true } }).setSource 0
    { filming.source 0 with open_ := some (newFrame filming 0 1 (some (0, 11)) 1000000000) }

/-- Stream 0 runs and owns 8,192 bytes of Kennel and of DRAM. -/
def regioned : State :=
  flowing.setStream 0 { flowing.stream 0 with regions := [{ mem := .kennel, base := 0, len := 8192, rel := 0 }, { mem := .dram, base := 65536, len := 8192, rel := 8192 }] }

/-- A window of the host over 4,096 of those bytes. -/
def windowed : State := regioned.setWindow 5 { isOpen := true, read := true, write := true, offset := 128, length := 4096, bar2 := 8192 }

/-- A device read of a parameter buffer. -/
def param : DmaRead := { id := 3, purpose := .params 2 7, addr := 4096, len := 4, attempt := 0, startedAt := 0 }

/-- A command of ring 2 waits for its parameters. -/
def fetching : State :=
  { live.setRing 2 { live.ring 2 with enable := true, inFlight := [{ flight with phase := .paramRead, paramCrc := crc32c [1, 2, 3, 4] }] } with reads := [param] }

/-- Core 0 runs the microprogram of stream 0. -/
def working : State :=
  flowing.setCore 0 { flowing.core 0 with state := .running, task := some (0, 0), stopped := false, cmUnits := 4, regs := [(1, 5), (2, 64)] }

/-- A narrow load and a narrow store of CM. -/
def narrowLoad : NarrowLoad := { reg := 3, addr := 64, size := 4, signed := false, issuedAt := 0, seq := 0, tag := none, deferred := false, data := some [1, 2, 3, 4] }
def narrowStore : NarrowStore := { addr := 64, data := [1, 2, 3, 4], seq := 0, window := none, deferred := false }

/-- A chained command of one COPY stage, and core 0 with it at CM offset 64. -/
def chain : Bytes :=
  [1, 0, 0, 0] ++ le 4 0 ++ le 4 128 ++ le 4 0 ++ [0x19, 0, 0x10, 0, 0, 0, 0, 0] ++ le 2 16 ++ le 2 16 ++ List.replicate 36 0
def chaining : State := { working with mem := { working.mem with cm := [(0, memWrite [] 64 chain)] } }

/-- Core 0 has one descriptor queued; tile 0 of its primary queue is complete. -/
def entry (b : Bytes) : FetchEntry := { id := 3, bytes := b }
def queued (b : Bytes) : State :=
  working.setCore 0 { working.core 0 with fetchQueue := [entry b], none0 := false, dramBase := 1, dramUnits := 4, ctrCount := 4 }
def loadBytes : Bytes := List.replicate 16 0 ++ [1, 0, 0, 0] ++ le 4 0 ++ le 8 256 ++ le 4 0 ++ le 4 128 ++ List.replicate 24 0
def storeBytes_ : Bytes := 0x11 :: loadBytes.drop 1
def gatherBytes (space : Byte) : Bytes :=
  2 :: List.replicate 15 0 ++ [space, 0] ++ le 2 8 ++ le 4 256 ++ le 8 0 ++ le 4 0 ++ le 2 1 ++ le 2 1 ++ le 4 0 ++ le 2 1 ++ List.replicate 18 0
def fillBytes : Bytes := 3 :: List.replicate 15 0 ++ le 4 8 ++ le 4 16 ++ [1, 2, 3, 4] ++ List.replicate 36 0
def copyBytes : Bytes := 4 :: List.replicate 15 0 ++ le 4 0 ++ le 4 64 ++ le 4 16 ++ List.replicate 36 0
def publishBytes : Bytes := 0x15 :: List.replicate 15 0 ++ le 2 1 ++ [0, 0] ++ le 2 9 ++ le 2 2 ++ List.replicate 40 0

/-- A DRAM write transaction of the system pool at the head of channel 0. -/
def tx : DramTx := { id := 1, requester := 16, addr := 0, light := true, isWrite := true, issuedAt := 0, data := [7], mask := 1 }

/-- The load at the head of core 0's queue waits for 3 rows of the bottom edge of counter 1. -/
def waitBytes : Bytes := List.replicate 8 0 ++ le 4 (1 + 4096 + 8192 + 3 * 65536) ++ loadBytes.drop 12
def waitState : State := queued waitBytes

/-- An output whose rows are being written; a band and a tile of an interpolated output; a group frame; a hot device. -/
def rows : Output := { held with frame := 4, rowsDone := 3, held := false, complete := false }
def writing : State := flowing.setStream 0 { flowing.stream 0 with outputs := [rows] }
def band : Band := { interval := 4, phase := 1, index := 0, state := .open_, releaseBy := 0 }
def next5 : FrameIn :=
  { frame := 5, cookie := 0, acceptedAt := 0, esid := 0, flags := 0, sensorFrame := 0, hostBuf := none, inUse := false, cfg := cfg, variant := 0
    tuning := 0, absent := false, coresDone := [], wide := 5, cores := [0], shapes := [0] }
def frame4 : FrameIn := { next5 with frame := 4, wide := 4 }

/-- An interpolated output between frames 4 and 5; its interval is worked on, with a held tile, and with its band's tile released. -/
def between : Output := { rows with phase := 1, pos := 128, interp := true, span := (3, 4, 5) }
def tiled : State :=
  flowing.setStream 0
    { flowing.stream 0 with bands := [band], tiles := [{ interval := 4, phase := 1, index := 0, state := .held }], frames := [frame4, next5], outputs := [between] }
def done : State := tiled.setStream 0 { tiled.stream 0 with tiles := (List.range 8).map (fun i => { interval := 4, phase := 1, index := i, state := .computed }) }

/-- A plan of one layer on one core, with output rows of 128 bytes, the stream that runs it with frame 4 in work, and its regions. -/
def layered : Plan :=
  { plan with
    sets := [{ mul := 1, div := 1, granule := 1, perCore := 1, guard := 0 }]
    layers := [{ set := 0, scale := 1, padC := 64, nextToOverlap := false, feedsHalo := false, candidates := [] }], outPitch := 128 }
def shaped : State :=
  (flowing.setModel 0 { flowing.model 0 with package := some { package with plans := [layered] } }).setStream 0
    { flowing.stream 0 with shapes := [0], frames := [frame4] }
def placed : State := shaped.setStream 0 { shaped.stream 0 with regions := (regioned.stream 0).regions }

/-- Core 0 has a tile of it queued: tile 0 of phase 0 of frame 4; or tile 0 of an interpolated output, made before frame 5 is there. -/
def onTime : TileMark := { sc := 0, frame := 4, phase := 0, index := 0, spec := false }
def making : State := shaped.setCore 0 { working.core 0 with queue0 := [{ bytes := chain }] }
def ahead : TileMark := { onTime with phase := 1, spec := true }
def lowFrame : FrameIn := { frame4 with cfg := { cfg with lowLatency := true } }
def betweening : State := making.setStream 0 { making.stream 0 with frames := [lowFrame], outputs := [between] }

/-- Core 0 runs a tile of an empty chained command. -/
def inTile : State := working.setCore 0 { working.core 0 with running := some { queue := 0, chain := { bytes := [] }, startedAt := 0 } }

/-- Stream 0 runs under a valid certificate with one output; a register transfer; an exposure set that is due. -/
def certified (o : Output) : State :=
  flowing.setStream 0 { flowing.stream 0 with outputs := [o], cert := { (flowing.stream 0).cert with state := .valid } }
def xfer : Xfer := { ring := 2, tag := 7, dest := 64, addr := 0, speed := 0, mode := 0, write := [], readLen := 4 }
def exposing : State :=
  (filming.setSource 0 { filming.source 0 with profile := sensor.set 44 0x80 }).setStream 0 { filming.stream 0 with exposures := [exposure] }

/-- What an ordered set says, and an idle flit. -/
def seen (k : OsKind) (rate : Nat) (ack : Bool) : OrderedSet :=
  { kind := k, pos := 0, port := 0, lanes := List.range 8, inverted := 0, ack := ack, rate := rate }
def idleFlit : Flit := { ftype := 0, seq := 0, ack := 0, ackValid := false, nak := false, cls := 0, credits := 0, crcOk := true, payload := [] }
def idleBlocks : List LaneBlock := (flitBlocks (List.replicate 8 0) (flitBytes 0 0 0 false false 0 0 [])).1
def grouped : GroupFrame := { number := 2, openedAt := 0, windowClosed := false, present := [], substituted := [], finished := [], frames := [] }
def hot : State := { flowing with pwr := { flowing.pwr with thermal := .critical, temp := [(18, 116)] }, now := 100000000 }

/-- The FyxLink island is on; port 1 in a state; this device leads, or follows, in a pack of two. -/
def fyx : State := setDomain 31 true live
def linked (l : Link) : State := fyx.setLink 1 l
def leading : State :=
  { flowing with
    pwr := fyx.pwr
    now := 20000000
    pack := { flowing.pack with state := .formed, leader := true, leaderPos := 0, members := 3, epoch := 1, table := [(1, { state := 2 })] } }
def following : State :=
  { leading with
    glb := { leading.glb with packPos := 1 }
    pack := { leading.pack with leader := false, table := [(0, { state := 2 })] } }

/-- A packet from position 1 to 0, and one back. -/
def toLeader (kind : Nat) (data : Bytes) : Packet := { kind := kind, src := 1, dst := 0, epoch := 1, data := data }
def toFollower (kind : Nat) (data : Bytes) : Packet := { kind := kind, src := 0, dst := 1, epoch := 1, data := data }

/-- The same pack, with a plan of two members. -/
def pair_ (s : State) : State := s.setModel 0 { s.model 0 with package := some { package with plans := [{ plan with members := 2 }] } }

/-- A formation in progress: asking, with every answer in agreement, and waiting for the last follower; a pack operation; a remote window. -/
def asking : State := { fyx with pack := { fyx.pack with state := .forming, forming := some (port, 3, 0, 0), members := 3 } }
def agreeing : State :=
  ({ asking.setLink 0 { state := .up, nPos := 1, nValid := true } with now := 5000000 }).setMember 1
    { state := 1, info := infoBytes fyx |>.take 8 |>.set 7 0 |>.append [128, 0, 0, 0], hashes := (planEntries fyx).flatten }
def joining : State := { asking with pack := { asking.pack with epoch := 1, leader := true, table := [(0, { state := 2 })] } }
def packOp : PackOp :=
  { id := 0, epoch := 1, opcode := 0x0703, params := le 4 128, cmd := none, first := [], final := [], issuedAt := 0, complete := true, len := 4 }
def remoted : State :=
  ((pair_ leading).setStream 0 (regioned.stream 0)).setWindow 5
    { isOpen := true, kind := 1, read := true, write := true, offset := 128, length := 4096, peer := 0 }

/-- A command of ring 2 is in flight, not yet started. -/
def busy : State := live.setInFlight 2 [{ tag := 5, opcode := 0, crc := 0, fence := false, phase := .ready, params := [], paramCrc := 0, fetchedAt := 0, index := 0, clean := true, unrecorded := false }]

/-- Stream 0 is bound to ensemble 1, one leaf of class 3 and weight 5, and its vote runs. -/
def voting : State :=
  ({ live with tve := { live.tve with running := some { sc := 0, frame := 1, features := [], degraded := false, startedAt := 0 } } }.setEnsemble 1
    { loaded := true, nodes := [0xFF00030500000000], roots := [0] }).setStream 0 { bind := { ensemble := some 1 } }

/-- A NOP slot of tag 7 without its CRC. -/
def nopBytes : Bytes := le 2 0 ++ le 2 7 ++ List.replicate 60 0

/-- Its CRC. -/
def nopCrc : U32 := crc32c nopBytes

/-- The slot. -/
def nopSlot : Bytes := nopBytes.take 8 ++ le 4 nopCrc.toNat ++ nopBytes.drop 12

/-- Ring 2 has one slot to fetch, with commands in flight and a window. -/
def fetching2 (l : List InFlight) (seen : List WinEntry) : State :=
  live.setRing 2 { live.ring 2 with enable := true, sqLog2 := 4, cqLog2 := 4, sqTail := 1, inFlight := l, window := seen }

theorem wit_step_idle_ticks_1 : ∃ (s : State), s.pending = [] :=
  ⟨State.reset, rfl⟩

theorem wit_system_reports_answer_1 : ∃ (h : Hdr) (p : Bytes) (s : State), Taken 0x0000 h [] s :=
  ⟨hdr, [], live, by decide +kernel⟩

theorem wit_system_reports_answer_2 : ∃ (h : Hdr) (p : Bytes) (s : State), Taken 0x0001 h [] s :=
  ⟨port, [], live, by decide +kernel⟩

theorem wit_system_reports_answer_3 : ∃ (h : Hdr) (p : Bytes) (s : State), Taken 0x0002 h p s ∧ destOk h (fld p 0 8) = true ∧ (h.ring = 15
    ∨ fld p 0 8 ≠ 0) :=
  ⟨hdr, [0x40], live, by decide +kernel⟩

theorem wit_system_reports_answer_4 : ∃ (h : Hdr) (p : Bytes) (s : State), Taken 0x0004 h p s ∧ resOk p ([0xFF, 0xFF, 0xFF, 0] ++ full 8)
    = true ∧ fld p 0 1 ≤ 3 ∧ fld p 1 1 ≤ 63 ∧ 1 ≤ fld p 2 1 ∧ fld p 1 1 + fld p 2 1 ≤ 64 ∧ destOk h (fld p 4 8) = true :=
  ⟨hdr, [3, 63, 1, 0, 0x40], live, by decide +kernel⟩

theorem wit_system_reports_answer_5 : ∃ (h : Hdr) (p : Bytes) (s : State), Taken 0x0006 h [] s ∧ resOk p ([0xFF, 0xFF, 0, 0] ++ full 8) =
    true ∧ fld p 0 1 = 1 ∧ h.ring ≠ 15 ∧ fld p 1 1 = 0 ∧ destOk h (fld p 4 8) = true ∧ s.flash.fitted = true :=
  ⟨hdr, [1, 0, 0, 0, 0x40], { live with flash := { live.flash with fitted := true } }, by decide +kernel⟩

theorem wit_system_reports_answer_6 : ∃ (h : Hdr) (p : Bytes) (s : State), Taken 0x0006 h [] s ∧ resOk p ([0xFF, 0xFF, 0, 0] ++ full 8) =
    true ∧ fld p 0 1 = 2 ∧ h.ring = 15 ∧ fld p 1 1 ≤ 1 ∧ fld p 4 8 = 0 :=
  ⟨port, [2, 1], live, by decide +kernel⟩

theorem wit_system_reports_answer_7 : ∃ (h : Hdr) (p : Bytes) (s : State), Taken 0x0800 h p s ∧ resOk p (full 4 ++ [7, 0, 0, 0] ++ full 8)
    = true ∧ destOk h (fld p 8 8) = true :=
  ⟨hdr, [0xFF, 0xFF, 0xFF, 0xFF, 7], live, by decide +kernel⟩

theorem wit_system_commands_act_1 : ∃ (h : Hdr) (p : Bytes) (s : State), Taken 0x0003 h p s ∧ resOk p [0xFF, 1, 0, 0] = true ∧ fld p 0 1 ≤
    3 ∧ profileOverBudget s (fld p 0 1) = false ∧ profileBlocked s (fld p 0 1) = false :=
  ⟨hdr, [3, 1, 0, 0], live, by decide +kernel⟩

theorem wit_system_commands_act_2 : ∃ (h : Hdr) (p : Bytes) (s : State), Taken 0x0005 h p s ∧ p.length = 4 + 4 * fld p 2 1 ∧ resOk p
    ([0xFF, 0xFF, 0xFF, 0] ++ full (4 * fld p 2 1)) = true ∧ fld p 0 1 = 0 ∧ fld p 1 1 ≤ 63 ∧ 1 ≤ fld p 2 1 ∧ fld p 2 1 ≤ 8 ∧ fld p 1 1 +
    fld p 2 1 ≤ 64 :=
  ⟨hdr, [0, 63, 1, 0, 1, 2, 3, 4], live, by decide +kernel⟩

theorem wit_system_commands_act_3 : ∃ (h : Hdr) (p : Bytes) (s : State), Taken 0x0005 h p s ∧ p.length = 4 + 4 * fld p 2 1 ∧ resOk p
    ([0xFF, 0xFF, 0xFF, 0] ++ full (4 * fld p 2 1)) = true ∧ fld p 0 1 = 1 ∧ fld p 1 1 ≤ 63 ∧ 1 ≤ fld p 2 1 ∧ fld p 2 1 ≤ 8 ∧ fld p 1 1 +
    fld p 2 1 ≤ 64 ∧ (keepWords p).all (fun e => settingOk s e.1 e.2.toNat) = true :=
  ⟨hdr, [1, 1, 1, 0, 3, 0, 0, 0], live, by decide +kernel⟩

theorem wit_system_commands_act_4 : ∃ (h : Hdr) (p : Bytes) (s : State), Taken 0x0008 h p s ∧ fld p 32 4 = 0x5345414C ∧ s.otp.keyHash =
    none ∧ s.glb.fwCustomer = some (p.take 32) :=
  ⟨hdr, List.replicate 32 0xAB ++ [0x4C, 0x41, 0x45, 0x53], { live with glb := { live.glb with fwCustomer := some (List.replicate 32 0xAB) } }, by decide +kernel⟩

theorem wit_system_commands_act_5 : ∃ (h : Hdr) (p : Bytes) (s : State), Taken 0x0802 h [] s ∧ s.glb.testPins = true ∧ s.glb.challenges <
    8 :=
  ⟨hdr, [], { live with glb := { live.glb with testPins := true, challenges := 7 } }, by decide +kernel⟩

theorem wit_system_commands_act_6 : ∃ (h : Hdr) (p n : Bytes) (s : State), Taken 0x0803 h p s ∧ zeros p 64 8 = true ∧ s.glb.nonce = some n :=
  ⟨hdr, List.replicate 72 0, List.replicate 16 1, { live with glb := { live.glb with nonce := some (List.replicate 16 1) } }, by decide +kernel⟩

theorem wit_system_commands_act_7 : ∃ (h : Hdr) (p : Bytes) (s : State), Taken 0x0803 h p s ∧ zeros p 64 8 = true ∧ s.glb.nonce = none :=
  ⟨hdr, List.replicate 72 0, live, by decide +kernel⟩

theorem wit_system_commands_act_8 : ∃ (h : Hdr) (p : Bytes) (s : State), Taken 0x0804 h p s ∧ fld p 0 4 = 0x4C4F434B :=
  ⟨hdr, [0x4B, 0x43, 0x4F, 0x4C], live, by decide +kernel⟩

theorem wit_flash_commands_act_1 : ∃ (h : Hdr) (p : Bytes) (s : State), Taken 0x0006 h [] s ∧ resOk p ([0xFF, 0xFF, 0, 0] ++ full 8) =
    true ∧ fld p 0 1 = 0 ∧ fld p 1 1 = 0 ∧ fld p 4 8 = 0 ∧ h.ring < 8 ∧ s.flash.fitted = true :=
  ⟨hdr, [0, 0], { live with flash := { live.flash with fitted := true } }, by decide +kernel⟩

theorem wit_flash_commands_act_2 : ∃ (h : Hdr) (p : Bytes) (image : Option Bytes) (s : State), Taken 0x0007 h p s ∧ resOk p (full 12 ++
    [1, 0, 0, 0]) = true ∧ fld p 0 8 % 4096 = 0 ∧ 4096 ≤ fld p 8 4 ∧ fld p 8 4 ≤ 8388608 ∧ s.flash.fitted = true ∧ h.ring < 8 :=
  ⟨hdr, le 8 4096 ++ le 4 4096 ++ le 4 1, some [], { live with flash := { live.flash with fitted := true } }, by decide +kernel⟩

theorem wit_flash_commands_act_3 : ∃ (ok : Bool) (b : Bytes) (rest : List FlashOp) (e : Staged) (s : State), s.flash.queue = .export_ b ::
    rest ∧ portAnswers s = true ∧ s.staged.find? (fun e => e.change == .flash) = some e ∧ s.pack.ops = [] :=
  ⟨true, [1, 2], [], { ring := 2, tag := 7, opcode := 6, target := 0, ready := true, boundaries := 0, change := .flash }, { live with flash := { live.flash with queue := [.export_ [1, 2]] }, staged := [{ ring := 2, tag := 7, opcode := 6, target := 0, ready := true, boundaries := 0, change := .flash }] }, by decide +kernel⟩

theorem wit_flash_commands_act_4 : ∃ (ok a : Bool) (b : Bytes) (rest : List FlashOp) (e : Staged) (s : State), s.flash.queue = .install b
    a :: rest ∧ portAnswers s = true ∧ s.staged.find? (fun e => e.change == .flash) = some e ∧ s.pack.ops = [] :=
  ⟨true, true, [1, 2], [], { ring := 2, tag := 7, opcode := 7, target := 0, ready := true, boundaries := 0, change := .flash }, { live with flash := { live.flash with queue := [.install [1, 2] true] }, staged := [{ ring := 2, tag := 7, opcode := 7, target := 0, ready := true, boundaries := 0, change := .flash }] }, by decide +kernel⟩

theorem wit_stream_commands_act_1 : ∃ (h : Hdr) (p : Bytes) (s : State), Taken 0x0200 h p s ∧ p.length = 64 + 32 * fld p 14 1 ∧ resOk p
    (configMask (fld p 14 1)) = true ∧ configForm (configOf p) = true ∧ ratioOk (configOf p) = true ∧ firstFail (configState (bits (fld p
    0 1) 0 5) (configOf p) s) = none ∧ (s.stream (bits (fld p 0 1) 0 5)).state ≠ .running :=
  ⟨hdr, configBytes, loaded, by decide +kernel⟩

theorem wit_stream_commands_act_2 : ∃ (h : Hdr) (p : Bytes) (s : State), Taken 0x0200 h p s ∧ p.length = 64 + 32 * fld p 14 1 ∧ resOk p
    (configMask (fld p 14 1)) = true ∧ configForm (configOf p) = true ∧ ratioOk (configOf p) = true ∧ firstFail (configState (bits (fld p
    0 1) 0 5) (configOf p) s) = none ∧ (s.stream (bits (fld p 0 1) 0 5)).state = .running ∧ (planOf s (configOf p)).isSome = true ∧
    planChanges (settled s (bits (fld p 0 1) 0 5)) (configOf p) = false ∧ certOk s (bits (fld p 0 1) 0 5) (settledWith s (bits (fld p 0 1)
    0 5) (.config (configOf p))) = true ∧ outstanding s (bits (fld p 0 1) 0 5) = false ∧ changeReady s (bits (fld p 0 1) 0 5) (.config
    (configOf p)) = true :=
  ⟨hdr, configBytes, flowing, by decide +kernel⟩

theorem wit_stream_commands_act_3 : ∃ (h : Hdr) (p : Bytes) (s : State), Taken 0x0202 h p s ∧ resOk p [0x1F, 0xFF] = true ∧ fld p 1 1 = 1
    ∧ ((s.stream (bits (fld p 0 1) 0 5)).state = .running ∨ (s.stream (bits (fld p 0 1) 0 5)).state = .draining ∨ (s.stream (bits (fld p 0
    1) 0 5)).state = .faulted) :=
  ⟨hdr, [0, 1], flowing, by decide +kernel⟩

theorem wit_stream_commands_act_4 : ∃ (h : Hdr) (p : Bytes) (s : State), Taken 0x0203 h p s ∧ resOk p [0x1F] = true ∧ (s.stream (bits (fld
    p 0 1) 0 5)).state = .configured ∧ (s.stream (bits (fld p 0 1) 0 5)).group = none :=
  ⟨hdr, [0, 0, 0, 0], ready, by decide +kernel⟩

theorem wit_stream_commands_act_5 : ∃ (h : Hdr) (p : Bytes) (s : State), Taken 0x0204 h p s ∧ resOk p ([0x1F, 0xFF, 0x07, 0] ++ full 28) =
    true ∧ fld p 1 1 = 0 ∧ bits (fld p 2 1) 0 3 = 0 ∧ (bufOf p).plane0 % 256 = 0 ∧ (bufOf p).plane1 % 256 = 0 ∧ (bufOf p).pitch0 % 64 = 0
    ∧ (bufOf p).pitch1 % 64 = 0 ∧ ((s.stream (bits (fld p 0 1) 0 5)).state = .configured ∨ (s.stream (bits (fld p 0 1) 0 5)).state =
    .running) ∧ (s.stream (bits (fld p 0 1) 0 5)).cfg.sourceKind = 1 ∧ bufOk (bufOf p) (settled s (bits (fld p 0 1) 0 5)).cfg.inFormat
    (settled s (bits (fld p 0 1) 0 5)).cfg.inW = true ∧ (s.stream (bits (fld p 0 1) 0 5)).inBufs.length < 16 :=
  ⟨hdr, [0, 0, 0, 0] ++ le 4 9 ++ le 8 0x1000 ++ le 8 0x2000 ++ le 4 64 ++ le 4 64, flowing, by decide +kernel⟩

theorem wit_stream_commands_act_6 : ∃ (h : Hdr) (p : Bytes) (s : State) (d : Desc), Taken 0x0204 h p s ∧ resOk p ([0x1F, 0xFF, 0x07, 0] ++
    full 28) = true ∧ fld p 1 1 = 1 ∧ (bufOf p).plane0 % 256 = 0 ∧ (bufOf p).plane1 % 256 = 0 ∧ (bufOf p).pitch0 % 64 = 0 ∧ (bufOf
    p).pitch1 % 64 = 0 ∧ ((s.stream (bits (fld p 0 1) 0 5)).state = .configured ∨ (s.stream (bits (fld p 0 1) 0 5)).state = .running ∨
    (s.stream (bits (fld p 0 1) 0 5)).state = .draining) ∧ Tab.get none (Tab.map (fun _ e => some e) (settled s (bits (fld p 0 1) 0
    5)).cfg.descs) (bits (fld p 2 1) 0 3) = some d ∧ bufOk (bufOf p) d.format d.outW = true ∧ (Tab.get [] (s.stream (bits (fld p 0 1) 0
    5)).outBufs (bits (fld p 2 1) 0 3)).length < 16 ∧ heldOutput (s.stream (bits (fld p 0 1) 0 5)) (bits (fld p 2 1) 0 3) = none ∧ holding
    (s.stream (bits (fld p 0 1) 0 5)) (bits (fld p 2 1) 0 3) = none :=
  ⟨hdr, [0, 1, 0, 0] ++ le 4 9 ++ le 8 0x1000 ++ le 8 0x2000 ++ le 4 64 ++ le 4 64, flowing, { format := 1, cropX := 0, cropY := 0, cropW := 64, cropH := 64, outW := 64, outH := 64, rateDiv := 1 }, by decide +kernel⟩

theorem wit_stream_commands_act_7 : ∃ (h : Hdr) (p : Bytes) (s : State), Taken 0x0209 h p s ∧ resOk p ([0x1F, 0, 0, 0] ++ full 8) = true ∧
    destOk h (fld p 4 8) = true :=
  ⟨hdr, [31, 0, 0, 0, 0x40], live, by decide +kernel⟩

theorem wit_boundary_commands_act_1 : ∃ (h : Hdr) (p : Bytes) (s : State) (c : Change), Taken 0x0206 h p s ∧ resOk p ([0x1F, 0x07, 0xFF,
    0] ++ (if fld p 2 1 = 0 then descMask else full 32)) = true ∧ ((fld p 2 1 = 0 ∧ descForm (descOf p 4) = true ∧ c = .output (fld p 1 1)
    (some (descOf p 4))) ∨ (fld p 2 1 = 1 ∧ c = .output (fld p 1 1) none)) ∧ (s.stream (bits (fld p 0 1) 0 5)).state = .configured ∧ (fld
    p 2 1 = 0 → ((planOf s (settled s (bits (fld p 0 1) 0 5)).cfg).map (fun pl => descFits pl (settled s (bits (fld p 0 1) 0 5)).cfg
    (descOf p 4))).getD true = true) ∧ (fld p 2 1 = 0 → descriptorsOk s (bits (fld p 0 1) 0 5) c = true) ∧ (fld p 2 1 = 1 → ((settled s
    (bits (fld p 0 1) 0 5)).cfg.descs.any (fun q => q.1 == fld p 1 1)) = true ∧ (settled s (bits (fld p 0 1) 0 5)).cfg.descs.length ≠ 1) ∧
    outstanding s (bits (fld p 0 1) 0 5) = false ∧ changeReady s (bits (fld p 0 1) 0 5) c = true :=
  ⟨hdr, [0, 1, 0, 0] ++ configBytes.descBytes, ready, .output 1 (some (descOf ([0, 1, 0, 0] ++ configBytes.descBytes) 4)), by decide +kernel⟩

theorem wit_boundary_commands_act_2 : ∃ (h : Hdr) (p : Bytes) (s : State) (c : Change), Taken 0x0206 h p s ∧ resOk p ([0x1F, 0x07, 0xFF,
    0] ++ (if fld p 2 1 = 0 then descMask else full 32)) = true ∧ ((fld p 2 1 = 0 ∧ descForm (descOf p 4) = true ∧ c = .output (fld p 1 1)
    (some (descOf p 4))) ∨ (fld p 2 1 = 1 ∧ c = .output (fld p 1 1) none)) ∧ (s.stream (bits (fld p 0 1) 0 5)).state = .running ∧ (fld p 2
    1 = 0 → ((planOf s (settled s (bits (fld p 0 1) 0 5)).cfg).map (fun pl => descFits pl (settled s (bits (fld p 0 1) 0 5)).cfg (descOf p
    4))).getD true = true) ∧ (fld p 2 1 = 0 → descriptorsOk s (bits (fld p 0 1) 0 5) c = true) ∧ (fld p 2 1 = 1 → ((settled s (bits (fld p
    0 1) 0 5)).cfg.descs.any (fun q => q.1 == fld p 1 1)) = true ∧ (settled s (bits (fld p 0 1) 0 5)).cfg.descs.length ≠ 1) ∧ certOk s
    (bits (fld p 0 1) 0 5) (applyPure (settled s (bits (fld p 0 1) 0 5)) c) = true ∧ outstanding s (bits (fld p 0 1) 0 5) = false ∧
    changeReady s (bits (fld p 0 1) 0 5) c = true :=
  ⟨hdr, [0, 1, 0, 0] ++ configBytes.descBytes, flowing, .output 1 (some (descOf ([0, 1, 0, 0] ++ configBytes.descBytes) 4)), by decide +kernel⟩

theorem wit_boundary_commands_act_3 : ∃ (h : Hdr) (p : Bytes) (s : State), Taken 0x0208 h p s ∧ resOk p [0x1F, 0xFF, 0x0F] = true ∧ fld p
    1 1 ≤ 1 ∧ (s.stream (bits (fld p 0 1) 0 5)).state = .running ∧ outstanding s (bits (fld p 0 1) 0 5) = false ∧ changeReady s (bits (fld
    p 0 1) 0 5) (.pin (if fld p 1 1 = 1 then some (bits (fld p 2 1) 0 4) else none)) = true :=
  ⟨hdr, [0, 1, 15, 0], flowing, by decide +kernel⟩

theorem wit_boundary_commands_act_4 : ∃ (h : Hdr) (p : Bytes) (s : State), Taken 0x0208 h p s ∧ resOk p [0x1F, 0xFF, 0x0F] = true ∧ fld p
    1 1 = 1 ∧ (s.stream (bits (fld p 0 1) 0 5)).state = .configured ∧ outstanding s (bits (fld p 0 1) 0 5) = false ∧ changeReady s (bits
    (fld p 0 1) 0 5) (.pin (some (bits (fld p 2 1) 0 4))) = true :=
  ⟨hdr, [0, 1, 15, 0], ready, by decide +kernel⟩

theorem wit_boundary_commands_act_5 : ∃ (h : Hdr) (p : Bytes) (s : State), Taken 0x0208 h p s ∧ resOk p [0x1F, 0xFF, 0x0F] = true ∧ fld p
    1 1 = 0 ∧ (s.stream (bits (fld p 0 1) 0 5)).state = .configured ∧ outstanding s (bits (fld p 0 1) 0 5) = false ∧ changeReady s (bits
    (fld p 0 1) 0 5) (.pin none) = true :=
  ⟨hdr, [0, 0, 15, 0], ready, by decide +kernel⟩

theorem wit_boundary_commands_act_6 : ∃ (h : Hdr) (p : Bytes) (s : State) (src : Nat) (target : Option Nat), Taken 0x0205 h p s ∧ resOk p
    [0xF3, 0xFF] = true ∧ src = bits (fld p 0 1) 0 2 * 16 + bits (fld p 0 1) 4 4 ∧ ((fld p 1 1 = 0xFF ∧ target = none) ∨ (fld p 1 1 < 32 ∧
    target = some (fld p 1 1) ∧ (s.stream (fld p 1 1)).cfg.sourceKind = 2 ∧ ((s.stream (fld p 1 1)).state = .configured ∨ (s.stream (fld p
    1 1)).state = .running))) ∧ routePending s src target = false :=
  ⟨hdr, [0x33, 0xFF, 0, 0], live, 51, none, by decide +kernel⟩

theorem wit_boundary_commands_act_7 : ∃ (src frame : Nat) (e : Staged) (fl : InFlight) (s : State), s.staged.find? (fun e => match
    e.change with | .route x _ => x == src | _ => false) = some e ∧ (s.inFlight e.ring).find? (fun f => f.tag == e.tag && f.phase ==
    .started) = some fl ∧ s.now ≤ fl.fetchedAt + 20000000 :=
  ⟨0, 5, waiting hdr 0x0205 0 true (.route 0 none), flight, { live.setInFlight 2 [flight] with staged := [waiting hdr 0x0205 0 true (.route 0 none)], now := 20000000 }, by decide +kernel⟩

theorem wit_boundary_commands_act_8 : ∃ (h : Hdr) (p : Bytes) (s : State), Taken 0x0207 h p s ∧ resOk p ([0x07, 0xFF, 0, 0] ++ full 4) =
    true ∧ fld p 1 1 ≤ 3 ∧ (maskBits (fld p 4 4) 32).all (fun i => ((s.stream i).state == .configured || (s.stream i).state == .running)
    && ((s.stream i).group.isNone || (s.stream i).group == some (bits (fld p 0 1) 0 3))) = true ∧ (fld p 4 4 ≠ 0 → ratesAlign ((maskBits
    (fld p 4 4) 32).map (fun i => (settled s i).cfg)) = true) ∧ (fld p 4 4 ≠ 0 ∨ (s.group (bits (fld p 0 1) 0 3)).members ≠ 0) :=
  ⟨hdr, [7, 3, 0, 0, 1, 0, 0, 0], ready, by decide +kernel⟩

theorem wit_stream_start_runs_1 : ∃ (h : Hdr) (p : Bytes) (s : State) (pl : Plan) (cores : List Nat), Taken 0x0201 h p s ∧ resOk p [0x1F]
    = true ∧ (s.stream (bits (fld p 0 1) 0 5)).state = .configured ∧ tableResident s (s.stream (bits (fld p 0 1) 0 5)) = true ∧ ((s.stream
    (bits (fld p 0 1) 0 5)).cfg.sourceKind = 1 ∨ (s.port (s.stream (bits (fld p 0 1) 0 5)).cfg.port).enable = true) ∧ planOf s (s.stream
    (bits (fld p 0 1) 0 5)).cfg = some pl ∧ s.pwr.thermal ≠ .critical ∧ mosaicOk s (s.stream (bits (fld p 0 1) 0 5)) pl = true ∧
    assignCores s pl [] = some cores ∧ (findFloor (s.setStream (bits (fld p 0 1) 0 5)
    { s.stream (bits (fld p 0 1) 0 5) with state := .running, cores := cores })
    { s.stream (bits (fld p 0 1) 0 5) with state := .running, cores := cores } pl.floorOp (profCap s.pwr.profile)).isSome = true ∧ (hostOk
    (s.setStream (bits (fld p 0 1) 0 5) { s.stream (bits (fld p 0 1) 0 5) with state := .running, cores := cores }) && fyxOk (s.setStream
    (bits (fld p 0 1) 0 5) { s.stream (bits (fld p 0 1) 0 5) with state := .running, cores := cores }) && othersPass (s.setStream (bits
    (fld p 0 1) 0 5) { s.stream (bits (fld p 0 1) 0 5) with state := .running, cores := cores }) (bits (fld p 0 1) 0 5) && tveOk
    (s.setStream (bits (fld p 0 1) 0 5) { s.stream (bits (fld p 0 1) 0 5) with state := .running, cores := cores }) && certOk s (bits (fld
    p 0 1) 0 5) { s.stream (bits (fld p 0 1) 0 5) with state := .running, cores := cores }) = true ∧ (allocTask (scOwner (bits (fld p 0 1)
    0 5)) cores { pl with dramUnits := pl.dramUnits + holdUnits (s.stream (bits (fld p 0 1) 0 5)).cfg } s).toBool = true :=
  ⟨hdr, [0], ready, plan, [0], by decide +kernel⟩

theorem wit_stream_start_runs_2 : ∃ (h : Hdr) (p : Bytes) (s : State), Taken 0x0202 h p s ∧ resOk p [0x1F, 0xFF] = true ∧ fld p 1 1 = 0 ∧
    (s.stream (bits (fld p 0 1) 0 5)).state = .running :=
  ⟨hdr, [0, 0], flowing, by decide +kernel⟩

theorem wit_stream_start_runs_3 : ∃ (h : Hdr) (p : Bytes) (s : State) (d : Desc) (o : Output), Taken 0x0204 h p s ∧ resOk p ([0x1F, 0xFF,
    0x07, 0] ++ full 28) = true ∧ fld p 1 1 = 1 ∧ (bufOf p).plane0 % 256 = 0 ∧ (bufOf p).plane1 % 256 = 0 ∧ (bufOf p).pitch0 % 64 = 0 ∧
    (bufOf p).pitch1 % 64 = 0 ∧ (s.stream (bits (fld p 0 1) 0 5)).state = .running ∧ Tab.get none (Tab.map (fun _ e => some e) (settled s
    (bits (fld p 0 1) 0 5)).cfg.descs) (bits (fld p 2 1) 0 3) = some d ∧ bufOk (bufOf p) d.format d.outW = true ∧ (Tab.get [] (s.stream
    (bits (fld p 0 1) 0 5)).outBufs (bits (fld p 2 1) 0 3)).length < 16 ∧ heldOutput (s.stream (bits (fld p 0 1) 0 5)) (bits (fld p 2 1) 0
    3) = some o :=
  ⟨hdr, [0, 1, 0, 0] ++ le 4 9 ++ le 8 0x1000 ++ le 8 0x2000 ++ le 4 64 ++ le 4 64, flowing.setStream 0 { flowing.stream 0 with hold := [(0, held)] }, { format := 1, cropX := 0, cropY := 0, cropW := 64, cropH := 64, outW := 64, outH := 64, rateDiv := 1 }, held, by decide +kernel⟩

theorem wit_stream_start_runs_4 : ∃ (h : Hdr) (p : Bytes) (s : State) (d : Desc) (o : Output), Taken 0x0204 h p s ∧ resOk p ([0x1F, 0xFF,
    0x07, 0] ++ full 28) = true ∧ fld p 1 1 = 1 ∧ (bufOf p).plane0 % 256 = 0 ∧ (bufOf p).plane1 % 256 = 0 ∧ (bufOf p).pitch0 % 64 = 0 ∧
    (bufOf p).pitch1 % 64 = 0 ∧ (s.stream (bits (fld p 0 1) 0 5)).state = .running ∧ Tab.get none (Tab.map (fun _ e => some e) (settled s
    (bits (fld p 0 1) 0 5)).cfg.descs) (bits (fld p 2 1) 0 3) = some d ∧ bufOk (bufOf p) d.format d.outW = true ∧ (Tab.get [] (s.stream
    (bits (fld p 0 1) 0 5)).outBufs (bits (fld p 2 1) 0 3)).length < 16 ∧ heldOutput (s.stream (bits (fld p 0 1) 0 5)) (bits (fld p 2 1) 0
    3) = none ∧ holding (s.stream (bits (fld p 0 1) 0 5)) (bits (fld p 2 1) 0 3) = some o :=
  ⟨hdr, [0, 1, 0, 0] ++ le 4 9 ++ le 8 0x1000 ++ le 8 0x2000 ++ le 4 64 ++ le 4 64, flowing.setStream 0 { flowing.stream 0 with outputs := [held] }, { format := 1, cropX := 0, cropY := 0, cropW := 64, cropH := 64, outW := 64, outH := 64, rateDiv := 1 }, held, by decide +kernel⟩

theorem wit_stream_start_runs_5 : ∃ (h : Hdr) (p : Bytes) (s : State), Taken 0x0201 h p s ∧ resOk p [0x1F] = true ∧ (s.stream (bits (fld p
    0 1) 0 5)).state = .configured ∧ tableResident s (s.stream (bits (fld p 0 1) 0 5)) = true ∧ ((s.stream (bits (fld p 0 1) 0
    5)).cfg.sourceKind = 1 ∨ (s.port (s.stream (bits (fld p 0 1) 0 5)).cfg.port).enable = true) ∧ (∃ pl cores, planOf s (s.stream (bits
    (fld p 0 1) 0 5)).cfg = some pl ∧ mosaicOk s (s.stream (bits (fld p 0 1) 0 5)) pl = true ∧ assignCores s pl [] = some cores) ∧
    s.pwr.thermal = .critical :=
  ⟨hdr, [0], { ready with pwr := { ready.pwr with thermal := .critical } }, by decide +kernel, by decide +kernel, by decide +kernel, by decide +kernel, by decide +kernel, ⟨plan, [0], by decide +kernel⟩, rfl⟩

theorem wit_model_commands_act_1 : ∃ (h : Hdr) (p : Bytes) (s : State), Taken 0x0100 h p s ∧ resOk p ([0x3F, 1, 0, 0] ++ full 12) = true ∧
    128 ≤ fld p 4 4 ∧ fld p 4 4 ≤ 268435456 ∧ fld p 8 8 % 4096 = 0 ∧ (s.model (fld p 0 1)).state = 0 :=
  ⟨hdr, [63, 1, 0, 0] ++ le 4 128 ++ le 8 4096, live, by decide +kernel⟩

theorem wit_model_commands_act_2 : ∃ (handle d : Nat) (k : Package) (e : Staged) (s : State), s.running = true ∧ s.staged.find? (fun e =>
    e.change == .load handle) = some e ∧ (s.model handle).state = 1 ∧ (s.model handle).package = none ∧ loadChecks s handle k = none ∧
    dramRun s (ceilDiv (s.model handle).length 1048576) = some d :=
  ⟨0, 0, package, waiting hdr 0x0100 0 false (.load 0), { live.setModel 0 { state := 1, length := 4096 } with staged := [waiting hdr 0x0100 0 false (.load 0)] }, by decide +kernel⟩

theorem wit_model_commands_act_3 : ∃ (handle d : Nat) (k : Package) (e : Staged) (s : State), (s.model handle).resideAll = false ∧
    s.pack.ops = [] :=
  ⟨0, 0, package, waiting hdr 0x0100 0 false (.load 0), live, by decide +kernel⟩

theorem wit_model_commands_act_4 : ∃ (h : Hdr) (p : Bytes) (s : State), Taken 0x0101 h p s ∧ resOk p [0x3F, 0, 0xFF, 0xFF, 0xFF, 0, 0, 0]
    = true ∧ fld p 4 1 = 0 ∧ (s.model (fld p 0 1)).state = 2 ∧ fld p 2 2 < 2 ^ fld (headOf s (fld p 0 1)) 12 1 :=
  ⟨hdr, [0, 0, 1, 0, 0, 0, 0, 0], loaded, by decide +kernel⟩

theorem wit_model_commands_act_5 : ∃ (h : Hdr) (p : Bytes) (s : State), Taken 0x0101 h p s ∧ resOk p [0x3F, 0, 0xFF, 0xFF, 0xFF, 0, 0, 0]
    = true ∧ fld p 4 1 = 1 ∧ (s.model (fld p 0 1)).state = 2 ∧ fld p 2 2 < 2 ^ fld (headOf s (fld p 0 1)) 12 1 ∧ (maskBits (fld p 2 2)
    16).all (fun v => !variantNamed s (fld p 0 1) v) = true :=
  ⟨hdr, [0, 0, 1, 0, 1, 0, 0, 0], loaded, by decide +kernel⟩

theorem wit_model_commands_act_6 : ∃ (h : Hdr) (p : Bytes) (s : State), Taken 0x0102 h p s ∧ resOk p [0x3F, 0, 0, 0] = true ∧ (s.model
    (fld p 0 1)).state = 2 ∧ modelNamed s (fld p 0 1) = false :=
  ⟨hdr, [0, 0, 0, 0], loaded, by decide +kernel⟩

theorem wit_model_commands_act_7 : ∃ (h : Hdr) (p : Bytes) (s : State), Taken 0x0103 h p s ∧ resOk p [0x3F, 0, 0, 0] = true :=
  ⟨hdr, [63, 0, 0, 0], live, by decide +kernel⟩

theorem wit_model_commands_act_8 : ∃ (o : ResidencyOp) (rest : List ResidencyOp) (s : State), s.running = true ∧ s.residing = none ∧
    s.residency = o :: rest ∧ (s.model o.handle).package.isSome = true ∧ (o.rewrite = true ∨ (residentFits s o.handle o.mask = true ∧
    (placeAll o.handle (maskBits o.mask 16) { s with residency := rest }).isSome = true)) :=
  ⟨{ handle := 0, mask := 1, rewrite := false, forCmd := none }, [], { loaded with residency := [{ handle := 0, mask := 1, rewrite := false, forCmd := none }] }, by decide +kernel⟩

theorem wit_model_commands_act_9 : ∃ (o : ResidencyOp) (s : State), s.running = true ∧ s.residing = some o ∧ extentWaits s o = false ∧
    o.forCmd = none :=
  ⟨{ handle := 0, mask := 1, rewrite := false, forCmd := none }, { loaded with residing := some { handle := 0, mask := 1, rewrite := false, forCmd := none } }, by decide +kernel⟩

theorem wit_job_commands_act_1 : ∃ (h : Hdr) (p : Bytes) (d : List Nat) (pl : Plan) (s : State), Taken 0x0400 h p s ∧ resOk p ([0x0F,
    0x3F, 0xFF, 0, 0xFF, 0xFF, 0, 0] ++ full 32 ++ rsv 8) = true ∧ fld p 8 8 % 256 = 0 ∧ fld p 16 8 % 256 = 0 ∧ (s.job (fld p 0 1)).active
    = false ∧ (s.model (fld p 1 1)).state = 2 ∧ jobPlan s p = some pl ∧ jobMaskOk pl (fld p 4 2) = true ∧ bit (s.model (fld p 1
    1)).resident (bits (fld p 2 1) 4 4) = true ∧ (maskBits (fld p 4 2) 16).all (coreFree s) = true ∧ s.pwr.thermal ≠ .critical ∧ d.any (·
    == 0) = false ∧ nth 0 d 0 ≤ pl.maxN ∧ nth 0 d 1 ≤ pl.maxH ∧ nth 0 d 2 ≤ pl.maxW ∧ nth 0 d 3 ≤ pl.maxC ∧ (jobRows pl (nth 0 d 2)).1 ≤
    fld p 32 4 ∧ (jobRows pl (nth 0 d 2)).2 ≤ fld p 36 4 ∧ othersPass (s.setJob (fld p 0 1) (jobOf p d)) 32 = true ∧ tveOk (s.setJob (fld
    p 0 1) (jobOf p d)) = true ∧ ((allocTask (jobOwner (fld p 0 1)) (maskBits (fld p 4 2) 16) pl s).toOption.bind (fun r => (allocCounters
    (counterNeed pl (jobCfg d) none (maskBits (fld p 4 2) 16).length) r.2).1)).isSome = true :=
  ⟨hdr, [15, 0, 0, 0] ++ le 4 1 ++ le 8 0x1000 ++ le 8 0x2000 ++ le 8 0x3000 ++ le 4 4096 ++ le 4 4096 ++ List.replicate 8 0, [1, 16, 16, 64], plan, loaded, by decide +kernel⟩

theorem wit_job_commands_act_2 : ∃ (h : Hdr) (p : Bytes) (d : List Nat) (pl : Plan) (s : State), Taken 0x0400 h p s ∧ resOk p ([0x0F,
    0x3F, 0xFF, 0, 0xFF, 0xFF, 0, 0] ++ full 32 ++ rsv 8) = true ∧ fld p 8 8 % 256 = 0 ∧ fld p 16 8 % 256 = 0 ∧ (s.job (fld p 0 1)).active
    = false ∧ (s.model (fld p 1 1)).state = 2 ∧ jobPlan s p = some pl ∧ jobMaskOk pl (fld p 4 2) = true ∧ bit (s.model (fld p 1
    1)).resident (bits (fld p 2 1) 4 4) = true ∧ (maskBits (fld p 4 2) 16).all (coreFree s) = true ∧ s.pwr.thermal ≠ .critical ∧ d.any (·
    == 0) = true :=
  ⟨hdr, [15, 0, 0, 0] ++ le 4 1 ++ le 8 0x1000 ++ le 8 0x2000 ++ le 8 0x3000 ++ le 4 4096 ++ le 4 4096 ++ List.replicate 8 0, [1, 0, 16, 64], plan, loaded, by decide +kernel⟩

theorem wit_job_commands_act_3 : ∃ (h : Hdr) (p : Bytes) (s : State), Taken 0x0401 h p s ∧ resOk p [0x0F, 0, 0, 0] = true ∧ (s.job (fld p
    0 1)).active = true :=
  ⟨hdr, [15, 0, 0, 0], live.setJob 15 { active := true }, by decide +kernel⟩

theorem wit_tree_commands_act_1 : ∃ (h : Hdr) (p nb rb fb : Bytes) (d : Nat) (s : State), Taken 0x0600 h p s ∧ resOk p ([0x0F, 0] ++ full
    32 ++ rsv 2 ++ full 4) = true ∧ 1 ≤ fld p 2 2 ∧ fld p 2 2 ≤ 512 ∧ 1 ≤ fld p 4 4 ∧ fld p 4 4 ≤ 65536 ∧ 64 ≤ fld p 32 2 ∧ fld p 32 2 ≤
    4096 ∧ ensembleNamed s (bits (fld p 0 1) 0 4) = false ∧ nb.length = 8 * fld p 4 4 ∧ rb.length = 4 * fld p 2 2 ∧ fb.length = fld p 32 2
    ∧ (crc32c nb).toNat = fld p 36 4 ∧ frontOk fb = true ∧ (nodesOf nb).all (nodeOk (fld p 4 4) (fld fb 0 1)) = true ∧ (rootsOf rb).all (·
    < fld p 4 4) = true ∧ (rootsOf rb).all (fun r => (depthOf (nodesOf nb) 64 r).isSome) = true ∧ dramRun s (treeUnits (fld p 4 4)) = some
    d :=
  ⟨hdr, [15, 0] ++ le 2 1 ++ le 4 1 ++ le 8 64 ++ le 8 128 ++ le 8 193 ++ le 2 64 ++ le 2 0 ++ le 4 (crc32c [0, 0, 0, 0, 0, 0, 0, 0xFF]).toNat, [0, 0, 0, 0, 0, 0, 0, 0xFF], [0, 0, 0, 0], 3 :: List.replicate 63 0, 0, live, by decide +kernel⟩

theorem wit_tree_commands_act_2 : ∃ (h : Hdr) (p : Bytes) (s : State), Taken 0x0601 h p s ∧ resOk p [0x0F] = true ∧ ensembleNamed s (bits
    (fld p 0 1) 0 4) = false ∧ (s.ensemble (bits (fld p 0 1) 0 4)).loaded = true :=
  ⟨hdr, [15], live.setEnsemble 15 { loaded := true }, by decide +kernel⟩

theorem wit_tree_commands_act_3 : ∃ (h : Hdr) (p : Bytes) (s : State) (b : Binding), Taken 0x0602 h p s ∧ resOk p [0x1F, 0xFF, 0xFF, 0x0F]
    = true ∧ fld p 1 1 ≤ 15 ∧ 1 ≤ fld p 2 1 ∧ 1 ≤ fld p 3 1 ∧ fld p 3 1 ≤ 15 ∧ b =
    { ensemble := some (fld p 1 1), voteEvery := fld p 2 1, hystK := fld p 3 1 } ∧ (s.stream (bits (fld p 0 1) 0 5)).state = .running ∧
    fld p 2 1 ≤ (settled s (bits (fld p 0 1) 0 5)).cfg.inNum / max 1 (settled s (bits (fld p 0 1) 0 5)).cfg.inDen ∧ (s.ensemble (fld p 1
    1)).loaded = true ∧ ensembleKind s (fld p 1 1) + 1 = (settled s (bits (fld p 0 1) 0 5)).cfg.sourceKind ∧ tveOk (trialState s (bits
    (fld p 0 1) 0 5) (applyPure (settled s (bits (fld p 0 1) 0 5)) (.bind b))) = true ∧ outstanding s (bits (fld p 0 1) 0 5) = false ∧
    changeReady s (bits (fld p 0 1) 0 5) (.bind b) = true :=
  ⟨hdr, [0, 15, 30, 15], flowing.setEnsemble 15 { loaded := true }, { ensemble := some 15, voteEvery := 30, hystK := 15 }, by decide +kernel⟩

theorem wit_tree_commands_act_4 : ∃ (h : Hdr) (p : Bytes) (s : State), Taken 0x0602 h p s ∧ resOk p [0x1F, 0xFF, 0xFF, 0x0F] = true ∧ fld
    p 1 1 = 0xFF ∧ (s.stream (bits (fld p 0 1) 0 5)).state = .running ∧ outstanding s (bits (fld p 0 1) 0 5) = false ∧ changeReady s (bits
    (fld p 0 1) 0 5) (.bind {}) = true :=
  ⟨hdr, [0, 0xFF, 0, 0], flowing, by decide +kernel⟩

theorem wit_tree_commands_act_5 : ∃ (h : Hdr) (p : Bytes) (s : State), Taken 0x0603 h p s ∧ resOk p tableMask = true ∧ (s.stream (bits
    (fld p 0 1) 0 5)).state = .running ∧ (tableOf p).entries.all (fun e => e.1 < fld (headOf s (settled s (bits (fld p 0 1) 0
    5)).cfg.handle) 12 1) = true ∧ (tableOf p).entries.all (fun e => e.2 == 0 || e.2 < fld (headOf s (settled s (bits (fld p 0 1) 0
    5)).cfg.handle) 20 2) = true ∧ certOk s (bits (fld p 0 1) 0 5) (applyPure (settled s (bits (fld p 0 1) 0 5)) (.table (tableOf p))) =
    true ∧ outstanding s (bits (fld p 0 1) 0 5) = false ∧ changeReady s (bits (fld p 0 1) 0 5) (.table (tableOf p)) = true :=
  ⟨hdr, [0, 15] ++ List.replicate 70 0, flowing, by decide +kernel⟩

theorem wit_tree_commands_act_6 : ∃ (v : VoteJob) (rest : List VoteJob) (bad : List Nat) (s : State), s.tve.running = none ∧ s.tve.ready =
    v :: rest :=
  ⟨{ sc := 0, frame := 3, features := [], degraded := false, startedAt := 0 }, [], [2], { live with tve := { live.tve with ready := [{ sc := 0, frame := 3, features := [], degraded := false, startedAt := 0 }] } }, by decide +kernel⟩

theorem wit_tree_commands_act_7 : ∃ (v : VoteJob) (e : Nat) (s : State), s.tve.running = some v ∧ (s.stream v.sc).bind.ensemble = some e :=
  ⟨{ sc := 0, frame := 3, features := [], degraded := false, startedAt := 0 }, 15, { live.setStream 0 { bind := { ensemble := some 15 } } with tve := { live.tve with running := some { sc := 0, frame := 3, features := [], degraded := false, startedAt := 0 } } }, by decide +kernel⟩

theorem wit_ring_registers_act_1 : ∃ (ring : Nat) (value : U32) (s : State), ringsOpen s = true ∧ (s.ring ring).enable = true ∧ bits
    value.toNat 16 3 = ring ∧ ((s.ring ring).sqTail - (s.ring ring).sqHead).toNat ≤ (value.setWidth 16 - (s.ring ring).sqHead).toNat ∧
    (value.setWidth 16 - (s.ring ring).sqHead).toNat ≤ 2 ^ (s.ring ring).sqLog2.toNat :=
  ⟨2, 0x20003, { live with rings := [(2, { enable := true, sqLog2 := 6, cqLog2 := 6, sqTail := 3, sqHead := 1, cqTail := 1 })] }, by decide +kernel⟩

theorem wit_ring_registers_act_2 : ∃ (ring : Nat) (value : U32) (s : State), ringsOpen s = true ∧ (s.ring ring).enable = true ∧ bits
    value.toNat 16 3 ≠ ring :=
  ⟨2, 0x10003, { live with rings := [(2, { enable := true, sqLog2 := 6, cqLog2 := 6, sqTail := 3, sqHead := 1, cqTail := 1 })] }, by decide +kernel⟩

theorem wit_ring_registers_act_3 : ∃ (ring : Nat) (value : U32) (s : State), ringsOpen s = true ∧ (s.ring ring).enable = true ∧
    (value.setWidth 16 - (s.ring ring).cqHead).toNat ≤ ((s.ring ring).cqTail - (s.ring ring).cqHead).toNat :=
  ⟨2, 1, { live with rings := [(2, { enable := true, sqLog2 := 6, cqLog2 := 6, sqTail := 3, sqHead := 1, cqTail := 1 })] }, by decide +kernel⟩

theorem wit_ring_registers_act_4 : ∃ (ring : Nat) (value : U32) (s : State), ringsOpen s = true ∧ (s.ring ring).enable = true ∧ ((s.ring
    ring).cqTail - (s.ring ring).cqHead).toNat < (value.setWidth 16 - (s.ring ring).cqHead).toNat :=
  ⟨2, 2, { live with rings := [(2, { enable := true, sqLog2 := 6, cqLog2 := 6, sqTail := 3, sqHead := 1, cqTail := 1 })] }, by decide +kernel⟩

theorem wit_ring_registers_act_5 : ∃ (value : U32) (s : State), ringsOpen s = true :=
  ⟨0, live, by decide +kernel⟩

theorem wit_ring_registers_act_6 : ∃ (ring : Nat) (cc : Byte) (cu : BitVec 10) (s : State), ringsOpen s = true ∧ (s.ring ring).enable =
    false ∧ (s.ring ring).idle = true ∧ log2Ok (s.ring ring).sqLog2 = true ∧ log2Ok (s.ring ring).cqLog2 = true :=
  ⟨7, 1, 0, live.setRing 7 { sqLog2 := 6, cqLog2 := 6 }, by decide +kernel⟩

theorem wit_ring_registers_act_7 : ∃ (ring : Nat) (s : State), ringsOpen s = true :=
  ⟨7, live, by decide +kernel⟩

theorem wit_ring_registers_act_8 : ∃ (cc : Byte) (cu : BitVec 10) (s : State), ringsOpen s = true ∧ s.evq.enable = false ∧ 6 ≤
    s.evq.log2.toNat :=
  ⟨1, 0, { live with evq := { live.evq with log2 := 6 } }, by decide +kernel⟩

theorem wit_ring_registers_act_9 : ∃ (s : State), ringsOpen s = true :=
  ⟨live, by decide +kernel⟩

theorem wit_ring_registers_act_10 : ∃ (s : State), s.evq.unsignalled ≠ 0 ∧ s.evq.firstAt + 1000 * s.evq.coalUsec.toNat ≤ s.now :=
  ⟨{ live with evq := { live.evq with unsignalled := 1 } }, by decide +kernel⟩

theorem wit_ring_registers_act_11 : ∃ (v : Nat) (s : State), 1 ≤ v ∧ v ≤ 8 ∧ (s.ring (v - 1)).unsignalled ≠ 0 ∧ (s.ring (v - 1)).firstAt +
    1000 * (s.ring (v - 1)).coalUsec.toNat ≤ s.now :=
  ⟨8, live.setRing 7 { unsignalled := 1 }, by decide +kernel⟩

theorem wit_reads_and_strays_act_1 : ∃ (s : State), ringsOpen s = true :=
  ⟨live, by decide +kernel⟩

theorem wit_reads_and_strays_act_4 : ∃ (len : Nat) (s : State), barOpen s = true :=
  ⟨4, live, by decide +kernel⟩

theorem wit_port_and_reads_act_1 : ∃ (reads : Nat) (s : State), portAnswers s = true :=
  ⟨39, live, by decide +kernel⟩

theorem wit_port_and_reads_act_2 : ∃ (offset count reads : Nat) (s : State), portAnswers s = true ∧ 1 ≤ count ∧ count ≤ 255 :=
  ⟨0, 255, 259, live, by decide +kernel⟩

theorem wit_port_and_reads_act_3 : ∃ (slot : Bytes) (s : State), portAnswers s = true ∧ slot.length = 64 ∧ s.mgmt.state ≠ 1 ∧
    s.mgmt.inFlight = [] ∧ s.glb.boot = .running :=
  ⟨List.replicate 64 0, live, by decide +kernel⟩

theorem wit_port_and_reads_act_4 : ∃ (b : Bytes) (s : State), portAnswers s = true ∧ (fld b 0 1 ≠ 0x10 ∨ b.length ≠ 65 ∨ s.mgmt.state = 1
    ∨ s.mgmt.inFlight ≠ []) :=
  ⟨[0x7F], live, by decide +kernel⟩

theorem wit_port_and_reads_act_6 : ∃ (sda scl : Bool) (s : State), portAnswers s = true ∧ (sda || scl) = true :=
  ⟨true, false, live, by decide +kernel⟩

theorem wit_port_and_reads_act_7 : ∃ (ring : Nat) (tag : U16) (e : InFlight) (s : State), s.running = true ∧ (s.inFlight ring).find? (fun
    e => e.tag == tag && e.phase != .slotRead) = some e ∧ e.fetchedAt + (if ring = 15 then 3000000000 else 20000000) ≤ s.now ∧ e.opcode ≠
    0x0005 ∧ (e.opcode = 0x0205 → e.phase ≠ .started) :=
  ⟨2, 7, flight, { live.setRing 2 { inFlight := [flight] } with now := 20000000 }, by decide +kernel⟩

theorem wit_port_and_reads_act_9 : ∃ (ring : Nat) (tag : U16) (e : InFlight) (s : State), s.running = true ∧ (s.inFlight ring).find? (fun
    e => e.tag == tag && e.phase != .slotRead) = some e ∧ e.fetchedAt + (if ring = 15 then 3000000000 else 20000000) ≤ s.now ∧ e.opcode =
    0x0205 ∧ e.phase = .started :=
  ⟨2, 7, { flight with opcode := 0x0205 }, { live.setRing 2 { inFlight := [{ flight with opcode := 0x0205 }] } with now := 20000000 }, by decide +kernel⟩

theorem wit_port_and_reads_act_10 : ∃ (ring : Nat) (s : State), ringsOpen s = true ∧ arbiter (noteWaiting s) = some ring :=
  ⟨2, { live with rings := [(2, { enable := true, sqTail := 3, sqHead := 1, cqLog2 := 6 })] }, by decide +kernel⟩

theorem wit_register_writes_act_1 : ∃ (v : U32) (s : State), barOpen s = true :=
  ⟨0xFFFFFFFF, live, by decide +kernel⟩

theorem wit_register_writes_act_2 : ∃ (v : U32) (s : State), barOpen s = true ∧ s.glb.boot = .waitHost :=
  ⟨4096, { live with glb := { live.glb with boot := .waitHost } }, by decide +kernel⟩

theorem wit_register_writes_act_3 : ∃ (off n : Nat) (v : U32) (s : State), barOpen s = true ∧ s.glb.boot = .running ∧ blockOf off = (.ring
    n, 0x00) ∧ (s.ring n).enable = false ∧ (s.ring n).idle = true :=
  ⟨0x10000, 0, 0x1000, live, by decide +kernel⟩

theorem wit_register_writes_act_4 : ∃ (off n : Nat) (v : U32) (s : State), barOpen s = true ∧ s.glb.boot = .running ∧ blockOf off = (.ring
    n, 0x10) ∧ (s.ring n).enable = false ∧ (s.ring n).idle = true ∧ log2Ok (BitVec.ofNat 4 v.toNat) = true ∧ log2Ok (BitVec.ofNat 4
    (v.toNat / 256)) = true :=
  ⟨0x10010, 0, 0x606, live, by decide +kernel⟩

theorem wit_register_writes_act_5 : ∃ (off n : Nat) (v : U32) (s : State), barOpen s = true ∧ s.glb.boot = .running ∧ blockOf off = (.ring
    n, 0x18) :=
  ⟨0x10018, 0, 4, live, by decide +kernel⟩

theorem wit_register_writes_act_6 : ∃ (off : Nat) (v : U32) (s : State), barOpen s = true ∧ s.glb.boot = .running ∧ blockOf off = (.evq,
    0x10) :=
  ⟨0x10810, 4, live, by decide +kernel⟩

theorem wit_register_writes_act_7 : ∃ (v : U32) (s : State), s.pcie.linkUp = true :=
  ⟨0, live, by decide +kernel⟩

theorem wit_register_writes_act_8 : ∃ (v : U32) (s : State), s.pcie.linkUp = true :=
  ⟨0, live, by decide +kernel⟩

theorem wit_pcie_events_act_1 : ∃ (s : State), s.pcie.linkUp = true :=
  ⟨live, by decide +kernel⟩

theorem wit_pcie_events_act_2 : ∃ (s : State), s.pcie.training = true ∧ s.pcie.perst = false :=
  ⟨{ live with pcie := { live.pcie with linkUp := false, training := true } }, by decide +kernel⟩

theorem wit_pcie_events_act_3 : ∃ (s : State), s.pcie.perst = false ∧ s.pwr.porst = false ∧ s.pcie.linkUp = true :=
  ⟨live, by decide +kernel⟩

theorem wit_pcie_events_act_5 : ∃ (s : State), s.pcie.linkUp = true ∧ s.pcie.busMaster = true :=
  ⟨live, by decide +kernel⟩

theorem wit_pcie_events_act_6 : ∃ (s : State), s.pcie.linkUp = true ∧ s.pcie.d3hot = false :=
  ⟨live, by decide +kernel⟩

theorem wit_pcie_events_act_8 : ∃ (s : State), s.pcie.linkUp = true ∧ s.glb.boot = .running ∧ s.pwr.tripped = false :=
  ⟨live, by decide +kernel⟩

theorem wit_pcie_events_act_9 : ∃ (b : Bool) (v : Nat) (a : U64) (d : U32) (s : State), v < 64 :=
  ⟨true, 63, 0, 0, live, by decide +kernel⟩

theorem wit_time_keep_perf_act_1 : ∃ (s : State), barOpen s = true :=
  ⟨live, by decide +kernel⟩

theorem wit_time_keep_perf_act_2 : ∃ (s : State), barOpen s = true :=
  ⟨live, by decide +kernel⟩

theorem wit_time_keep_perf_act_3 : ∃ (w : Nat) (v : U32) (s : State), barOpen s = true ∧ s.glb.boot = .running :=
  ⟨63, 1, live, by decide +kernel⟩

theorem wit_time_keep_perf_act_4 : ∃ (w : Nat) (v : U32) (s : State), barOpen s = true ∧ s.glb.boot = .running ∧ s.keep.queue.length < 16 :=
  ⟨1, 3, live, by decide +kernel⟩

theorem wit_time_keep_perf_act_5 : ∃ (w : KeepWrite) (rest : List KeepWrite) (s : State), s.running = true ∧ s.keep.queue = w :: rest :=
  ⟨{ settings := false, word := 63, value := 1 }, [], { live with keep := { live.keep with queue := [{ settings := false, word := 63, value := 1 }] } }, by decide +kernel⟩

theorem wit_time_keep_perf_act_6 : ∃ (v : U32) (s : State), barOpen s = true ∧ s.glb.boot = .running ∧ s.perf.busy = false ∧ v.toNat % 4 ≠
    0 :=
  ⟨3, live, by decide +kernel⟩

theorem wit_time_keep_perf_act_7 : ∃ (s : State), s.perf.busy = true :=
  ⟨{ live with perf := { live.perf with busy := true } }, by decide +kernel⟩

theorem wit_power_and_resets_act_1 : ∃ (s : State), s.pwr.rails = false :=
  ⟨{ live with pwr := { live.pwr with rails := false } }, by decide +kernel⟩

theorem wit_power_and_resets_act_2 : ∃ (s : State), s.pwr.rails = true :=
  ⟨live, by decide +kernel⟩

theorem wit_power_and_resets_act_3 : ∃ (us : Nat) (s : State), s.pwr.rails = true ∧ s.pwr.porst = false ∧ 10 ≤ us :=
  ⟨10, live, by decide +kernel⟩

theorem wit_power_and_resets_act_4 : ∃ (us : Nat) (s : State), us < 1 :=
  ⟨0, live, by decide +kernel⟩

theorem wit_power_and_resets_act_5 : ∃ (b : BootPins) (s : State), s.pwr.rails = true ∧ s.pwr.porst = true :=
  ⟨{ flash := false, bootSrc := 2, packPos := 0, test := false }, State.reset, by decide +kernel⟩

theorem wit_power_and_resets_act_6 : ∃ (s : State), s.glb.boot = .starting :=
  ⟨{ live with glb := { live.glb with boot := .starting } }, by decide +kernel⟩

theorem wit_power_and_resets_act_7 : ∃ (s : State), s.glb.boot = .running ∧ s.pwr.tripped = false ∧ s.glb.beatAt + 50000000 ≤ s.now :=
  ⟨{ live with now := 50000000 }, by decide +kernel⟩

theorem wit_power_and_resets_act_8 : ∃ (s : State), s.glb.boot = .running ∧ s.pwr.tripped = false :=
  ⟨live, by decide +kernel⟩

theorem wit_power_and_resets_act_9 : ∃ (h : Hdr) (p : Bytes) (s : State), Taken 0x0009 h p s ∧ resOk p [0xFF, 0, 0, 0] = true ∧ (fld p 0 1
    = 3 ∨ fld p 0 1 = 4) :=
  ⟨hdr, [4, 0, 0, 0], live, by decide +kernel⟩

theorem wit_boot_and_keep_act_1 : ∃ (s : State), s.glb.boot = .waitHost ∧ s.pwr.tripped = false ∧ s.pcie.busMaster = true ∧
    s.glb.bootAddr.toNat % 4096 = 0 ∧ s.glb.bootLen.toNat % 4096 = 0 ∧ 4096 ≤ s.glb.bootLen.toNat ∧ s.glb.bootLen.toNat ≤ 8388608 :=
  ⟨{ live with glb := { live.glb with boot := .waitHost, bootAddr := 4096, bootLen := 8388608 } }, by decide +kernel⟩

theorem wit_boot_and_keep_act_2 : ∃ (image : Option Bytes) (s : State), s.glb.boot = .hostLoading :=
  ⟨none, { live with glb := { live.glb with boot := .hostLoading } }, by decide +kernel⟩

theorem wit_boot_and_keep_act_3 : ∃ (s : State), s.running = true ∧ s.glb.startedAt + 60000000000 ≤ s.now ∧ s.otp.rollback < s.glb.fwLevel
    ∧ s.glb.fwLevel ≤ 32 :=
  ⟨{ live with now := 60000000000, glb := { live.glb with fwLevel := 32 } }, by decide +kernel⟩

theorem wit_boot_and_keep_act_4 : ∃ (s : State), s.running = true :=
  ⟨live, by decide +kernel⟩

theorem wit_boot_and_keep_act_5 : ∃ (s : State), s.keep.xtal = true ∧ s.keep.supply ≠ .lost ∧ s.keep.seconds ≠ 0xFFFFFFFF :=
  ⟨{ live with keep := { live.keep with xtal := true, supply := .io18, seconds := 0xFFFFFFFE } }, by decide +kernel⟩

theorem wit_boot_and_keep_act_6 : ∃ (s : State), s.keep.seconds = 0xFFFFFFFF :=
  ⟨{ live with keep := { live.keep with seconds := 0xFFFFFFFF } }, by decide +kernel⟩

theorem wit_boot_and_keep_act_9 : ∃ (s : State), s.keep.supply = .io18 ∧ s.pwr.rails = false :=
  ⟨{ live with keep := { live.keep with supply := .io18 }, pwr := { live.pwr with rails := false } }, by decide +kernel⟩

theorem wit_boot_and_keep_act_10 : ∃ (s : State), s.keep.supply ≠ .io18 :=
  ⟨{ live with keep := { live.keep with supply := .vbat } }, by decide +kernel⟩

theorem wit_boot_and_keep_act_12 : ∃ (j : Jtag) (s : State), s.otp.debugLocked = true :=
  ⟨.halt, { live with otp := { live.otp with debugLocked := true } }, by decide +kernel⟩

theorem wit_boot_and_keep_act_13 : ∃ (memory core addr len : Nat) (data : Bytes) (m : Mem) (s : State), s.otp.debugLocked = false ∧ m =
    (if memory = 0 then .cm core else if memory = 1 then .kennel else .dram) :=
  ⟨0, 15, 0, 4, [1], .cm 15, live, by decide +kernel⟩

theorem wit_boot_and_keep_act_14 : ∃ (m : Mem) (a n : Nat) (s : State), anyHeld s m a n = false ∧ (∀ k < n, deadByte s m (a + k) = false)
    ∧ (∀ k < n, s.mem.held.contains ((memKey m).1, (memKey m).2, (a + k) / 128) = false) :=
  ⟨.kennel, 64, 4, live, by decide +kernel⟩

theorem wit_camera_commands_act_1 : ∃ (h : Hdr) (p : Bytes) (s : State), Taken 0x0300 h p s ∧ resOk p [0x03, 0xFF, 0xFF, 0xFF, 0xFF, 0x03,
    0xFF, 0xFF] = true ∧ (fld p 1 1 = 1 ∨ fld p 1 1 = 2 ∨ fld p 1 1 = 4) ∧ 80 ≤ fld p 2 2 ∧ fld p 2 2 ≤ 4500 ∧ portRuns s (bits (fld p 0
    1) 0 2) = false ∧ (bit (fld p 5 1) 0 = true → s.glb.capCamera = true ∧ profCsi s.pwr.profile (bits (fld p 0 1) 0 2) = true) ∧ (bit
    (fld p 5 1) 0 = false → portNamed s (bits (fld p 0 1) 0 2) = false) ∧ (s.port (bits (fld p 0 1) 0 2)).orderFault = false :=
  ⟨hdr, [3, 4] ++ le 2 4500 ++ [0xE4, 1] ++ le 2 0xFFFF, { live with glb := { live.glb with capCamera := true } }, by decide +kernel⟩

theorem wit_camera_commands_act_2 : ∃ (h : Hdr) (p : Bytes) (s : State), Taken 0x0301 h p s ∧ resOk p ([0x03, 0x0F, 0, 0] ++ profileMask
    (((p.drop 4).length - 64) / 8) ++ full 8) = true ∧ profileOk (p.drop 4) = true ∧ (s.glb.stepping ≠ 0xA0 ∨ bit (fld (p.drop 4) 5 1) 2 =
    false) ∧ (runningSources s).contains (bits (fld p 0 1) 0 2 * 16 + bits (fld p 1 1) 0 4) = false :=
  ⟨hdr, [3, 15, 0, 0] ++ sensor, live, by decide +kernel⟩

theorem wit_camera_commands_act_3 : ∃ (h : Hdr) (p : Bytes) (s : State), Taken 0x0302 h p s ∧ resOk p ([0x1F, 0x01, 0, 0] ++ full 12) =
    true ∧ 1 ≤ fld p 8 4 ∧ fld p 8 4 ≤ 1000000 ∧ 0x100 ≤ fld p 12 2 ∧ 0x100 ≤ fld p 14 2 ∧ (s.stream (bits (fld p 0 1) 0 5)).state =
    .running ∧ (s.stream (bits (fld p 0 1) 0 5)).cfg.sourceKind = 2 ∧ streamProfile s (bits (fld p 0 1) 0 5) ≠ [] ∧ exposureOk
    (streamProfile s (bits (fld p 0 1) 0 5)) (fld p 8 4) (fld p 12 2) (fld p 14 2) = true ∧ (!later (BitVec.ofNat 32 (fld p 4 4))
    ((s.stream (bits (fld p 0 1) 0 5)).lastAccepted + 64) || !later (BitVec.ofNat 32 (fld p 4 4)) (s.stream (bits (fld p 0 1) 0
    5)).lastAccepted) = true :=
  ⟨hdr, [0, 1, 0, 0] ++ le 4 12 ++ le 4 100 ++ le 2 256 ++ le 2 256, filming, by decide +kernel⟩

theorem wit_camera_commands_act_4 : ∃ (h : Hdr) (p : Bytes) (s : State), Taken 0x0303 h p s ∧ p.length = 4 + rfeTotal (p.drop 4) (fld p 2
    2) ∧ resOk (p.take 4) [0x03, 0x0F, 0x0F, 0] = true ∧ (rfeSections (p.drop 4) (fld p 2 2)).all (fun e => resOk (((p.drop 4).drop
    e.2).take (rfeLen (p.drop 4) e.2 e.1)) (rfeMask (p.drop 4) e)) = true ∧ (rfeSections (p.drop 4) (fld p 2 2)).all (rfeForm (p.drop 4))
    = true :=
  ⟨hdr, [3, 15, 0, 0], live, by decide +kernel⟩

theorem wit_camera_commands_act_5 : ∃ (h : Hdr) (p : Bytes) (s : State), Taken 0x0304 h p s ∧ resOk p [0x01, 0xFF, 0xFF, 0xFF, 0xF3, 0xFF,
    0, 0] = true ∧ fld p 1 1 = 2 ∧ fld p 2 2 ≤ 200 :=
  ⟨hdr, [1, 2, 200, 0, 0, 0, 0, 0], live, by decide +kernel⟩

theorem wit_camera_commands_act_6 : ∃ (h : Hdr) (p : Bytes) (s : State) (k mode : Nat), Taken 0x0305 h p s ∧ k = bits (fld p 0 1) 0 2 ∧
    mode = fld p 1 1 ∧ resOk p ([0x03, 0xFF, 0x03, 0] ++ full 6 ++ rsv 2) = true ∧ (mode = 1 ∨ mode = 2) ∧ (mode = 1 → 1000 ≤ fld p 4 4 ∧
    fld p 4 4 ≤ 1000000) ∧ 1 ≤ fld p 8 2 ∧ fld p 8 2 ≤ 1000 ∧ fsyncUsed s k = false :=
  ⟨hdr, [3, 1, 0, 0] ++ le 4 1000 ++ le 2 1000 ++ [0, 0], live, 3, 1, by decide +kernel⟩

theorem wit_camera_commands_act_7 : ∃ (h : Hdr) (p : Bytes) (s : State), Taken 0x0305 h p s ∧ resOk p ([0x03, 0xFF, 0x03, 0] ++ full 6 ++
    rsv 2) = true ∧ fld p 1 1 = 3 :=
  ⟨hdr, [3, 3, 0, 0] ++ List.replicate 8 0, live, by decide +kernel⟩

theorem wit_camera_commands_act_8 : ∃ (h : Hdr) (p : Bytes) (s : State), Taken 0x0306 h p s ∧ resOk p [0x03, 0x01] = true ∧ bit (fld p 1
    1) 0 = true ∧ (s.spwr (bits (fld p 0 1) 0 2)).on = true ∧ (s.spwr (bits (fld p 0 1) 0 2)).settling = false :=
  ⟨hdr, [3, 1, 0, 0], live.setSpwr 3 { on := true }, by decide +kernel⟩

theorem wit_camera_commands_act_9 : ∃ (h : Hdr) (p : Bytes) (s : State), Taken 0x0306 h p s ∧ resOk p [0x03, 0x01] = true ∧ bit (fld p 1
    1) 0 = true ∧ (s.spwr (bits (fld p 0 1) 0 2)).on = false :=
  ⟨hdr, [3, 1, 0, 0], live, by decide +kernel⟩

theorem wit_camera_commands_act_10 : ∃ (h : Hdr) (p : Bytes) (s : State), Taken 0x0306 h p s ∧ resOk p [0x03, 0x01] = true ∧ bit (fld p 1
    1) 0 = false ∧ powerUsed s (bits (fld p 0 1) 0 2) = false ∧ portRuns s (bits (fld p 0 1) 0 2) = false ∧ (s.spwr (bits (fld p 0 1) 0
    2)).cmd = [] :=
  ⟨hdr, [3, 0, 0, 0], live, by decide +kernel⟩

theorem wit_camera_commands_act_11 : ∃ (h : Hdr) (p : Bytes) (result nak : Nat) (data : Bytes) (t : Xfer) (s : State), Taken 0x0307 h p s
    ∧ p.length = 16 + fld p 4 2 ∧ resOk p ([0x03, 0x7F, 0xFF, 0x03] ++ full (12 + fld p 4 2)) = true ∧ ((fld p 2 1 = 0 ∧ fld p 3 1 ≤ 2) ∨
    (fld p 2 1 = 1 ∧ fld p 3 1 = 3 ∧ s.glb.stepping ≠ 0xA0)) ∧ fld p 4 2 ≤ 256 ∧ fld p 6 2 ≤ 256 ∧ (fld p 6 2 = 0 → fld p 8 8 = 0) ∧ fld p
    8 8 % 64 = 0 ∧ busUsed s (bits (fld p 0 1) 0 2) = false ∧ (s.sctl (bits (fld p 0 1) 0 2)).xfers = [] ∧ (s.sctl (bits (fld p 0 1) 0
    2)).stuck = false ∧ t =
    { ring := h.ring, tag := h.tag, dest := fld p 8 8, addr := fld p 1 1, speed := fld p 3 1, mode := fld p 2 1, write := (p.drop 16).take (fld p 4 2), readLen := fld p 6 2 } :=
  ⟨hdr, [3, 0x7F, 0, 2, 1, 0, 0, 0] ++ le 8 0 ++ [9], 0, 0, [], { xfer with addr := 0x7F, speed := 2, write := [9], readLen := 0, dest := 0 }, live, by decide +kernel⟩

theorem wit_csi_events_act_1 : ∃ (sc pic : Nat) (b : Buf) (bs : List Buf) (s : State), s.running = true ∧ (s.stream sc).state = .running ∧
    (s.stream sc).cfg.sourceKind = 1 ∧ (s.stream sc).inBufs = b :: bs ∧ nextAcceptAt (s.stream sc) ≤ s.now ∧ lateForGroup s sc = false ∧
    followsPack s sc = false :=
  ⟨0, 7, bufOf (List.replicate 36 0), [], { flowing.setStream 0 { flowing.stream 0 with inBufs := [bufOf (List.replicate 36 0)] } with now := 1000000000 }, by decide +kernel⟩

theorem wit_csi_events_act_2 : ∃ (port vc sf : Nat) (c : Bool) (s : State), portOpen (s.port port) = true ∧ bit (s.port port).vcMask vc =
    true :=
  ⟨0, 15, 7, true, filming, by decide +kernel⟩

theorem wit_csi_events_act_3 : ∃ (port vc sf : Nat) (c : Bool) (s : State), portOpen (s.port port) = true :=
  ⟨0, 15, 7, true, filming, by decide +kernel⟩

theorem wit_csi_events_act_4 : ∃ (port vc sf : Nat) (s : State), portOpen (s.port port) = true ∧ (s.port port).awaitStart = false ∧ bit
    (s.port port).vcMask vc = true :=
  ⟨0, 15, 7, filming, by decide +kernel⟩

theorem wit_csi_events_act_5 : ∃ (port vc dt : Nat) (b : Bytes) (f : OpenFrame) (s : State), portOpen (s.port port) = true ∧ (s.port
    port).awaitStart = false ∧ bit (s.port port).vcMask vc = true ∧ dt ≠ 0x12 ∧ (s.source (port * 16 + vc)).profile ≠ [] ∧ dt = fld
    (s.source (port * 16 + vc)).profile 2 1 ∧ (s.source (port * 16 + vc)).open_ = some f :=
  ⟨0, 0, 0x2A, [1, 2], newFrame filming 0 1 none 0, filming.setSource 0 { filming.source 0 with open_ := some (newFrame filming 0 1 none 0) }, by decide +kernel⟩

theorem wit_csi_events_act_6 : ∃ (port vc dt : Nat) (b : Bytes) (s : State), portOpen (s.port port) = true ∧ (s.port port).awaitStart =
    false :=
  ⟨0, 0, 0x2A, [1, 2], filming, by decide +kernel⟩

theorem wit_csi_events_act_7 : ∃ (port vc q : Nat) (f : OpenFrame) (s : State), (s.source (port * 16 + vc)).open_ = some f ∧ sourcePeriod
    s (port * 16 + vc) = some q ∧ f.lines ≠ 0 ∧ f.lastPacketAt + q / 16 ≤ s.now :=
  ⟨0, 0, 33333333, { newFrame filming 0 1 none 0 with lines := 1 }, { filming.setSource 0 { filming.source 0 with open_ := some { newFrame filming 0 1 none 0 with lines := 1 } } with now := 1000000000 }, by decide +kernel⟩

theorem wit_csi_events_act_8 : ∃ (sc : Nat) (s : State), (s.stream sc).state = .running ∧ (s.stream sc).cfg.sourceKind = 2 ∧ (s.stream
    sc).lost = false ∧ (if (s.stream sc).accepted then (s.stream sc).lastAcceptAt else (s.stream sc).startedAt) + 8 * periodNs (s.stream
    sc).cfg ≤ s.now :=
  ⟨0, { filming with now := 266666664 }, by decide +kernel⟩

theorem wit_csi_events_act_9 : ∃ (port vc : Nat) (f : OpenFrame) (rest : List OpenFrame) (s : State), (s.source (port * 16 + vc)).closed =
    f :: rest :=
  ⟨0, 0, newFrame filming 0 1 none 0, [], filming.setSource 0 { filming.source 0 with closed := [newFrame filming 0 1 none 0] }, by decide +kernel⟩

theorem wit_csi_lanes_act_1 : ∃ (port started : Nat) (s : State), (s.port port).enable = true ∧ started % 2 ^ (s.port port).lanes =
    laneMask (s.port port) ∧ (List.range (s.port port).lanes).filter (fun l => 16 ≤ Tab.get 0 (missBursts (s.port port) started).missed l)
    = [] :=
  ⟨0, 1, filming, by decide +kernel⟩

theorem wit_csi_lanes_act_2 : ∃ (port started inv : Nat) (s : State), (s.port port).enable = true ∧ (s.port port).pnReported = false ∧ inv
    ≠ 0 ∧ started % 2 ^ (s.port port).lanes ≠ laneMask (s.port port) ∧ (List.range (s.port port).lanes).filter (fun l => 16 ≤ Tab.get 0
    (missBursts (s.port port) started).missed l) = [] :=
  ⟨0, 0, 1, filming, by decide +kernel⟩

theorem wit_csi_lanes_act_3 : ∃ (port : Nat) (d : List Nat) (s : State), (s.port port).enable = true ∧ 1500 ≤ (s.port port).rate :=
  ⟨0, [3], filming.setPort 0 { filming.port 0 with rate := 1500 }, by decide +kernel⟩

theorem wit_csi_lanes_act_4 : ∃ (port t : Nat) (s : State), (s.port port).firstBurst = some t ∧ (s.port port).enable = true ∧ 1500 ≤
    (s.port port).rate ∧ (s.port port).deskewed = false ∧ t + 5000000 ≤ s.now :=
  ⟨0, 0, { filming.setPort 0 { filming.port 0 with rate := 1500, firstBurst := some 0 } with now := 5000000 }, by decide +kernel⟩

theorem wit_csi_lanes_act_5 : ∃ (port : Nat) (s : State), (s.port port).enable = true ∧ (s.port port).clockLost = false :=
  ⟨0, filming, by decide +kernel⟩

theorem wit_exposure_and_bus_act_1 : ∃ (sc : Nat) (e : Exposure) (s : State), (s.stream sc).exposures.find? (fun e => e.writing &&
    e.commitSent) = some e :=
  ⟨0, { exposure with writing := true, commitSent := true }, filming.setStream 0 { filming.stream 0 with exposures := [{ exposure with writing := true, commitSent := true }] }, by decide +kernel⟩

theorem wit_exposure_and_bus_act_2 : ∃ (sc result : Nat) (e : Exposure) (s : State), (s.stream sc).exposures.find? (·.writing) = some e :=
  ⟨0, 2, { exposure with writing := true }, filming.setStream 0 { filming.stream 0 with exposures := [{ exposure with writing := true }] }, by decide +kernel⟩

theorem wit_exposure_and_bus_act_3 : ∃ (sc src fs n opens : Nat) (e : Exposure) (edge : Option Nat) (sp : Bytes) (s u : State), s.running
    = true ∧ (s.stream sc).state = .running ∧ (s.stream sc).route = some src ∧ sp = (s.source src).profile ∧ sp ≠ [] ∧ u = supersedeNow sc
    (spLatency sp) s ∧ (u.stream sc).exposures.find? (exposureDue (spLatency sp) (u.stream sc).nextFrame) = some e ∧ predictedStart u src
    edge = some fs ∧ writeWindow u src edge = some (opens, fs - spGuard sp * 1000) ∧ opens ≤ u.now ∧ earlierWindow u sc (spBus sp) (fs -
    spGuard sp * 1000) = false ∧ (u.sctl (spBus sp)).stuck = false ∧ (u.stream sc).exposures.any (·.writing) = false ∧ max u.now (u.sctl
    (spBus sp)).busyUntil + exposureTime sp < fs - spGuard sp * 1000 ∧ n = spCount sp :=
  ⟨0, 0, 500000000, 2, 0, exposure, some 500000000, sensor.set 44 0x80, exposing, supersedeNow 0 2 exposing, by decide +kernel⟩

theorem wit_exposure_and_bus_act_4 : ∃ (bus result nak : Nat) (data : Bytes) (t : Xfer) (rest : List Xfer) (s : State), (s.sctl bus).xfers
    = t :: rest :=
  ⟨3, 0, 0, [1], xfer, [xfer], live.setSctl 3 { xfers := [xfer, xfer] }, by decide +kernel⟩

theorem wit_exposure_and_bus_act_6 : ∃ (bus : Nat) (s : State), (s.sctl bus).stuck = true :=
  ⟨3, live.setSctl 3 { stuck := true }, by decide +kernel⟩

theorem wit_lamps_and_pins_act_1 : ∃ (ch sc : Nat) (k : U32) (e : Int) (clip : Bool) (s : State), feeds s (s.irled ch).source = some sc ∧
    (s.irled ch).mode = 1 ∧ (s.irled ch).faulted = false ∧ (s.irled ch).pulse = none ∧ pulseDue s (s.irled ch) = some (k, e, clip) :=
  ⟨1, 0, 11, 1000000000, false, lit.setIrled 1 { mode := 1, current := 100, maxDuty := 50 }, by decide +kernel⟩

theorem wit_lamps_and_pins_act_2 : ∃ (ch e : Nat) (k : U32) (s : State), (s.irled ch).pulse = some (k, e) ∧ e ≤ s.now ∧ (s.irled ch).fresh
    = false :=
  ⟨1, 0, 3, live.setIrled 1 { mode := 1, sinking := true, pulse := some (3, 0) }, by decide +kernel⟩

theorem wit_lamps_and_pins_act_3 : ∃ (ch : Nat) (short : Bool) (s : State), (s.irled ch).sinking = true ∧ 50 ≤ (s.irled ch).current ∧
    (s.irled ch).pulse = none :=
  ⟨1, true, live.setIrled 1 { mode := 2, sinking := true, current := 50 }, by decide +kernel⟩

theorem wit_lamps_and_pins_act_4 : ∃ (k : Nat) (s : State), (s.fsync k).mode = 1 ∧ s.us % max 1 (s.fsync k).period = 0 :=
  ⟨3, live.setFsync 3 { mode := 1, period := 1000 }, by decide +kernel⟩

theorem wit_lamps_and_pins_act_5 : ∃ (k : Nat) (s : State), (s.fsync k).stamping = true ∧ (∀ j < 4, (s.fsync j).mode ≠ 2) :=
  ⟨3, live.setFsync 3 { stamping := true }, by decide +kernel⟩

theorem wit_lamps_and_pins_act_6 : ∃ (k : Nat) (s : State), (s.spwr k).on = true ∧ (s.spwr k).settling = true :=
  ⟨3, live.setSpwr 3 { on := true, settling := true }, by decide +kernel⟩

theorem wit_lamps_and_pins_act_7 : ∃ (k : Nat) (s : State), (s.spwr k).on = true ∧ 1 ≤ (s.spwr k).retries ∧ (s.spwr k).retries < 8 :=
  ⟨3, live.setSpwr 3 { on := true, retries := 7 }, by decide +kernel⟩

theorem wit_lamps_and_pins_act_8 : ∃ (k : Nat) (s : State), (s.spwr k).on = true ∧ (s.spwr k).retries = 8 :=
  ⟨3, live.setSpwr 3 { on := true, retries := 8 }, by decide +kernel⟩

theorem wit_lamps_and_pins_act_9 : ∃ (k t : Nat) (s : State), (s.spwr k).retryAt = some t ∧ t ≤ s.now :=
  ⟨3, 0, live.setSpwr 3 { retryAt := some 0 }, by decide +kernel⟩

theorem wit_lamps_and_pins_act_10 : ∃ (k : Nat) (s : State), (s.spwr k).on = true :=
  ⟨3, live.setSpwr 3 { on := true }, by decide +kernel⟩

theorem wit_memory_commands_act_1 : ∃ (h : Hdr) (p : Bytes) (s : State) (flat : Bool), Taken 0x0500 h p s ∧ resOk p [0xFF, 0, 0, 0] = true
    ∧ fld p 0 1 ≤ 1 ∧ modeFree s = true ∧ flat = (fld p 0 1 == 1) :=
  ⟨hdr, [1, 0, 0, 0], live, true, by decide +kernel⟩

theorem wit_memory_commands_act_2 : ∃ (h : Hdr) (p : Bytes) (s : State) (w : Window), Taken 0x0501 h p s ∧ w = windowOf p ∧ resOk p
    ([0x3F, 0xFF, 0xFF, 0xFF, 0xFF, 7, 3, 0] ++ full 16 ++ rsv 8) = true ∧ w.kind = 0 ∧ w.ownerKind ≤ 1 ∧ w.memory ≤ 1 ∧ ownerLive s
    w.ownerKind w.owner = true ∧ windowRange s w = true ∧ (s.window (fld p 0 1)).isOpen = false ∧ windowHeld s w = false ∧ (∀ k < 64,
    (s.window k).isOpen = true → (s.window k).kind = 0 → (s.window k).bar2 + (s.window k).length ≤ w.bar2 ∨ w.bar2 + w.length ≤ (s.window
    k).bar2) :=
  ⟨hdr, [6, 0, 0, 0, 1, 0, 3, 0] ++ le 4 0 ++ le 4 4096 ++ le 8 0 ++ List.replicate 8 0, windowed, windowOf ([6, 0, 0, 0, 1, 0, 3, 0] ++ le 4 0 ++ le 4 4096 ++ le 8 0 ++ List.replicate 8 0), by decide +kernel⟩

theorem wit_memory_commands_act_3 : ∃ (h : Hdr) (p : Bytes) (s : State) (w : Window), Taken 0x0502 h p s ∧ resOk p [0x3F, 0, 0, 0] = true
    ∧ w = s.window (fld p 0 1) ∧ w.isOpen = true ∧ w.kind = 0 :=
  ⟨hdr, [5, 0, 0, 0], windowed, windowed.window 5, by decide +kernel⟩

theorem wit_memory_commands_act_4 : ∃ (h : Hdr) (p : Bytes) (s : State), Taken 0x0503 h p s ∧ resOk p ([0xFF, 0, 0, 0] ++ full 4) = true ∧
    fld p 0 1 ≤ 2 ∧ (fld p 4 4 = 0 ∨ 16 ≤ fld p 4 4) ∧ fld p 4 4 ≤ 65535 ∧ (fld p 4 4 = 0 ∨ 64 ≤ fld p 4 4 ∨ anyCert s .valid = false) :=
  ⟨hdr, [2, 0, 0, 0] ++ le 4 16, live, by decide +kernel⟩

theorem wit_window_accesses_act_1 : ∃ (off n a : Nat) (w : Window) (s : State), barOpen s = true ∧ bar2Window s off n false = some w ∧
    bar2At s w off = some (.kennel, a) ∧ (∀ k < n, deadByte s .kennel (a + k) = false ∧ s.mem.held.contains (1, 0, (a + k) / 128) = false)
    ∧ anyHeld s .kennel a n = false :=
  ⟨8192, 8, 128, windowed.window 5, windowed, by decide +kernel⟩

theorem wit_window_accesses_act_2 : ∃ (off a : Nat) (data : Bytes) (w : Window) (s : State), barOpen s = true ∧ bar2Window s off
    data.length true = some w ∧ bar2At s w off = some (.kennel, a) :=
  ⟨8192, 128, [1, 2, 3, 4], windowed.window 5, windowed, by decide +kernel⟩

theorem wit_window_accesses_act_3 : ∃ (h : Hdr) (p : Bytes) (s : State) (r : Region) (off n : Nat), Taken 0x0801 h p s ∧ resOk p ([0xFF,
    0xFF, 0x0F, 0x07] ++ full 20) = true ∧ fld p 0 1 = 1 ∧ fld p 1 1 = 1 ∧ off = fld p 8 4 ∧ n = fld p 12 4 ∧ off % 8 = 0 ∧ 8 ≤ n ∧ n ≤
    4096 ∧ n % 8 = 0 ∧ destOk h (fld p 16 8) = true ∧ bits (fld p 3 1) 0 3 = s.glb.packPos.toNat ∧ fld p 4 4 < 32 ∧ admitted s (fld p 4 4)
    = true ∧ (s.stream (fld p 4 4)).regions.filter (fun r => r.mem == .kennel) = [r] ∧ off + n ≤ r.len ∧ r.mem = .kennel ∧ (∀ k < n,
    poisoned s .kennel (r.base + off + k) = false) ∧ (∀ k < n, s.mem.held.any (fun e => e.1 == 1 && e.2.1 == 0 && decide (r.base + off + k
    < (e.2.2 + 1) * 128) && decide (e.2.2 * 128 < r.base + off + k + 8)) = false) :=
  ⟨hdr, [1, 1, 0, 0] ++ le 4 0 ++ le 4 128 ++ le 4 8 ++ le 8 65536, regioned, { mem := .kennel, base := 0, len := 8192, rel := 0 }, 128, 8, by decide +kernel⟩

theorem wit_dma_reads_act_1 : ∃ (id n t : Nat) (r : DmaRead) (e : InFlight) (b : Bytes) (s : State), s.reads.find? (fun x => x.id == id) =
    some r ∧ r.purpose = .params n t ∧ (s.inFlight n).find? (fun x => x.tag.toNat == t && x.phase == .paramRead) = some e ∧ n < 8 ∧ crc32c
    b = e.paramCrc :=
  ⟨3, 2, 7, param, { flight with phase := .paramRead, paramCrc := crc32c [1, 2, 3, 4] }, [1, 2, 3, 4], fetching, by decide +kernel⟩

theorem wit_dma_reads_act_2 : ∃ (id n t : Nat) (r : DmaRead) (e : InFlight) (b : Bytes) (s : State), s.reads.find? (fun x => x.id == id) =
    some r ∧ r.purpose = .params n t ∧ (s.inFlight n).find? (fun x => x.tag.toNat == t && x.phase == .paramRead) = some e ∧ n < 8 ∧ crc32c
    b ≠ e.paramCrc :=
  ⟨3, 2, 7, param, { flight with phase := .paramRead, paramCrc := crc32c [1, 2, 3, 4] }, [1, 2, 3, 5], fetching, by decide +kernel⟩

theorem wit_dma_reads_act_3 : ∃ (id : Nat) (r : DmaRead) (s u : State), s.reads.find? (fun x => x.id == id) = some r ∧ r.id = id ∧
    r.attempt = 0 ∧ (∀ c, r.purpose = .fetch c → hostLive s c = true) ∧ u =
    { s.send (.hostRead id r.addr r.len) with reads := s.reads.map (fun x => if x.id = id then { x with attempt := 1, startedAt := s.now } else x) } :=
  ⟨3, param, fetching, { fetching.send (.hostRead 3 param.addr param.len) with reads := fetching.reads.map (fun x => if x.id = 3 then { x with attempt := 1, startedAt := fetching.now } else x) }, by decide +kernel, rfl, rfl, by intro c h; simp [param] at h, rfl⟩

theorem wit_dma_reads_act_4 : ∃ (id n i : Nat) (r : DmaRead) (s : State), s.reads.find? (fun x => x.id == id) = some r ∧ r.id = id ∧
    r.attempt = 1 ∧ r.purpose = .slot n i ∧ n < 8 :=
  ⟨3, 2, 0, { param with purpose := .slot 2 0, attempt := 1 }, { fetching with reads := [{ param with purpose := .slot 2 0, attempt := 1 }] }, by decide +kernel⟩

theorem wit_dma_reads_act_5 : ∃ (id n t : Nat) (r : DmaRead) (e : InFlight) (s : State), s.reads.find? (fun x => x.id == id) = some r ∧
    r.id = id ∧ r.attempt = 1 ∧ r.purpose = .params n t ∧ (s.inFlight n).find? (fun x => x.tag.toNat == t && x.phase == .paramRead) = some
    e :=
  ⟨3, 2, 7, { param with attempt := 1 }, { flight with phase := .paramRead, paramCrc := crc32c [1, 2, 3, 4] }, { fetching with reads := [{ param with attempt := 1 }] }, by decide +kernel⟩

theorem wit_scu_instructions_act_1 : ∃ (c rd rs : Nat) (op : ScuOp) (arg : ScuArg) (a b v : U32) (s : State), scuGo s c .none ([rd, rs] ++
    argRegs arg) = true ∧ a = (match arg with | .upper _ => 0 | _ => (s.core c).reg rs) ∧ b = argValue (s.core c) arg ∧ ((op = .shl ∨ op =
    .shr ∨ op = .sra) → b.toNat < 32) ∧ v =
    (match op with | .add => a + b | .sub => a - b | .mul => a * b | .mulh => BitVec.ofInt 32 (a.toInt * b.toInt / 2 ^ 32) | .mulhu => BitVec.ofNat 32 (a.toNat * b.toNat / 2 ^ 32) | .and => a &&& b | .or => a ||| b | .xor => a ^^^ b | .shl => a <<< b.toNat | .shr => a >>> b.toNat | .sra => a.sshiftRight b.toNat | .slt => if a.slt b then 1 else 0 | .sltu => if a.ult b then 1 else 0) :=
  ⟨0, 3, 1, .shl, .reg 2, 5, 1, 10, working.setCore 0 { working.core 0 with regs := [(1, 5), (2, 1)] }, by decide +kernel⟩

theorem wit_scu_instructions_act_2 : ∃ (c rd rs : Nat) (op : ScuOp) (arg : ScuArg) (s : State), scuGo s c .none ([rd, rs] ++ argRegs arg)
    = true ∧ (op = .shl ∨ op = .shr ∨ op = .sra) ∧ 32 ≤ (argValue (s.core c) arg).toNat :=
  ⟨0, 3, 1, .shl, .imm 32, working, by decide +kernel⟩

theorem wit_scu_instructions_act_4 : ∃ (c a b : Nat) (cond : ScuCond) (offset : Int) (x y : U32) (taken : Bool) (s : State), scuGo s c
    .none [a, b] = true ∧ cond ≠ .jal ∧ cond ≠ .jalr ∧ x = (s.core c).reg a ∧ y = (s.core c).reg b ∧ taken =
    (match cond with | .eq => x == y | .ne => x != y | .lt => x.slt y | .ge => !(x.slt y) | .ltu => x.ult y | _ => !(x.ult y)) :=
  ⟨0, 1, 2, .lt, -4, 5, 64, true, working, by decide +kernel⟩

theorem wit_scu_instructions_act_5 : ∃ (c a b : Nat) (offset : Int) (s : State), scuGo s c .none [a, b] = true :=
  ⟨0, 1, 2, -4, working, by decide +kernel⟩

theorem wit_scu_instructions_act_6 : ∃ (c rd : Nat) (r : CoreReg) (v : Nat) (s : State), scuGo s c .none [rd] = true ∧ v =
    (match r with | .coreId => c | .cycleLo => (s.core c).cycle.toNat % 2 ^ 32 | .cycleHi => (s.core c).cycle.toNat / 2 ^ 32 | .timeLo => s.us % 2 ^ 32 | .timeHi => s.us / 2 ^ 32 | .frame => (s.core c).frame.toNat | .paramBase => (s.core c).paramBase.toNat | .tilesDone0 => (s.core c).tilesDone0.toNat | .tilesDone1 => (s.core c).tilesDone1.toNat | .satFlags => (s.core c).satFlags.toNat | .trapCause => (s.core c).trapCause) :=
  ⟨0, 3, .coreId, 0, working, by decide +kernel⟩

theorem wit_scu_instructions_act_7 : ∃ (c rs : Nat) (r : CoreReg) (s : State), scuGo s c .none [rs] = true :=
  ⟨0, 1, .satFlags, working, by decide +kernel⟩

theorem wit_scu_instructions_act_8 : ∃ (c rd : Nat) (s : State), scuGo s c .none [rd] = true :=
  ⟨0, 1, working, by decide +kernel⟩

theorem wit_scu_accesses_act_1 : ∃ (c rd rs n : Nat) (offset : Int) (w : Width) (a : U32) (s : State), scuGo s c .none [rd, rs] = true ∧ a
    = (s.core c).reg rs + BitVec.ofInt 32 offset ∧ n = widthBytes w ∧ narrowFault s c a.toNat n false = none ∧ remoteAt s c a.toNat = none
    ∧ mustDefer s c (bankGroup s c a.toNat) = false :=
  ⟨0, 3, 2, 4, 0, .w, 64, working, by decide +kernel⟩

theorem wit_scu_accesses_act_2 : ∃ (c rs rb n : Nat) (offset : Int) (w : Width) (a : U32) (s : State), scuGo s c .none [rs, rb] = true ∧ a
    = (s.core c).reg rb + BitVec.ofInt 32 offset ∧ n = widthBytes w ∧ narrowFault s c a.toNat n true = none ∧ remoteAt s c a.toNat = none
    ∧ mustDefer s c (bankGroup s c a.toNat) = false :=
  ⟨0, 1, 2, 2, 0, .h, 64, working, by decide +kernel⟩

theorem wit_scu_accesses_act_3 : ∃ (c rd rs : Nat) (offset : Int) (w : Width) (s : State), scuGo s c .none [rd, rs] = true ∧ ((s.core
    c).reg rs + BitVec.ofInt 32 offset).toNat % widthBytes w ≠ 0 :=
  ⟨0, 3, 2, 2, .w, working, by decide +kernel⟩

theorem wit_scu_accesses_act_4 : ∃ (c rd : Nat) (l : NarrowLoad) (b : Bytes) (s : State), (s.core c).loads.find? (fun l => l.reg == rd %
    32 && !l.deferred && (l.tag.isNone || l.data.isSome)) = some l ∧ l.data = some b ∧ (s.core c).loads.find? (fun x => x.seq == l.seq) =
    some l ∧ (s.core c).wait = .none :=
  ⟨0, 3, narrowLoad, [1, 2, 3, 4], working.setCore 0 { working.core 0 with loads := [narrowLoad], busyRegs := [3] }, by decide +kernel⟩

theorem wit_scu_accesses_act_5 : ∃ (c reg : Nat) (l : NarrowLoad) (s : State), (s.core c).loads.find? (fun l => l.reg == reg % 32 &&
    !l.deferred && l.tag.isNone && l.data.isNone) = some l ∧ gapFill s c (bankGroup s c l.addr.toNat) = true ∧ l.issuedAt + 64000 / (if
    bankGroup s c l.addr.toNat = 0 then (s.core c).clock else 1200) ≤ s.now :=
  ⟨0, 3, { narrowLoad with data := none }, { working.setCore 0 { working.core 0 with loads := [{ narrowLoad with data := none }] } with models := [], now := 1000 }, by decide +kernel⟩

theorem wit_scu_accesses_act_6 : ∃ (c i x n : Nat) (st : NarrowStore) (s : State), (s.core c).stores[i]? = some st ∧ (s.core c).stores =
    [st] ∧ (s.core c).loads = [] ∧ (s.core c).wait = .none ∧ st.deferred = false ∧ st.window = none ∧ n = st.data.length ∧ coreAt s c .scu
    st.addr.toNat n = .ok [(.mem (.cm c) x, n)] :=
  ⟨0, 0, 64, 4, narrowStore, working.setCore 0 { working.core 0 with stores := [narrowStore] }, by decide +kernel⟩

theorem wit_scu_accesses_act_7 : ∃ (c : Nat) (s : State), (s.core c).loads = [] ∧ (s.core c).stores = [] :=
  ⟨0, working.setCore 0 { working.core 0 with narrow := [(0, 7)] }, by decide +kernel⟩

theorem wit_scu_controls_act_1 : ∃ (c rs : Nat) (b : Bytes) (s : State), scuGo s c .fetchQueue [rs] = true ∧ (s.core c).fetchQueue.length
    < 32 ∧ (s.core c).stores = [] ∧ (queueEntry c rs s).toOption = some (b, s) ∧ descriptorOk b = true :=
  ⟨0, 2, List.replicate 36 0 ++ le 4 64 ++ List.replicate 24 0, { working with mem := { working.mem with cm := [(0, memWrite [] 100 (le 4 64))] } }, by decide +kernel⟩

theorem wit_scu_controls_act_2 : ∃ (c rs : Nat) (b : Bytes) (s : State), scuGo s c .none [rs] = true ∧ (s.core c).stores = [] ∧
    (queueEntry c rs s).toOption = some (b, s) ∧ chainLegal b = true ∧ (if cQueue b = 0 then (s.core c).queue0 else (s.core
    c).queue1).length < 8 :=
  ⟨0, 2, chain, chaining, by decide +kernel⟩

theorem wit_scu_controls_act_3 : ∃ (c q rs : Nat) (n : U16) (s : State), scuGo s c .none [rs] = true ∧ n = ((s.core c).reg rs).setWidth 16 :=
  ⟨0, 0, 1, 5, working, by decide +kernel⟩

theorem wit_scu_controls_act_4 : ∃ (c : Nat) (s : State), scuGo s c .none [] = true :=
  ⟨0, working, by decide +kernel⟩

theorem wit_scu_controls_act_5 : ∃ (c code : Nat) (s : State), scuGo s c .none [] = true :=
  ⟨0, 9, working, by decide +kernel⟩

theorem wit_scu_controls_act_6 : ∃ (c : Nat) (s : State), scuGo s c .none [] = true ∧ runDrained (s.core c) = true :=
  ⟨0, working, by decide +kernel⟩

theorem wit_scu_controls_act_7 : ∃ (c code : Nat) (s : State), scuGo s c .none [] = true :=
  ⟨0, 9, working, by decide +kernel⟩

theorem wit_scu_controls_act_8 : ∃ (c : Nat) (s : State), coreBusy s c = true ∧ (s.core c).stopped = false ∧ (s.core c).wait = .none ∧
    rowWaiting s c = false ∧ (s.core c).scuAt + 4000000 ≤ s.now :=
  ⟨0, { working with now := 4000000 }, by decide +kernel⟩

theorem wit_scu_controls_act_9 : ∃ (c : Nat) (s : State), coreBusy s c = true ∧ (s.core c).running.isSome = true ∧ (s.core c).tileAt +
    4000000 ≤ s.now :=
  ⟨0, { working.setCore 0 { working.core 0 with running := some { queue := 0, chain := { bytes := [] }, startedAt := 0 } } with now := 4000000 }, by decide +kernel⟩

theorem wit_fetches_start_1 : ∃ (c : Nat) (e : FetchEntry) (l : List (Int × Int × Nat)) (s : State) (r : List Piece × State), coreBusy s c
    = true ∧ nextDescriptor s c 0 = some e ∧ (burstsOf c e.bytes s).toOption = some l ∧ transferFault s c e.bytes l = none ∧ r = (l.foldl
    (fun (r : List Piece × State) x => ((r.1 ++ (startBurst c e.bytes (waitLost s c e.bytes) x r.2).1), (startBurst c e.bytes (waitLost s
    c e.bytes) x r.2).2)) ([], s)) ∧ windowDenies r.2 r.1 = false :=
  ⟨0, entry loadBytes, [(256, 0, 128)], queued loadBytes, (regionPieces (queued loadBytes) 0 1 1048576 256 0 128 false false [], queued loadBytes), by decide +kernel⟩

theorem wit_fetches_start_2 : ∃ (c : Nat) (e : FetchEntry) (l : List (Int × Int × Nat)) (s : State) (r : List Piece × State), coreBusy s c
    = true ∧ nextDescriptor s c 1 = some e ∧ (burstsOf c e.bytes s).toOption = some l ∧ transferFault s c e.bytes l = none ∧ r = (l.foldl
    (fun (r : List Piece × State) x => ((r.1 ++ (startBurst c e.bytes (waitLost s c e.bytes) x r.2).1), (startBurst c e.bytes (waitLost s
    c e.bytes) x r.2).2)) ([], s)) ∧ windowDenies r.2 r.1 = false :=
  ⟨0, entry storeBytes_, [(256, 0, 128)], queued storeBytes_, (regionPieces (queued storeBytes_) 0 1 1048576 256 0 128 true false (List.replicate 128 0), queued storeBytes_), by decide +kernel⟩

theorem wit_fetches_start_3 : ∃ (c far near n : Nat) (b : Bytes) (lost : Bool) (s : State), dSpace b = 1 ∧ dBfr b = 0 ∧ dKind b = 0 :=
  ⟨0, 256, 0, 128, loadBytes, false, queued loadBytes, by decide +kernel⟩

theorem wit_fetches_start_4 : ∃ (c n eb aux : Nat) (e : FetchEntry) (ps : List (Place × Nat)) (idx area : Bytes) (srcs : List Nat) (s u :
    State), coreBusy s c = true ∧ nextDescriptor s c 2 = some e ∧ n = fld e.bytes 44 2 ∧ eb = fld e.bytes 18 2 ∧ aux = fld e.bytes 20 4 ∧
    (coreAt s c .fetchRead (fld e.bytes 40 4) (4 * n)).toOption = some ps ∧ readPlaces c ps s = (idx, s) ∧ area = weightArea e.bytes
    ((List.range n).map (fun k => (gatherVectors e.bytes (fld idx (4 * k) 4) k).2)) ∧ srcs = (List.range n).flatMap (fun k =>
    (gatherVectors e.bytes (fld idx (4 * k) 4) k).1) ∧ rowWaits e.bytes = [] ∧ (fld e.bytes 17 1 = 0 → ∀ k < n, fld idx (4 * k) 4 < fld
    e.bytes 36 2 * fld e.bytes 38 2) ∧ (coreAt s c .fetchWrite aux (area.length + srcs.length * eb)).toOption.isSome = true ∧
    srcs.findSome? (vectorFault s c e.bytes) = none ∧ u = (if area.isEmpty then s else writeCore c aux area false s) :=
  ⟨0, 1, 8, 256, entry (gatherBytes 1), [(.mem (.cm 0) 0, 4)], [0, 0, 0, 0], [], [0], queued (gatherBytes 1), queued (gatherBytes 1), by decide +kernel⟩

theorem wit_fetches_start_5 : ∃ (c a n : Nat) (e : FetchEntry) (s : State), coreBusy s c = true ∧ nextDescriptor s c 3 = some e ∧ a = fld
    e.bytes 16 4 ∧ n = fld e.bytes 20 4 ∧ fillTarget s c .fetchWrite a n = none :=
  ⟨0, 8, 16, entry fillBytes, queued fillBytes, by decide +kernel⟩

theorem wit_fetches_start_6 : ∃ (c a d n : Nat) (e : FetchEntry) (s : State), coreBusy s c = true ∧ nextDescriptor s c 4 = some e ∧ a =
    fld e.bytes 16 4 ∧ d = fld e.bytes 20 4 ∧ n = fld e.bytes 24 4 ∧ fillTarget s c .fetchRead a n = none ∧ fillTarget s c .fetchWrite d n
    = none ∧ (d + n ≤ a ∨ a + n ≤ d) :=
  ⟨0, 0, 64, 16, entry copyBytes, queued copyBytes, by decide +kernel⟩

theorem wit_fetches_start_7 : ∃ (c i : Nat) (e : FetchEntry) (sc : Nat) (v : U16 × U16 × U32) (s : State), coreBusy s c = true ∧
    nextDescriptor s c 5 = some e ∧ i = fld e.bytes 16 2 % 4096 ∧ i < (s.core c).ctrCount ∧ (s.core c).task = some (0, sc) ∧ packStream s
    sc = false ∧ v = s.counter ((s.core c).ctrBase + i) :=
  ⟨0, 1, entry publishBytes, 0, (0, 0, 0), queued publishBytes, by decide +kernel⟩

theorem wit_tiles_run_1 : ∃ (c : Nat) (t : Chain) (rest : List Chain) (mark : Option TileMark) (s u : State), coreBusy s c = true ∧
    (s.core c).running = none ∧ (s.core c).queue0 = t :: rest ∧ tileReady (s.core c) 0 = true ∧ (∀ m, mark = some m → tileMayStart s c m =
    true) ∧ u = (match mark with | some m => enterTile m s | none => s) :=
  ⟨0, { bytes := chain }, [], some onTime, making, enterTile onTime making, by decide +kernel, by decide +kernel, by decide +kernel, by decide +kernel, fun m h => by cases h; decide +kernel, rfl⟩

theorem wit_tiles_run_2 : ∃ (c : Nat) (t : Chain) (rest : List Chain) (mark : Option TileMark) (s u : State), coreBusy s c = true ∧
    (s.core c).running = none ∧ (s.core c).queue1 = t :: rest ∧ tileReady (s.core c) 1 = true ∧ (∀ m, mark = some m → tileMayStart s c m =
    true) ∧ u = (match mark with | some m => enterTile m s | none => s) :=
  ⟨0, { bytes := chain }, [], none, working.setCore 0 { working.core 0 with queue1 := [{ bytes := chain }] }, working.setCore 0 { working.core 0 with queue1 := [{ bytes := chain }] }, by decide +kernel, by decide +kernel, by decide +kernel, by decide +kernel, fun m h => (nomatch h), rfl⟩

theorem wit_tiles_run_3 : ∃ (c q : Nat) (m : TileMark) (s : State), tileMayStart s c m = false :=
  ⟨0, 0, { onTime with index := 9999 }, making, by decide +kernel⟩

theorem wit_tiles_run_4 : ∃ (c : Nat) (m : TileMark) (x : Stream) (o : Output) (s : State), x = s.stream m.sc ∧ x.anyOutput (BitVec.ofNat
    32 m.frame) m.phase = some o ∧ o.interp = true ∧ tileMayStart s c m = true :=
  ⟨0, ahead, betweening.stream 0, between, betweening, by decide +kernel⟩

theorem wit_tiles_run_5 : ∃ (c : Nat) (r : Running) (w : Work) (k : Core) (s u : State), (s.core c).running = some r ∧ s.glb.boot =
    .running ∧ s.pwr.tripped = false ∧ r.abandoned = false ∧ w = runChain c r.chain.bytes ((r.mark.map (·.spec)).getD false) s ∧ w.trap =
    none ∧ (w.s.core c).wait = .none ∧ k =
    { w.s.core c with running := none, tileAt := w.s.now, satFlags := (w.s.core c).satFlags ||| BitVec.ofNat 4 (toMask ((List.range 4).filter (fun i => nth 0 w.sat i != 0))), tilesDone0 := if r.queue = 0 then cSeq r.chain.bytes else (w.s.core c).tilesDone0, none0 := if r.queue = 0 then false else (w.s.core c).none0, tilesDone1 := if r.queue = 0 then (w.s.core c).tilesDone1 else cSeq r.chain.bytes, none1 := if r.queue = 0 then (w.s.core c).none1 else false }
    ∧ u = (tileCounts c r.queue r.chain.bytes w.sat.sum w.s).setCore c k :=
  ⟨0, { queue := 0, chain := { bytes := [] }, startedAt := 0 }, runChain 0 [] false inTile, { ((runChain 0 [] false inTile).s.core 0) with running := none, satFlags := 0, tilesDone0 := 0, none0 := false }, inTile, (tileCounts 0 0 [] 0 (runChain 0 [] false inTile).s).setCore 0 { ((runChain 0 [] false inTile).s.core 0) with running := none, satFlags := 0, tilesDone0 := 0, none0 := false }, by decide +kernel, by decide +kernel, by decide +kernel, rfl, rfl, by decide +kernel, by decide +kernel, by decide +kernel, by decide +kernel⟩

theorem wit_tiles_run_6 : ∃ (c i : Nat) (e : FetchEntry) (s : State), (s.core c).fetching[i]? = some e ∧ e.pieces = [] ∧ e.bursts = [] :=
  ⟨0, 0, entry loadBytes, working.setCore 0 { working.core 0 with fetching := [entry loadBytes] }, by decide +kernel⟩

theorem wit_tiles_run_7 : ∃ (c : Nat) (m : MergeEntry) (s : State), (s.core c).merge = [m] ∧ m.openedAt + 32000 / (s.core c).clock ≤ s.now
    ∧ placesUsed s c < 24 :=
  ⟨0, { line := 3, data := [7], mask := 1, openedAt := 0, queue := 0 }, { working.setCore 0 { working.core 0 with merge := [{ line := 3, data := [7], mask := 1, openedAt := 0, queue := 0 }] } with now := 1000 }, by decide +kernel⟩

theorem wit_dram_transactions_complete_1 : ∃ (ch error : Nat) (t : DramTx) (rest : List DramTx) (s : State), (s.channel ch).queue = t ::
    rest ∧ (s.channel ch).retrainingSince = none :=
  ⟨0, 0, tx, [], live.setChannel 0 { up := true, queue := [tx] }, by decide +kernel⟩

theorem wit_dram_transactions_complete_2 : ∃ (error : Nat) (t : DramTx) (s : State), t.isWrite = true ∧ 16 ≤ t.requester :=
  ⟨0, tx, live, by decide +kernel⟩

theorem wit_dram_transactions_complete_3 : ∃ (t : DramTx) (s : State) (a : Nat), channelDown s t.addr = false :=
  ⟨tx, live.setChannel 0 { up := true, queue := [tx] }, 127, by decide +kernel⟩

theorem wit_dram_transactions_complete_4 : ∃ (id : Nat) (f : Fill) (b : Bytes) (s : State), s.iac.fills.find? (fun g => g.id == id) = some
    f ∧ f.data = some b ∧ 16 ≤ f.requester :=
  ⟨4, { id := 4, requester := 16, sector := 0, way := none, written := false, data := some [1], bad := false }, [1], { live with iac := { live.iac with fills := [{ id := 4, requester := 16, sector := 0, way := none, written := false, data := some [1], bad := false }] } }, by decide +kernel⟩

theorem wit_memory_hardware_acts_1 : ∃ (m c b : Nat) (s : State), s.running = true ∧ Tab.get 64 s.mem.scrubInterval m ≠ 0 :=
  ⟨0, 3, 11, live, by decide +kernel⟩

theorem wit_memory_hardware_acts_2 : ∃ (u : Nat) (s : State), s.mem.filling.contains u = true ∧ u < 1000 :=
  ⟨13, { live with mem := { live.mem with filling := [13] } }, by decide +kernel⟩

theorem wit_memory_hardware_acts_3 : ∃ (u : Nat) (s : State), s.mem.filling.contains u = true ∧ 1000 ≤ u ∧ s.mem.kennelUp.any (fun e =>
    e.1 == unitDomain (u - 1000)) = false :=
  ⟨1013, { live with mem := { live.mem with filling := [1013] } }, by decide +kernel⟩

theorem wit_memory_hardware_acts_4 : ∃ (m : Mem) (a n x : Nat) (s : State), m = .kennel :=
  ⟨.kennel, 0, 64, 3, live, by decide +kernel⟩

theorem wit_memory_hardware_acts_5 : ∃ (d : Nat) (e : Nat × Nat) (s : State), s.mem.kennelUp.find? (fun e => e.1 == d) = some e :=
  ⟨3, (3, 0), { live with mem := { live.mem with kennelUp := [(3, 0)] } }, by decide +kernel⟩

theorem wit_memory_hardware_acts_6 : ∃ (d : Nat) (s : State), domainOn s (16 + d) = true ∧ kennelUsed s d = false :=
  ⟨3, setDomain 19 true live, by decide +kernel⟩

theorem wit_memory_hardware_acts_7 : ∃ (d : Nat) (s : State), s.pwr.poweringUp.any (fun e => e.1 == d && decide (e.2 ≤ s.now)) = true ∧ d
    ≠ 31 :=
  ⟨24, { live with pwr := { live.pwr with poweringUp := [(24, 0)] } }, by decide +kernel⟩

theorem wit_memory_hardware_acts_8 : ∃ (s : State), s.pwr.poweringUp.any (fun e => e.1 == 31 && decide (e.2 ≤ s.now)) = true :=
  ⟨{ live with pwr := { live.pwr with poweringUp := [(31, 0)] } }, by decide +kernel⟩

theorem wit_memory_hardware_acts_9 : ∃ (c t : Nat) (s : State), s.pwr.idleSince.find? (fun e => e.1 == c) = some (c, t) ∧ c < 16 ∧ (s.core
    c).task = none ∧ t + 1000000000 ≤ s.now :=
  ⟨3, 0, { live with now := 1000000000, pwr := { live.pwr with idleSince := [(3, 0)] } }, by decide +kernel⟩

theorem wit_memory_hardware_acts_10 : ∃ (t : Nat) (s : State), s.pwr.idleSince.find? (fun e => e.1 == 30) = some (30, t) ∧ t + 10000000 ≤
    s.now ∧ (List.range 32).all (fun i => !(runs s i || (s.stream i).state == .draining)) = true :=
  ⟨0, { live with now := 10000000, pwr := { live.pwr with idleSince := [(30, 0)] } }, by decide +kernel⟩

theorem wit_memory_hardware_acts_11 : ∃ (u : Nat) (e : Nat × Nat) (s : State), s.dram.filling.find? (fun e => e.1 == u) = some e :=
  ⟨3, (3, 2), { live with dram := { live.dram with filling := [(3, 2)] } }, by decide +kernel⟩

theorem wit_dram_and_clocks_act_1 : ∃ (k : Nat) (s : State), (s.channel k).up = true ∧ (s.channel k).retrainingSince = none :=
  ⟨2, live, by decide +kernel⟩

theorem wit_dram_and_clocks_act_2 : ∃ (k rate t : Nat) (s u : State), (s.channel k).retrainingSince = some t ∧ u = emit srcDevice 0x0505
    (le 1 k ++ le 1 0 ++ le 2 rate ++ le 2 ((s.now - t) / 1000)) (errAdd 0x15C 1 (s.setChannel k
    { s.channel k with retrainingSince := none })) :=
  ⟨2, 6400, 0, live.setChannel 2 { up := true, retrainingSince := some 0 }, emit srcDevice 0x0505 (le 1 2 ++ le 1 0 ++ le 2 6400 ++ le 2 0) (errAdd 0x15C 1 (live.setChannel 2 { up := true, retrainingSince := none })), by decide +kernel⟩

theorem wit_dram_and_clocks_act_3 : ∃ (k : Nat) (s : State), (s.channel k).retrainingSince.isSome = true :=
  ⟨2, live.setChannel 2 { up := true, retrainingSince := some 0 }, by decide +kernel⟩

theorem wit_dram_and_clocks_act_4 : ∃ (margin : Int) (s : State) (lo hi v : Nat), s.running = true ∧ (lo, hi) = avsBand (fastest s) ∧ v =
    s.pwr.avs.toNat :=
  ⟨0, live, 0, 4, live.pwr.avs.toNat, by decide +kernel⟩

theorem wit_dram_and_clocks_act_5 : ∃ (s : State), s.running = true ∧ s.pwr.avs.toNat < neededCode s ∧ s.pwr.avsAt + 20000 ≤ s.now :=
  ⟨{ live.setCore 0 { live.core 0 with op := 0, opNext := some (20, 0) } with now := 20000, pwr := { live.pwr with avs := 0 } }, by decide +kernel⟩

theorem wit_dram_and_clocks_act_6 : ∃ (c op t : Nat) (s : State), (s.core c).opNext = some (op, t) ∧ (op ≤ (s.core c).op ∨ (avsBand (mhz
    op)).1 ≤ s.pwr.avs.toNat) :=
  ⟨0, 20, 0, { live.setCore 0 { live.core 0 with op := 0, opNext := some (20, 0) } with pwr := { live.pwr with avs := 15 } }, by decide +kernel⟩

theorem wit_halo_timeouts_act_1 : ∃ (c b co pr k : Nat) (top : Bool) (sc : Nat) (s : State), (s.core c).task = some (0, sc) ∧ coreBusy s c
    = true ∧ waitsFor s c (k, !top) = true ∧ (s.stream sc).haloTimedOut.contains (k, !top) = false ∧ (b ≠ 0 ∨ (s.stream sc).cfg.sourceKind
    ≠ 2) :=
  ⟨0, 1, 0, 0, 1, false, 0, waitState, by decide +kernel⟩

theorem wit_halo_timeouts_act_2 : ∃ (c k : Nat) (top : Bool) (j : Nat) (s : State), (s.core c).task = some (1, j) ∧ coreBusy s c = true ∧
    waitsFor s c (k, !top) = true ∧ (s.job j).timedOut.contains (k, !top) = false ∧ (s.job j).countedAt + 4000000 ≤ s.now :=
  ⟨0, 1, false, 0, { waitState.setCore 0 { waitState.core 0 with task := some (1, 0) } with now := 4000000 }, by decide +kernel⟩

theorem wit_bands_and_tiles_act_1 : ∃ (sc f ph i : Nat) (ecc ok : Bool) (l : List ReadError) (o : Output) (s u : State), ((s.stream
    sc).state = .running ∨ (s.stream sc).state = .draining) ∧ (s.stream sc).anyOutput (BitVec.ofNat 32 f) ph = some o ∧ tileOf (s.stream
    sc) (BitVec.ofNat 32 f) ph i = some .held ∧ (ecc = true ∨ intervalEnded (s.stream sc) o = true) ∧ u = foundErrors none l s ∧ ok =
    (!ecc && tileAgrees u sc (BitVec.ofNat 32 f) o i) :=
  ⟨0, 4, 1, 0, true, false, [], between, tiled, tiled, by decide +kernel⟩

theorem wit_bands_and_tiles_act_2 : ∃ (sc f ph i : Nat) (ecc : Bool) (l : List ReadError) (s : State), tileOf (s.stream sc) (BitVec.ofNat
    32 f) ph i ≠ some .held :=
  ⟨0, 4, 1, 1, false, [], tiled, by decide +kernel⟩

theorem wit_bands_and_tiles_act_3 : ∃ (sc i : Nat) (n : U32) (o : Output) (p : Plan) (a b : FrameIn) (s : State), planOf s ((s.stream
    sc).cfgOf n) = some p ∧ (s.stream sc).frameAt o.span.2.1 = some a ∧ (s.stream sc).frameAt o.span.2.2 = some b :=
  ⟨0, 0, 4, between, plan, frame4, next5, tiled, by decide +kernel⟩

theorem wit_bands_and_tiles_act_4 : ∃ (sc f ph b : Nat) (s u : State), ((s.stream sc).state = .running ∨ (s.stream sc).state = .draining)
    ∧ bandOf (s.stream sc) (BitVec.ofNat 32 f) ph b = some .open_ ∧ bandFinal s sc (BitVec.ofNat 32 f) ph b = true ∧ u = (clearHeld sc
    (BitVec.ofNat 32 f) ph b s).setStream sc (setBand (s.stream sc) (BitVec.ofNat 32 f) ph b .released) :=
  ⟨0, 4, 1, 0, done, (clearHeld 0 4 1 0 done).setStream 0 (setBand (done.stream 0) 4 1 0 .released), by decide +kernel⟩

theorem wit_bands_and_tiles_act_5 : ∃ (sc ph b k : Nat) (n : U32) (e : Nat × Nat) (s : State), bandRange s sc n ph b = some e ∧ e.1 ≤ k *
    128 ∧ k * 128 < e.1 + e.2 :=
  ⟨0, 0, 0, 15, 4, (0, 2048), placed, by decide +kernel⟩

theorem wit_bands_and_tiles_act_6 : ∃ (sc ph d : Nat) (n : U32) (o : Output) (w : Buf) (ws : List Buf) (s : State), (s.stream sc).output n
    ph d = some o ∧ o.bound = false ∧ followsPack s sc = false ∧ Tab.get [] (s.stream sc).outBufs d = w :: ws ∧ packStream s sc = false :=
  ⟨0, 0, 0, 4, { rows with bound := false }, bufOf (List.replicate 36 0), [], flowing.setStream 0 { flowing.stream 0 with outputs := [{ rows with bound := false }], outBufs := [(0, [bufOf (List.replicate 36 0)])] }, by decide +kernel⟩

theorem wit_bands_and_tiles_act_7 : ∃ (sc f ph b : Nat) (e : Band) (s : State), ((s.stream sc).state = .running ∨ (s.stream sc).state =
    .draining) ∧ (s.stream sc).bands.find? (fun e => e.interval = (BitVec.ofNat 32 f) && e.phase == ph && e.index == b) = some e ∧ e.state
    = .open_ ∧ e.releaseBy ≤ s.now :=
  ⟨0, 4, 1, 0, band, tiled, by decide +kernel⟩

theorem wit_outputs_act_1 : ∃ (sc f ph d row : Nat) (o : Output) (s : State), (s.stream sc).state = .running ∧ (s.stream sc).output
    (BitVec.ofNat 32 f) ph d = some o ∧ o.complete = false ∧ o.bound = true ∧ rowReleased s sc o row = true ∧ (ownRows s sc
    o.d)[o.rowsDone]? = some row :=
  ⟨0, 4, 0, 0, 3, rows, writing, by decide +kernel⟩

theorem wit_outputs_act_2 : ∃ (sc f ph d : Nat) (o : Output) (s : State), (s.stream sc).state = .running ∧ (s.stream sc).output
    (BitVec.ofNat 32 f) ph d = some o ∧ o.complete = false ∧ o.bound = true ∧ o.rowsDone = (ownRows s sc o.d).length ∧ followsPack s sc =
    false ∧ packStream s sc = false :=
  ⟨0, 4, 0, 0, { rows with rowsDone := 64 }, writing.setStream 0 { writing.stream 0 with outputs := [{ rows with rowsDone := 64 }] }, by decide +kernel⟩

theorem wit_outputs_act_3 : ∃ (sc f ph d : Nat) (o : Output) (black : Bool) (s : State), ((s.stream sc).state = .running ∨ (s.stream
    sc).state = .draining) ∧ (s.stream sc).output (BitVec.ofNat 32 f) ph d = some o ∧ o.atRisk = true ∧ o.deadline ≤ s.now ∧ followsPack s
    sc = false ∧ levelRepeats (s.stream sc) = false ∧ (s.stream sc).cert.state = .valid ∧ o.uncertified = false ∧ o.interp = false ∧
    o.missed = false ∧ black = !(Tab.get false (s.stream sc).delivered d) :=
  ⟨0, 4, 0, 0, rows, true, certified rows, by decide +kernel⟩

theorem wit_outputs_act_4 : ∃ (sc f ph d : Nat) (o : Output) (s u : State), ((s.stream sc).state = .running ∨ (s.stream sc).state =
    .draining) ∧ (s.stream sc).output (BitVec.ofNat 32 f) ph d = some o ∧ o.atRisk = true ∧ o.deadline ≤ s.now ∧ followsPack s sc = false
    ∧ levelRepeats (s.stream sc) = false ∧ (s.stream sc).cert.state = .valid ∧ o.uncertified = false ∧ o.interp = true ∧ o.faultCause ≠ 0
    ∧ u = ((s.stream sc).bands.filter (fun e => e.interval = (BitVec.ofNat 32 f) && e.phase == ph && e.state == .open_)).foldl (fun s e =>
    bandFalls sc (BitVec.ofNat 32 f) ph e.index s) s :=
  ⟨0, 4, 0, 0, { rows with faultCause := 2, interp := true }, certified { rows with faultCause := 2, interp := true }, certified { rows with faultCause := 2, interp := true }, by decide +kernel⟩

theorem wit_outputs_act_5 : ∃ (sc f ph d : Nat) (o : Output) (s : State), ((s.stream sc).state = .running ∨ (s.stream sc).state =
    .draining) ∧ (s.stream sc).output (BitVec.ofNat 32 f) ph d = some o ∧ o.atRisk = true ∧ o.deadline ≤ s.now ∧ followsPack s sc = false
    ∧ levelRepeats (s.stream sc) = true ∧ Tab.get false (s.stream sc).delivered d = true :=
  ⟨0, 4, 0, 0, rows, flowing.setStream 0 { flowing.stream 0 with outputs := [rows], level := 3, delivered := [(0, true)] }, by decide +kernel⟩

theorem wit_outputs_act_6 : ∃ (g : Nat) (fr : GroupFrame) (s : State), (s.group g).frames.find? (fun f => !f.windowClosed) = some fr ∧
    fr.openedAt + groupWindow s (s.group g) ≤ s.now ∧ (s.group g).list.filter (fun m => runs s m && (s.stream m).startedAt ≤ fr.openedAt
    && !fr.present.contains m) = [] :=
  ⟨3, grouped, { live.setGroup 3 { frames := [grouped] } with now := 1000000000 }, by decide +kernel⟩

theorem wit_outputs_act_7 : ∃ (g m : Nat) (fr : GroupFrame) (s : State), (s.group g).frames.find? (fun f => !f.windowClosed) = some fr ∧
    fr.openedAt + groupWindow s (s.group g) ≤ s.now ∧ (s.group g).list.filter (fun m => runs s m && (s.stream m).startedAt ≤ fr.openedAt
    && !fr.present.contains m) = [m] ∧ (s.group g).policy ≠ 3 :=
  ⟨3, 0, grouped, { flowing.setGroup 3 { frames := [grouped], members := 1 } with now := 1000000000 }, by decide +kernel⟩

theorem wit_thermal_acts_1 : ∃ (l : List Int) (s u : State), s.running = true ∧ s.pwr.rails = true ∧ s.pwr.porst = false ∧ u = takeSamples
    l s :=
  ⟨List.replicate 20 116, live, takeSamples (List.replicate 20 116) live, by decide +kernel⟩

theorem wit_thermal_acts_2 : ∃ (n : Nat) (l : List Int) (s : State), n < 20 ∧ sensorValid s n = true :=
  ⟨18, List.replicate 20 116, live, by decide +kernel⟩

theorem wit_thermal_acts_3 : ∃ (s u : State) (i : Nat), s.running = true ∧ s.pwr.thermal = .critical ∧ (readings s).any (115 ≤ ·) = true ∧
    s.pwr.degradeAt + 100000000 ≤ s.now ∧ u = { s with pwr := { s.pwr with degradeAt := s.now } } ∧ ((byPriority u).filter (fun i =>
    ((u.stream i).state == .running || (u.stream i).state == .draining) && (u.stream i).level < 4)).getLast? = some i :=
  ⟨hot, { hot with pwr := { hot.pwr with degradeAt := hot.now } }, 0, by decide +kernel⟩

theorem wit_thermal_acts_4 : ∃ (s u : State) (j : Nat), s.running = true ∧ s.pwr.thermal = .critical ∧ (readings s).any (115 ≤ ·) = true ∧
    s.pwr.degradeAt + 100000000 ≤ s.now ∧ u = { s with pwr := { s.pwr with degradeAt := s.now } } ∧ (byPriority u).filter (fun i =>
    ((u.stream i).state == .running || (u.stream i).state == .draining) && (u.stream i).level < 4) = [] ∧ (activeJobs u).head? = some j :=
  ⟨{ hot with streams := [], jobs := [(3, { (hot.job 3) with active := true })] }, { hot with streams := [], jobs := [(3, { (hot.job 3) with active := true })], pwr := { hot.pwr with degradeAt := hot.now } }, 3, by decide +kernel⟩

theorem wit_thermal_acts_5 : ∃ (s : State) (t : Nat), s.running = true ∧ s.pwr.thermal = .critical ∧ s.pwr.coolSince = some t ∧ t +
    1000000000 ≤ s.now :=
  ⟨{ hot with pwr := { hot.pwr with coolSince := some 0 }, now := 1000000000 }, 0, by decide +kernel⟩

theorem wit_thermal_acts_6 : ∃ (s : State) (t : Nat), s.running = true ∧ s.pwr.thermal = .warning ∧ s.pwr.clearSince = some t ∧ t +
    1000000000 ≤ s.now :=
  ⟨{ hot with pwr := { hot.pwr with thermal := .warning, clearSince := some 0 }, now := 1000000000 }, 0, by decide +kernel⟩

theorem wit_thermal_acts_7 : ∃ (n : Nat) (s : State), s.pwr.rails = true ∧ s.pwr.porst = false ∧ s.pwr.tripped = false :=
  ⟨3, live, by decide +kernel⟩

theorem wit_fyx_ports_train_1 : ∃ (k : OsKind) (pos port rate inv : Nat) (ack : Bool), pos < 8 ∧ port < 4 ∧ rate < 4 ∧ inv < 256 :=
  ⟨.ts2, 7, 3, 3, 255, true, by decide +kernel⟩

theorem wit_fyx_ports_train_2 : ∃ (n : Nat) (b : List LaneBlock) (o : OrderedSet) (s : State), domainOn s 31 = true ∧ n < 4 ∧ (s.link
    n).state = .training ∧ readSet b = some o ∧ o.kind = .skip :=
  ⟨1, setBlocks .skip 2 3 0 false, seen .skip 0 false, linked { state := .training }, by decide +kernel⟩

theorem wit_fyx_ports_train_3 : ∃ (n : Nat) (b : List LaneBlock) (s : State), readSet b = none :=
  ⟨1, [], linked { state := .training }, by decide +kernel⟩

theorem wit_fyx_ports_train_4 : ∃ (n : Nat) (b : List LaneBlock) (o : OrderedSet) (s : State), domainOn s 31 = true ∧ n < 4 ∧ (s.link
    n).state = .training ∧ readSet b = some o ∧ o.kind = .ts1 ∧ (s.link n).aligned = false ∧ (s.link n).ts1 + 1 < 64 :=
  ⟨1, setBlocks .ts1 2 3 0 false, seen .ts1 0 false, linked { state := .training }, by decide +kernel⟩

theorem wit_fyx_ports_train_5 : ∃ (n : Nat) (b : List LaneBlock) (o : OrderedSet) (s : State), domainOn s 31 = true ∧ n < 4 ∧ (s.link
    n).state = .training ∧ readSet b = some o ∧ o.kind = .ts1 ∧ (s.link n).aligned = false ∧ (s.link n).ts1 = 63 ∧ o.lanes = List.range 8
    ∧ o.inverted = 0 :=
  ⟨1, setBlocks .ts1 2 3 0 false, seen .ts1 0 false, linked { state := .training, ts1 := 63 }, by decide +kernel⟩

theorem wit_fyx_ports_train_6 : ∃ (n : Nat) (b : List LaneBlock) (o : OrderedSet) (s : State), domainOn s 31 = true ∧ n < 4 ∧ (s.link
    n).state = .training ∧ readSet b = some o ∧ o.kind = .ts2 ∧ (s.link n).aligned = true ∧ 15 ≤ (s.link n).ts2 ∧ (s.link n).nPos = o.pos
    ∧ (s.link n).nPort = o.port ∧ (s.link n).nRate = o.rate ∧ (o.ack = true ∨ (s.link n).gotAck = true) ∧ o.rate = fyxRate s :=
  ⟨1, setBlocks .ts2 2 3 (fyxRate fyx) true, { seen .ts2 (fyxRate fyx) true with pos := 2, port := 3 }, linked { state := .training, aligned := true, ts2 := 15, nPos := 2, nPort := 3, nRate := fyxRate fyx }, by decide +kernel⟩

theorem wit_fyx_ports_train_7 : ∃ (n : Nat) (s : State), (s.link n).since + 1000000 ≤ s.now :=
  ⟨1, { linked { state := .down } with now := 1000000 }, by decide +kernel⟩

theorem wit_fyx_ports_train_8 : ∃ (n lanes : Nat) (short : Bool) (s : State), domainOn s 31 = true ∧ n < 4 ∧ (s.link n).state = .up :=
  ⟨1, 3, true, linked { state := .up }, by decide +kernel⟩

theorem wit_fyx_flits_move_1 : ∃ (k st d : Nat), d < 2 ^ k :=
  ⟨58, 1, 2 ^ 58 - 1, by decide +kernel⟩

theorem wit_fyx_flits_move_2 : ∃ (scr : List Nat) (b : Bytes), b.length = 64 :=
  ⟨List.replicate 8 5, List.replicate 64 9, by decide +kernel⟩

theorem wit_fyx_flits_move_3 : ∃ (seq ftype ack cls credits : Nat) (av nak : Bool) (payload : Bytes), seq < 4096 ∧ ftype < 16 ∧ ack < 4096
    ∧ cls < 4 ∧ credits < 64 ∧ payload.length = 52 :=
  ⟨4095, 15, 4095, 3, 63, true, true, List.replicate 52 7, by decide +kernel⟩

theorem wit_fyx_flits_move_4 : ∃ (n : Nat) (b : List LaneBlock) (r : Bytes × Bool × List Nat) (s : State), domainOn s 31 = true ∧ (s.link
    n).state = .up ∧ r = readBlocks (s.link n).rxScr (logicalLanes (s.link n).inverted (s.link n).reversed b) :=
  ⟨1, idleBlocks, readBlocks (List.replicate 8 0) idleBlocks, linked { state := .up }, by decide +kernel⟩

theorem wit_fyx_flits_move_5 : ∃ (n : Nat) (f : Flit) (s : State), f.crcOk = false :=
  ⟨1, { idleFlit with crcOk := false }, linked { state := .up }, by decide +kernel⟩

theorem wit_fyx_flits_move_6 : ∃ (n : Nat) (f : Flit) (s u : State), f.crcOk = true ∧ f.ackValid = false ∧ f.nak = false ∧ u = takeCredits
    n f.cls f.credits (s.setLink n { s.link n with heardAt := s.now }) :=
  ⟨1, idleFlit, linked { state := .up }, takeCredits 1 0 0 ((linked { state := .up }).setLink 1 { (linked { state := .up }).link 1 with heardAt := 0 }), by decide +kernel⟩

theorem wit_fyx_flits_move_7 : ∃ (n : Nat) (s : State), (s.link n).state = .up ∧ (s.link n).sentAt + 32 * tFlit s / 10 ≤ s.now :=
  ⟨1, { linked { state := .up } with now := 1000 }, by decide +kernel⟩

theorem wit_fyx_flits_move_8 : ∃ (n : Nat) (s u : State), (s.link n).state = .up ∧ (s.link n).unacked ≠ [] ∧ (s.link n).progressAt + 1000
    ≤ s.now ∧ u = (errAdd (0x1E0 + 4 * n) 1 s).setLink n { s.link n with replays := (s.link n).replays + 1, progressAt := s.now } :=
  ⟨1, { linked { state := .up, unacked := [{ seq := 0, ftype := 0, payload := [], firstAt := 0 }] } with now := 1000 }, (errAdd (0x1E0 + 4 * 1) 1 { linked { state := .up, unacked := [{ seq := 0, ftype := 0, payload := [], firstAt := 0 }] } with now := 1000 }).setLink 1 { (linked { state := .up, unacked := [{ seq := 0, ftype := 0, payload := [], firstAt := 0 }] }).link 1 with replays := 1, progressAt := 1000 }, by decide +kernel⟩

theorem wit_fyx_flits_move_9 : ∃ (n : Nat) (s : State), (s.link n).state = .up ∧ (s.link n).heardAt + 32000 ≤ s.now ∧ memberOk s (s.link
    n).nPos = false :=
  ⟨1, { linked { state := .up } with now := 32000 }, by decide +kernel⟩

theorem wit_pack_commands_act_1 : ∃ (h : Hdr) (p : Bytes) (s : State) (m topo : Nat), Taken 0x0700 h p s ∧ resOk p [0xFF, 0xFF, 0, 0] =
    true ∧ m = fld p 0 1 ∧ topo = fld p 1 1 ∧ (popcount m 8 = 2 ∨ popcount m 8 = 4 ∨ (popcount m 8 = 8 ∧ s.glb.stepping ≠ 0xA0)) ∧ topo ≤
    2 ∧ (topo = 2 → popcount m 8 = 8) ∧ (maskBits m 8).head? = some s.glb.packPos.toNat ∧ s.pack.state = .single ∧ (List.range 32).any
    (runs s) = false :=
  ⟨hdr, [3, 0, 0, 0], live, 3, 0, by decide +kernel⟩

theorem wit_pack_commands_act_2 : ∃ (h : Hdr) (p : Bytes) (s : State), Taken 0x0701 h p s ∧ inPack s = true ∧ (List.range 32).any (runs s)
    = false :=
  ⟨hdr, [], { leading with streams := [] }, by decide +kernel⟩

theorem wit_pack_commands_act_3 : ∃ (h : Hdr) (p : Bytes) (s : State) (pos : Nat), Taken 0x0702 h p s ∧ resOk p [0x07, 0, 0, 0] = true ∧
    pos = bits (fld p 0 1) 0 3 ∧ inPack s = true ∧ pos ≠ s.glb.packPos.toNat ∧ memberOk s pos = true :=
  ⟨hdr, [1, 0, 0, 0], leading, 1, by decide +kernel⟩

theorem wit_pack_commands_act_4 : ∃ (h : Hdr) (p : Bytes) (s : State), Taken 0x0703 h p s ∧ 128 ≤ fld p 0 4 ∧ fld p 0 4 ≤ 8000 :=
  ⟨hdr, le 4 8000, live, by decide +kernel⟩

theorem wit_pack_formation_acts_1 : ∃ (n : Nat) (k : Packet) (s : State), s.running = true ∧ domainOn s 31 = true ∧ (s.link n).state = .up
    ∧ s.pack.seen.any (fun e => e.1 == k.src && e.2.1 == k.tag.toNat) = false :=
  ⟨1, toLeader 1 [], linked { state := .up }, by decide +kernel⟩

theorem wit_pack_formation_acts_2 : ∃ (k : Packet) (s : State), s.running = true ∧ domainOn s 31 = true ∧ k.dst = s.glb.packPos.toNat ∧
    s.pack.forming.isSome = true ∧ k.src ≠ s.glb.packPos.toNat ∧ (s.member k.src).info = [] :=
  ⟨toLeader 2 [], asking, by decide +kernel⟩

theorem wit_pack_formation_acts_3 : ∃ (k : Packet) (s : State), s.running = true ∧ domainOn s 31 = true ∧ k.dst = s.glb.packPos.toNat ∧
    s.pack.forming.isSome = true ∧ (s.member k.src).info ≠ [] :=
  ⟨toLeader 2 [], asking.setMember 1 { info := [1] }, by decide +kernel⟩

theorem wit_pack_formation_acts_4 : ∃ (k : Packet) (s : State), s.running = true ∧ domainOn s 31 = true ∧ k.dst = s.glb.packPos.toNat ∧
    s.pack.forming.isSome = true ∧ k.src ≠ s.glb.packPos.toNat :=
  ⟨toLeader 3 [1, 2], asking, by decide +kernel⟩

theorem wit_pack_formation_acts_5 : ∃ (h : Hdr) (m topo at_ : Nat) (s : State), s.running = true ∧ s.pack.forming = some (h, m, topo, at_)
    ∧ at_ + 5000000 ≤ s.now ∧ s.pack.epoch = 0 :=
  ⟨port, 3, 0, 0, { asking with now := 5000000 }, by decide +kernel⟩

theorem wit_pack_formation_acts_6 : ∃ (h : Hdr) (m topo at_ : Nat) (s : State), s.running = true ∧ s.pack.forming = some (h, m, topo, at_)
    ∧ at_ + 5000000 ≤ s.now ∧ s.pack.epoch = 0 ∧ positionsClash s (maskBits m 8) = false ∧ (maskBits m 8).all (fun q => q ==
    s.glb.packPos.toNat || disagreement s q == 0) = true ∧ (requiredLinks topo (packOrder topo m)).any (fun e => linksBetween s e.1 e.2.1
    < e.2.2) = false :=
  ⟨port, 3, 0, 0, agreeing, by decide +kernel⟩

theorem wit_pack_formation_acts_7 : ∃ (k : Packet) (lead : Nat) (s : State), s.running = true ∧ domainOn s 31 = true ∧ k.dst =
    s.glb.packPos.toNat ∧ s.pack.state = .single ∧ packBusy s = false :=
  ⟨toLeader 4 [3, 0, 0, 1], 77, fyx, by decide +kernel⟩

theorem wit_pack_formation_acts_8 : ∃ (k : Packet) (h : Hdr) (m topo at_ : Nat) (s u : State), s.running = true ∧ domainOn s 31 = true ∧
    k.dst = s.glb.packPos.toNat ∧ s.pack.state = .forming ∧ s.pack.forming = some (h, m, topo, at_) ∧ s.pack.epoch = 1 ∧ bit
    s.pack.members k.src = true ∧ u = s.setMember k.src
    { s.member k.src with state := 2, ackEpoch := k.epoch, contactAt := s.now, links := toMask ((List.range 4).filter (fun q => (nth none (portsOf s k.src) q).isSome)) }
    ∧ (maskBits m 8).all (fun p => (u.member p).state == 2) = true :=
  ⟨toLeader 0x11 [], port, 3, 0, 0, joining, joining.setMember 1 { state := 2, ackEpoch := 1 }, by decide +kernel⟩

theorem wit_pack_operations_act_1 : ∃ (k : Packet) (s : State), Heard k true s ∧ follows s = true ∧ k.src = s.pack.leaderPos ∧ k.arg.toNat
    ≠ ((s.pack.ops.find? (fun o => o.id == k.tag.toNat && !o.complete)).map (·.params.length)).getD 0 :=
  ⟨{ toFollower 0x10 [] with arg := 8 }, following, by decide +kernel⟩

theorem wit_pack_operations_act_2 : ∃ (k : Packet) (o : PackOp) (s : State), Heard k true s ∧ follows s = true ∧ k.src = s.pack.leaderPos
    ∧ s.pack.ops.find? (fun o => o.id == k.tag.toNat && !o.complete) = none ∧ k.arg = 0 ∧ o =
    { id := k.tag.toNat, epoch := k.epoch, opcode := fld k.data 0 2, params := k.data.drop 8, cmd := none, first := [], final := [], issuedAt := s.now, complete := decide (fld k.data 2 2 ≤ (k.data.drop 8).length), len := fld k.data 2 2 } :=
  ⟨toFollower 0x10 [3, 7, 4, 0, 0, 0, 0, 0, 128, 0, 0, 0], { id := 0, epoch := 1, opcode := 0x0703, params := [128, 0, 0, 0], cmd := none, first := [], final := [], issuedAt := 20000000, complete := true, len := 4 }, following, by decide +kernel⟩

theorem wit_pack_operations_act_3 : ∃ (k : Packet) (o : PackOp) (s : State), Heard k true s ∧ s.pack.ops.find? (fun o => o.id ==
    k.tag.toNat && o.complete && o.cmd.isNone) = some o ∧ o.opcode ≠ 0x0100 :=
  ⟨toFollower 0x12 [], packOp, { following with pack := { following.pack with ops := [packOp] } }, by decide +kernel⟩

theorem wit_pack_operations_act_4 : ∃ (k : Packet) (o : PackOp) (s : State), Heard k true s ∧ s.pack.ops.find? (fun o => o.id ==
    k.tag.toNat && o.cmd.isNone) = some o ∧ o.opcode ≠ 0x0100 :=
  ⟨toFollower 0x13 [], packOp, { following with pack := { following.pack with ops := [packOp] } }, by decide +kernel⟩

theorem wit_pack_operations_act_5 : ∃ (k : Packet) (s : State), Heard k false s ∧ follows s = true ∧ k.src = s.pack.leaderPos :=
  ⟨{ toFollower 0x14 [] with arg := 2 }, following, by decide +kernel⟩

theorem wit_pack_operations_act_6 : ∃ (id : Nat) (o : PackOp) (h : Hdr) (s : State), s.pack.ops.find? (fun o => o.id == id) = some o ∧
    o.cmd = some h ∧ s.running = true ∧ leads s = true ∧ o.agreed = false ∧ (peers s).any (fun p => !o.first.any (fun e => e.1 == p)) =
    true ∧ o.issuedAt + 1000 * o.limit ≤ s.now ∧ h.ring < 8 ∧ (peers s).all (fun m => (s.member m).missed == 0) = true :=
  ⟨0, { packOp with cmd := some hdr }, hdr, { leading with pack := { leading.pack with ops := [{ packOp with cmd := some hdr }] } }, by decide +kernel⟩

theorem wit_pack_time_acts_1 : ∃ (s : State), s.running = true ∧ leads s = true :=
  ⟨leading, by decide +kernel⟩

theorem wit_pack_time_acts_2 : ∃ (k : Packet) (s : State) (t : Nat), Heard k false s ∧ follows s = true ∧ k.src = s.pack.leaderPos ∧ t =
    (timeNs s).toNat :=
  ⟨toFollower 0x20 [], following, 20000000, by decide +kernel⟩

theorem wit_pack_time_acts_3 : ∃ (k : Packet) (s : State) (d : Int) (x : Member), Heard k false s ∧ leads s = true ∧ x = s.member k.src ∧
    d = ((fld k.data 0 8 - x.t1) - (timeNs s - fld k.data 8 8)) / 2 :=
  ⟨toLeader 0x21 (List.replicate 16 0), leading, -10000000, leading.member 1, by decide +kernel⟩

theorem wit_pack_time_acts_4 : ∃ (k : Packet) (s : State) (t2 t3 : Nat) (d : Int), Heard k false s ∧ follows s = true ∧ k.src =
    s.pack.leaderPos ∧ s.pack.sync = some (t2, t3) ∧ d = ((t2 - fld k.data 0 8) - (fld k.data 8 8 - t3)) / 2 :=
  ⟨toFollower 0x22 (List.replicate 16 0), { following with pack := { following.pack with sync := some (5, 7) } }, 5, 7, 6, by decide +kernel⟩

theorem wit_pack_time_acts_5 : ∃ (q : Nat) (s : State), s.running = true ∧ leads s = true ∧ memberOk s q = true :=
  ⟨1, leading, by decide +kernel⟩

theorem wit_pack_time_acts_6 : ∃ (s : State), s.running = true ∧ follows s = true ∧ s.pack.heardAt + 1000 * s.pack.timeout ≤ s.now :=
  ⟨following, by decide +kernel⟩

theorem wit_pack_time_acts_7 : ∃ (k : Packet) (s : State), Heard k true s ∧ follows s = true ∧ k.src = s.pack.leaderPos :=
  ⟨{ toFollower 0x15 [] with arg := 1 }, following, by decide +kernel⟩

theorem wit_pack_time_acts_8 : ∃ (k : Packet) (s : State), Heard k false s ∧ leads s = true ∧ k.arg.toNat % 256 = 2 :=
  ⟨{ toLeader 0x50 [] with arg := 2 }, leading, by decide +kernel⟩

theorem wit_pack_time_acts_9 : ∃ (q t : Nat) (s : State), (s.member q).ejectedAt = some t ∧ s.running = true ∧ leads s = true ∧ (s.member
    q).filled = false ∧ t + 1000 * s.pack.timeout ≤ s.now ∧ packStreams s = [] :=
  ⟨1, 0, leading.setMember 1 { state := 3, ejectedAt := some 0 }, by decide +kernel⟩

theorem wit_pack_frames_act_1 : ∃ (k : Packet) (b : Buf) (s : State), Heard k false s ∧ (s.stream k.index).inBufs[fld k.data 0 1]? = some
    b ∧ followsPack s k.index = true ∧ (s.stream k.index).state = .running :=
  ⟨toFollower 0x28 [0], bufOf (List.replicate 36 0), (pair_ following).setStream 0 { following.stream 0 with inBufs := [bufOf (List.replicate 36 0)] }, by decide +kernel⟩

theorem wit_pack_frames_act_2 : ∃ (k : Packet) (s : State), Heard k false s ∧ leads s = true ∧ packStream s k.index = true :=
  ⟨toLeader 0x29 [0, 0], pair_ leading, by decide +kernel⟩

theorem wit_pack_frames_act_3 : ∃ (k : Packet) (b : Buf) (s : State) (ph d i : Nat), Heard k false s ∧ followsPack s k.index = true ∧ ph =
    fld k.data 0 1 ∧ d = fld k.data 1 1 ∧ i = fld k.data 2 1 ∧ i ≠ 0xFF ∧ (Tab.get [] (s.stream k.index).outBufs d)[i]? = some b :=
  ⟨toFollower 0x2A [0, 0, 0], bufOf (List.replicate 36 0), (pair_ following).setStream 0 { following.stream 0 with outBufs := [(0, [bufOf (List.replicate 36 0)])] }, 0, 0, 0, by decide +kernel⟩

theorem wit_pack_frames_act_4 : ∃ (k : Packet) (s : State), Heard k false s ∧ leads s = true ∧ packStream s k.index = true ∧ fld k.data 8
    1 = 1 :=
  ⟨toLeader 0x2B [0, 0, 0, 0, 0, 0, 0, 0, 1], pair_ leading, by decide +kernel⟩

theorem wit_pack_frames_act_5 : ∃ (k : Packet) (own : Bool) (s u : State), Heard k false s ∧ leads s = true ∧ own = (decide (fld k.data 3
    1 = 1) && packStream s (fld k.data 2 1)) ∧ u =
    (match eventCounter (fld k.data 0 2) with | some c => if own then scAdd (fld k.data 2 1) c 1 s else s | none => s) :=
  ⟨toLeader 0x2C (List.replicate 32 0), false, leading, leading, by decide +kernel⟩

theorem wit_pack_frames_act_6 : ∃ (k : Packet) (r : Region) (s : State), Heard k false s ∧ packStream s k.index = true ∧ (s.stream
    k.index).regions.find? (fun r => r.mem == .kennel) = some r ∧ k.arg.toNat + k.data.length ≤ r.len :=
  ⟨toLeader 0x30 [1, 2, 3], { mem := .kennel, base := 0, len := 8192, rel := 0 }, (pair_ leading).setStream 0 (regioned.stream 0), by decide +kernel⟩

theorem wit_pack_frames_act_7 : ∃ (k : Packet) (base n : Nat) (s : State), Heard k false s ∧ packStream s k.index = true ∧ (s.stream
    k.index).counterBase = some (base, n) ∧ k.arg.toNat < n :=
  ⟨toLeader 0x31 (List.replicate 8 0), 4, 2, (pair_ leading).setStream 0 { leading.stream 0 with counterBase := some (4, 2) }, by decide +kernel⟩

theorem wit_pack_frames_act_8 : ∃ (k : Packet) (a : Nat) (s : State), Heard k false s ∧ ownedAt s k.index k.arg.toNat k.data.length = some
    (.kennel, a) ∧ (s.window k.index).write = true :=
  ⟨{ toLeader 0x40 [1, 2] with index := 5 }, 128, remoted, by decide +kernel⟩

theorem wit_pack_frames_act_9 : ∃ (k : Packet) (a n : Nat) (s : State), Heard k false s ∧ n = fld k.data 0 4 ∧ ownedAt s k.index
    k.arg.toNat n = some (.kennel, a) :=
  ⟨{ toLeader 0x41 (le 4 8) with index := 5 }, 128, 8, remoted, by decide +kernel⟩

theorem wit_pack_frames_act_10 : ∃ (k : Packet) (r : MemberRead) (s : State), Heard k false s ∧ s.pack.reads.find? (fun r => r.tag ==
    k.tag) = some r ∧ k.arg.toNat < 2 ^ 31 ∧ r.len ≤ (r.data ++ k.data).length :=
  ⟨toLeader 0x42 [1, 2, 3, 4, 5, 6, 7, 8], { tag := 0, cmd := hdr, dest := 4096, len := 8, data := [] }, { leading with pack := { leading.pack with reads := [{ tag := 0, cmd := hdr, dest := 4096, len := 8, data := [] }] } }, by decide +kernel⟩

theorem wit_pack_frames_act_11 : ∃ (k : Packet) (c : Nat) (s : State), Heard k false s ∧ (List.range 16).find? (fun c => (s.core
    c).remote.any (fun e => e.1 == (BitVec.ofNat 16 k.arg.toNat))) = some c :=
  ⟨toLeader 0x43 [], 0, remoted.setCore 0 { remoted.core 0 with remote := [(0, 5)] }, by decide +kernel⟩

theorem wit_pack_frames_act_12 : ∃ (k : Packet) (b : Bytes) (s u : State), Heard k false s ∧ debugBytes k.data [] s = (.ok, b, u) ∧ b ≠ [] :=
  ⟨toLeader 0x48 ([1, 1, 0, 0] ++ le 4 0 ++ le 4 128 ++ le 4 8 ++ le 8 0), List.replicate 8 0, { remoted with streams := remoted.streams }, { remoted with streams := remoted.streams }, by decide +kernel⟩

theorem wit_pack_frames_act_13 : ∃ (c since : Nat) (s : State), (s.core c).wait = .fenceRemote since ∧ (s.core c).remote ≠ [] ∧ since +
    1000 * s.pack.timeout ≤ s.now :=
  ⟨0, 0, leading.setCore 0 { leading.core 0 with wait := .fenceRemote 0, remote := [(0, 5)] }, by decide +kernel⟩

theorem wit_nop_result_1 : ∃ (b : Bytes), b.length = 64 ∧ fld b 0 2 = 0x0000 ∧ bit (fld b 4 1) 0 = false :=
  ⟨le 2 0x0000 ++ List.replicate 62 0, by decide +kernel⟩

theorem wit_nop_result_2 : ∃ (h : Hdr) (p : Bytes) (s : State), Taken 0x0000 h [] s :=
  ⟨{ hdr with fence := true }, [], live, by decide +kernel⟩

theorem wit_nop_result_3 : ∃ (h : Hdr) (p : Bytes) (s : State), h.ring < 8 ∧ h.fence = true ∧ earlier h s ≠ [] :=
  ⟨{ hdr with fence := true }, [], busy, by decide +kernel⟩

theorem wit_get_info_result_1 : ∃ (h : Hdr) (p : Bytes) (s : State), Taken 0x0001 h [] s :=
  ⟨port, [], live, by decide +kernel⟩

theorem wit_get_info_result_2 : ∃ (s : State) (b0 : Bool), s.glb.stepping = (if b0 then 0xB0 else 0xA0) ∧ s.otp.rollback ≤ 32 :=
  ⟨live, true, by decide +kernel⟩

theorem wit_stream_release_result_1 : ∃ (b : Bytes), b.length = 64 ∧ fld b 0 2 = 0x0203 ∧ bit (fld b 4 1) 0 = false :=
  ⟨le 2 0x0203 ++ List.replicate 62 0, by decide +kernel⟩

theorem wit_stream_release_result_2 : ∃ (h : Hdr) (p : Bytes) (s : State), Taken 0x0203 h p s ∧ resOk p [0x1F] = true ∧ ((s.stream (bits
    (fld p 0 1) 0 5)).state ≠ .configured ∨ (s.stream (bits (fld p 0 1) 0 5)).group ≠ none) :=
  ⟨hdr, [0, 0, 0, 0], live, by decide +kernel⟩

theorem wit_stream_release_result_3 : ∃ (h : Hdr) (p : Bytes) (s : State), Taken 0x0203 h p s ∧ resOk p [0x1F] = true ∧ (s.stream (bits
    (fld p 0 1) 0 5)).state = .configured ∧ (s.stream (bits (fld p 0 1) 0 5)).group = none :=
  ⟨hdr, [0, 0, 0, 0], ready, by decide +kernel⟩

theorem wit_vote_winner_1 : ∃ (v : VoteJob) (e : Nat) (l : List (Option (Nat × Nat))) (s : State), s.tve.running = some v ∧ (s.stream
    v.sc).bind.ensemble = some e ∧ l = treeResults (s.ensemble e) (frontStage (s.ensemble e).front v.features) v.bad :=
  ⟨{ sc := 0, frame := 1, features := [], degraded := false, startedAt := 0 }, 1, [some (3, 5)], voting, by decide +kernel⟩

theorem wit_duplicates_answer_1 : ∃ (ring : Nat) (b : Bytes) (tag : U16) (crc : U32) (e : InFlight) (s : State), ringsOpen s = true ∧
    arbiter (noteWaiting s) = some ring ∧ ring < 8 ∧ b.length = 64 ∧ crc32c (b.take 8 ++ [0, 0, 0, 0] ++ b.drop 12) = crc ∧ crc =
    BitVec.ofNat 32 (fld b 8 4) ∧ tag = BitVec.ofNat 16 (fld b 2 2) ∧ (s.ring ring).inFlight.find? (fun x => x.phase != .slotRead && x.tag
    == tag) = some e ∧ e.crc = crc :=
  ⟨2, nopSlot, 7, nopCrc, { tag := 7, opcode := 0, crc := nopCrc, fence := false, phase := .ready, params := [], paramCrc := 0, fetchedAt := 0, index := 0, clean := true, unrecorded := false }, fetching2 [{ tag := 7, opcode := 0, crc := nopCrc, fence := false, phase := .ready, params := [], paramCrc := 0, fetchedAt := 0, index := 0, clean := true, unrecorded := false }] [], by decide +kernel⟩

theorem wit_duplicates_answer_2 : ∃ (ring : Nat) (b : Bytes) (tag : U16) (crc : U32) (e : WinEntry) (s : State), ringsOpen s = true ∧
    arbiter (noteWaiting s) = some ring ∧ ring < 8 ∧ b.length = 64 ∧ crc32c (b.take 8 ++ [0, 0, 0, 0] ++ b.drop 12) = crc ∧ crc =
    BitVec.ofNat 32 (fld b 8 4) ∧ tag = BitVec.ofNat 16 (fld b 2 2) ∧ log2Ok (s.ring ring).cqLog2 = true ∧ (s.ring ring).inFlight.find?
    (fun x => x.phase != .slotRead && x.tag == tag) = none ∧ (s.ring ring).window.find? (fun x => x.tag == tag) = some e ∧ e.crc = crc :=
  ⟨2, nopSlot, 7, nopCrc, recordOf { ring := 2, tag := 7, crc := nopCrc } 0 .ok [], fetching2 [] [recordOf { ring := 2, tag := 7, crc := nopCrc } 0 .ok []], by decide +kernel⟩

theorem wit_duplicates_answer_3 : ∃ (ring : Nat) (b : Bytes) (tag : U16) (crc : U32) (s : State), ringsOpen s = true ∧ arbiter
    (noteWaiting s) = some ring ∧ ring < 8 ∧ b.length = 64 ∧ crc32c (b.take 8 ++ [0, 0, 0, 0] ++ b.drop 12) = crc ∧ crc = BitVec.ofNat 32
    (fld b 8 4) ∧ tag = BitVec.ofNat 16 (fld b 2 2) ∧ log2Ok (s.ring ring).cqLog2 = true ∧ ((∃ e, (s.ring ring).inFlight.find? (fun x =>
    x.phase != .slotRead && x.tag == tag) = some e ∧ e.crc ≠ crc) ∨ ((s.ring ring).inFlight.find? (fun x => x.phase != .slotRead && x.tag
    == tag) = none ∧ ∃ e, (s.ring ring).window.find? (fun x => x.tag == tag) = some e ∧ e.crc ≠ crc)) :=
  ⟨2, nopSlot, 7, nopCrc, fetching2 [] [recordOf { ring := 2, tag := 7, crc := 1 } 0 .ok []], ⟨by decide +kernel, by decide +kernel, by decide, by decide, by decide +kernel, by decide +kernel, by decide +kernel, by decide +kernel, .inr ⟨by decide +kernel, recordOf { ring := 2, tag := 7, crc := 1 } 0 .ok [], by decide +kernel, by decide +kernel⟩⟩⟩

theorem wit_checks_in_order_1 : ∃ (op : Nat) (h : Hdr) (p : Bytes) (len form state before after : List (Bool × Status)) (st : Status) (act
    : State → State) (s : State), canRun h s = true ∧ h.ring ≠ innerRing ∧ len ++ [(slotClean h s, .reservedNonzero)] ++ form ++ [(h.ring
    != 15 || onPort op, .notOnPort), (h.ring == 15 || h.ring == innerRing || onPort op || !s.follower, .notLeader), (!s.glb.testMode,
    .badState)] ++ state = before ++ (false, st) :: after ∧ before.all (·.1) = true :=
  ⟨0, hdr, [], [], [(false, .badField)], [], [(true, .reservedNonzero)], [(true, .notOnPort), (true, .notLeader), (true, .badState)], .badField, id, live, by decide +kernel⟩

theorem wit_checks_in_order_2 : ∃ (b : Bytes), opForm (fld b 0 2) = none :=
  ⟨le 2 0xFFFF, by decide +kernel⟩

theorem wit_events_are_placed_1 : ∃ (source code : Nat) (payload : Bytes) (s : State) (e : Event), s.evq.lostSince = 0 ∧ s.follower =
    false ∧ e =
    { code := code, source := source, seq := Tab.get 0 s.evq.seqs source, lostBefore := s.evq.lostSources.contains source, time := s.us, payload := pad 16 payload } :=
  ⟨srcDevice, 0x0702, [1], live, { code := 0x0702, source := srcDevice, seq := 0, lostBefore := false, time := 0, payload := pad 16 [1] }, by decide +kernel⟩

theorem wit_events_are_placed_2 : ∃ (source code : Nat) (payload : Bytes) (s : State), s.follower = true :=
  ⟨srcDevice, 0x0702, [1], following, by decide +kernel⟩

theorem wit_step_keeps_otp_1 : ∃ (o : Otp) (s t : State), o.le s.otp ∧ step s = .next t :=
  ⟨State.reset.otp, State.reset, tick State.reset, ⟨⟨fun k h => h, fun h => h, Nat.le_refl _, rfl⟩, rfl⟩⟩

theorem wit_step_consumes_one_1 : ∃ (s t : State), step s = .next t :=
  ⟨live, tick live, rfl⟩

theorem wit_only_their_commands_program_otp_1 : ∃ (c : Instr) (s t : State), exec c s = .next t ∧ (∀ h p, c ≠ .customerKeyProgram h p) ∧
    (∀ h p, c ≠ .debugLock h p) ∧ c ≠ .rollbackProgram :=
  ⟨.heartbeatTick, State.reset, State.reset, ⟨rfl, by simp, by simp, by simp⟩⟩

theorem wit_only_their_commands_program_otp_2 : ∃ (h : Hdr) (p : Bytes) (s t : State), exec (.customerKeyProgram h p) s = .next t :=
  ⟨hdr, [], State.reset, State.reset, rfl⟩

theorem wit_only_their_commands_program_otp_3 : ∃ (h : Hdr) (p : Bytes) (s t : State), exec (.debugLock h p) s = .next t :=
  ⟨hdr, [], State.reset, State.reset, rfl⟩

theorem wit_only_their_commands_program_otp_4 : ∃ (s t : State), exec .rollbackProgram s = .next t :=
  ⟨State.reset, State.reset, rfl⟩

theorem wit_memory_reads_back_3 : ∃ (m : Mem) (a n : Nat) (bs : Bytes) (s : State), memoriesWf s = true :=
  ⟨.dram, 5, 8, [1, 2], live, by decide +kernel⟩

theorem wit_requant_rounds_1 : ∃ (out rec : Nat) (zp a t y : Int), out ≤ 2 ∧ t = max (-2147483648) (min (a + signed 32 (bits rec 0 32))
    2147483647) ∧ ((bits rec 48 6 = 0 ∧ y = t * (bits rec 32 15 : Int)) ∨ (bits rec 48 6 ≠ 0 ∧ 2 * y * 2 ^ bits rec 48 6 ≤ 2 * (t * (bits
    rec 32 15 : Int)) + 2 ^ bits rec 48 6 ∧ 2 * (t * (bits rec 32 15 : Int)) + 2 ^ bits rec 48 6 < 2 * (y + 1) * 2 ^ bits rec 48 6)) :=
  ⟨0, 0x0001000300000000, 1, 5, 5, 8, by decide +kernel⟩

theorem wit_rollback_stays_in_range_1 : ∃ (s t : State), s.otp.rollback ≤ 32 ∧ step s = .next t :=
  ⟨live, tick live, ⟨by decide, rfl⟩⟩

theorem test_ill_header : Instr.wf (.nop { ring := 16, tag := 0 } []) = false := by decide

/-- Refused: position 8 names no device of a pack (14 R560). -/
theorem test_ill_packet : Instr.wf (.packInfo { kind := 0x06, src := 8, dst := 0 }) = false := by decide

/-- Refused: rings are 0 to 7 (03 R60). -/
theorem test_ill_ring : Instr.wf (.ringDisable 8) = false := by decide

/-- Refused: a bound holds on rings and on port 15 (03 R76, R100). -/
theorem test_ill_bound : Instr.wf (.commandBoundTimeout 9 0) = false := by decide

/-- Refused: the device signals vectors 0 to 9 (03 R69). -/
theorem test_ill_vector : Instr.wf (.interruptCoalesceTimeout 10) = false := by decide

/-- Refused: the windows are BAR0 and BAR2 (18 R727). -/
theorem test_ill_bar : Instr.wf (.poisonedTlpWrite 1) = false := by decide

/-- Refused: a block of the keep mirror has 64 words. -/
theorem test_ill_word : Instr.wf (.keepwUserWrite 64 0) = false := by decide

/-- Refused: streams are 0 to 31 (05 R183). -/
theorem test_ill_stream : Instr.wf (.sourceLostTimeout 32) = false := by decide

/-- Refused: CSI ports are 0 to 3 (00 R1). -/
theorem test_ill_port : Instr.wf (.csiFrameStart 4 0 1 false false) = false := by decide

/-- Refused: virtual channels are 0 to 15 (06 R225). -/
theorem test_ill_channel : Instr.wf (.csiFrameStart 0 16 1 false false) = false := by decide

/-- Refused: two IR lamp channels exist. -/
theorem test_ill_lamp : Instr.wf (.irledPulseStart 2) = false := by decide

/-- Refused: cores are 0 to 15 (04 R114). -/
theorem test_ill_core : Instr.wf (.qstat 16 0) = false := by decide

/-- Refused: SCU registers are 0 to 31 (08 R331). -/
theorem test_ill_register : Instr.wf (.qstat 0 32) = false := by decide

/-- Refused: a core has queues 0 and 1 (08 R329). -/
theorem test_ill_queue : Instr.wf (.twait 0 2 0) = false := by decide

/-- Refused: an event code of a core has 8 bits (08 R332). -/
theorem test_ill_code : Instr.wf (.evt 0 256) = false := by decide

/-- Refused: row counters are 0 to 4095. -/
theorem test_ill_counter : Instr.wf (.haloTimeout 0 0 0 0 4096 true) = false := by decide

/-- Refused: handles are 0 to 63 (04 R124). -/
theorem test_ill_handle : Instr.wf (.modelLoadCopyDone 64 none) = false := by decide

/-- Refused: descriptors are 0 to 7 (04 R130). -/
theorem test_ill_descriptor : Instr.wf (.outputComplete 0 1 0 8) = false := by decide

/-- Refused: alignment groups are 0 to 7 (04 R138). -/
theorem test_ill_group : Instr.wf (.groupWindowExpiry 8) = false := by decide

/-- Refused: sensors are 0 to 19 (17 R694). -/
theorem test_ill_sensor : Instr.wf (.thermalTrip 20) = false := by decide

/-- Refused: FyxLink ports are 0 to 3 (spec/14, overview). -/
theorem test_ill_fyxlink : Instr.wf (.fyxDownRetryTimeout 4) = false := by decide

/-- Refused: pack positions are 0 to 7 (14 R560). -/
theorem test_ill_position : Instr.wf (.leaderContactTimeout 8) = false := by decide

/-- The last number of each range is well formed. -/
theorem test_well_formed : ([.ringDisable 7, .commandBoundTimeout 15 0, .interruptCoalesceTimeout 9, .poisonedTlpWrite 2, .keepwUserWrite 63 0, .sourceLostTimeout 31,
    .csiFrameStart 3 15 1 false false, .irledPulseStart 1, .qstat 15 31, .twait 0 1 0, .evt 0 255, .haloTimeout 0 0 0 0 4095 true, .modelLoadCopyDone 63 none,
    .outputComplete 0 1 0 7, .groupWindowExpiry 7, .thermalTrip 19, .fyxDownRetryTimeout 3, .leaderContactTimeout 7] : List Instr).all Instr.wf = true := by decide

/-- The TILE_SEQ values of the worked example of spec/09: curve (6, 4), row by row. -/
theorem test_curve_six_by_four : (List.range 4).map (fun y => (List.range 6).map (fun x => (curve 6 4).idxOf (x, y))) =
    [[0, 1, 2, 21, 22, 23], [5, 4, 3, 20, 19, 18], [6, 9, 10, 13, 14, 17], [7, 8, 11, 12, 15, 16]] := by decide

/-- The TS2 word of lane 5 at POS 3, ACK 1, PORT 2, RATE 1 by the table of 14 R557, bit field by bit field. -/
theorem test_ordered_set_word : setWord .ts2 5 3 2 1 true = 0x46594C4B0006B52D := by decide

/-- An inverted lane shows sync header 0b01 and MAGIC 0xB9A6_B3B4 (14 R558). -/
theorem test_inverted_lane : blockWord ⟨1, 0xB9A6B3B4FFFFFFE1⟩ = some (0x46594C4B0000001E, true) := by decide

end Sys2Proof.Tests
end

section
/-! Laws of DRAM channels, core voltage and operating points (02 R31; 11 R487, R488; 17 R671, R683, R684), and the proof of O35. -/
namespace Sys2Proof.Machine

/-! ### DRAM channels (11 R487, R488) -/

@[simp] theorem errAdd_now (off n : Nat) (s : State) : (errAdd off n s).now = s.now := rfl

/-- An up channel that is not yet retraining starts to: the start is noted and every admitted stream is delayed. -/
theorem exec_dramRetrainStart (k : Nat) (s : State) (hup : (s.channel k).up = true) (hidle : (s.channel k).retrainingSince = none) :
    exec (.dramRetrainStart k) s =
      .next ((admittedList s).foldl (fun s i => delayBy i 2 s) (s.setChannel k { s.channel k with retrainingSince := some s.now })) := by
  change execDramRetrainStart k s = _
  simp [execDramRetrainStart, hup, hidle]

/-- The state that reports the end of a retraining which began at t: counted, and DRAM_RETRAINED emitted. -/
def retrainedReport (k rate t : Nat) (s : State) : State :=
  emit srcDevice 0x0505 (le 1 k ++ le 1 0 ++ le 2 rate ++ le 2 ((s.now - t) / 1000))
    (errAdd 0x15C 1 (s.setChannel k { s.channel k with retrainingSince := none }))

/-- The end of a retraining is reported; a rate below the one in force revokes every certificate. -/
theorem exec_dramRetrained (k rate t : Nat) (s : State) (hsince : (s.channel k).retrainingSince = some t) :
    exec (.dramRetrained k rate) s =
      .next (if rate < s.dram.rate
        then revokeCerts 2 (fun _ => true)
          { retrainedReport k rate t s with dram := { (retrainedReport k rate t s).dram with rate := rate } }
        else retrainedReport k rate t s) := by
  change execDramRetrained k rate s = _
  simp only [execDramRetrained, hsince, retrainedReport, errAdd_now, State.setChannel_now]

/-- A retraining channel that fails is down: what waits for it ends, it is reported, and every certificate is revoked. -/
theorem exec_dramChannelDown (k : Nat) (s : State) (hsince : (s.channel k).retrainingSince.isSome = true) :
    exec (.dramChannelDown k) s =
      .next (revokeCerts 2 (fun _ => true) ((s.channel k).queue.foldl (fun s t => finishTx t 0 s)
        (emit srcDevice 0x0506 (le 1 k) (iacDropChannel k (s.setChannel k { up := false }))))) := by
  change execDramChannelDown k s = _
  simp only [execDramChannelDown, hsince, if_true]

/-! ### The core voltage (17 R671, R683, R684) -/

/-- A code other than the one in force is driven on the pins and noted with its time. -/
theorem driveAvs_of_ne (v : Nat) (s : State) (hne : v ≠ s.pwr.avs.toNat) :
    driveAvs v s = { s.send (.pin .avsVid 0 v) with pwr := { s.pwr with avs := BitVec.ofNat 4 v, avsAt := s.now } } :=
  if_neg hne

@[simp] theorem fastest_setPwr (s : State) (settled : Bool) :
    fastest { s with pwr := { s.pwr with avsSettled := settled } } = fastest s := rfl

section
variable (margin : Int) (s : State) (hrun : s.running = true)
include hrun

/-- Below the band of the fastest clock the code goes one step up. -/
theorem exec_avsTick_below (hlow : s.pwr.avs.toNat < (avsBand (fastest s)).1) :
    exec (.avsTick margin) s = .next (driveAvs (s.pwr.avs.toNat + 1) s) := by
  change execAvsTick margin s = _
  simp [execAvsTick, hrun, hlow, Nat.not_le.mpr hlow]

/-- Above the band the code goes one step down. -/
theorem exec_avsTick_above (hordered : (avsBand (fastest s)).1 ≤ (avsBand (fastest s)).2)
    (hhigh : (avsBand (fastest s)).2 < s.pwr.avs.toNat) :
    exec (.avsTick margin) s = .next (driveAvs (s.pwr.avs.toNat - 1) s) := by
  have hnotLow : ¬ s.pwr.avs.toNat < (avsBand (fastest s)).1 := by omega
  change execAvsTick margin s = _
  simp [execAvsTick, hrun, hhigh, hnotLow, Nat.not_le.mpr hhigh]

/-- Within the band, with a slack of one to two steps on the path monitors, the code stays and counts as settled. -/
theorem exec_avsTick_settled (hlo : (avsBand (fastest s)).1 ≤ s.pwr.avs.toNat) (hhi : s.pwr.avs.toNat ≤ (avsBand (fastest s)).2)
    (hwork : fastest s ≠ 0) (hm1 : 1 ≤ margin) (hm2 : margin < 2) :
    exec (.avsTick margin) s = .next { s with pwr := { s.pwr with avsSettled := true } } := by
  change execAvsTick margin s = _
  simp [execAvsTick, hrun, hlo, hhi, hwork, Int.not_lt.mpr hm1, Int.not_le.mpr hm2, Nat.not_lt.mpr hlo, Nat.not_lt.mpr hhi]

end

/-- The bands of 17 R671 are ordered. -/
theorem avsBand_ordered (f : Nat) : (avsBand f).1 ≤ (avsBand f).2 := by
  unfold avsBand
  split_ifs <;> decide

/-- While a raise needs a higher code, one code per 20 us is driven; the step touches nothing else but the cores' pending changes. -/
theorem exec_avsCodeStep (s : State) (hrun : s.running = true) (hneed : s.pwr.avs.toNat < neededCode s)
    (hdue : s.pwr.avsAt + 20000 ≤ s.now) :
    ∃ t, exec .avsCodeStep s = .next t ∧ t.pwr = (driveAvs (s.pwr.avs.toNat + 1) s).pwr ∧
      t.sent = (driveAvs (s.pwr.avs.toNat + 1) s).sent := by
  refine ⟨_, (show exec .avsCodeStep s = _ from congrArg Host.Outcome.next (if_pos ?_)), rfl, rfl⟩
  simp [hrun, hneed, hdue]

/-! ### Operating points (02 R31, 17 R684) -/

/-- A change of operating point holds once done; a raise is done only where the voltage code has reached its band. -/
theorem exec_operatingPointChangeDone (c op t : Nat) (s : State) (hnext : (s.core c).opNext = some (op, t))
    (hcode : op ≤ (s.core c).op ∨ (avsBand (mhz op)).1 ≤ s.pwr.avs.toNat) :
    exec (.operatingPointChangeDone c) s = .next (s.setCore c { s.core c with op := op, opNext := none }) := by
  have hfree : ¬ ((s.core c).op < op ∧ s.pwr.avs.toNat < (avsBand (mhz op)).1) := by omega
  change execOperatingPointChangeDone c s = _
  simp [execOperatingPointChangeDone, hnext, hfree]

/-- Settles O35: each clause is the law of its command. -/
theorem dramAndClocksAct : Obligations.DramAndClocksAct := by
  unfold Obligations.DramAndClocksAct
  refine ⟨exec_dramRetrainStart, ?_, exec_dramChannelDown, ?_, exec_avsCodeStep, exec_operatingPointChangeDone⟩
  · rintro k rate t s u hsince rfl
    exact exec_dramRetrained k rate t s hsince
  · rintro margin s lo hi v hrun hband rfl
    obtain ⟨rfl, rfl⟩ := Prod.mk.inj hband
    exact ⟨exec_avsTick_below margin s hrun, exec_avsTick_above margin s hrun (avsBand_ordered _),
      exec_avsTick_settled margin s hrun, driveAvs_of_ne _ s (Nat.succ_ne_self _)⟩

end Sys2Proof.Machine
end

section
/-! Laws of the thermal state (02 R50 to R53; 17 R694 to R698), and the proof of O39. -/
namespace Sys2Proof.Machine

/-! ### Samples (17 R670, R694) -/

/-- A device that runs is not tripped (17 R669, R698). -/
theorem tripped_of_running {s : State} (hrun : s.running = true) : s.pwr.tripped = false := by
  simp only [State.running, Bool.and_eq_true, Bool.not_eq_true'] at hrun
  exact hrun.1.2

@[simp] theorem takeSamples_running (l : List Int) (s : State) : (takeSamples l s).running = s.running := rfl

/-- A table after puts at several keys: each of these holds its new entry, every other key what it held. -/
theorem tab_get_foldl_put {α : Type} (d : α) (f : Nat → α) (ks : List Nat) (t : Tab α) (k : Nat) :
    Tab.get d (ks.foldl (fun t n => Tab.put t n (f n)) t) k = if k ∈ ks then f k else Tab.get d t k := by
  induction ks generalizing t with
  | nil => simp
  | cons j ks ih =>
    rw [List.foldl_cons, ih]
    by_cases hk : k = j
    · subst hk; simp [tab_get_put]
    · simp [hk, tab_get_put_ne _ _ _ _ _ hk]

/-- A sensor whose domain is powered holds the sample taken of it. -/
theorem temp_takeSamples (n : Nat) (l : List Int) (s : State) (hn : n < 20) (hvalid : sensorValid s n = true) :
    Tab.get 0 (takeSamples l s).pwr.temp n = nth 0 l n := by
  have hmem : n ∈ (List.range 20).filter (sensorValid s) := by simp [hn, hvalid]
  exact (tab_get_foldl_put 0 (nth 0 l) _ s.pwr.temp n).trans (if_pos hmem)

section
variable (l : List Int) (s : State) (hrun : s.running = true) (hrails : s.pwr.rails = true) (hporst : s.pwr.porst = false)
include hrun hrails hporst

/-- A sensor at 115 degrees makes a device critical that was not. -/
theorem exec_thermalSample_critical (hstate : (takeSamples l s).pwr.thermal ≠ .critical)
    (hhot : (readings (takeSamples l s)).any (115 ≤ ·) = true) :
    exec (.thermalSample l) s = .next (enterCritical (takeSamples l s)) := by
  change execThermalSample l s = _
  simp only [execThermalSample, hrails, hporst, tripped_of_running hrun, takeSamples_running, hrun, hhot]
  simp [hstate]

/-- A sensor at 100 degrees, none at 115, makes a device warn that was normal. -/
theorem exec_thermalSample_warning (hstate : (takeSamples l s).pwr.thermal = .normal)
    (hwarm : (readings (takeSamples l s)).any (100 ≤ ·) = true) (hnotHot : (readings (takeSamples l s)).any (115 ≤ ·) = false) :
    exec (.thermalSample l) s = .next (settleAlert (thermalEvent 0x0202
      { takeSamples l s with pwr := { (takeSamples l s).pwr with thermal := .warning } })) := by
  change execThermalSample l s = _
  simp only [execThermalSample, hrails, hporst, tripped_of_running hrun, takeSamples_running, hrun, hwarm, hnotHot]
  simp [hstate]

/-- Where no sensor reads 100 degrees, a sample is only stored. -/
theorem exec_thermalSample_cool (hcool : (readings (takeSamples l s)).any (100 ≤ ·) = false)
    (hnotHot : (readings (takeSamples l s)).any (115 ≤ ·) = false) :
    exec (.thermalSample l) s = .next (takeSamples l s) := by
  change execThermalSample l s = _
  simp only [execThermalSample, hrails, hporst, tripped_of_running hrun, takeSamples_running, hrun, hcool, hnotHot]
  simp

end

/-! ### Degrade steps (17 R695, R696) -/

/-- The streams a degrade step can act on, in the order of 17 R695: running or draining, below level 4. -/
def degradable (s : State) : List Nat :=
  (byPriority s).filter (fun i => ((s.stream i).state == .running || (s.stream i).state == .draining) && (s.stream i).level < 4)

/-- The state in which a degrade step is noted as taken now. -/
def degradeNoted (s : State) : State := { s with pwr := { s.pwr with degradeAt := s.now } }

section
variable {s : State} (hrun : s.running = true) (hcritical : s.pwr.thermal = .critical)
  (hhot : (readings s).any (115 ≤ ·) = true) (hdue : s.pwr.degradeAt + 100000000 ≤ s.now)
include hrun hcritical hhot hdue

/-- The guard of a degrade step: 100 ms of critical heat since the last one. -/
theorem degradeStep_guard : (s.running && s.pwr.thermal == .critical && (readings s).any (115 ≤ ·) &&
    decide (s.pwr.degradeAt + 100000000 ≤ s.now)) = true := by
  rw [hrun, hcritical, hhot, decide_eq_true hdue]
  rfl

/-- A degrade step that is due takes the lowest-ranked degradable stream to its next level. -/
theorem exec_thermalDegradeStep_stream {i : Nat} (hlast : (degradable (degradeNoted s)).getLast? = some i) :
    exec .thermalDegradeStep s = .next (degrade i (degradeNoted s)) := by
  unfold degradable degradeNoted at hlast
  change execThermalDegradeStep s = _
  simp only [execThermalDegradeStep, degradeStep_guard hrun hcritical hhot hdue, if_true, hlast, degradeNoted]

/-- With no degradable stream left, a degrade step ends the active job with the lowest JOB_ID. -/
theorem exec_thermalDegradeStep_job {j : Nat} (hnone : degradable (degradeNoted s) = [])
    (hjob : (activeJobs (degradeNoted s)).head? = some j) :
    exec .thermalDegradeStep s = .next (endJob false Status.thermalCritical.code j (degradeNoted s)) := by
  unfold degradable degradeNoted at hnone
  unfold degradeNoted at hjob
  change execThermalDegradeStep s = _
  simp only [execThermalDegradeStep, degradeStep_guard hrun hcritical hhot hdue, if_true, hnone, List.getLast?_nil, hjob, degradeNoted]

end

/-! ### Recovery and the trip (17 R694, R697, R698) -/

/-- The guard of the two timeouts of 17 R694: the state they leave, held for 1 s since the sensors came below its limit. -/
theorem coolingTimeout_guard {s : State} {x : Thermal} {t : Nat} (hrun : s.running = true) (hstate : s.pwr.thermal = x)
    (hdue : t + 1000000000 ≤ s.now) : (s.running && s.pwr.thermal == x && decide (t + 1000000000 ≤ s.now)) = true := by
  rw [hrun, hstate, decide_eq_true hdue, beq_self_eq_true]
  rfl

/-- 1 s after every sensor came below 110 degrees a critical device goes to warning and every stream to level 0; the streams are
certified anew. -/
theorem exec_thermalRecoveryTimeout (s : State) (t : Nat) (hrun : s.running = true) (hcritical : s.pwr.thermal = .critical)
    (hcool : s.pwr.coolSince = some t) (hdue : t + 1000000000 ≤ s.now) :
    exec .thermalRecoveryTimeout s = .next (settleAlert (settleOps (recertify ((List.range 32).foldl
      (fun s i => if (s.stream i).level = 0 then s else undegrade i s)
      (thermalEvent 0x0204 { s with pwr := { s.pwr with thermal := .warning } }))))) := by
  change execThermalRecoveryTimeout s = _
  simp only [execThermalRecoveryTimeout, hcool, coolingTimeout_guard hrun hcritical hdue, if_true]

/-- 1 s after every sensor came below 95 degrees a device that warns is normal again. -/
theorem exec_thermalClearTimeout (s : State) (t : Nat) (hrun : s.running = true) (hwarning : s.pwr.thermal = .warning)
    (hclear : s.pwr.clearSince = some t) (hdue : t + 1000000000 ≤ s.now) :
    exec .thermalClearTimeout s =
      .next (settleAlert (thermalEvent 0x0204 { s with pwr := { s.pwr with thermal := .normal } })) := by
  change execThermalClearTimeout s = _
  simp only [execThermalClearTimeout, hclear, coolingTimeout_guard hrun hwarning hdue, if_true]

/-- A trip latches its sensor, drives THERMTRIP_N and leaves nothing but what every reset leaves. -/
theorem exec_thermalTrip (n : Nat) (s : State) (hrails : s.pwr.rails = true) (hporst : s.pwr.porst = false)
    (harmed : s.pwr.tripped = false) :
    ∃ t, exec (.thermalTrip n) s = .next t ∧ t.keep.trip = some n ∧ t.pwr.tripped = true ∧ t.pwr.thermtrip = true ∧
      Sent.pin .thermtripN 0 0 ∈ t.sent ∧ t.otp = s.otp ∧ t.streams = [] ∧ t.rings = [] ∧ t.models = [] := by
  refine ⟨_, (show exec (.thermalTrip n) s = _ from congrArg Host.Outcome.next (if_pos ?_)), rfl, rfl, rfl, ?_, ?_⟩
  · simp [hrails, hporst, harmed]
  · simp
  · cases s.pwr.alert <;> exact ⟨rfl, rfl, rfl, rfl⟩

/-- Settles O39: each clause is the law of its command. -/
theorem thermalActs : Obligations.ThermalActs := by
  unfold Obligations.ThermalActs
  refine ⟨?_, temp_takeSamples, ?_, ?_, exec_thermalRecoveryTimeout, exec_thermalClearTimeout, exec_thermalTrip⟩
  · rintro l s u hrun hrails hporst rfl
    exact ⟨exec_thermalSample_critical l s hrun hrails hporst, exec_thermalSample_warning l s hrun hrails hporst,
      exec_thermalSample_cool l s hrun hrails hporst⟩
  · rintro s u i hrun hcritical hhot hdue rfl hlast
    exact exec_thermalDegradeStep_stream hrun hcritical hhot hdue hlast
  · rintro s u j hrun hcritical hhot hdue rfl hnone hjob
    exact exec_thermalDegradeStep_job hrun hcritical hhot hdue hnone hjob

end Sys2Proof.Machine
end

section
/-! Facts about the command transport that several statements use (03 R71, R72, R78): folds that keep a field, the messages of an
interrupt, the arbiter's notes, the in-flight sets. -/
namespace Sys2Proof.Machine

/-- What each step of a fold keeps, the fold keeps. -/
theorem foldl_keeps {α β σ : Type} (field : σ → β) {f : σ → α → σ} (hstep : ∀ s a, field (f s a) = field s) (l : List α)
    (s : σ) : field (l.foldl f s) = field s :=
  (List.foldl_hom field (g₂ := fun x _ => x) fun s a => (hstep s a).symm).symm.trans (List.foldl_fixed l)

/-! ### Interrupts -/

@[simp] theorem evq_signal (v : Nat) (s : State) : (signal v s).evq = s.evq := by
  rw [signal_eq]

/-- A signal only adds to the messages sent. -/
theorem sent_signal (v : Nat) (s : State) : ∃ l, (signal v s).sent = s.sent ++ l := by
  unfold signal
  split
  · exact ⟨_, rfl⟩
  · exact ⟨[], (List.append_nil _).symm⟩

theorem mem_sent_signal (v : Nat) {s : State} {m : Sent} (hm : m ∈ s.sent) : m ∈ (signal v s).sent := by
  obtain ⟨l, hl⟩ := sent_signal v s
  exact hl ▸ List.mem_append_left l hm

/-! ### The notes of the arbiter (03 R72) -/

/-- The ring but for the note since when it waits to be fetched from. -/
def Ring.unnoted (r : Ring) : Ring := { r with waitingSince := none }

/-- The state but for its rings. -/
def State.ringless (s : State) : State := { s with rings := [] }

/-- Two rings that differ in that note alone agree in what fetches and duplicates rest on. -/
theorem unnoted_fields {q r : Ring} (h : q.unnoted = r.unnoted) :
    q.sqHead = r.sqHead ∧ q.inFlight = r.inFlight ∧ q.window = r.window ∧ q.cqLog2 = r.cqLog2 :=
  ⟨(congrArg Ring.sqHead h :), (congrArg Ring.inFlight h :), (congrArg Ring.window h :), (congrArg Ring.cqLog2 h :)⟩

/-- Two states that differ in their rings alone agree in what is no report, in the messages sent and in whether the rings are open. -/
theorem ringless_fields {s t : State} (h : t.ringless = s.ringless) :
    t.quiet = s.quiet ∧ t.sent = s.sent ∧ ringsOpen t = ringsOpen s :=
  ⟨(congrArg State.quiet h :), (congrArg State.sent h :), (congrArg ringsOpen h :)⟩

theorem ringless_noteRing (n : Nat) (s : State) : (noteRing n s).ringless = s.ringless := by
  unfold noteRing
  dsimp only
  split_ifs <;> rfl

theorem unnoted_noteRing (n m : Nat) (s : State) : ((noteRing n s).ring m).unnoted = (s.ring m).unnoted := by
  by_cases hm : m = n
  · subst hm
    unfold noteRing
    dsimp only
    split_ifs <;> simp [Ring.unnoted]
  · rw [(noteRing_spec n s).2.2.2.1 m hm]

theorem ringless_noteWaiting (s : State) : (noteWaiting s).ringless = s.ringless :=
  foldl_keeps State.ringless (fun s n => ringless_noteRing n s) _ s

theorem unnoted_noteWaiting (m : Nat) (s : State) : ((noteWaiting s).ring m).unnoted = (s.ring m).unnoted :=
  foldl_keeps (fun s => (State.ring s m).unnoted) (fun s n => unnoted_noteRing n m s) _ s

/-! ### The in-flight sets (03 R71) -/

@[simp] theorem inFlight_setInFlight (s : State) (n : Nat) (l : List InFlight) : (s.setInFlight n l).inFlight n = l := by
  unfold State.setInFlight State.inFlight
  split_ifs
  · rfl
  · rw [ring_setRing]

@[simp] theorem reads_setInFlight (s : State) (n : Nat) (l : List InFlight) : (s.setInFlight n l).reads = s.reads := by
  unfold State.setInFlight
  split_ifs <;> rfl

@[simp] theorem cnt_setInFlight (s : State) (n : Nat) (l : List InFlight) : (s.setInFlight n l).cnt = s.cnt := by
  unfold State.setInFlight
  split_ifs <;> rfl

/-- On a submission ring, the entry that waits for a slot leaves the ring's in-flight set. -/
theorem dropSlot_eq {ring : Nat} (index : Nat) (s : State) (hring : ring ≠ 15) :
    dropSlot ring index s = s.setRing ring { s.ring ring with
      inFlight := (s.ring ring).inFlight.filter (fun e => !(e.phase == .slotRead && e.index.toNat == index)) } := by
  simp only [dropSlot, State.setInFlight, State.inFlight, if_neg hring]

/-! ### Fetching a slot (03 R71, R72) -/

/-- The in-flight entry of a slot that is being read at a time. -/
def awaitedEntry (index : U16) (now : Nat) : InFlight :=
  { tag := 0, opcode := 0, crc := 0, fence := false, phase := .slotRead, params := [], paramCrc := 0,
    fetchedAt := now, index := index, clean := true, unrecorded := false }

/-- The count of fetches that overtook a waiting lower ring, after a fetch from a ring (03 R72). -/
def overtaken (ring : Nat) (s : State) : Nat :=
  if (List.range ring).any (fun n => fetchable (s.ring n)) then s.glb.overtakes + 1 else 0

/-- The state in which the read of a ring's next slot begins: the slot is taken and awaited, the overtaken rings are counted. -/
def awaitSlot (ring : Nat) (s : State) : State :=
  let u := s.setRing ring { s.ring ring with
    sqHead := (s.ring ring).sqHead + 1, waitingSince := none,
    inFlight := (s.ring ring).inFlight ++ [awaitedEntry (s.ring ring).sqHead s.now] }
  noteRing ring { u with glb := { u.glb with overtakes := overtaken ring s } }

/-- A slot that is awaited is one entry more in flight, and its index is passed; the ring is otherwise as it was. -/
theorem unnoted_awaitSlot (ring : Nat) (s : State) :
    ((awaitSlot ring s).ring ring).unnoted = Ring.unnoted { s.ring ring with
      sqHead := (s.ring ring).sqHead + 1, inFlight := (s.ring ring).inFlight ++ [awaitedEntry (s.ring ring).sqHead s.now] } :=
  (unnoted_noteRing ring ring _).trans (congrArg Ring.unnoted (ring_setRing s ring _) :)

/-- The place of a ring and its in-flight set once its next slot is awaited. -/
theorem ring_awaitSlot (ring : Nat) (s : State) : ((awaitSlot ring s).ring ring).sqHead = (s.ring ring).sqHead + 1 ∧
    ((awaitSlot ring s).ring ring).inFlight = (s.ring ring).inFlight ++ [awaitedEntry (s.ring ring).sqHead s.now] := by
  obtain ⟨hhead, hflight, -⟩ := unnoted_fields (unnoted_awaitSlot ring s)
  exact ⟨hhead, hflight⟩

/-- Beside the rings, awaiting a slot changes the count of overtaking fetches alone. -/
theorem ringless_awaitSlot (ring : Nat) (s : State) :
    (awaitSlot ring s).ringless = { s with glb := { s.glb with overtakes := overtaken ring s } }.ringless :=
  ringless_noteRing ring _

section
variable {ring : Nat} {s : State} (hopen : ringsOpen s = true) (hnext : arbiter (noteWaiting s) = some ring)
include hopen hnext

/-- The guard of a slot fetch. -/
theorem slotFetch_guard : (ringsOpen (noteWaiting s) && decide (arbiter (noteWaiting s) = some ring)) = true := by
  rw [(ringless_fields (ringless_noteWaiting s)).2.2, hopen, hnext, decide_eq_true rfl]
  rfl

/-- The slot of the ring that is next, with its bytes, arrives at once. -/
theorem exec_slotFetch_bytes (b : Bytes) :
    exec (.slotFetch ring (some b)) s =
      .next (slotArrived ring ((noteWaiting s).ring ring).sqHead.toNat b (awaitSlot ring (noteWaiting s))) := by
  have hguard := slotFetch_guard hopen hnext
  change execSlotFetch ring (some b) s = _
  unfold execSlotFetch
  generalize noteWaiting s = w at hguard ⊢
  exact congrArg Host.Outcome.next (if_pos hguard)

/-- Without its bytes, the slot is read from its place in the submission ring. -/
theorem exec_slotFetch_read :
    exec (.slotFetch ring none) s = .next (startRead (.slot ring ((noteWaiting s).ring ring).sqHead.toNat)
      (((noteWaiting s).ring ring).sqBase.toNat
        + 64 * (((noteWaiting s).ring ring).sqHead.toNat % 2 ^ ((noteWaiting s).ring ring).sqLog2.toNat)) 64
      (awaitSlot ring (noteWaiting s))) := by
  have hguard := slotFetch_guard hopen hnext
  change execSlotFetch ring none s = _
  unfold execSlotFetch
  generalize noteWaiting s = w at hguard ⊢
  exact congrArg Host.Outcome.next (if_pos hguard)

end

end Sys2Proof.Machine
end

section
/-! Duplicates in the transport (03 R81 to R84): what a slot that repeats a tag does when it arrives, and the proof of O51. -/
namespace Sys2Proof.Machine

/-- The slot CRC of 03 R65 holds. -/
def slotIntact (b : Bytes) : Prop := b.length = 64 ∧ crc32c (b.take 8 ++ [0, 0, 0, 0] ++ b.drop 12) = BitVec.ofNat 32 (fld b 8 4)

/-- The header of a slot that has come from a ring (03 R64). -/
def slotHdr (ring : Nat) (b : Bytes) : Hdr :=
  { ring := ring, tag := BitVec.ofNat 16 (fld b 2 2), crc := BitVec.ofNat 32 (fld b 8 4), fence := bit (fld b 4 1) 1 }

/-- The command in flight of a list that a slot's tag names: slots that are still being read have none (03 R82). -/
def sameTag (tag : U16) (l : List InFlight) : Option InFlight := l.find? (fun e => e.phase != .slotRead && e.tag == tag)

/-- A slot that is still being read is no command in flight. -/
theorem sameTag_append_awaited (tag : U16) (l : List InFlight) (index : U16) (now : Nat) :
    sameTag tag (l ++ [awaitedEntry index now]) = sameTag tag l := by
  simp [sameTag, awaitedEntry, List.find?_append]

/-- A record for a ring goes to its completion ring. -/
theorem deliver_ring {h : Hdr} (r : Record) (s : State) (hring : h.ring ≠ 15) : deliver h r true s = writeRecord h.ring r s := by
  simp [deliver, hring]

/-! ### A duplicate arrives (03 R82) -/

/-- The guard of a slot's CRC. -/
theorem slotIntact_guard {b : Bytes} (hintact : slotIntact b) : (decide (b.length ≠ 64) ||
    decide (crc32c (b.take 8 ++ [0, 0, 0, 0] ++ b.drop 12) ≠ BitVec.ofNat 32 (fld b 8 4))) = false := by
  rw [hintact.1, hintact.2]
  simp

section
variable {ring : Nat} (index : Nat) {b : Bytes} {s : State} (hring : ring ≠ 15) (hintact : slotIntact b)
include hring hintact

/-- The slot of a command in flight: an equal CRC is dropped without a record, another one is TAG_IN_USE. -/
theorem slotArrived_inFlight {e : InFlight} (hsame : sameTag (BitVec.ofNat 16 (fld b 2 2)) (s.ring ring).inFlight = some e) :
    slotArrived ring index b s = if e.crc = BitVec.ofNat 32 (fld b 8 4) then dropSlot ring index s
      else answer (slotHdr ring b) (fld b 0 2) .tagInUse (dropSlot ring index s) := by
  unfold sameTag at hsame
  simp only [slotArrived, slotIntact_guard hintact, State.inFlight, if_neg hring, hsame]
  rfl

/-- The slot of a completed command in the window: an equal CRC replays its record, another one is TAG_IN_USE. -/
theorem slotArrived_window {e : WinEntry} (hnone : sameTag (BitVec.ofNat 16 (fld b 2 2)) (s.ring ring).inFlight = none)
    (hwindow : (s.ring ring).window.find? (fun x => x.tag == BitVec.ofNat 16 (fld b 2 2)) = some e) :
    slotArrived ring index b s = if e.crc = BitVec.ofNat 32 (fld b 8 4)
      then deliver (slotHdr ring b) (replayed e.record) true (dropSlot ring index s)
      else answer (slotHdr ring b) (fld b 0 2) .tagInUse (dropSlot ring index s) := by
  unfold sameTag at hnone
  simp only [slotArrived, slotIntact_guard hintact, State.inFlight, if_neg hring, hnone, hwindow]
  rfl

end

/-- A record for a completion ring of a legal size is written to host memory; an interrupt may follow it (03 R78). -/
theorem sent_writeRecord (n : Nat) (r : Record) (s : State) (hsize : log2Ok (s.ring n).cqLog2 = true) :
    ∃ a q f l, (writeRecord n r s).sent = s.sent ++ Sent.host a (r.bytes q f s.us) :: l := by
  unfold writeRecord
  dsimp only
  rw [if_pos hsize]
  split
  · obtain ⟨l, hl⟩ := sent_signal (n + 1) _
    exact ⟨_, _, _, l, hl.trans (List.append_assoc _ _ _)⟩
  · exact ⟨_, _, _, [], rfl⟩

/-! ### What a duplicate leaves (03 R82) -/

/-- The slot was taken from the ring and no command has come of it: no more is in flight, the window is as it was, and apart from reports
and the arbitration count nothing has changed. -/
def Ignored (ring : Nat) (s t : State) : Prop :=
  t.quiet = { s with glb := { s.glb with overtakes := t.glb.overtakes } }.quiet ∧
    (t.ring ring).window = (s.ring ring).window ∧ ∀ x ∈ (t.ring ring).inFlight, x ∈ (s.ring ring).inFlight

/-- The count that a state's quiet part names is its own. -/
theorem quiet_overtakes {s t : State} {k : Nat} (h : t.quiet = { s with glb := { s.glb with overtakes := k } }.quiet) :
    t.quiet = { s with glb := { s.glb with overtakes := t.glb.overtakes } }.quiet := by
  have hk : t.glb.overtakes = k := congrArg (fun u : State => u.glb.overtakes) h
  rw [hk]
  exact h

/-- In v the slot of a ring is awaited that in s was next: its entry is the last in flight; but for it, the ring's place and notes and the
arbitration count, nothing has changed since s. -/
structure Awaited (ring : Nat) (s v : State) : Prop where
  inFlight : ∃ now, (v.ring ring).inFlight = (s.ring ring).inFlight ++ [awaitedEntry (s.ring ring).sqHead now]
  window : (v.ring ring).window = (s.ring ring).window
  cqLog2 : (v.ring ring).cqLog2 = (s.ring ring).cqLog2
  sent : v.sent = s.sent
  quiet : v.quiet = { s with glb := { s.glb with overtakes := v.glb.overtakes } }.quiet

/-- Awaiting the next slot of a ring that has been noted to wait. -/
theorem awaited_awaitSlot {ring : Nat} {s w : State} (hring : (w.ring ring).unnoted = (s.ring ring).unnoted)
    (hrest : w.ringless = s.ringless) : Awaited ring s (awaitSlot ring w) := by
  obtain ⟨hhead, hflight, hwindow, hlog⟩ := unnoted_fields hring
  obtain ⟨-, hflight', hwindow', hlog'⟩ := unnoted_fields (unnoted_awaitSlot ring w)
  have hglb : w.glb = s.glb := (congrArg State.glb hrest :)
  have hcount : { w with glb := { w.glb with overtakes := overtaken ring w } }.ringless =
      { s with glb := { s.glb with overtakes := overtaken ring w } }.ringless := by
    rw [hglb]
    exact (congrArg (fun u : State => { u with glb := { s.glb with overtakes := overtaken ring w } }) hrest :)
  obtain ⟨hquiet, hsent, -⟩ := ringless_fields ((ringless_awaitSlot ring w).trans hcount)
  refine ⟨⟨w.now, ?_⟩, hwindow'.trans hwindow, hlog'.trans hlog, hsent, quiet_overtakes hquiet⟩
  rw [← hhead, ← hflight]
  exact hflight'

/-- The next slot of the ring that the arbiter picks arrives in a state that awaits it. -/
theorem exec_slotFetch_awaited {ring : Nat} {s : State} (hopen : ringsOpen s = true) (hnext : arbiter (noteWaiting s) = some ring)
    (b : Bytes) :
    ∃ v, Awaited ring s v ∧ exec (.slotFetch ring (some b)) s = .next (slotArrived ring (s.ring ring).sqHead.toNat b v) := by
  have hring := unnoted_noteWaiting ring s
  have hhead := (unnoted_fields hring).1
  exact ⟨_, awaited_awaitSlot hring (ringless_noteWaiting s), hhead ▸ exec_slotFetch_bytes hopen hnext b⟩

section
variable {ring : Nat} {s v : State} (hv : Awaited ring s v) (hring : ring ≠ 15)
include hv

theorem Awaited.us : v.us = s.us := (congrArg State.us hv.quiet :)

theorem Awaited.sameTag (tag : U16) : sameTag tag (v.ring ring).inFlight = Machine.sameTag tag (s.ring ring).inFlight := by
  obtain ⟨now, hflight⟩ := hv.inFlight
  rw [hflight, sameTag_append_awaited]

include hring

/-- A slot that is awaited and dropped has done nothing. -/
theorem Awaited.ignored_dropSlot : Ignored ring s (dropSlot ring (s.ring ring).sqHead.toNat v) := by
  obtain ⟨now, hflight⟩ := hv.inFlight
  rw [dropSlot_eq _ _ hring]
  refine ⟨hv.quiet, ?_, ?_⟩
  · rw [ring_setRing]
    exact hv.window
  · intro x hx
    rw [ring_setRing, hflight, List.mem_filter, List.mem_append, List.mem_singleton] at hx
    obtain ⟨hx | rfl, hkeep⟩ := hx
    · exact hx
    · simp [awaitedEntry] at hkeep

/-- The record that answers a duplicate is written; otherwise the slot is ignored. -/
theorem Awaited.answered_dropSlot (r : Record) (hsize : log2Ok (s.ring ring).cqLog2 = true) :
    (∃ a q f l, (writeRecord ring r (dropSlot ring (s.ring ring).sqHead.toNat v)).sent =
        s.sent ++ Sent.host a (r.bytes q f s.us) :: l) ∧
      Ignored ring s (writeRecord ring r (dropSlot ring (s.ring ring).sqHead.toNat v)) := by
  obtain ⟨hquiet, hwindow, hflight⟩ := hv.ignored_dropSlot hring
  obtain ⟨hq, hw, hf, -, -⟩ := writeRecord_spec ring r (dropSlot ring (s.ring ring).sqHead.toNat v)
  refine ⟨?_, quiet_overtakes (hq.trans hquiet), hw.trans hwindow, fun x hx => hflight x (hf ▸ hx)⟩
  rw [dropSlot_eq _ _ hring, ← hv.us, ← hv.sent]
  refine sent_writeRecord ring r _ ?_
  rw [ring_setRing]
  exact hv.cqLog2 ▸ hsize

end

/-! ### The fetch of a duplicate -/

section
variable {ring : Nat} {b : Bytes} {s : State} (hopen : ringsOpen s = true) (hnext : arbiter (noteWaiting s) = some ring)
  (hring : ring ≠ 15) (hintact : slotIntact b)
include hopen hnext hring hintact

/-- A command in flight whose slot comes again with the same CRC is ignored. -/
theorem exec_slotFetch_repeated {e : InFlight} (hsame : sameTag (BitVec.ofNat 16 (fld b 2 2)) (s.ring ring).inFlight = some e)
    (hcrc : e.crc = BitVec.ofNat 32 (fld b 8 4)) :
    ∃ t, exec (.slotFetch ring (some b)) s = .next t ∧ t.sent = s.sent ∧ Ignored ring s t := by
  obtain ⟨v, hv, hexec⟩ := exec_slotFetch_awaited hopen hnext b
  rw [slotArrived_inFlight _ hring hintact ((hv.sameTag _).trans hsame), if_pos hcrc] at hexec
  refine ⟨_, hexec, ?_, hv.ignored_dropSlot hring⟩
  rw [dropSlot_eq _ _ hring]
  exact hv.sent

variable (hsize : log2Ok (s.ring ring).cqLog2 = true)
include hsize

/-- A completed command whose slot comes again with the same CRC has its record replayed. -/
theorem exec_slotFetch_replayed {e : WinEntry} (hnone : sameTag (BitVec.ofNat 16 (fld b 2 2)) (s.ring ring).inFlight = none)
    (hwindow : (s.ring ring).window.find? (fun x => x.tag == BitVec.ofNat 16 (fld b 2 2)) = some e)
    (hcrc : e.crc = BitVec.ofNat 32 (fld b 8 4)) :
    ∃ t, exec (.slotFetch ring (some b)) s = .next t ∧
      (∃ a q f l, t.sent = s.sent ++ Sent.host a ((replayed e.record).bytes q f s.us) :: l) ∧ Ignored ring s t := by
  obtain ⟨v, hv, hexec⟩ := exec_slotFetch_awaited hopen hnext b
  rw [slotArrived_window _ hring hintact ((hv.sameTag _).trans hnone) (hv.window ▸ hwindow), if_pos hcrc, deliver_ring _ _ hring] at hexec
  exact ⟨_, hexec, hv.answered_dropSlot hring _ hsize⟩

/-- A slot that repeats a tag with another CRC is answered TAG_IN_USE. -/
theorem exec_slotFetch_tagInUse
    (hsame : (∃ e, sameTag (BitVec.ofNat 16 (fld b 2 2)) (s.ring ring).inFlight = some e ∧ e.crc ≠ BitVec.ofNat 32 (fld b 8 4)) ∨
      (sameTag (BitVec.ofNat 16 (fld b 2 2)) (s.ring ring).inFlight = none ∧
        ∃ e, (s.ring ring).window.find? (fun x => x.tag == BitVec.ofNat 16 (fld b 2 2)) = some e ∧
          e.crc ≠ BitVec.ofNat 32 (fld b 8 4))) :
    ∃ t, exec (.slotFetch ring (some b)) s = .next t ∧
      (∃ a q f l, t.sent = s.sent ++ Sent.host a ((recordOf (slotHdr ring b) (fld b 0 2) .tagInUse []).record.bytes q f s.us) :: l) ∧
      Ignored ring s t := by
  obtain ⟨v, hv, hexec⟩ := exec_slotFetch_awaited hopen hnext b
  have harrived : slotArrived ring (s.ring ring).sqHead.toNat b v =
      answer (slotHdr ring b) (fld b 0 2) .tagInUse (dropSlot ring (s.ring ring).sqHead.toNat v) := by
    obtain ⟨e, hsome, hcrc⟩ | ⟨hnone, e, hwindow, hcrc⟩ := hsame
    · rw [slotArrived_inFlight _ hring hintact ((hv.sameTag _).trans hsome), if_neg hcrc]
    · rw [slotArrived_window _ hring hintact ((hv.sameTag _).trans hnone) (hv.window ▸ hwindow), if_neg hcrc]
  rw [harrived, answer, deliver_ring _ _ hring] at hexec
  exact ⟨_, hexec, hv.answered_dropSlot hring _ hsize⟩

end

/-- Settles O51: a repeated slot is ignored, replayed or answered TAG_IN_USE. -/
theorem duplicatesAnswer : Obligations.DuplicatesAnswer := by
  unfold Obligations.DuplicatesAnswer
  refine ⟨?_, ?_, ?_⟩
  · rintro ring b _ crc e s hopen hnext hlt hlen hok rfl rfl hsame hcrc
    exact exec_slotFetch_repeated hopen hnext (by omega) ⟨hlen, hok⟩ hsame hcrc
  · rintro ring b _ crc e s hopen hnext hlt hlen hok rfl rfl hsize hnone hwindow hcrc
    exact exec_slotFetch_replayed hopen hnext (by omega) ⟨hlen, hok⟩ hsize hnone hwindow hcrc
  · rintro ring b _ crc s hopen hnext hlt hlen hok rfl rfl hsize hsame
    exact exec_slotFetch_tagInUse hopen hnext (by omega) ⟨hlen, hok⟩ hsize hsame

end Sys2Proof.Machine
end

section
/-! Laws of a step and of the checks a command must pass (03 R71, R73), and the proofs of O1 and O52. -/
namespace Sys2Proof.Machine

/-- Settles O1: the front of the queue is what a step matches on. -/
theorem stepRunsFront : Obligations.StepRunsFront := by
  unfold Obligations.StepRunsFront
  intro c cs s
  rfl

/-- The first check of a list that fails decides, whatever follows it. -/
theorem firstFail_first {before : List (Bool × Status)} (hbefore : before.all (·.1) = true) (st : Status)
    (after : List (Bool × Status)) : firstFail (before ++ (false, st) :: after) = some st := by
  induction before with
  | nil => rfl
  | cons check before ih =>
    obtain ⟨holds, status⟩ := check
    rw [List.all_cons, Bool.and_eq_true] at hbefore
    obtain ⟨rfl, hrest⟩ := hbefore
    exact ih hrest

/-- The checks of a command in the order of 03 R73, its own of length, form and state among them. -/
def checksOf (op : Nat) (h : Hdr) (s : State) (len form state : List (Bool × Status)) : List (Bool × Status) :=
  len ++ [(slotClean h s, Status.reservedNonzero)] ++ form ++ [(h.ring != 15 || onPort op, Status.notOnPort),
    (h.ring == 15 || h.ring == innerRing || onPort op || !s.follower, Status.notLeader), (!s.glb.testMode, Status.badState)] ++ state

/-- A command that can run and fails a check completes with the status of that check (03 R73). -/
theorem command_refused {op : Nat} {h : Hdr} {p : Bytes} {len form state : List (Bool × Status)} {act : State → State} {s : State}
    {st : Status} (hrun : canRun h s = true) (hfail : firstFail (checksOf op h s len form state) = some st) :
    command op h p len form state act s = .next (complete h op st [] s) := by
  unfold checksOf at hfail
  unfold command
  rw [if_pos hrun, hfail]

/-- A command that can run is run by the Shepherd firmware. -/
theorem boot_of_canRun {h : Hdr} {s : State} (hrun : canRun h s = true) : s.glb.boot = .running := by
  simp only [canRun, State.running, Bool.and_eq_true, beq_iff_eq] at hrun
  exact hrun.1.1.1

/-- An opcode that has no row in the table is refused before its length and pointer are looked at. -/
theorem slotForm_of_no_row {b : Bytes} (hrow : opForm (fld b 0 2) = none) : slotForm b = some .badOpcode := by
  simp only [slotForm, hrow]

/-- Settles O52: the failing check's completion, by what completing a command does. -/
theorem checksInOrder : Obligations.ChecksInOrder := by
  unfold Obligations.ChecksInOrder
  refine ⟨?_, fun b hrow => slotForm_of_no_row hrow⟩
  intro op h p len form state before after st act s hrun hring hchecks hbefore
  have hfail : firstFail (checksOf op h s len form state) = some st :=
    (congrArg firstFail hchecks).trans (firstFail_first hbefore st after)
  exact ⟨_, command_refused hrun hfail, complete_spec h op st [] s hring (boot_of_canRun hrun)⟩

end Sys2Proof.Machine
end

section
/-! Laws of the event ring (03 R67, R78, R79; 14 R595; 15 R606), and the proof of O53. -/
namespace Sys2Proof.Machine

/-! ### What leaves the event ring alone -/

@[simp] theorem evq_send (s : State) (m : Sent) : (s.send m).evq = s.evq := rfl

theorem evq_flitOut (port ftype seq : Nat) (payload : Bytes) (nak : Bool) (s : State) :
    (flitOut port ftype seq payload nak s).evq = s.evq := by
  unfold flitOut
  dsimp only
  split <;> rfl

theorem evq_seqFlit (port : Nat) (e : Nat × Bytes) (s : State) : (seqFlit port e s).evq = s.evq := by
  unfold seqFlit
  dsimp only
  rw [State.setLink_evq, evq_flitOut]

theorem evq_sendFlits (port : Nat) (l : List (Nat × Bytes)) (s : State) : (sendFlits port l s).evq = s.evq := by
  induction l generalizing s with
  | nil => rfl
  | cons t ts ih =>
    unfold sendFlits
    split
    · rw [ih, evq_seqFlit]
    · rfl

theorem evq_queuePacket (port : Nat) (k : Packet) (s : State) : (queuePacket port k s).evq = s.evq := by
  unfold queuePacket pumpLink
  dsimp only
  split
  · rw [evq_sendFlits, State.setLink_evq, State.setLink_evq]
  · rfl

/-- A packet for another member leaves the event ring alone. -/
theorem evq_sendFyx (dst : Nat) (k : Packet) (s : State) : (sendFyx dst k s).evq = s.evq := by
  unfold sendFyx
  dsimp only
  split
  · rw [evq_queuePacket, evq_send]
  · rfl

/-- The sticky flags and the fault log stand beside the event ring and send nothing (15 R612, R629). -/
theorem emit_evq_sent (source code : Nat) (p : Bytes) (s : State) :
    (emit source code p s).evq = (publishEvent source code p s).evq ∧
      (emit source code p s).sent = (publishEvent source code p s).sent := by
  have hmarks (u : State) : (eventMarks code u).evq = u.evq ∧ (eventMarks code u).sent = u.sent := by
    unfold eventMarks
    split_ifs <;> exact ⟨rfl, rfl⟩
  have hlog (frame : Nat) (d : Bytes) (u : State) :
      (logFault code source frame d u).evq = u.evq ∧ (logFault code source frame d u).sent = u.sent := by
    unfold logFault logRepeat logNew
    (repeat' split) <;> exact ⟨rfl, rfl⟩
  unfold emit
  dsimp only
  split
  · rw [(hlog _ _ _).1, (hlog _ _ _).2]
    exact hmarks _
  · exact hmarks _

/-! ### The place of an event (03 R79) -/

/-- The state in which the source of an event has used its sequence number (15 R606). -/
def sequenced (source : Nat) (s : State) : State :=
  { s with evq := { s.evq with seqs := Tab.put s.evq.seqs source (Tab.get 0 s.evq.seqs source + 1) } }

/-- The event that a source generates next (03 R67, 15 R606). -/
def nextEvent (source code : Nat) (payload : Bytes) (s : State) : Event :=
  { code := code, source := source, seq := Tab.get 0 s.evq.seqs source, lostBefore := s.evq.lostSources.contains source, time := s.us,
    payload := pad 16 payload }

section
variable (e : Event) (s : State)

/-- A record that is written goes to its place in host memory and moves the producer index (03 R78). -/
theorem evqWrite_fields : (evqWrite e s).evq.seqs = s.evq.seqs ∧ (evqWrite e s).evq.backlog = s.evq.backlog ∧
    (evqWrite e s).evq.tail = s.evq.tail + 1 ∧
    Sent.host (s.evq.base.toNat + 32 * (s.evq.tail.toNat % 2 ^ s.evq.log2.toNat))
      (e.bytes (phaseBit s.evq.tail.toNat (2 ^ s.evq.log2.toNat))) ∈ (evqWrite e s).sent := by
  unfold evqWrite
  dsimp only
  split
  · rw [evq_signal]
    exact ⟨rfl, rfl, rfl, mem_sent_signal _ (List.mem_append_right _ (List.mem_singleton_self _))⟩
  · exact ⟨rfl, rfl, rfl, List.mem_append_right _ (List.mem_singleton_self _)⟩

/-- An event goes to the ring where nothing waits before it and there is room, else to the end of the backlog of 1,024, else it is lost
(03 R79). -/
theorem evqPlace_cases :
    (s.evq.backlog = [] → evqRoom s = true → evqPlace e s = evqWrite e s) ∧
    ((s.evq.backlog ≠ [] ∨ evqRoom s = false) →
      (s.evq.backlog.length < 1024 → evqPlace e s = { s with evq := { s.evq with backlog := s.evq.backlog ++ [e] } }) ∧
      (1024 ≤ s.evq.backlog.length → evqPlace e s = { s with evq := { s.evq with
        lost := satAdd s.evq.lost 1, lostTotal := satAdd s.evq.lostTotal 1, lostSince := satAdd s.evq.lostSince 1, overflow := true,
        lostSources := e.source :: s.evq.lostSources.filter (· != e.source) } })) := by
  refine ⟨fun hnone hroom => if_pos (by simp [hnone, hroom]), fun hwait => ?_⟩
  have hguard : ¬ (decide (s.evq.backlog = []) && evqRoom s) = true := by
    obtain hsome | hfull := hwait
    · simp [hsome]
    · simp [hfull]
  unfold evqPlace
  rw [if_neg hguard]
  exact ⟨fun hlt => if_pos hlt, fun hge => if_neg (Nat.not_lt.mpr hge)⟩

end

theorem evqPlace_seqs (e : Event) (s : State) : (evqPlace e s).evq.seqs = s.evq.seqs := by
  unfold evqPlace
  split
  · exact (evqWrite_fields e s).1
  · split <;> rfl

/-- Beside the mark of its source, an event that a leader or single device emits with no earlier loss to report does what its place
makes of it; a lost one leaves the marks as its place does. -/
theorem emit_placed (source code : Nat) (payload : Bytes) {s : State} (hlost : s.evq.lostSince = 0) (hlead : s.follower = false) :
    ∃ marks, (emit source code payload s).evq =
        { (evqPlace (nextEvent source code payload s) (sequenced source s)).evq with lostSources := marks } ∧
      (emit source code payload s).sent = (evqPlace (nextEvent source code payload s) (sequenced source s)).sent ∧
      (1024 ≤ s.evq.backlog.length →
        marks = (evqPlace (nextEvent source code payload s) (sequenced source s)).evq.lostSources) := by
  have hreport : emitLost s = s := by
    simp [emitLost, hlost]
  have hpublish : publishEvent source code payload s = evqClearLost source (s.evq.backlog.length < 1024)
      (evqPlace (nextEvent source code payload s) (sequenced source s)) := by
    simp only [publishEvent, hlead, hreport, Bool.false_eq_true, if_false, emitRaw]
    rfl
  obtain ⟨hevq, hsent⟩ := emit_evq_sent source code payload s
  rw [hevq, hsent, hpublish]
  unfold evqClearLost
  by_cases hlt : s.evq.backlog.length < 1024
  · rw [decide_eq_true hlt]
    exact ⟨_, rfl, rfl, fun hge => absurd hlt (Nat.not_lt.mpr hge)⟩
  · rw [decide_eq_false hlt]
    exact ⟨_, rfl, rfl, fun _ => rfl⟩

/-- Settles O53: the place of a numbered event, by the branches of 03 R79; a follower forwards. -/
theorem eventsArePlaced : Obligations.EventsArePlaced := by
  unfold Obligations.EventsArePlaced
  refine ⟨?_, ?_⟩
  · rintro source code payload s _ hlost hlead rfl
    obtain ⟨marks, hevq, hsent, hmarks⟩ := emit_placed source code payload hlost hlead
    obtain ⟨hwrite, hwait⟩ := evqPlace_cases (nextEvent source code payload s) (sequenced source s)
    rw [hevq, hsent]
    refine ⟨evqPlace_seqs _ _, fun hnone hroom => ?_, fun hfull => ⟨?_, fun hlt => ?_, fun hge => ?_⟩⟩
    · rw [hwrite hnone hroom]
      obtain ⟨-, hbacklog, htail, hhost⟩ := evqWrite_fields (nextEvent source code payload s) (sequenced source s)
      exact ⟨htail, hbacklog.trans hnone, hhost⟩
    · obtain hlt | hge := Nat.lt_or_ge s.evq.backlog.length 1024
      · rw [(hwait hfull).1 hlt]
        rfl
      · rw [(hwait hfull).2 hge]
        rfl
    · rw [(hwait hfull).1 hlt]
      rfl
    · have hmark := hmarks hge
      rw [(hwait hfull).2 hge] at hmark ⊢
      exact ⟨rfl, rfl, rfl, hmark ▸ List.mem_cons_self⟩
  · intro source code payload s hfollow
    rw [(emit_evq_sent source code payload s).1, publishEvent, if_pos hfollow, forward, evq_sendFyx]

end Sys2Proof.Machine
end

section
/-! Laws of the ring and event ring registers and of interrupt coalescing (03 R63, R77 to R80, R95; 18 R719, R720), and the proof of O12. -/
namespace Sys2Proof.Machine

/-! ### Doorbells and consumer indices (03 R63, R77) -/

/-- The producer index in a doorbell write is not behind SQ_TAIL and at most a ring's size ahead of SQ_HEAD (03 R63). -/
def producerOk (r : Ring) (producer : U16) : Prop :=
  (r.sqTail - r.sqHead).toNat ≤ (producer - r.sqHead).toNat ∧ (producer - r.sqHead).toNat ≤ 2 ^ r.sqLog2.toNat

section
variable {ring : Nat} {value : U32} {s : State} (hopen : ringsOpen s = true) (henable : (s.ring ring).enable = true)
include hopen henable

/-- The guard of a doorbell write. -/
theorem whistle_guard : (!ringsOpen s || !(s.ring ring).enable) = false := by
  rw [hopen, henable]
  rfl

/-- A doorbell write that names its ring and a producer index in range sets SQ_TAIL. -/
theorem exec_ringWhistleWrite_ok (hname : bits value.toNat 16 3 = ring) (hok : producerOk (s.ring ring) (value.setWidth 16)) :
    exec (.ringWhistleWrite ring value) s =
      .next (noteWaiting (s.setRing ring { s.ring ring with sqTail := value.setWidth 16 })) := by
  obtain ⟨hlow, hhigh⟩ := hok
  change execRingWhistleWrite ring value s = _
  simp only [execRingWhistleWrite, whistle_guard hopen henable, hname, hlow, hhigh]
  rfl

/-- A doorbell write that names another ring is a WHISTLE_ERR fault. -/
theorem exec_ringWhistleWrite_fault (hname : bits value.toNat 16 3 ≠ ring) :
    exec (.ringWhistleWrite ring value) s = .next (ringFault ring 0 (value.setWidth 16).toNat s) := by
  change execRingWhistleWrite ring value s = _
  simp [execRingWhistleWrite, whistle_guard hopen henable, hname]

/-- The guard of a completion consumer index: the ring is enabled, or not yet idle. -/
theorem cqHead_guard : (!ringsOpen s || (!(s.ring ring).enable && (s.ring ring).idle)) = false := by
  rw [hopen, henable]
  rfl

/-- A completion consumer index up to the producer index is taken. -/
theorem exec_ringCqHeadWrite_ok
    (hok : (value.setWidth 16 - (s.ring ring).cqHead).toNat ≤ ((s.ring ring).cqTail - (s.ring ring).cqHead).toNat) :
    exec (.ringCqHeadWrite ring value) s =
      .next (noteWaiting (s.setRing ring { s.ring ring with cqHead := value.setWidth 16 })) := by
  change execRingCqHeadWrite ring value s = _
  simp only [execRingCqHeadWrite, cqHead_guard hopen henable, if_pos hok]
  rfl

/-- A completion consumer index past the producer index is a HEAD_ERR fault. -/
theorem exec_ringCqHeadWrite_fault
    (hpast : ((s.ring ring).cqTail - (s.ring ring).cqHead).toNat < (value.setWidth 16 - (s.ring ring).cqHead).toNat) :
    exec (.ringCqHeadWrite ring value) s = .next (ringFault ring 1 (value.setWidth 16).toNat s) := by
  change execRingCqHeadWrite ring value s = _
  simp only [execRingCqHeadWrite, cqHead_guard hopen henable, if_neg (Nat.not_le.mpr hpast)]
  rfl

end

/-! ### Writes while the rings are open (18 R717, R719) -/

section
variable {s : State} (hopen : ringsOpen s = true)
include hopen

/-- An event consumer index up to the producer index is taken and the backlog follows; one past it is a fault. -/
theorem exec_evqHeadWrite (value : U32) : exec (.evqHeadWrite value) s =
    .next (if (value.setWidth 16 - s.evq.head).toNat ≤ (s.evq.tail - s.evq.head).toNat
      then drain { s with evq := { s.evq with head := value.setWidth 16 } }
      else evqFault (value.setWidth 16 : U16).toNat s) := by
  change execEvqHeadWrite value s = _
  simp [execEvqHeadWrite, hopen]

/-- A ring that is off and idle, with legal sizes, is enabled with its indices and totals at 0. -/
theorem exec_ringEnable (ring : Nat) (count : Byte) (usec : BitVec 10) (hoff : (s.ring ring).enable = false)
    (hidle : (s.ring ring).idle = true) (hsq : log2Ok (s.ring ring).sqLog2 = true) (hcq : log2Ok (s.ring ring).cqLog2 = true) :
    exec (.ringEnable ring count usec) s = .next (s.setRing ring { s.ring ring with
      enable := true, halted := false, coalCount := count, coalUsec := usec, sqTail := 0, sqHead := 0, cqTail := 0, cqHead := 0,
      completedTotal := 0, lastFault := 0, unsignalled := 0, waitingSince := none }) := by
  change execRingEnable ring count usec s = _
  simp [execRingEnable, hopen, hoff, hidle, hsq, hcq]

/-- A ring that is disabled is fetched from no more. -/
theorem exec_ringDisable (ring : Nat) :
    exec (.ringDisable ring) s = .next (s.setRing ring { s.ring ring with enable := false, waitingSince := none }) :=
  congrArg Host.Outcome.next (if_pos hopen)

/-- The event ring that is off, with a legal size, is enabled with its indices at 0, and the backlog follows. -/
theorem exec_evqEnable (count : Byte) (usec : BitVec 10) (hoff : s.evq.enable = false) (hsize : 6 ≤ s.evq.log2.toNat) :
    exec (.evqEnable count usec) s = .next (drain { s with evq := { s.evq with
      enable := true, coalCount := count, coalUsec := usec, tail := 0, head := 0, unsignalled := 0 } }) := by
  change execEvqEnable count usec s = _
  simp [execEvqEnable, hopen, hoff, hsize]

/-- The event ring that is disabled keeps all but ENABLE. -/
theorem exec_evqDisable : exec .evqDisable s = .next { s with evq := { s.evq with enable := false } } :=
  congrArg Host.Outcome.next (if_pos hopen)

end

/-! ### The coalescing timers (03 R78) -/

/-- COAL_USEC after its first unsignalled record the event ring signals vector 0. -/
theorem exec_interruptCoalesceTimeout_evq {s : State} (hsome : s.evq.unsignalled ≠ 0)
    (hdue : s.evq.firstAt + 1000 * s.evq.coalUsec.toNat ≤ s.now) :
    exec (.interruptCoalesceTimeout 0) s = .next (signal 0 { s with evq := { s.evq with unsignalled := 0 } }) := by
  change execInterruptCoalesceTimeout 0 s = _
  simp [execInterruptCoalesceTimeout, hsome, hdue]

/-- COAL_USEC after its first unsignalled record a completion ring signals its vector. -/
theorem exec_interruptCoalesceTimeout_ring {v : Nat} {s : State} (hlow : 1 ≤ v) (hhigh : v ≤ 8)
    (hsome : (s.ring (v - 1)).unsignalled ≠ 0)
    (hdue : (s.ring (v - 1)).firstAt + 1000 * (s.ring (v - 1)).coalUsec.toNat ≤ s.now) :
    exec (.interruptCoalesceTimeout v) s =
      .next (signal v (s.setRing (v - 1) { s.ring (v - 1) with unsignalled := 0 })) := by
  have hring : v ≠ 0 := by omega
  change execInterruptCoalesceTimeout v s = _
  simp [execInterruptCoalesceTimeout, hring, hlow, hhigh, hsome, hdue]

/-- Settles O12: each clause is the law of its register write or timer. -/
theorem ringRegistersAct : Obligations.RingRegistersAct := by
  unfold Obligations.RingRegistersAct
  exact ⟨fun _ _ _ hopen henable hname hlow hhigh => exec_ringWhistleWrite_ok hopen henable hname ⟨hlow, hhigh⟩,
    fun _ _ _ => exec_ringWhistleWrite_fault, fun _ _ _ => exec_ringCqHeadWrite_ok, fun _ _ _ => exec_ringCqHeadWrite_fault,
    fun value _ hopen => exec_evqHeadWrite hopen value,
    fun ring count usec _ hopen => exec_ringEnable hopen ring count usec, fun ring _ hopen => exec_ringDisable hopen ring,
    fun count usec _ hopen => exec_evqEnable hopen count usec, fun _ => exec_evqDisable,
    fun _ => exec_interruptCoalesceTimeout_evq, fun _ _ => exec_interruptCoalesceTimeout_ring⟩

end Sys2Proof.Machine
end

section
/-! Laws of the management port and of the completion bound (03 R71, R76, R88, R98 to R101; 05 R200; 19 R772), and the proof of O14. -/
namespace Sys2Proof.Machine

/-! ### Transactions of the port (03 R98, R99, R101) -/

section
variable {s : State} (hport : portAnswers s = true)
include hport

/-- POLL returns its 39 bytes, 0xFF beyond them. -/
theorem exec_mgmtPoll (reads : Nat) : exec (.mgmtPoll 0 reads) s =
    .next (s.send (.mgmt ((pollBytes s).take reads ++ List.replicate (reads - 39) 0xFF))) := by
  change execMgmtPoll 0 reads s = _
  simp [execMgmtPoll, hport]

/-- READ of 1 to 255 bytes returns them from the response, and their CRC-32C. -/
theorem exec_mgmtRead (offset : Nat) {count : Nat} (reads : Nat) (hlow : 1 ≤ count) (hhigh : count ≤ 255) :
    exec (.mgmtRead offset count 0 reads) s = .next (s.send (.mgmt ((pad count ((response s).drop offset)
      ++ le 4 (crc32c (pad count ((response s).drop offset))).toNat).take reads ++ List.replicate (reads - (count + 4)) 0xFF))) := by
  have hcount : (decide (count = 0) || decide (255 < count) || decide (0 ≠ 0)) = false := by
    simp
    omega
  change execMgmtRead offset count 0 reads s = _
  simp only [execMgmtRead, hport, hcount]
  rfl

/-- SUBMIT with a slot starts a command where the port executes none. -/
theorem exec_mgmtSubmit_slot {slot : Bytes} (hlen : slot.length = 64) (hidle : s.mgmt.state ≠ 1) (hnone : s.mgmt.inFlight = [])
    (hboot : s.glb.boot = .running) : exec (.mgmtSubmit (0x10 :: slot)) s =
      .next (slotArrived 15 0 slot { s with mgmt := { s.mgmt with state := 1, inFlight := [awaitedEntry 0 s.now] } }) := by
  have hfirst : fld (0x10 :: slot) 0 1 = 0x10 := rfl
  change execMgmtSubmit (0x10 :: slot) s = _
  simp only [execMgmtSubmit, hport, hfirst, List.drop_one, List.tail_cons, hlen, hidle, hnone, hboot]
  rfl

/-- Any other first byte, another length and a second command are not acknowledged. -/
theorem exec_mgmtSubmit_nack {b : Bytes}
    (hbad : fld b 0 1 ≠ 0x10 ∨ b.length ≠ 65 ∨ s.mgmt.state = 1 ∨ s.mgmt.inFlight ≠ []) :
    exec (.mgmtSubmit b) s = .next (s.send (.mgmt [])) := by
  have hguard : (decide (fld b 0 1 ≠ 0x10) || decide ((b.drop 1).length ≠ 64) || decide (s.mgmt.state = 1)
      || !s.mgmt.inFlight.isEmpty) = true := by
    obtain hfirst | hlen | hbusy | hsome := hbad
    · simp [hfirst]
    · have hslot : (b.drop 1).length ≠ 64 := by rw [List.length_drop]; omega
      simp only [hslot, ne_eq, not_false_eq_true, decide_true, Bool.or_true, Bool.true_or]
    · simp [hbusy]
    · simp [hsome]
  change execMgmtSubmit b s = _
  simp only [execMgmtSubmit, hport, hguard]
  rfl

/-- A bus held low is abandoned and reported MGMT_STUCK. -/
theorem exec_mgmtBusTimeout {sda scl : Bool} (hlow : (sda || scl) = true) : exec (.mgmtBusTimeout sda scl) s =
    .next (portFault srcMgmt 0x21 14 0 (b2n sda + 2 * b2n scl) true { s with mgmt := { s.mgmt with busy := false } }) := by
  change execMgmtBusTimeout sda scl s = _
  simp only [execMgmtBusTimeout, hport, hlow]
  rfl

end

/-! ### What stopping a command leaves (03 R76) -/

/-- The device reads and the staged changes of a state. -/
def State.outstandingWork (s : State) : List DmaRead × List Staged := (s.reads, s.staged)

theorem outstandingWork_sendFyx (dst : Nat) (k : Packet) (s : State) : (sendFyx dst k s).outstandingWork = s.outstandingWork :=
  (congrArg State.outstandingWork (quiet_sendFyx dst k s) :)

theorem outstandingWork_dropPower (h : Hdr) (k : Nat) (s : State) : (dropPower h k s).outstandingWork = s.outstandingWork := by
  unfold dropPower
  dsimp only
  split_ifs <;> rfl

theorem outstandingWork_dropOps (h : Hdr) (s : State) : (dropOps h s).outstandingWork = s.outstandingWork :=
  foldl_keeps State.outstandingWork (fun u _ => foldl_keeps State.outstandingWork (fun v _ => outstandingWork_sendFyx _ _ v) _ u) _ s

theorem outstandingWork_dropForming (h : Hdr) (s : State) : (dropForming h s).outstandingWork = s.outstandingWork := by
  unfold dropForming
  split
  · split_ifs <;> rfl
  · rfl

/-- What is dropped of a command's power, pack and forming work holds no device read and no staged change. -/
theorem outstandingWork_dropped (h : Hdr) (s : State) :
    (dropForming h (dropOps h ((List.range 4).foldl (fun s k => dropPower h k s) s))).outstandingWork = s.outstandingWork :=
  (outstandingWork_dropForming h _).trans ((outstandingWork_dropOps h _).trans
    (foldl_keeps State.outstandingWork (fun u k => outstandingWork_dropPower h k u) _ s))

/-- The device reads of a state that are not for a command's parameters. -/
abbrev otherReads (h : Hdr) (s : State) : List DmaRead :=
  s.reads.filter (fun r => r.purpose != .params h.ring h.tag.toNat && r.purpose != .mgmtParams h.tag.toNat)

/-- The staged port work of a command. -/
abbrev portWork (h : Hdr) (e : Staged) : Bool := e.ring == 15 && h.ring == 15 && e.tag == h.tag

/-- Stopping a command drops its parameter reads and the first staged port work it has (03 R76). -/
theorem outstandingWork_stopCommand (h : Hdr) (s : State) : (stopCommand h s).outstandingWork =
    (otherReads h s, s.staged.filter (fun e => s.staged.find? (portWork h) != some e)) := by
  have hdropped := outstandingWork_dropped h { s with reads := otherReads h s }
  unfold stopCommand
  dsimp only
  generalize dropForming h _ = u at hdropped ⊢
  obtain ⟨hreads, hstaged⟩ : u.reads = otherReads h s ∧ u.staged = s.staged := Prod.mk.inj hdropped
  rw [← hreads, ← hstaged]
  split
  case _ e hfirst =>
    have hrest : (fun x => u.staged.find? (portWork h) != some x) = (· != e) := by
      funext x
      rw [show u.staged.find? (portWork h) = some e from hfirst, Bool.eq_iff_iff, bne_iff_ne, bne_iff_ne, ne_eq, ne_eq,
        Option.some_inj, eq_comm]
    rw [hrest]
    split_ifs <;> rfl
  case _ hnone =>
    rw [show u.staged.find? (portWork h) = none from hnone]
    exact congrArg (Prod.mk u.reads) (List.filter_eq_self.mpr fun _ _ => rfl).symm

section
variable (h : Hdr) (s : State)

/-- No parameter read of a stopped command is left. -/
theorem reads_stopCommand {r : DmaRead} (hr : r ∈ (stopCommand h s).reads) :
    r.purpose ≠ .params h.ring h.tag.toNat ∧ r.purpose ≠ .mgmtParams h.tag.toNat := by
  rw [(Prod.mk.inj (outstandingWork_stopCommand h s)).1, List.mem_filter, Bool.and_eq_true, bne_iff_ne, bne_iff_ne] at hr
  exact hr.2

/-- Where the port has at most one staged change of a command, none is left when the command is stopped. -/
theorem staged_stopCommand (hport : h.ring = 15) (hone : (s.staged.filter (fun e => e.ring == 15 && e.tag == h.tag)).length ≤ 1)
    {e : Staged} (he : e ∈ (stopCommand h s).staged) (hring : e.ring = 15) : e.tag ≠ h.tag := by
  intro htag
  rw [(Prod.mk.inj (outstandingWork_stopCommand h s)).2, List.mem_filter, bne_iff_ne, ← List.head?_filter] at he
  obtain ⟨hmem, hne⟩ := he
  have hsame : portWork h = fun e => e.ring == 15 && e.tag == h.tag := by
    funext x
    simp [portWork, hport]
  have hwork : e ∈ s.staged.filter (portWork h) := by
    rw [List.mem_filter]
    exact ⟨hmem, by simp [portWork, hport, hring, htag]⟩
  rw [← hsame] at hone
  obtain ⟨a, hall⟩ := List.length_eq_one_iff.mp (Nat.le_antisymm hone (List.length_pos_of_mem hwork))
  rw [hall, List.mem_singleton] at hwork
  rw [hall, hwork] at hne
  exact hne rfl

end

/-! ### The completion bound (03 R76, R100) -/

/-- The time a command may take from its fetch: 20 ms on a ring, 3 s on the port. -/
abbrev boundOf (ring : Nat) : Nat := if ring = 15 then 3000000000 else 20000000

/-- Only a KEEP_WRITE leaves a part of itself done (04 R119). -/
theorem partialWrite_of_ne (h : Hdr) {op : Nat} (p : Bytes) (s : State) (hop : op ≠ 0x0005) : partialWrite h op p s = ([], s) := by
  simp [partialWrite, hop]

section
variable {ring : Nat} {tag : U16} {e : InFlight} {s : State} (hrun : s.running = true)
  (hfind : (s.inFlight ring).find? (fun e => e.tag == tag && e.phase != .slotRead) = some e) (hdue : e.fetchedAt + boundOf ring ≤ s.now)
include hrun hfind hdue

/-- A command past its bound completes INTERNAL_FAULT and is stopped. -/
theorem exec_commandBoundTimeout_fault (hkeep : e.opcode ≠ 0x0005) (hroute : e.opcode = 0x0205 → e.phase ≠ .started) :
    exec (.commandBoundTimeout ring tag) s = .next (complete { ring := ring, tag := tag, crc := e.crc } e.opcode.toNat .internalFault []
      (stopCommand { ring := ring, tag := tag, crc := e.crc } s)) := by
  have hop : e.opcode.toNat ≠ 0x0005 := fun h => hkeep (BitVec.eq_of_toNat_eq h)
  have hplain : (e.opcode == 0x0205#16 && e.phase == .started) = false := by
    rw [Bool.and_eq_false_imp, beq_iff_eq]
    exact fun h => beq_false_of_ne (hroute h)
  change execCommandBoundTimeout ring tag s = _
  simp only [execCommandBoundTimeout, hfind, hrun, hdue, hplain, partialWrite_of_ne _ _ _ hop]
  rfl

/-- A ROUTE_SET that waits for its commit completes PENDING at its bound (05 R200). -/
theorem exec_commandBoundTimeout_route (hroute : e.opcode = 0x0205) (hwaits : e.phase = .started) :
    exec (.commandBoundTimeout ring tag) s =
      .next (complete { ring := ring, tag := tag, crc := e.crc } 0x0205 .pending stagedResult s) := by
  change execCommandBoundTimeout ring tag s = _
  simp only [execCommandBoundTimeout, hfind, hrun, hdue, hroute, hwaits]
  rfl

end

/-- Settles O14: each clause is the law of its transaction, of stopping, of the bound or of the fetch. -/
theorem portAndReadsAct : Obligations.PortAndReadsAct := by
  unfold Obligations.PortAndReadsAct
  refine ⟨fun reads _ hport => exec_mgmtPoll hport reads, fun offset _ reads _ hport => exec_mgmtRead hport offset reads,
    fun _ _ hport => exec_mgmtSubmit_slot hport, fun _ _ hport => exec_mgmtSubmit_nack hport, fun _ => rfl,
    fun _ _ _ hport => exec_mgmtBusTimeout hport,
    fun _ _ _ _ => exec_commandBoundTimeout_fault,
    fun h s => ⟨fun _ => reads_stopCommand h s, fun hport hone _ => staged_stopCommand h s hport hone⟩,
    fun _ _ _ _ => exec_commandBoundTimeout_route, fun ring s hopen hnext => ?_⟩
  obtain ⟨hhead, hflight⟩ := ring_awaitSlot ring (noteWaiting s)
  exact ⟨_, exec_slotFetch_read hopen hnext, hhead, (congrArg List.length hflight).trans List.length_append,
    exec_slotFetch_bytes hopen hnext⟩

end Sys2Proof.Machine
end

section
/-! Laws of device reads of host memory (03 R73, R88, R90; 18 R727), and the proof of O27. -/
namespace Sys2Proof.Machine

/-- The state without a device read that has ended. -/
abbrev readEnded (id : Nat) (s : State) : State := { s with reads := s.reads.filter (fun x => x.id != id) }

/-- The command of a ring whose parameter buffer is being read under a tag (03 R73). -/
abbrev awaitsParams (n t : Nat) (s : State) : Option InFlight :=
  (s.inFlight n).find? (fun x => x.tag.toNat == t && x.phase == .paramRead)

section
variable {id : Nat} {r : DmaRead} {s : State} (hread : s.reads.find? (fun x => x.id == id) = some r)
include hread

/-- An error or poisoned completion fails the attempt (18 R727). -/
theorem exec_dmaReadCompletion_error : exec (.dmaReadCompletion id none) s = .next (readFailed r s) := by
  change execDmaReadCompletion id none s = _
  simp only [execDmaReadCompletion, hread]

/-- An attempt whose completion timeout has passed fails (03 R90). -/
theorem exec_dmaReadTimeout_due (hdue : r.startedAt + completionTimeout s ≤ s.now) :
    exec (.dmaReadTimeout id) s = .next (readFailed r s) := by
  change execDmaReadTimeout id s = _
  simp only [execDmaReadTimeout, hread, if_pos hdue]

/-- The data of a parameter read arrives for the command that waits for it. -/
theorem exec_dmaReadCompletion_params {n t : Nat} (hpurpose : r.purpose = .params n t) (b : Bytes) :
    exec (.dmaReadCompletion id (some b)) s = .next (paramsArrived n t b (received b.length (readEnded id s))) := by
  change execDmaReadCompletion id (some b) s = _
  simp only [execDmaReadCompletion, hread, hpurpose]

end

/-! ### Parameters (03 R73) -/

section
variable {n t : Nat} {e : InFlight} {s : State} (hwaits : awaitsParams n t s = some e) (b : Bytes)
include hwaits

/-- Parameters with the CRC of their slot make their command ready. -/
theorem paramsArrived_ready (hcrc : crc32c b = e.paramCrc) : paramsArrived n t b s = s.setInFlight n
    ((s.inFlight n).map (fun x => if x.tag = e.tag && x.phase == .paramRead then { x with phase := .ready, params := b } else x)) := by
  unfold awaitsParams at hwaits
  simp only [paramsArrived, hwaits, if_pos hcrc]

/-- Parameters with another CRC complete their command BAD_PARAM_CRC. -/
theorem paramsArrived_badCrc (hcrc : crc32c b ≠ e.paramCrc) : paramsArrived n t b s =
    complete { ring := n, tag := e.tag, crc := e.crc } e.opcode.toNat .badParamCrc [] s := by
  unfold awaitsParams at hwaits
  simp only [paramsArrived, hwaits, if_neg hcrc]

end

/-! ### Failed attempts (03 R88) -/

/-- The first attempt that fails is started again at once, unless its buffer has been released (05 R219). -/
theorem readFailed_first {r : DmaRead} {s : State} (hfirst : r.attempt = 0) (hlive : ∀ c, r.purpose = .fetch c → hostLive s c = true) :
    readFailed r s = { s.send (.hostRead r.id r.addr r.len) with
      reads := s.reads.map (fun x => if x.id = r.id then { x with attempt := 1, startedAt := s.now } else x) } := by
  have hneeded : (match r.purpose with | .fetch c => hostLive s c | _ => true) = true := by
    split
    · exact hlive _ ‹_›
    · rfl
  unfold readFailed
  rw [if_pos]
  rw [decide_eq_true hfirst, Bool.true_and]
  exact hneeded

/-- When the retry fails too, the read gives up. -/
theorem readFailed_retry {r : DmaRead} {s : State} (hretry : r.attempt = 1) : readFailed r s = readGivesUp r (readEnded r.id s) := by
  unfold readFailed
  rw [if_neg (by simp [hretry])]

/-- The state in which a ring whose slot could not be read is halted: the slot is dropped. -/
def slotUnread (n i : Nat) (s : State) : State := (dropSlot n i s).setRing n { (dropSlot n i s).ring n with halted := true }

/-- A slot that cannot be read halts its ring with a FETCH_ERR fault. -/
theorem readGivesUp_slot {r : DmaRead} {n i : Nat} (s : State) (hpurpose : r.purpose = .slot n i) : readGivesUp r s =
    haltSettle n (ringFault n 2 ((slotUnread n i s).ring n).sqHead.toNat (slotUnread n i s)) := by
  simp only [readGivesUp, hpurpose, slotUnread]

/-- Parameters that cannot be read complete their command HOST_READ_FAILED. -/
theorem readGivesUp_params {r : DmaRead} {n t : Nat} {e : InFlight} {s : State} (hpurpose : r.purpose = .params n t)
    (hwaits : awaitsParams n t s = some e) :
    readGivesUp r s = complete { ring := n, tag := e.tag, crc := e.crc } e.opcode.toNat .hostReadFailed [] s := by
  unfold awaitsParams at hwaits
  simp only [readGivesUp, hpurpose, hwaits]

/-- Settles O27: what arrives, what is retried and what gives up. -/
theorem dmaReadsAct : Obligations.DmaReadsAct := by
  unfold Obligations.DmaReadsAct
  refine ⟨?_, ?_, ?_, ?_, ?_⟩
  · intro id n t r e b s hread hpurpose hwaits _ hcrc
    have hready := paramsArrived_ready (s := received b.length (readEnded id s)) hwaits b hcrc
    exact ⟨_, (exec_dmaReadCompletion_params hread hpurpose b).trans (congrArg _ hready), inFlight_setInFlight _ _ _,
      reads_setInFlight _ _ _, congrArg Counters.rx (cnt_setInFlight _ _ _)⟩
  · intro id n t r e b s hread hpurpose hwaits _ hcrc
    have hbad := paramsArrived_badCrc (s := received b.length (readEnded id s)) hwaits b hcrc
    exact (exec_dmaReadCompletion_params hread hpurpose b).trans (congrArg _ hbad)
  · rintro id r s _ hread rfl hfirst hlive rfl
    rw [← readFailed_first hfirst hlive]
    exact ⟨exec_dmaReadCompletion_error hread, exec_dmaReadTimeout_due hread⟩
  · rintro id n i r s hread rfl hretry hpurpose _
    refine ⟨slotUnread n i (readEnded r.id s), ?_, ?_, ?_⟩
    · rw [exec_dmaReadCompletion_error hread, readFailed_retry hretry, readGivesUp_slot _ hpurpose]
    · rw [slotUnread, ring_setRing]
    · exact reads_setInFlight _ _ _
  · rintro id n t r e s hread rfl hretry hpurpose hwaits
    rw [exec_dmaReadCompletion_error hread, readFailed_retry hretry]
    exact congrArg _ (readGivesUp_params (s := readEnded r.id s) hpurpose hwaits)

end Sys2Proof.Machine
end

section
/-! Laws of the CSI ports and of accepted frames (05 R188 to R190; 06 R234 to R244), and the proof of O21. -/
namespace Sys2Proof.Machine

/-! ### Host frames (05 R190) -/

/-- The oldest buffer of a running host stream is accepted once the gap since the last frame has passed. -/
theorem exec_hostFrameAccept {sc : Nat} (pic : Nat) {b : Buf} {bs : List Buf} {s : State} (hrun : s.running = true)
    (hstate : (s.stream sc).state = .running) (hkind : (s.stream sc).cfg.sourceKind = 1) (hbufs : (s.stream sc).inBufs = b :: bs)
    (hgap : nextAcceptAt (s.stream sc) ≤ s.now) (hgroup : lateForGroup s sc = false) (hpack : followsPack s sc = false) :
    exec (.hostFrameAccept sc pic) s = .next (announceAccept sc (acceptFrame sc (some b) (some pic) (s.stream sc).esid 0 0
      (s.setStream sc { s.stream sc with inBufs := bs }))) := by
  change execHostFrameAccept sc pic s = _
  simp only [execHostFrameAccept, hbufs, hrun, hstate, hkind, hgap, hgroup, hpack, beq_self_eq_true, decide_true, Bool.not_false,
    Bool.and_true, if_true]

/-! ### Packets of an open port (06 R235 to R242) -/

section
variable {port vc : Nat} {s : State} (hopen : portOpen (s.port port) = true)
include hopen

/-- A frame start on an enabled virtual channel leaves a frame open at its source that has no line yet. -/
theorem exec_csiFrameStart_opens (sf : Nat) (corrected : Bool) (hvc : bit (s.port port).vcMask vc = true) :
    ∃ u y f, exec (.csiFrameStart port vc sf corrected false) s = .next (State.setSource u (port * 16 + vc) y) ∧
      y.open_ = some f ∧ f.sensorFrame = sf ∧ f.lines = 0 := by
  change ∃ u y f, execCsiFrameStart port vc sf corrected false s = _ ∧ _
  simp only [execCsiFrameStart, hopen, hvc]
  exact ⟨_, _, _, rfl, rfl, rfl, rfl⟩

/-- A frame start whose header is past correction is counted. -/
theorem exec_csiFrameStart_lost (sf : Nat) (corrected : Bool) :
    exec (.csiFrameStart port vc sf corrected true) s = .next (countCsi port vc .header s) := by
  change execCsiFrameStart port vc sf corrected true s = _
  simp only [execCsiFrameStart, hopen]
  rfl

/-- A frame start on a virtual channel that is not enabled is counted. -/
theorem exec_csiFrameStart_channel (sf : Nat) (hvc : bit (s.port port).vcMask vc = false) :
    exec (.csiFrameStart port vc sf false false) s = .next (countCsi port vc .channel s) := by
  change execCsiFrameStart port vc sf false false s = _
  simp only [execCsiFrameStart, hopen, hvc]
  rfl

variable (hresumed : (s.port port).awaitStart = false)
include hresumed

/-- A frame end ends the open frame of its source; without one it is counted as stray. -/
theorem exec_csiFrameEnd_intact (sf : Nat) (hvc : bit (s.port port).vcMask vc = true) :
    exec (.csiFrameEnd port vc sf 0) s = .next (if (s.source (port * 16 + vc)).open_.isSome then endFrame port vc s
      else countCsi port vc .strayEnd s) := by
  change execCsiFrameEnd port vc sf 0 s = _
  simp only [execCsiFrameEnd, hopen, hresumed, hvc]
  rfl

/-- A frame end whose header is past correction is counted. -/
theorem exec_csiFrameEnd_lost (sf : Nat) : exec (.csiFrameEnd port vc sf 2) s = .next (countCsi port vc .header s) := by
  change execCsiFrameEnd port vc sf 2 s = _
  simp only [execCsiFrameEnd, hopen, hresumed]
  rfl

/-- A packet of the profile's data type is a line of the open frame of its source. -/
theorem exec_csiLongPacket_line {dt : Nat} (b : Bytes) {f : OpenFrame} (hvc : bit (s.port port).vcMask vc = true) (hdata : dt ≠ 0x12)
    (hprofile : (s.source (port * 16 + vc)).profile ≠ []) (htype : dt = fld (s.source (port * 16 + vc)).profile 2 1)
    (hframe : (s.source (port * 16 + vc)).open_ = some f) :
    exec (.csiLongPacket port vc dt 0 true b) s = .next (lineArrives (port * 16 + vc) f (some b) s) := by
  have hknown : (decide (dt ≠ 0x12) && ((s.source (port * 16 + vc)).profile.isEmpty
      || decide (dt ≠ fld (s.source (port * 16 + vc)).profile 2 1))) = false := by
    simp [hprofile, ← htype]
  change execCsiLongPacket port vc dt 0 true b s = _
  simp only [execCsiLongPacket, hopen, hresumed, hvc, if_neg (show ¬ (0 : Nat) = 1 by decide), hknown, hframe, if_neg hdata]
  rfl

/-- A packet whose header is past correction is counted, and a line of the profile's data type is lost. -/
theorem exec_csiLongPacket_header (dt : Nat) (crcOk : Bool) (b : Bytes) :
    exec (.csiLongPacket port vc dt 2 crcOk b) s = .next (lostLine port vc dt (countCsi port vc .header s)) := by
  change execCsiLongPacket port vc dt 2 crcOk b s = _
  simp only [execCsiLongPacket, hopen, hresumed]
  rfl

/-- A packet whose payload fails its CRC is counted, and a line of the profile's data type is lost. -/
theorem exec_csiLongPacket_payload (dt : Nat) (b : Bytes) :
    exec (.csiLongPacket port vc dt 0 false b) s = .next (lostLine port vc dt (countCsi port vc .payload s)) := by
  change execCsiLongPacket port vc dt 0 false b s = _
  simp only [execCsiLongPacket, hopen, hresumed]
  rfl

end

/-! ### Timeouts (05 R188; 06 R241) -/

/-- A frame with a line that has had no packet for a sixteenth of its period ends. -/
theorem exec_frameEndTimeout {port vc q : Nat} {f : OpenFrame} {s : State} (hframe : (s.source (port * 16 + vc)).open_ = some f)
    (hperiod : sourcePeriod s (port * 16 + vc) = some q) (hlines : f.lines ≠ 0) (hquiet : f.lastPacketAt + q / 16 ≤ s.now) :
    exec (.frameEndTimeout port vc) s = .next (endFrame port vc (countCsi port vc .timeout s)) := by
  change execFrameEndTimeout port vc s = _
  simp only [execFrameEndTimeout, hframe, hperiod, decide_eq_true hlines, decide_eq_true hquiet]
  rfl

/-- A running camera stream without a frame for 8 periods reports its source lost. -/
theorem exec_sourceLostTimeout {sc : Nat} {s : State} (hstate : (s.stream sc).state = .running)
    (hkind : (s.stream sc).cfg.sourceKind = 2) (hlost : (s.stream sc).lost = false)
    (hdue : (if (s.stream sc).accepted then (s.stream sc).lastAcceptAt else (s.stream sc).startedAt)
      + 8 * periodNs (s.stream sc).cfg ≤ s.now) :
    exec (.sourceLostTimeout sc) s = .next (emit (srcSc sc) 0x0107 (le 4 (s.stream sc).sourceFrame.toNat)
      (s.setStream sc { s.stream sc with lost := true })) := by
  change execSourceLostTimeout sc s = _
  simp only [execSourceLostTimeout, hstate, hkind, hlost, hdue]
  rfl

/-! ### Statistics (06 R265) -/

/-- The oldest ended frame of a source leaves without a record where it was not accepted. -/
theorem exec_statsComplete_discarded {port vc : Nat} {f : OpenFrame} {rest : List OpenFrame} {s : State}
    (hclosed : (s.source (port * 16 + vc)).closed = f :: rest) (hdiscarded : f.accepted = none) :
    exec (.statsComplete port vc) s =
      .next (s.setSource (port * 16 + vc) { s.source (port * 16 + vc) with closed := rest }) := by
  change execStatsComplete port vc s = _
  simp only [execStatsComplete, hclosed, hdiscarded]

/-- Settles O21: each clause is the law of its packet or timer. -/
theorem csiEventsAct : Obligations.CsiEventsAct := by
  unfold Obligations.CsiEventsAct
  refine ⟨fun _ pic _ _ _ => exec_hostFrameAccept pic, ?_,
    fun _ _ sf c _ hopen => ⟨exec_csiFrameStart_lost hopen sf c, exec_csiFrameStart_channel hopen sf⟩,
    fun _ _ sf _ hopen hresumed hvc =>
      ⟨exec_csiFrameEnd_intact hopen hresumed sf hvc, exec_csiFrameEnd_lost hopen hresumed sf⟩,
    fun _ _ _ b _ _ hopen hresumed => exec_csiLongPacket_line hopen hresumed b,
    fun _ _ dt b _ hopen hresumed =>
      ⟨exec_csiLongPacket_header hopen hresumed dt true b, exec_csiLongPacket_payload hopen hresumed dt b⟩,
    fun _ _ _ _ _ => exec_frameEndTimeout, ?_, ?_⟩
  · intro port vc sf c s hopen hvc
    obtain ⟨u, y, f, hexec, hframe, hnumber, hlines⟩ := exec_csiFrameStart_opens hopen sf c hvc
    exact ⟨_, f, hexec, by rw [source_setSource, hframe], hnumber, hlines⟩
  · intro sc s hstate hkind hlost hdue
    have hexec := exec_sourceLostTimeout hstate hkind hlost hdue
    exact ⟨hexec, _, hexec, quiet_emit _ _ _ _⟩
  · intro port vc f rest s hclosed
    by_cases hdiscarded : f.accepted = none
    · exact ⟨_, exec_statsComplete_discarded hclosed hdiscarded, fun _ => rfl⟩
    · exact ⟨_, rfl, fun hnone => absurd hnone hdiscarded⟩

end Sys2Proof.Machine
end

section
/-! Laws of the lanes of a CSI port (06 R235 to R238; 19 R770), and the proof of O22. -/
namespace Sys2Proof.Machine

/-! ### Bursts (06 R236, R238) -/

/-- The lanes of a port that have missed 16 bursts in a row that every other lane has started (06 R238). -/
abbrev stuckLanes (p : Port) : List Nat := (List.range p.lanes).filter (fun l => 16 ≤ Tab.get 0 p.missed l)

section
variable (p : Port) (started : Nat)
@[simp] theorem missBursts_lanes : (missBursts p started).lanes = p.lanes := rfl
@[simp] theorem missBursts_firstBurst : (missBursts p started).firstBurst = p.firstBurst := rfl
@[simp] theorem missBursts_pnReported : (missBursts p started).pnReported = p.pnReported := rfl
@[simp] theorem missBursts_inverted : (missBursts p started).inverted = p.inverted := rfl
end

section
variable {port started : Nat} {s : State} (henable : (s.port port).enable = true)
  (hmoving : stuckLanes (missBursts (s.port port) started) = [])
include henable hmoving

/-- A burst all of whose lanes started, none of them inverted, counts as good. -/
theorem exec_csiHsBurst_good (hall : started % 2 ^ (s.port port).lanes = laneMask (s.port port)) :
    exec (.csiHsBurst port started 0 none) s = .next (burstsGood port (s.setPort port
      { missBursts (s.port port) started with
        firstBurst := some ((s.port port).firstBurst.getD s.now), badHeaders := 0,
        goodBursts := (s.port port).goodBursts + 1 })) := by
  rw [stuckLanes, missBursts_lanes] at hmoving
  change execCsiHsBurst port started 0 none s = _
  simp [execCsiHsBurst, henable, hall, hmoving, toMask]

/-- The first inverted lanes of an enable are reported; a burst that not every lane started ends the count of good ones. -/
theorem exec_csiHsBurst_inverted {inverted : Nat} (hfirst : (s.port port).pnReported = false) (hinverted : inverted ≠ 0)
    (hpart : started % 2 ^ (s.port port).lanes ≠ laneMask (s.port port)) :
    exec (.csiHsBurst port started inverted none) s = .next (burstsGood port
      (portFault (srcCsi port) 0x02 port inverted 0 false (s.setPort port
        { missBursts (s.port port) started with
          firstBurst := some ((s.port port).firstBurst.getD s.now), pnReported := true,
          inverted := (s.port port).inverted ||| inverted, badHeaders := 0, goodBursts := 0 }))) := by
  rw [stuckLanes, missBursts_lanes] at hmoving
  have hnew : (inverted != 0) = true := bne_iff_ne.mpr hinverted
  change execCsiHsBurst port started inverted none s = _
  simp [execCsiHsBurst, henable, hfirst, hnew, hpart, hmoving, toMask]

end

/-! ### Deskew and clock (06 R235, R238) -/

section
variable {port : Nat} {s : State} (henable : (s.port port).enable = true)
include henable

/-- A deskew at 1,500 Mb/s or more gives the port its lane delays. -/
theorem exec_deskewSequence (delays : List Nat) (hrate : 1500 ≤ (s.port port).rate) : exec (.deskewSequence port delays) s =
    .next (burstsGood port (s.setPort port { s.port port with deskewed := true, delays := delays })) := by
  change execDeskewSequence port delays s = _
  simp only [execDeskewSequence, henable, decide_eq_true hrate]
  rfl

/-- Without a deskew 5 ms after its first burst, such a port reports DESKEW_MISSING. -/
theorem exec_deskewTimeout {t : Nat} (hburst : (s.port port).firstBurst = some t) (hrate : 1500 ≤ (s.port port).rate)
    (hnone : (s.port port).deskewed = false) (hdue : t + 5000000 ≤ s.now) :
    exec (.deskewTimeout port) s = .next (portFault (srcCsi port) 0x01 port 0 0 true s) := by
  change execDeskewTimeout port s = _
  simp only [execDeskewTimeout, hburst, henable, decide_eq_true hrate, hnone, decide_eq_true hdue]
  rfl

/-- A lost clock is a fault, and ends the count of good bursts. -/
theorem exec_clockLostTimeout (hclock : (s.port port).clockLost = false) : exec (.clockLostTimeout port) s =
    .next (portFault (srcCsi port) 0x05 port 0 0 true (s.setPort port { s.port port with clockLost := true, goodBursts := 0 })) := by
  change execClockLostTimeout port s = _
  simp only [execClockLostTimeout, henable, hclock]
  rfl

end

/-- Settles O22: each clause is the law of its lane event. -/
theorem csiLanesAct : Obligations.CsiLanesAct := by
  unfold Obligations.CsiLanesAct
  refine ⟨fun _ _ _ henable hall hmoving => exec_csiHsBurst_good henable hmoving hall,
    fun _ _ _ _ henable hfirst hinverted hpart hmoving =>
      ⟨_, exec_csiHsBurst_inverted henable hmoving hfirst hinverted hpart, rfl⟩,
    fun _ delays _ henable => exec_deskewSequence henable delays,
    fun _ _ _ hburst henable => exec_deskewTimeout henable hburst, fun _ _ => exec_clockLostTimeout⟩

end Sys2Proof.Machine
end

section
/-! Laws of exposure sets and of the sensor control buses (04 R150; 06 R258 to R263, R273; 19 R772), and the proof of O23. -/
namespace Sys2Proof.Machine

/-! ### Superseded sets (06 R261) -/

@[simp] theorem quiet_announceSuperseded (sc : Nat) (by_ : U16) (l : List Exposure) (s : State) :
    (announceSuperseded sc by_ l s).quiet = s.quiet :=
  foldl_keeps State.quiet (fun _ _ => quiet_emit _ _ _ _) l s

/-- Superseding takes sets from their stream; the rest is reports. -/
theorem quiet_supersedeNow (sc l : Nat) (s : State) : (supersedeNow sc l s).quiet = (s.setStream sc
    { s.stream sc with exposures := (supersedeList l (s.stream sc).nextFrame (s.stream sc).exposures).1 }).quiet :=
  foldl_keeps State.quiet (fun _ _ => quiet_announceSuperseded _ _ _ _) _ _

section
variable (sc l : Nat) (s : State)

@[simp] theorem running_supersedeNow : (supersedeNow sc l s).running = s.running :=
  (congrArg State.running (quiet_supersedeNow sc l s) :)

/-- Superseding leaves the stream's state and route and the sources. -/
theorem stream_supersedeNow : (supersedeNow sc l s).stream sc =
    { s.stream sc with exposures := (supersedeList l (s.stream sc).nextFrame (s.stream sc).exposures).1 } :=
  (congrArg (fun u : State => u.stream sc) (quiet_supersedeNow sc l s) :).trans (stream_setStream s sc _)

@[simp] theorem state_supersedeNow : ((supersedeNow sc l s).stream sc).state = (s.stream sc).state := by
  rw [stream_supersedeNow]

@[simp] theorem route_supersedeNow : ((supersedeNow sc l s).stream sc).route = (s.stream sc).route := by
  rw [stream_supersedeNow]

@[simp] theorem source_supersedeNow (src : Nat) : (supersedeNow sc l s).source src = s.source src :=
  (congrArg (fun u : State => u.source src) (quiet_supersedeNow sc l s) :)

@[simp] theorem streamProfile_supersedeNow : streamProfile (supersedeNow sc l s) sc = streamProfile s sc := by
  unfold streamProfile
  rw [route_supersedeNow]
  simp only [source_supersedeNow]

end

/-! ### The write of a set (06 R258, R259) -/

/-- The profile of a stream is that of the source it is routed to. -/
theorem streamProfile_of_route {sc src : Nat} {s : State} (hroute : (s.stream sc).route = some src) :
    streamProfile s sc = (s.source src).profile := by
  simp [streamProfile, hroute]

/-- The set of a running stream that is due, where none is being written. -/
theorem dueExposure_of_running {sc : Nat} {s : State} (hrun : s.running = true) (hstate : (s.stream sc).state = .running)
    (hprofile : streamProfile s sc ≠ []) (hidle : (s.stream sc).exposures.any (·.writing) = false) :
    dueExposure s sc = (s.stream sc).exposures.find? (exposureDue (spLatency (streamProfile s sc)) (s.stream sc).nextFrame) := by
  simp [dueExposure, hrun, hstate, hprofile, hidle]

/-- The write of template k of a set, on its bus (06 R228). -/
abbrev templateWrite (sp : Bytes) (e : Exposure) (k : Nat) : Sent :=
  .sctl (spBus sp) (bits (fld sp 6 1) 0 7) (spSpeed sp) (b2n (bit (fld sp 5 1) 2)) (templateBytes sp e k) 0

/-- The state in which every template of a set has been put on its bus, which is busy for their time. -/
def templatesWritten (sp : Bytes) (e : Exposure) (s : State) : State :=
  ((List.range (spCount sp)).foldl (fun s k => s.send (templateWrite sp e k)) s).setSctl (spBus sp)
    { s.sctl (spBus sp) with busyUntil := max s.now (s.sctl (spBus sp)).busyUntil + exposureTime sp }

/-- What a list of messages adds to those sent. -/
theorem sent_foldl_send {α : Type} (m : α → Sent) (l : List α) (s : State) :
    (l.foldl (fun s a => s.send (m a)) s).sent = s.sent ++ l.map m := by
  induction l generalizing s with
  | nil => simp
  | cons a l ih => simp [ih]

theorem mem_sent_templatesWritten (sp : Bytes) (e : Exposure) (s : State) {k : Nat} (hk : k < spCount sp) :
    templateWrite sp e k ∈ (templatesWritten sp e s).sent := by
  rw [templatesWritten, State.setSctl_sent, sent_foldl_send]
  exact List.mem_append_right _ (List.mem_map_of_mem (List.mem_range.mpr hk))

section
variable {sc src : Nat} {sp : Bytes} {s u : State} (hrun : s.running = true) (hstate : (s.stream sc).state = .running)
  (hroute : (s.stream sc).route = some src) (hsp : sp = (s.source src).profile) (hprofile : sp ≠ [])
  (hu : u = supersedeNow sc (spLatency sp) s)
include hrun hstate hroute hsp hprofile hu

/-- Once the superseded sets of a running stream are gone, the first set whose write frame has come is due. -/
theorem dueExposure_supersedeNow (hidle : (u.stream sc).exposures.any (·.writing) = false) :
    dueExposure u sc = (u.stream sc).exposures.find? (exposureDue (spLatency sp) (u.stream sc).nextFrame) := by
  have hsame : streamProfile u sc = sp := by
    rw [hu, streamProfile_supersedeNow, streamProfile_of_route hroute, hsp]
  rw [dueExposure_of_running (by rw [hu, running_supersedeNow, hrun]) (by rw [hu, state_supersedeNow, hstate])
    (hsame ▸ hprofile) hidle, hsame]

/-- Within its window, a set that is due is written with its commit where all of it ends before the window closes. -/
theorem exec_exposureWriteWindow {opens close : Nat} {e : Exposure} {edge : Option Nat}
    (hdue : (u.stream sc).exposures.find? (exposureDue (spLatency sp) (u.stream sc).nextFrame) = some e)
    (hwindow : writeWindow u src edge = some (opens, close)) (hopen : opens ≤ u.now)
    (hfirst : earlierWindow u sc (spBus sp) close = false) (hfree : (u.sctl (spBus sp)).stuck = false)
    (hidle : (u.stream sc).exposures.any (·.writing) = false)
    (hfits : max u.now (u.sctl (spBus sp)).busyUntil + exposureTime sp < close) :
    exec (.exposureWriteWindow sc edge) s = .next (onExposure sc (fun y => y.esid = e.esid)
      (fun y => { y with writing := true, commitSent := true }) (templatesWritten sp e u)) := by
  have hset : dueExposure u sc = some e := (dueExposure_supersedeNow hrun hstate hroute hsp hprofile hu hidle).trans hdue
  have hroute' : (u.stream sc).route = some src := by rw [hu, route_supersedeNow, hroute]
  have hrunning : (s.running && (s.stream sc).state == .running && !sp.isEmpty) = true := by
    simp [hrun, hstate, hprofile]
  have hready : ((u.sctl (spBus sp)).stuck || decide (u.now < opens) || earlierWindow u sc (spBus sp) close) = false := by
    rw [hfree, hfirst, decide_eq_false (Nat.not_lt.mpr hopen)]
    rfl
  change execExposureWriteWindow sc edge s = _
  simp only [execExposureWriteWindow, streamProfile_of_route hroute, ← hsp, hrunning, if_true, ← hu, hset, hroute',
    Option.bind_some, hwindow, hready, Bool.false_eq_true, if_false, decide_eq_true hfits, if_pos hfits]
  rfl

end

/-! ### The end of a write (06 R259 to R262) -/

/-- A set whose commit was acknowledged lands LATENCY frames after the next frame. -/
theorem exec_exposureCommitAck {sc : Nat} {e : Exposure} {s : State}
    (hset : (s.stream sc).exposures.find? (fun e => e.writing && e.commitSent) = some e) :
    Reaches (.exposureCommitAck sc) s (onExposure sc (fun y => y.esid = e.esid) (fun y =>
      { y with writing := false,
               landing := some ((s.stream sc).nextFrame + BitVec.ofNat 32 (spLatency (streamProfile s sc))) }) s) := by
  refine ⟨_, rfl, ?_⟩
  simp only [hset]
  split_ifs
  · rfl
  · exact quiet_emit _ _ _ _

/-- A set that is being written when its window closes is tried again; its eighth failure drops it and is reported. -/
theorem exec_exposureWindowClose {sc : Nat} (result : Nat) {e : Exposure} {s : State}
    (hset : (s.stream sc).exposures.find? (·.writing) = some e) :
    exec (.exposureWindowClose sc result) s = .next (if e.attempts + 1 < 8
      then onExposure sc (fun y => y.esid = e.esid) (fun y =>
        { y with writing := false, commitSent := false, attempts := y.attempts + 1, lastResult := result }) s
      else emit (srcSc sc) 0x0304 (le 2 e.esid.toNat ++ le 1 result ++ le 1 0 ++ le 4 e.target.toNat) (s.setStream sc
        { s.stream sc with exposures := (s.stream sc).exposures.filter (fun y => y.esid ≠ e.esid) })) := by
  change execExposureWindowClose sc result s = _
  simp only [execExposureWindowClose, hset, Option.orElse_some]

/-! ### The buses (04 R150; 06 R273) -/

@[simp] theorem quiet_xferData (t : Xfer) (result : Nat) (data : Bytes) (s : State) : (xferData t result data s).quiet = s.quiet := by
  unfold xferData
  split_ifs <;> rfl

theorem staged_xferData (t : Xfer) (result : Nat) (data : Bytes) (s : State) : (xferData t result data s).staged = s.staged :=
  (congrArg State.staged (quiet_xferData t result data s) :)

/-- A transfer that is put on its bus changes nothing but the messages sent. -/
@[simp] theorem quiet_startXfer (bus : Nat) (t : Xfer) (s : State) : (startXfer bus t s).quiet = s.quiet := rfl

/-- States that differ in reports alone still do after the same change of their staged commands. -/
theorem quiet_setStaged {s t : State} (l : List Staged) (h : t.quiet = s.quiet) :
    { t with staged := l }.quiet = { s with staged := l }.quiet :=
  (congrArg (fun u : State => { u with staged := l }) h :)

/-- The transfer at the head of a bus leaves it, and the command that staged it ends. -/
theorem exec_sctlXferDone {bus : Nat} (result nak : Nat) (data : Bytes) {t : Xfer} {rest : List Xfer} {s : State}
    (hxfers : (s.sctl bus).xfers = t :: rest) : Reaches (.sctlXferDone bus result nak data) s
      { s.setSctl bus { s.sctl bus with xfers := rest, recovered := false } with
        staged := s.staged.filter (fun e => !(e.ring == t.ring && e.tag == t.tag && e.opcode = 0x0307)) } := by
  refine ⟨_, (show execSctlXferDone bus result nak data s = _ from rfl), ?_⟩
  simp only [hxfers, staged_xferData, State.setSctl_staged]
  cases rest with
  | nil => exact (quiet_committed _ _ _ _ _ _ _ _).trans (quiet_setStaged _ (quiet_xferData _ _ _ _))
  | cons x rest =>
    exact (quiet_startXfer _ _ _).trans ((quiet_committed _ _ _ _ _ _ _ _).trans (quiet_setStaged _ (quiet_xferData _ _ _ _)))

section
variable (bus : Nat) (sda scl : Bool) (s : State)

/-- A bus that its 9 clocks free, with no transfer on it, is noted as recovered. -/
theorem exec_sctlStuckTimeout_idle (hxfers : (s.sctl bus).xfers = []) : exec (.sctlStuckTimeout bus sda scl true) s =
    .next ((s.send (.recovery bus)).setSctl bus { s.sctl bus with recovered := true }) := by
  change execSctlStuckTimeout bus sda scl true s = _
  simp only [execSctlStuckTimeout, hxfers, if_true]

/-- A freed bus repeats the transfer in progress, once. -/
theorem exec_sctlStuckTimeout_again {t : Xfer} {rest : List Xfer} (hxfers : (s.sctl bus).xfers = t :: rest)
    (hfirst : (s.sctl bus).recovered = false) : exec (.sctlStuckTimeout bus sda scl true) s =
    .next (((s.send (.recovery bus)).setSctl bus { s.sctl bus with recovered := true }).send
      (.sctl bus t.addr t.speed t.mode t.write t.readLen)) := by
  change execSctlStuckTimeout bus sda scl true s = _
  simp only [execSctlStuckTimeout, hxfers, hfirst]
  rfl

/-- A bus that stays held low is stuck and reported with the lines that are low. -/
theorem exec_sctlStuckTimeout_stuck : exec (.sctlStuckTimeout bus sda scl false) s =
    .next (portFault srcPorts 0x20 (10 + bus) 0 (b2n sda + 2 * b2n scl) true ((s.send (.recovery bus)).setSctl bus
      { s.sctl bus with stuck := true })) :=
  rfl

end

/-- A stuck bus whose lines read high again is reported. -/
theorem exec_sctlBusRecovered (bus : Nat) (s : State) (hstuck : (s.sctl bus).stuck = true) :
    exec (.sctlBusRecovered bus) s =
      .next (portRecovered srcPorts (10 + bus) (s.setSctl bus { s.sctl bus with stuck := false })) :=
  congrArg Host.Outcome.next (if_pos hstuck)

/-- Settles O23: each clause is the law of its event. -/
theorem exposureAndBusAct : Obligations.ExposureAndBusAct := by
  unfold Obligations.ExposureAndBusAct
  refine ⟨fun _ _ _ => exec_exposureCommitAck, fun _ result _ _ => exec_exposureWindowClose result, ?_,
    fun _ result nak data _ _ _ => exec_sctlXferDone result nak data,
    fun bus sda scl s => ⟨exec_sctlStuckTimeout_idle bus sda scl s, fun _ _ => exec_sctlStuckTimeout_again bus sda scl s,
      exec_sctlStuckTimeout_stuck bus sda scl s⟩,
    exec_sctlBusRecovered⟩
  rintro sc src fs n opens e edge sp s u hrun hstate hroute hsp hprofile hu hdue _ hwindow hopen hfirst hfree hidle hfits rfl
  exact ⟨_, exec_exposureWriteWindow hrun hstate hroute hsp hprofile hu hdue hwindow hopen hfirst hfree hidle hfits,
    fun _ => mem_sent_templatesWritten sp e u⟩

end Sys2Proof.Machine
end

section
/-! Laws of the IR lamps, the sync pins and the sensor supplies (04 R149; 06 R267 to R271; 19 R764), and the proof of O24. -/
namespace Sys2Proof.Machine

/-! ### IR lamps (06 R267 to R270) -/

/-- The state in which a pulse of a channel has begun for frame k of stream sc: the channel sinks, and the frame is noted as fired. -/
def pulseBegun (ch sc : Nat) (k : U32) (e : Int) (clipped : Bool) (s : State) : State :=
  (s.setIrled ch { s.irled ch with sinking := true, pulse := some (k, e.toNat), pulseFor := sc }).setSource (s.irled ch).source
    { s.source (s.irled ch).source with fired := Tab.put (s.source (s.irled ch).source).fired (firedKey sc k) clipped }

section
variable {ch : Nat} {s : State}

/-- A due pulse of an idle channel in mode 1 starts at the channel's current. -/
theorem exec_irledPulseStart {sc : Nat} {k : U32} {e : Int} {clipped : Bool} (hfeeds : feeds s (s.irled ch).source = some sc)
    (hmode : (s.irled ch).mode = 1) (hfault : (s.irled ch).faulted = false) (hidle : (s.irled ch).pulse = none)
    (hdue : pulseDue s (s.irled ch) = some (k, e, clipped)) :
    exec (.irledPulseStart ch) s = .next ((pulseBegun ch sc k e clipped s).send (.pin .irled ch (s.irled ch).current)) := by
  have hready : (decide ((s.irled ch).mode = 1) && !(s.irled ch).faulted && (s.irled ch).pulse.isNone) = true := by
    rw [decide_eq_true hmode, hfault, hidle]
    rfl
  change execIrledPulseStart ch s = _
  simp only [execIrledPulseStart, hready, hdue, hfeeds]
  rfl

/-- The channel of a pulse that has begun. -/
theorem irled_pulseBegun (sc : Nat) (k : U32) (e : Int) (clipped : Bool) : (pulseBegun ch sc k e clipped s).irled ch =
    { s.irled ch with sinking := true, pulse := some (k, e.toNat), pulseFor := sc } :=
  irled_setIrled s ch _

/-- The pulses noted at a source once one has begun for it. -/
theorem fired_pulseBegun (sc : Nat) (k : U32) (e : Int) (clipped : Bool) :
    ((pulseBegun ch sc k e clipped s).source (s.irled ch).source).fired =
      Tab.put (s.source (s.irled ch).source).fired (firedKey sc k) clipped := by
  rw [pulseBegun, source_setSource]

/-- A pulse whose time has passed ends; after one that is not the first since IRLED_SET nothing recovers. -/
theorem exec_irledPulseEnd {k : U32} {e : Nat} (hpulse : (s.irled ch).pulse = some (k, e)) (hdue : e ≤ s.now)
    (hlater : (s.irled ch).fresh = false) : exec (.irledPulseEnd ch) s =
    .next ((s.setIrled ch { s.irled ch with sinking := false, pulse := none }).send (.pin .irled ch 0)) := by
  change execIrledPulseEnd ch s = _
  simp only [execIrledPulseEnd, hpulse, if_pos hdue, hlater]
  rfl

/-- A fault of a channel that sinks 50 mA or more, outside any pulse, switches it off and is reported. -/
theorem exec_irledFaultDetect (short : Bool) (hsinks : (s.irled ch).sinking = true) (hcurrent : 50 ≤ (s.irled ch).current)
    (hidle : (s.irled ch).pulse = none) : exec (.irledFaultDetect ch short) s =
    .next (portFault srcPorts (if short then 0x19 else 0x18) (8 + ch) 0 0 true ((s.setIrled ch
      { s.irled ch with sinking := false, pulse := none, faulted := true }).send (.pin .irled ch 0))) := by
  change execIrledFaultDetect ch short s = _
  simp only [execIrledFaultDetect, hsinks, decide_eq_true hcurrent, hidle]
  rfl

end

/-! ### Sync pins (06 R271) -/

/-- A free-running output pulses at each whole multiple of its period. -/
theorem exec_fsyncOutEdge (k : Nat) (s : State) (hmode : (s.fsync k).mode = 1) (hdue : s.us % max 1 (s.fsync k).period = 0) :
    exec (.fsyncOutEdge k) s = .next (fsyncPulse k s) := by
  change execFsyncOutEdge k s = _
  simp only [execFsyncOutEdge, hmode, hdue]
  rfl

/-- A stamp leaves the mode of every pin. -/
theorem mode_setFsync_stamp (k time j : Nat) (s : State) :
    ((s.setFsync k { s.fsync k with stamp := time }).fsync j).mode = (s.fsync j).mode := by
  by_cases hj : j = k
  · rw [hj, fsync_setFsync]
  · exact congrArg Fsync.mode (tab_get_put_ne _ _ _ _ _ hj)

/-- Where no output follows an input, an edge on an input is not repeated. -/
theorem followers_none (k : Nat) {s : State} (hnone : ∀ j < 4, (s.fsync j).mode ≠ 2) :
    (List.range 4).foldl (fun s j => if (s.fsync j).mode = 2 && (s.fsync j).follow = k then fsyncPulse j s else s) s = s := by
  refine List.foldlRecOn (motive := (· = s)) _ _ rfl fun u hu j hj => ?_
  rw [hu, if_neg]
  simp [hnone j (List.mem_range.mp hj)]

/-- An edge on an input that is stamped and that no output follows. -/
theorem exec_fsyncInEdge (k : Nat) (s : State) (hstamp : (s.fsync k).stamping = true) (hnone : ∀ j < 4, (s.fsync j).mode ≠ 2) :
    exec (.fsyncInEdge k) s = .next (s.setFsync k { s.fsync k with stamp := s.us }) := by
  have hmode : ∀ j < 4, ((s.setFsync k { s.fsync k with stamp := s.us }).fsync j).mode ≠ 2 :=
    fun j hj => ne_of_eq_of_ne (mode_setFsync_stamp k s.us j s) (hnone j hj)
  change execFsyncInEdge k s = _
  rw [execFsyncInEdge, if_pos hstamp]
  exact congrArg Host.Outcome.next (followers_none k hmode)

/-! ### Sensor supplies (04 R149; 19 R764) -/

section
variable (k : Nat) (s : State)

/-- A supply that settles answers the commands that waited for it. -/
theorem exec_sensorPwrSettled (hon : (s.spwr k).on = true) (hsettles : (s.spwr k).settling = true) :
    exec (.sensorPwrSettled k) s = .next (powerAnswers (s.spwr k).cmd
      (portRecovered srcPorts (4 + k) (s.setSpwr k { on := true }))) := by
  change execSensorPwrSettled k s = _
  simp only [execSensorPwrSettled, hon, hsettles]
  rfl

/-- An overcurrent in a retry before the eighth opens the switch until the next retry, which is twice as far away each time. -/
theorem exec_sensorPwrOvercurrent_retry (hon : (s.spwr k).on = true) (hretry : 1 ≤ (s.spwr k).retries)
    (hleft : (s.spwr k).retries < 8) : exec (.sensorPwrOvercurrent k) s = .next (powerAnswers (s.spwr k).cmd ((s.setSpwr k
      { on := false, retries := (s.spwr k).retries, retryAt := some (s.now + 4000000 * 2 ^ (s.spwr k).retries) }).send
        (.pin .sensorPwr k 0))) := by
  change execSensorPwrOvercurrent k s = _
  simp only [execSensorPwrOvercurrent, hon, if_true, if_pos hleft, if_neg (Nat.ne_of_gt hretry), if_neg (Nat.not_le.mpr hleft)]

/-- An overcurrent in the eighth retry leaves the switch open and is reported. -/
theorem exec_sensorPwrOvercurrent_last (hon : (s.spwr k).on = true) (hlast : (s.spwr k).retries = 8) :
    exec (.sensorPwrOvercurrent k) s = .next (powerAnswers (s.spwr k).cmd (portFault srcPorts 0x12 (4 + k) 0 8 true
      ((s.setSpwr k { on := false, retries := 8 }).send (.pin .sensorPwr k 0)))) := by
  change execSensorPwrOvercurrent k s = _
  simp only [execSensorPwrOvercurrent, hon, hlast]
  rfl

/-- A retry whose time has come closes the switch again. -/
theorem exec_sensorPwrRetry (t : Nat) (hretry : (s.spwr k).retryAt = some t) (hdue : t ≤ s.now) :
    exec (.sensorPwrRetry k) s = .next ((s.setSpwr k
      { s.spwr k with on := true, settling := true, retries := (s.spwr k).retries + 1, retryAt := none }).send
        (.pin .sensorPwr k 1)) := by
  change execSensorPwrRetry k s = _
  simp only [execSensorPwrRetry, hretry, if_pos hdue]

/-- A backfeed opens the switch for good, is reported, and ends the commands that waited. -/
theorem exec_sensorPwrBackfeed (hon : (s.spwr k).on = true) : exec (.sensorPwrBackfeed k) s =
    .next (powerAnswers (s.spwr k).cmd (portFault srcPorts 0x11 (4 + k) 0 0 true
      ((s.setSpwr k {}).send (.pin .sensorPwr k 0)))) :=
  congrArg Host.Outcome.next (if_pos hon)

end

/-- Settles O24: each clause is the law of its event. -/
theorem lampsAndPinsAct : Obligations.LampsAndPinsAct := by
  unfold Obligations.LampsAndPinsAct
  refine ⟨fun _ sc k e clipped _ hfeeds hmode hfault hidle hdue =>
      ⟨_, exec_irledPulseStart hfeeds hmode hfault hidle hdue, irled_pulseBegun sc k e clipped, fired_pulseBegun sc k e clipped⟩,
    fun _ _ _ _ => exec_irledPulseEnd, fun _ short _ => exec_irledFaultDetect short, exec_fsyncOutEdge, exec_fsyncInEdge,
    exec_sensorPwrSettled, exec_sensorPwrOvercurrent_retry, exec_sensorPwrOvercurrent_last,
    fun k t s => exec_sensorPwrRetry k s t, exec_sensorPwrBackfeed⟩

end Sys2Proof.Machine
end

section
/-! Facts about the parts of a stream that its tiles, bands and outputs share: what touches no stream, an output found by its identity. -/
namespace Sys2Proof.Machine

/-! ### What the shared operations do to a stream's parts -/

/-- Changing the entries of a list that a predicate picks, where the change keeps them picked, changes the one found by it. -/
theorem find?_map_picked {α : Type} {p : α → Bool} {g : α → α} (hg : ∀ a, p a = true → p (g a) = true) (l : List α) :
    (l.map (fun a => if p a then g a else a)).find? p = (l.find? p).map g := by
  induction l with
  | nil => rfl
  | cons a l ih =>
    by_cases ha : p a = true
    · simp [ha, hg a ha]
    · simpa [ha] using ih

/-- An event touches no stream. -/
@[simp] theorem stream_emit (source code : Nat) (payload : Bytes) (s : State) (sc : Nat) :
    (emit source code payload s).stream sc = s.stream sc :=
  (congrArg (fun t => State.stream t sc) (quiet_emit source code payload s) :)

@[simp] theorem stream_putData (m : Mem) (a : Nat) (bs : Bytes) (held : Bool) (s : State) (sc : Nat) :
    (putData m a bs held s).stream sc = s.stream sc := by
  cases m <;> rfl

@[simp] theorem stream_clearHeld (sc : Nat) (n : U32) (ph b : Nat) (s : State) (k : Nat) :
    (clearHeld sc n ph b s).stream k = s.stream k := by
  unfold clearHeld
  split <;> rfl

/-- The fallback content goes to memory alone. -/
@[simp] theorem stream_fallbackRows (sc : Nat) (n : U32) (ph b : Nat) (s : State) (k : Nat) :
    (fallbackRows sc n ph b s).stream k = s.stream k := by
  simp only [fallbackRows]
  split
  · exact stream_putData _ _ _ _ _ _
  · rfl
  · rfl

/-- A stream is at work while it runs or drains. -/
theorem working_guard {x : Stream} (hwork : x.state = .running ∨ x.state = .draining) :
    (x.state == .running || x.state == .draining) = true := by
  simpa using hwork

/-! ### Outputs of a stream (05 R213) -/

/-- The output found under an identity carries it. -/
theorem output_identity {x : Stream} {f : U32} {ph d : Nat} {o : Output} (hout : x.output f ph d = some o) :
    o.frame = f ∧ o.phase = ph ∧ o.desc = d := by
  simpa [and_assoc] using List.find?_some hout

/-- Changing an output, but for its identity, changes the one found. -/
theorem output_onOutput {x : Stream} {f : U32} {ph d : Nat} {o : Output} (hout : x.output f ph d = some o) {g : Output → Output}
    (hg : ∀ o, (g o).frame = o.frame ∧ (g o).phase = o.phase ∧ (g o).desc = o.desc) :
    (x.onOutput f ph d g).output f ph d = some (g o) := by
  unfold Stream.output at hout
  simp only [Stream.output, Stream.onOutput]
  rw [find?_map_picked (fun a ha => by obtain ⟨hframe, hphase, hdesc⟩ := hg a; simpa [hframe, hphase, hdesc] using ha), hout]
  rfl

/-- A bound output is not bound again. -/
theorem bindOutput_of_bound {sc : Nat} {f : U32} {ph d : Nat} {o : Output} {s : State} (hout : (s.stream sc).output f ph d = some o)
    (hbound : o.bound = true) : bindOutput sc f ph d s = s := by
  simp only [bindOutput, hout, hbound, if_true]

/-- Whether a stream runs on a pack is a matter of its configuration, whatever else of it changes. -/
theorem packStream_setStream {sc : Nat} {x : Stream} {s : State} (hcfg : x.cfg = (s.stream sc).cfg) :
    packStream (s.setStream sc x) sc = packStream s sc := by
  simp only [packStream, stream_setStream, hcfg]
  rfl

end Sys2Proof.Machine
end

section
/-! Laws of tiles and bands (07 R281, R282, R295 to R301; 10 R432), and the proof of O37. -/
namespace Sys2Proof.Machine

/-! ### Tiles (07 R281, R295) -/

/-- A tile has the state it was set to. -/
theorem tileOf_setTile (x : Stream) (n : U32) (ph i : Nat) (st : TileState) : tileOf (setTile x n ph i st) n ph i = some st := by
  have hnone : (x.tiles.filter (fun t => !(t.interval = n && t.phase == ph && t.index == i))).find?
      (fun t => t.interval = n && t.phase == ph && t.index == i) = none :=
    List.find?_eq_none.mpr fun t ht hsame => by simp only [List.mem_filter, hsame, Bool.not_true, Bool.false_eq_true, and_false] at ht
  simp only [tileOf, setTile, List.find?_append, hnone]
  simp

/-- The stream with a checked tile: confirmed and counted, or to be recomputed. -/
def tileChecked (x : Stream) (n : U32) (ph i : Nat) (ok : Bool) : Stream :=
  if ok then (setTile x n ph i .confirmed).count .confirmed else setTile x n ph i .recompute

theorem tileOf_tileChecked (x : Stream) (n : U32) (ph i : Nat) (ok : Bool) :
    tileOf (tileChecked x n ph i ok) n ph i = some (if ok then .confirmed else .recompute) := by
  cases ok
  · exact tileOf_setTile x n ph i .recompute
  · exact tileOf_setTile x n ph i .confirmed

/-- A held tile whose interval has ended takes the check's result, unless an error that its reads found ended it. -/
theorem exec_tileCheck_held {sc f ph i : Nat} {ecc : Bool} (l : List ReadError) {o : Output} {s : State}
    (hwork : (s.stream sc).state = .running ∨ (s.stream sc).state = .draining)
    (hout : (s.stream sc).anyOutput (BitVec.ofNat 32 f) ph = some o)
    (hheld : tileOf (s.stream sc) (BitVec.ofNat 32 f) ph i = some .held) (hended : ecc = true ∨ intervalEnded (s.stream sc) o = true) :
    exec (.tileCheck sc f ph i ecc l) s = .next
      (if tileOf ((foundErrors none l s).stream sc) (BitVec.ofNat 32 f) ph i = some .held then
        (foundErrors none l s).setStream sc (tileChecked ((foundErrors none l s).stream sc) (BitVec.ofNat 32 f) ph i
          (!ecc && tileAgrees (foundErrors none l s) sc (BitVec.ofNat 32 f) o i))
      else foundErrors none l s) := by
  have hguard : ((s.stream sc).state == .running || (s.stream sc).state == .draining) &&
      tileOf (s.stream sc) (BitVec.ofNat 32 f) ph i == some .held && (ecc || intervalEnded (s.stream sc) o) := by
    simpa [hheld] using ⟨hwork, hended⟩
  change execTileCheck sc f ph i ecc l s = _
  simp only [execTileCheck, hout, if_pos hguard]
  by_cases hstill : tileOf ((foundErrors none l s).stream sc) (BitVec.ofNat 32 f) ph i = some .held
  · cases hok : !ecc && tileAgrees (foundErrors none l s) sc (BitVec.ofNat 32 f) o i <;> simp [hstill, tileChecked]
  · simp [hstill]

/-- A check of a tile that is not held changes nothing. -/
theorem exec_tileCheck_other {sc f ph i : Nat} (ecc : Bool) (l : List ReadError) {s : State}
    (hother : tileOf (s.stream sc) (BitVec.ofNat 32 f) ph i ≠ some .held) : exec (.tileCheck sc f ph i ecc l) s = .next s := by
  change execTileCheck sc f ph i ecc l s = _
  simp only [execTileCheck, beq_false_of_ne hother, Bool.and_false, Bool.false_and]
  split <;> rfl

/-- A tile agrees when every sample of its footprint does, in both components and the occlusion bit. -/
theorem tileAgrees_iff {sc : Nat} {n : U32} {o : Output} {p : Plan} {a b : FrameIn} {s : State} (i : Nat)
    (hplan : planOf s ((s.stream sc).cfgOf n) = some p) (hfirst : (s.stream sc).frameAt o.span.2.1 = some a)
    (hsecond : (s.stream sc).frameAt o.span.2.2 = some b) :
    tileAgrees s sc n o i = true ↔
      ∀ e ∈ footprint (netDims p ((s.stream sc).cfgOf n)).1 (netDims p ((s.stream sc).cfgOf n)).2 p.reach
          (((outputTiles s sc n).span i).1, ((outputTiles s sc n).span i).2.1) ((outputTiles s sc n).columns i),
        ((flowAt p a b e.1 e.2).1 - (specFlow p (s.stream sc) o e.1 e.2).1).natAbs ≤ ((s.stream sc).cfgOf n).specTol ∧
        ((flowAt p a b e.1 e.2).2.1 - (specFlow p (s.stream sc) o e.1 e.2).2.1).natAbs ≤ ((s.stream sc).cfgOf n).specTol ∧
        (flowAt p a b e.1 e.2).2.2 = (specFlow p (s.stream sc) o e.1 e.2).2.2 := by
  simp only [tileAgrees, hplan, hfirst, hsecond, List.all_eq_true, Bool.and_eq_true, decide_eq_true_eq, beq_iff_eq, and_assoc]

/-! ### Bands that are released (07 R282, R298; 10 R432) -/

/-- A band that the stream has is in the state that a change of it sets. -/
theorem bandOf_changed {x y : Stream} {n : U32} {ph b : Nat} {old st : BandState} {g : Band → Band} (hband : bandOf x n ph b = some old)
    (hg : ∀ e, (g e).interval = e.interval ∧ (g e).phase = e.phase ∧ (g e).index = e.index ∧ (g e).state = st)
    (hbands : y.bands = x.bands.map (fun e => if e.interval = n && e.phase == ph && e.index == b then g e else e)) :
    bandOf y n ph b = some st := by
  obtain ⟨e, hfind, -⟩ := Option.map_eq_some_iff.mp hband
  rw [bandOf, hbands,
    find?_map_picked (fun a ha => by obtain ⟨hinterval, hphase, hindex, -⟩ := hg a; simpa [hinterval, hphase, hindex] using ha), hfind]
  exact congrArg some (hg e).2.2.2

theorem bandOf_setBand {x : Stream} {n : U32} {ph b : Nat} {old : BandState} (hband : bandOf x n ph b = some old) (st : BandState) :
    bandOf (setBand x n ph b st) n ph b = some st :=
  bandOf_changed (g := fun e => { e with state := st }) hband (fun _ => ⟨rfl, rfl, rfl, rfl⟩) rfl

/-- An open band whose tiles are all final is released, and its outputs are bound. -/
theorem exec_bandRelease {sc f ph b : Nat} {s : State} (hwork : (s.stream sc).state = .running ∨ (s.stream sc).state = .draining)
    (hopen : bandOf (s.stream sc) (BitVec.ofNat 32 f) ph b = some .open_) (hfinal : bandFinal s sc (BitVec.ofNat 32 f) ph b = true) :
    exec (.bandRelease sc f ph b) s = .next ((outputDescs (s.stream sc) (BitVec.ofNat 32 f) ph).foldl
      (fun s d => afterOutputs sc (bindOutput sc (BitVec.ofNat 32 f) ph d s))
      ((clearHeld sc (BitVec.ofNat 32 f) ph b s).setStream sc (setBand (s.stream sc) (BitVec.ofNat 32 f) ph b .released))) := by
  change execBandRelease sc f ph b s = _
  simp only [execBandRelease, working_guard hwork, hopen, hfinal, stream_clearHeld, decide_true, Bool.and_self, if_true]

/-- A line of a range that lost its marks has none. -/
theorem not_mem_clearMarks (a n g k : Nat) (l : List (Nat × Nat × Nat)) (hlow : a ≤ k * g) (hhigh : k * g < a + n) :
    (1, 0, k) ∉ clearMarks .kennel a n g l := by
  simp [clearMarks, memKey, hlow, hhigh]

/-- The lines of a released band are held no longer. -/
theorem not_held_clearHeld {sc ph b k : Nat} {n : U32} {e : Nat × Nat} {s : State} (hrange : bandRange s sc n ph b = some e)
    (hlow : e.1 ≤ k * 128) (hhigh : k * 128 < e.1 + e.2) : (1, 0, k) ∉ (clearHeld sc n ph b s).mem.held := by
  simp only [clearHeld, hrange]
  exact not_mem_clearMarks _ _ _ _ _ hlow hhigh

/-! ### The bind point (05 R213) -/

/-- The stream with an output bound to the first buffer w of its descriptor, the buffers ws being left. -/
def Stream.boundTo (x : Stream) (n : U32) (ph d : Nat) (w : Buf) (ws : List Buf) : Stream :=
  { x with outBufs := Tab.put x.outBufs d ws, starved := Tab.put x.starved d false }.onOutput n ph d
    (fun o => { o with bound := true, buf := some w })

section
variable {sc ph d : Nat} {n : U32} {o : Output} {w : Buf} {ws : List Buf} {s : State} (hout : (s.stream sc).output n ph d = some o)
  (hfree : o.bound = false) (hlead : followsPack s sc = false) (hposted : Tab.get [] (s.stream sc).outBufs d = w :: ws)
  (hsingle : packStream s sc = false)
include hout hfree hlead hposted hsingle

/-- An output of a stream outside a pack takes the first buffer posted for its descriptor. -/
theorem bindOutput_posted : bindOutput sc n ph d s = s.setStream sc ((s.stream sc).boundTo n ph d w ws) := by
  have hpack : packStream (s.setStream sc ((s.stream sc).boundTo n ph d w ws)) sc = false :=
    (packStream_setStream (x := (s.stream sc).boundTo n ph d w ws) rfl).trans hsingle
  simp only [bindOutput, hout, hfree, hlead, hposted, Bool.false_eq_true, if_false]
  exact if_neg (ne_true_of_eq_false hpack)

theorem output_bindOutput : ((bindOutput sc n ph d s).stream sc).output n ph d = some { o with bound := true, buf := some w } := by
  rw [bindOutput_posted hout hfree hlead hposted hsingle, stream_setStream]
  exact output_onOutput
    (x := { s.stream sc with outBufs := Tab.put (s.stream sc).outBufs d ws, starved := Tab.put (s.stream sc).starved d false })
    hout fun _ => ⟨rfl, rfl, rfl⟩

end

/-! ### Bands that fall back (07 R300, R301) -/

/-- Band b of an identity is in FALLBACK, and every output of the identity says so. -/
def Fallen (x : Stream) (n : U32) (ph b : Nat) : Prop :=
  bandOf x n ph b = some .fallback ∧ ∀ o ∈ x.outputs, o.frame = n → o.phase = ph → hasFlag o.flags .fallback = true

theorem hasFlag_setFlag_same (w : U16) (f : FFlag) : hasFlag (setFlag w f) f = true := by
  cases f <;> simp [hasFlag, setFlag, FFlag.bit]

/-- A flag that is set stays set. -/
theorem hasFlag_setFlag_mono {w : U16} {f : FFlag} (g : FFlag) (hset : hasFlag w f = true) : hasFlag (setFlag w g) f = true := by
  unfold hasFlag at hset
  simp [hasFlag, setFlag, hset]

theorem fallen_fallBand {sc : Nat} {n : U32} {ph b : Nat} {st : BandState} {s : State} (hband : bandOf (s.stream sc) n ph b = some st) :
    Fallen ((fallBand sc n ph b s).stream sc) n ph b := by
  simp only [fallBand, discardTiles, stream_fallbackRows, stream_setStream]
  refine ⟨?_, fun o ho hframe hphase => ?_⟩
  · exact bandOf_changed (g := fun e => { e with state := .fallback, fill := some (bandFill s sc n b) }) hband
      (fun _ => ⟨rfl, rfl, rfl, rfl⟩) rfl
  · obtain ⟨o', -, rfl⟩ := List.mem_map.mp ho
    split at hframe
    case isTrue hsame =>
      rw [if_pos hsame]
      exact hasFlag_setFlag_same _ _
    case isFalse hsame =>
      rw [if_neg hsame] at hphase
      simp [hframe, hphase] at hsame

/-- Raising DEADLINE_FAULT for an output changes no band and takes no flag away. -/
theorem fallen_missDeadline {sc : Nat} {n : U32} {ph b : Nat} {s : State} (o : Output) (sub : Nat) (h : Fallen (s.stream sc) n ph b) :
    Fallen ((missDeadline sc o sub s).stream sc) n ph b := by
  obtain ⟨hband, hflags⟩ := h
  simp only [missDeadline, stream_emit, stream_setStream]
  refine ⟨hband, fun e he hframe hphase => ?_⟩
  obtain ⟨e', hmem, rfl⟩ := List.mem_map.mp he
  split at hframe
  case isTrue hsame =>
    rw [if_pos hsame] at hphase ⊢
    exact hasFlag_setFlag_mono _ (hflags e' hmem hframe hphase)
  case isFalse hsame =>
    rw [if_neg hsame] at hphase ⊢
    exact hflags e' hmem hframe hphase

/-- A band that falls is in FALLBACK with its outputs, whichever of them miss their deadline by it. -/
theorem fallen_bandFalls {sc : Nat} {n : U32} {ph b : Nat} {st : BandState} {s : State} (hband : bandOf (s.stream sc) n ph b = some st) :
    Fallen ((bandFalls sc n ph b s).stream sc) n ph b := by
  simp only [bandFalls]
  split
  · exact List.foldlRecOn (motive := fun t : State => Fallen (t.stream sc) n ph b) _ _ (fallen_fallBand hband)
      fun _ h o _ => fallen_missDeadline o 1 h
  · exact fallen_fallBand hband

/-- An open band falls at its release deadline. -/
theorem exec_bandReleaseDeadline {sc f ph b : Nat} {e : Band} {s : State}
    (hwork : (s.stream sc).state = .running ∨ (s.stream sc).state = .draining)
    (hband : (s.stream sc).bands.find? (fun e => e.interval = (BitVec.ofNat 32 f) && e.phase == ph && e.index == b) = some e)
    (hopen : e.state = .open_) (hdue : e.releaseBy ≤ s.now) :
    exec (.bandReleaseDeadline sc f ph b) s = .next (bandFalls sc (BitVec.ofNat 32 f) ph b s) := by
  change execBandReleaseDeadline sc f ph b s = _
  simp only [execBandReleaseDeadline, hband, working_guard hwork, hopen, hdue, beq_self_eq_true, decide_true, Bool.and_self, if_true]

/-- Settles O37: each clause is the law of its command, of the check, of the held lines or of the bind point. -/
theorem bandsAndTilesAct : Obligations.BandsAndTilesAct := by
  unfold Obligations.BandsAndTilesAct
  refine ⟨?_, fun _ _ _ _ ecc l _ => exec_tileCheck_other ecc l, fun _ i _ _ _ _ _ _ => tileAgrees_iff i, ?_,
    fun _ _ _ _ _ _ _ => not_held_clearHeld, fun _ _ _ _ _ _ _ _ => output_bindOutput, ?_⟩
  · rintro sc f ph i ecc ok l o s u hwork hout hheld hended rfl rfl
    refine ⟨_, exec_tileCheck_held l hwork hout hheld hended, ?_⟩
    split
    case isTrue hstill =>
      exact ⟨rfl, (congrArg (tileOf · _ _ _) (stream_setStream _ _ _)).trans (tileOf_tileChecked _ _ _ _ _)⟩
    case isFalse => rfl
  · rintro sc f ph b s u hwork hopen hfinal rfl
    have hreleased := bandOf_setBand hopen .released
    rw [← stream_setStream (clearHeld sc (BitVec.ofNat 32 f) ph b s) sc (setBand _ _ _ _ _)] at hreleased
    exact ⟨_, exec_bandRelease hwork hopen hfinal, rfl, hreleased, fun hnone => by rw [hnone]; exact hreleased⟩
  · intro sc f ph b e s hwork hband hopen hdue
    obtain ⟨hfallen, hflags⟩ := fallen_bandFalls (congrArg (Option.map Band.state) hband)
    exact ⟨_, exec_bandReleaseDeadline hwork hband hopen hdue, rfl, hfallen, hflags⟩

end Sys2Proof.Machine
end

section
/-! Laws of an output's rows, its completion and its lateness, and of the windows of group frames (02 R56, R58; 05 R206; 07 R300, R310),
and the proof of O38. -/
namespace Sys2Proof.Machine

/-! ### Rows and completion (07 R310) -/

/-- The next row of a bound output is written once the rows it reads are released. -/
theorem exec_ofmRowWrite {sc f ph d row : Nat} {o : Output} {s : State} (hstate : (s.stream sc).state = .running)
    (hout : (s.stream sc).output (BitVec.ofNat 32 f) ph d = some o) (hopen : o.complete = false) (hbound : o.bound = true)
    (hreleased : rowReleased s sc o row = true) (hnext : (ownRows s sc o.d)[o.rowsDone]? = some row) :
    exec (.ofmRowWrite sc f ph d row) s = .next ((writeOutputRow sc o row s).setStream sc
      (((writeOutputRow sc o row s).stream sc).onOutput (BitVec.ofNat 32 f) ph d (fun o => { o with rowsDone := o.rowsDone + 1 }))) := by
  change execOfmRowWrite sc f ph d row s = _
  simp [execOfmRowWrite, hout, hstate, hopen, hreleased, hnext, bindOutput_of_bound hout hbound, hbound]

/-- An output of a stream outside a pack is complete when all its rows are written. -/
theorem exec_outputComplete {sc f ph d : Nat} {o : Output} {s : State} (hstate : (s.stream sc).state = .running)
    (hout : (s.stream sc).output (BitVec.ofNat 32 f) ph d = some o) (hopen : o.complete = false) (hbound : o.bound = true)
    (hrows : o.rowsDone = (ownRows s sc o.d).length) (hlead : followsPack s sc = false) (hsingle : packStream s sc = false) :
    exec (.outputComplete sc f ph d) s = .next (afterOutputs sc
      (s.setStream sc ((s.stream sc).onOutput (BitVec.ofNat 32 f) ph d (fun o => { o with complete := true })))) := by
  change execOutputComplete sc f ph d s = _
  simp [execOutputComplete, hout, hstate, hopen, hbound, hrows, finishOutput, hlead, hsingle]

/-! ### Late outputs (02 R56, R58; 07 R300) -/

/-- A fault that struck an output is the cause that DEADLINE_FAULT names. -/
theorem lateCause_of_struck (sc : Nat) {o : Output} (hstruck : o.faultCause ≠ 0) (s : State) : lateCause sc o s = s :=
  if_pos (bne_iff_ne.mpr hstruck)

section
variable {sc : Nat} {o : Output} {s : State} (hout : (s.stream sc).output o.frame o.phase o.desc = some o) (hfresh : o.missed = false)
include hout hfresh

/-- A struck output that has not been reported raises DEADLINE_FAULT. -/
theorem lateOutput_of_struck (sub : Nat) (hstruck : o.faultCause ≠ 0) : lateOutput sc o sub s = missDeadline sc o sub s := by
  simp [lateOutput, lateCause_of_struck sc hstruck, hout, hfresh]

/-- One that no fault struck raises it with one of the causes 1 to 5, drawn freely. -/
theorem lateOutput_of_unstruck (sub : Nat) (hunstruck : o.faultCause = 0) :
    ∃ k < 5, lateOutput sc o sub s = missDeadline sc { o with faultCause := k + 1 } sub
      ({ s with drawn := s.drawn + 1 }.setStream sc
        ((s.stream sc).onOutput o.frame o.phase o.desc (fun o => { o with faultCause := k + 1 }))) := by
  refine ⟨Config.freeValue s.drawn % 5, Nat.mod_lt _ (by decide), ?_⟩
  have hcause : lateCause sc o s = { s with drawn := s.drawn + 1 }.setStream sc
      ((s.stream sc).onOutput o.frame o.phase o.desc (fun o => { o with faultCause := Config.freeValue s.drawn % 5 + 1 })) := by
    rw [lateCause, if_neg (by simp [hunstruck])]
    rfl
  have hfound := output_onOutput (g := fun o => { o with faultCause := Config.freeValue s.drawn % 5 + 1 }) hout fun _ => ⟨rfl, rfl, rfl⟩
  simp [lateOutput, hcause, hfound, hfresh]

end

/-- What a late output of a descriptor is replaced by: a repeat of the descriptor's last output, black before there is one. -/
def replacement (x : Stream) (d : Nat) : Pic := if !Tab.get false x.delivered d then .black else lastPicture x d

section
variable {sc f ph d : Nat} {o : Output} {s : State} (hwork : (s.stream sc).state = .running ∨ (s.stream sc).state = .draining)
  (hrisk : o.atRisk = true) (hdue : o.deadline ≤ s.now) (hlead : followsPack s sc = false)
include hwork hrisk hdue hlead

/-- The output is late, and the lateness is this device's own affair. -/
theorem outputDeadline_guard : (!o.atRisk || decide (s.now < o.deadline) || followsPack s sc ||
    !((s.stream sc).state == .running || (s.stream sc).state == .draining)) = false := by
  simp [hrisk, hdue, hlead, working_guard hwork]

variable (hout : (s.stream sc).output (BitVec.ofNat 32 f) ph d = some o)
include hout

/-- From degrade level 3 on a late output is a repeat, without a fault. -/
theorem exec_outputDeadline_repeats (hlevel : levelRepeats (s.stream sc) = true) :
    exec (.outputDeadline sc f ph d) s = .next (substitute sc (BitVec.ofNat 32 f) ph d (some (replacement (s.stream sc) d))
      (if !Tab.get false (s.stream sc).delivered d then [.black] else []) s) := by
  change execOutputDeadline sc f ph d s = _
  simp only [execOutputDeadline, hout, outputDeadline_guard hwork hrisk hdue hlead, hlevel]
  rfl

variable (hlevel : levelRepeats (s.stream sc) = false) (hvalid : (s.stream sc).cert.state = .valid) (hcert : o.uncertified = false)
include hlevel hvalid hcert

/-- A late output that is not interpolated is reported and replaced. -/
theorem exec_outputDeadline_plain (hplain : o.interp = false) :
    exec (.outputDeadline sc f ph d) s = .next (substitute sc (BitVec.ofNat 32 f) ph d (some (replacement (s.stream sc) d))
      (if !Tab.get false (s.stream sc).delivered d then [.black] else [])
      (lateOutput sc o (if !Tab.get false (s.stream sc).delivered d then 2 else 0) s)) := by
  change execOutputDeadline sc f ph d s = _
  simp only [execOutputDeadline, hout, outputDeadline_guard hwork hrisk hdue hlead, hlevel, hvalid, hcert, hplain]
  rfl

/-- A late interpolated output that a fault struck is completed by the fallback of its open bands, and reported where the next frame was
in time. -/
theorem exec_outputDeadline_interpolated (hinterp : o.interp = true) (hstruck : o.faultCause ≠ 0) {u : State}
    (hfalls : u = ((s.stream sc).bands.filter (fun e => e.interval = (BitVec.ofNat 32 f) && e.phase == ph && e.state == .open_)).foldl
      (fun s e => bandFalls sc (BitVec.ofNat 32 f) ph e.index s) s) :
    exec (.outputDeadline sc f ph d) s = .next (completeNow sc (BitVec.ofNat 32 f) ph d
      (if nextInTime (s.stream sc) (BitVec.ofNat 32 f) then lateOutput sc o 1 u else u)) := by
  subst hfalls
  change execOutputDeadline sc f ph d s = _
  simp only [execOutputDeadline, hout, outputDeadline_guard hwork hrisk hdue hlead, hlevel, hvalid, hcert, hinterp,
    lateCause_of_struck sc hstruck, ite_self]
  rfl

end

/-! ### The windows of group frames (05 R206) -/

/-- The group with the window of a group frame closed. -/
def Group.windowShut (y : Group) (number : U32) : Group :=
  { y with frames := y.frames.map (fun e => if e.number = number then { e with windowClosed := true } else e) }

/-- The window closes with the members without a frame, of those that started before it opened, having underrun; no frame is dropped where
there is none of them or the policy is not STRICT. -/
theorem exec_groupWindowExpiry {g : Nat} {fr : GroupFrame} {late : List Nat} {s : State}
    (hframe : (s.group g).frames.find? (fun f => !f.windowClosed) = some fr) (hdue : fr.openedAt + groupWindow s (s.group g) ≤ s.now)
    (hlate : (s.group g).list.filter (fun m => runs s m && (s.stream m).startedAt ≤ fr.openedAt && !fr.present.contains m) = late)
    (hkeep : late = [] ∨ (s.group g).policy ≠ 3) :
    exec (.groupWindowExpiry g) s = .next (groupFinish g
      (late.foldl (fun s m => underrun g m fr.number s) (s.setGroup g ((s.group g).windowShut fr.number)))) := by
  have hstrict : ((s.group g).policy = 3 && !late.isEmpty) = false := by
    rcases hkeep with rfl | hpolicy
    · exact Bool.and_false _
    · simp [hpolicy]
  change execGroupWindowExpiry g s = _
  simp only [execGroupWindowExpiry, hframe, if_neg (Nat.not_lt.mpr hdue), hlate, hstrict]
  rfl

/-- Settles O38: each clause is the law of its command; a late output that is not interpolated is reported with the cause it has or a free
one. -/
theorem outputsAct : Obligations.OutputsAct := by
  unfold Obligations.OutputsAct
  refine ⟨fun _ _ _ _ _ _ _ => exec_ofmRowWrite, fun _ _ _ _ _ _ => exec_outputComplete, ?_,
    fun _ _ _ _ _ _ _ hwork hout hrisk hdue hlead hlevel hvalid hcert hinterp hstruck hfalls =>
      exec_outputDeadline_interpolated hwork hrisk hdue hlead hout hlevel hvalid hcert hinterp hstruck hfalls, ?_,
    fun _ _ _ hframe hdue hlate => exec_groupWindowExpiry hframe hdue hlate (.inl rfl),
    fun _ _ _ _ hframe hdue hlate hpolicy => exec_groupWindowExpiry hframe hdue hlate (.inr hpolicy)⟩
  · rintro sc f ph d o black s hwork hout hrisk hdue hlead hlevel hvalid hcert hplain hfresh rfl
    have hexec := exec_outputDeadline_plain hwork hrisk hdue hlead hout hlevel hvalid hcert hplain
    obtain ⟨hf, hp, hd⟩ := output_identity hout
    have hown : (s.stream sc).output o.frame o.phase o.desc = some o := by rw [hf, hp, hd, hout]
    refine ⟨fun hstruck => ?_, fun hunstruck => ?_⟩
    · rw [hexec, lateOutput_of_struck hown hfresh _ hstruck]
      rfl
    · obtain ⟨k, hk, hlate⟩ := lateOutput_of_unstruck hown hfresh
        (if !Tab.get false (s.stream sc).delivered d then 2 else 0) hunstruck
      exact ⟨k, hk, by rw [hexec, hlate]; rfl⟩
  · intro sc f ph d o s hwork hout hrisk hdue hlead hlevel hdelivered
    rw [exec_outputDeadline_repeats hwork hrisk hdue hlead hout hlevel, replacement, hdelivered]
    rfl

end Sys2Proof.Machine
end

section
/-! Laws of the engines' integer arithmetic (08 R314, R318, R319), and the proof of O58. -/
namespace Sys2Proof.Machine

/-- The limits of a format are in order. -/
theorem fmtRange_le (f : Nat) : (fmtRange f).1 ≤ (fmtRange f).2 := by
  unfold fmtRange
  split <;> decide

/-- The formats that REQUANT writes are INT8, UINT8 and INT16 (08 R314). -/
theorem fmtRange_of_le_two {out : Nat} (hout : out ≤ 2) : fmtRange out = (nth 0 [-128, 0, -32768] out, nth 0 [127, 255, 32767] out) := by
  decide +revert

/-- Saturation clamps to the limits of the format, and counts 1 where that changes the value. -/
theorem satTo_eq (f : Nat) (v : Int) : satTo f v =
    (max (fmtRange f).1 (min v (fmtRange f).2), if max (fmtRange f).1 (min v (fmtRange f).2) = v then 0 else 1) := by
  have hrange := fmtRange_le f
  unfold satTo
  split
  case isTrue hlow => rw [min_eq_left (by omega), max_eq_left hlow.le, if_neg hlow.ne']
  case isFalse hlow =>
    split
    case isTrue hhigh => rw [min_eq_right hhigh.le, max_eq_right hrange, if_neg hhigh.ne]
    case isFalse hhigh => rw [min_eq_left (by omega), max_eq_right (by omega), if_pos rfl]

/-- Adding half of the divisor before a shift rounds half up. -/
theorem halfUp_eq {p y : Int} {k : Nat} (hk : k ≠ 0) (hlow : 2 * y * 2 ^ k ≤ 2 * p + 2 ^ k) (hhigh : 2 * p + 2 ^ k < 2 * (y + 1) * 2 ^ k) :
    (p + 2 ^ (k - 1)) / 2 ^ k = y := by
  obtain ⟨j, rfl⟩ := Nat.exists_eq_succ_of_ne_zero hk
  have hpos : (0 : Int) < 2 ^ (j + 1) := by positivity
  simp only [Nat.succ_eq_add_one, Nat.add_sub_cancel] at hlow hhigh ⊢
  have hdouble : (2 : Int) ^ (j + 1) = 2 * 2 ^ j := pow_succ' 2 j
  refine le_antisymm (Int.lt_add_one_iff.mp ((Int.ediv_lt_iff_lt_mul hpos).mpr ?_)) ((Int.le_ediv_iff_mul_le hpos).mpr ?_)
  · rw [mul_assoc] at hhigh
    omega
  · rw [mul_assoc] at hlow
    omega

/-- The result of REQUANT and its count of saturations, given the rounded product of the saturated sum (08 R318). -/
theorem requant_eq {out rec : Nat} {zp a t y : Int} (ht : (satTo 4 (a + signed 32 (bits rec 0 32))).1 = t)
    (hy : (bits rec 48 6 = 0 ∧ y = t * (bits rec 32 15 : Int)) ∨
      (bits rec 48 6 ≠ 0 ∧ 2 * y * 2 ^ bits rec 48 6 ≤ 2 * (t * (bits rec 32 15 : Int)) + 2 ^ bits rec 48 6 ∧
        2 * (t * (bits rec 32 15 : Int)) + 2 ^ bits rec 48 6 < 2 * (y + 1) * 2 ^ bits rec 48 6)) :
    requant out rec zp a = ((satTo out (y + zp)).1, (satTo 4 (a + signed 32 (bits rec 0 32))).2 + (satTo out (y + zp)).2) := by
  have hround : (t * (bits rec 32 15 : Int) + (if bits rec 48 6 = 0 then 0 else 2 ^ (bits rec 48 6 - 1))) / 2 ^ bits rec 48 6 = y := by
    rcases hy with ⟨hzero, rfl⟩ | ⟨hshift, hlow, hhigh⟩
    · simp [hzero]
    · rw [if_neg hshift, halfUp_eq hshift hlow hhigh]
  simp only [requant, ht, hround]

/-- Settles O58: REQUANT is two saturations around a product rounded half up. -/
theorem requantRounds : Obligations.RequantRounds := by
  unfold Obligations.RequantRounds
  intro out rec zp a t y hout ht hy
  have hsum : satTo 4 (a + signed 32 (bits rec 0 32)) = (t, if t = a + signed 32 (bits rec 0 32) then 0 else 1) := by
    rw [ht]
    exact satTo_eq 4 _
  have hresult := satTo_eq out (y + zp)
  rw [fmtRange_of_le_two hout] at hresult
  rw [requant_eq (congrArg Prod.fst hsum) hy, hsum, hresult]
  exact ⟨rfl, rfl⟩

end Sys2Proof.Machine
end

section
/-! What the registers, the queues and the waiting of the SCU leave alone: facts that the statements of its instructions share (08 R331, R340,
R356; 10 R434, R436). -/
namespace Sys2Proof.Machine

/-! ### Registers (08 R331) -/

theorem reg_setReg (k : Core) (r q : Nat) (v : U32) :
    (k.setReg r v).reg q = if q % 32 = r % 32 ∧ r % 32 ≠ 0 then v else k.reg q := by
  unfold Core.setReg
  by_cases hzero : r % 32 = 0
  · simp [hzero]
  · by_cases hsame : q % 32 = r % 32
    · simp [Core.reg, hzero, hsame, tab_get_put]
    · simp [Core.reg, hzero, hsame, tab_get_put_ne _ _ _ _ _ hsame]

/-- The mark of held data changes no register. -/
@[simp] theorem reg_setHeld (k : Core) (r q : Nat) (h : Bool) : (k.setHeld r h).reg q = k.reg q := rfl

/-! ### What an instruction needs to retire (08 R331) -/

/-- An instruction that retires with no wait of its own finds the SCU waiting for nothing. -/
theorem wait_of_scuGo {s : State} {c : Nat} {rs : List Nat} (hgo : scuGo s c .none rs = true) : (s.core c).wait = .none := by
  simp only [scuGo, Bool.and_eq_true, Bool.or_eq_true, beq_iff_eq] at hgo
  obtain ⟨⟨-, hwait⟩, -⟩ := hgo
  exact or_self_iff.mp hwait

theorem coreBusy_of_scuGo {s : State} {c : Nat} {w : ScuWait} {rs : List Nat} (hgo : scuGo s c w rs = true) : coreBusy s c = true := by
  simp only [scuGo, Bool.and_eq_true] at hgo
  obtain ⟨⟨⟨hbusy, -⟩, -⟩, -⟩ := hgo
  exact hbusy

/-- A core at work has no trap pending. -/
theorem trapPending_of_coreBusy {s : State} {c : Nat} (hbusy : coreBusy s c = true) : (s.core c).trapPending = none := by
  simp only [coreBusy, Bool.and_eq_true, Option.isNone_iff_eq_none] at hbusy
  obtain ⟨⟨-, hpending⟩, -⟩ := hbusy
  exact hpending

/-! ### Fences (10 R436, R437) -/

/-- Where the SCU does not wait at a fence, none ends. -/
theorem settleFence_of_wait_none {c : Nat} {s : State} (hwait : (s.core c).wait = .none) : settleFence c s = s := by
  simp [settleFence, hwait]

/-- FENCE.FULL ends when no load and no store is left. -/
theorem settleFence_ends {c : Nat} {s : State} (hwait : (s.core c).wait = .fence) (hloads : (s.core c).loads = [])
    (hstores : (s.core c).stores = []) : settleFence c s = s.setCore c { s.core c with wait := .none, scuAt := s.now } := by
  simp [settleFence, hwait, hloads, hstores]

/-! ### Traps (08 R356, R358) -/

@[simp] theorem core_errAdd (off n : Nat) (s : State) (c : Nat) : (errAdd off n s).core c = s.core c := rfl

section
variable {c : Nat} {s : State} (hbusy : coreBusy s c = true)
include hbusy

/-- While a tile runs, a trap waits for its end. -/
theorem raiseTrap_waits (cause : Nat) (hrun : (s.core c).running.isSome = true) :
    raiseTrap c cause s = s.setCore c { s.core c with stopped := true, trapPending := some cause } := by
  simp [raiseTrap, settleTrap, trapPending_of_coreBusy hbusy, hrun]

/-- With no tile running and no task bound, a trap stops the core at once. -/
theorem core_raiseTrap_idle (cause : Nat) (hidle : (s.core c).running = none) (htask : (s.core c).task = none) :
    (raiseTrap c cause s).core c =
      { s.core c with stopped := true, trapPending := none, state := .trapped, trapCause := cause % 256 } := by
  simp [raiseTrap, settleTrap, coreFault, trapPending_of_coreBusy hbusy, hidle, htask]

end

/-! ### Queue entries (08 R340, R341) -/

/-- An SCU without stores has none to make visible. -/
theorem flushStores_of_no_stores {c : Nat} {s : State} (hstores : (s.core c).stores = []) : flushStores c s = s := by
  simp [flushStores, hstores]

/-- Retiring an instruction makes no tile's operands present. -/
theorem notePresent_next (c now : Nat) (k : Core) (s : State) : notePresent c (k.next now) s = notePresent c k s := rfl

/-- What succeeds with a value is that value without a fault. -/
theorem eq_ok_of_toOption {ε α : Type} {x : Except ε α} {a : α} (h : x.toOption = some a) : x = .ok a := by
  cases x with
  | error e => exact absurd h (by simp [Except.toOption])
  | ok b => exact congrArg Except.ok (Option.some.inj h)

end Sys2Proof.Machine
end

section
/-! Laws of the SCU's arithmetic, branches and core registers (08 R331, R332), and the proof of O28. -/
namespace Sys2Proof.Machine

/-! ### Arithmetic (08 R332) -/

/-- The first operand of an arithmetic instruction. -/
def firstOperand (k : Core) (rs : Nat) (arg : ScuArg) : U32 := match arg with | .upper _ => 0 | _ => k.reg rs

/-- The result of an arithmetic operation, where it has one. -/
def definedResult (op : ScuOp) (a b : U32) : U32 :=
  match op with
  | .add => a + b
  | .sub => a - b
  | .mul => a * b
  | .mulh => BitVec.ofInt 32 (a.toInt * b.toInt / 2 ^ 32)
  | .mulhu => BitVec.ofNat 32 (a.toNat * b.toNat / 2 ^ 32)
  | .and => a &&& b
  | .or => a ||| b
  | .xor => a ^^^ b
  | .shl => a <<< b.toNat
  | .shr => a >>> b.toNat
  | .sra => a.sshiftRight b.toNat
  | .slt => if a.slt b then 1 else 0
  | .sltu => if a.ult b then 1 else 0

/-- The result is defined but for shifts by 32 or more. -/
theorem scuResult_defined {op : ScuOp} {a b : U32} (s : State) (hshift : (op = .shl ∨ op = .shr ∨ op = .sra) → b.toNat < 32) :
    scuResult op a b s = (definedResult op a b, s) := by
  cases op
  case shl | shr | sra => exact if_pos (hshift (by simp))
  all_goals rfl

/-- A shift by 32 or more draws a free result. -/
theorem scuResult_free {op : ScuOp} {a b : U32} (s : State) (hshift : op = .shl ∨ op = .shr ∨ op = .sra) (hwide : 32 ≤ b.toNat) :
    scuResult op a b s = (BitVec.ofNat 32 (Config.freeValue s.drawn), { s with drawn := s.drawn + 1 }) := by
  rcases hshift with rfl | rfl | rfl <;> exact if_neg (Nat.not_lt.mpr hwide)

/-- An arithmetic instruction writes its result into its register and retires. -/
theorem exec_scuArithmetic {c rd rs : Nat} {op : ScuOp} {arg : ScuArg} {v : U32} {s u : State}
    (hgo : scuGo s c .none ([rd, rs] ++ argRegs arg) = true)
    (hresult : scuResult op (firstOperand (s.core c) rs arg) (argValue (s.core c) arg) s = (v, u)) :
    exec (.scuArithmetic c op rd rs arg) s =
      .next (u.setCore c ((((s.core c).setReg rd v).setHeld rd (argHeld (s.core c) rs arg)).next u.now)) := by
  change execScuArithmetic c op rd rs arg s = _
  simp only [execScuArithmetic, hgo, Bool.not_true, Bool.false_eq_true, if_false]
  exact congrArg (fun r : U32 × State => Host.Outcome.next
    (r.2.setCore c ((((s.core c).setReg rd r.1).setHeld rd (argHeld (s.core c) rs arg)).next r.2.now))) hresult

/-! ### Branches (08 R332) -/

/-- A comparing branch goes to its offset where its condition holds, and on where it does not. -/
theorem exec_scuBranch {c a b : Nat} {cond : ScuCond} {s : State} (offset : Int) (hgo : scuGo s c .none [a, b] = true) (hjal : cond ≠ .jal)
    (hjalr : cond ≠ .jalr) : exec (.scuBranch c cond a b offset) s = .next (s.setCore c
      (if condHolds cond ((s.core c).reg a) ((s.core c).reg b) then
        (s.core c).goTo ((((s.core c).pc : Int) + offset) % 4096).toNat s.now else (s.core c).next s.now)) := by
  change execScuBranch c cond a b offset s = _
  simp only [execScuBranch, hgo, Bool.not_true, Bool.false_eq_true, if_false]

/-- The core with the address after its instruction in a register. -/
def Core.linked (k : Core) (r : Nat) : Core := (k.setReg r (BitVec.ofNat 32 ((k.pc + 1) % 4096))).setHeld r false

section
variable {c a b : Nat} {s : State} (offset : Int) (hgo : scuGo s c .none [a, b] = true)
include hgo

theorem exec_scuBranch_jal : exec (.scuBranch c .jal a b offset) s =
    .next (s.setCore c (((s.core c).linked a).goTo ((((s.core c).pc : Int) + offset) % 4096).toNat s.now)) := by
  change execScuBranch c .jal a b offset s = _
  simp only [execScuBranch, hgo, Bool.not_true, Bool.false_eq_true, if_false]
  rfl

theorem exec_scuBranch_jalr : exec (.scuBranch c .jalr a b offset) s =
    .next (s.setCore c (((s.core c).linked a).goTo (((((s.core c).reg b).toNat : Int) + offset) % 4096).toNat s.now)) := by
  change execScuBranch c .jalr a b offset s = _
  simp only [execScuBranch, hgo, Bool.not_true, Bool.false_eq_true, if_false]
  rfl

end

/-! ### Core registers and the state of the queues (08 R332) -/

/-- CSRR reads a core register into its register. -/
theorem exec_csrr {c rd : Nat} {r : CoreReg} {s : State} (hgo : scuGo s c .none [rd] = true) : exec (.csrr c rd r) s =
    .next (s.setCore c ((((s.core c).setReg rd (BitVec.ofNat 32 (coreRegValue s c r))).setHeld rd false).next s.now)) := by
  change execCsrr c rd r s = _
  simp only [execCsrr, hgo, Bool.not_true, Bool.false_eq_true, if_false]

/-- A word of a counter, in 32 bits, is the counter shifted down to it. -/
theorem ofNat_bits (v lo : Nat) : BitVec.ofNat 32 (bits v lo 32) = BitVec.ofNat 32 (v / 2 ^ lo) := by
  simp [bits, ← BitVec.toNat_inj]

/-- CSRW clears the bits of SAT_FLAGS that it writes 1, and changes no other core register. -/
theorem exec_csrw {c rs : Nat} (r : CoreReg) {s : State} (hgo : scuGo s c .none [rs] = true) : exec (.csrw c rs r) s =
    .next (s.setCore c ((if r = .satFlags then
      { s.core c with satFlags := (s.core c).satFlags &&& ~~~(((s.core c).reg rs).setWidth 4) } else s.core c).next s.now)) := by
  change execCsrw c rs r s = _
  simp only [execCsrw, hgo, Bool.not_true, Bool.false_eq_true, if_false]

/-- QSTAT gives the free entries of the queues. -/
theorem exec_qstat {c rd : Nat} {s : State} (hgo : scuGo s c .none [rd] = true) : exec (.qstat c rd) s =
    .next (s.setCore c ((((s.core c).setReg rd (BitVec.ofNat 32 ((32 - (s.core c).fetchQueue.length) +
      256 * (8 - (s.core c).queue0.length) + 65536 * (8 - (s.core c).queue1.length)))).setHeld rd false).next s.now)) := by
  change execQstat c rd s = _
  simp only [execQstat, hgo, Bool.not_true, Bool.false_eq_true, if_false]

/-- Settles O28: each clause is the law of its instruction, or of a register read after a write. -/
theorem scuInstructionsAct : Obligations.ScuInstructionsAct := by
  unfold Obligations.ScuInstructionsAct
  refine ⟨?_, ?_, fun k r q v => ⟨?_, ?_, ?_, rfl, reg_setHeld k r q⟩, ?_,
    fun _ _ _ offset _ hgo => ⟨exec_scuBranch_jal offset hgo, exec_scuBranch_jalr offset hgo⟩, ?_,
    fun _ _ r _ hgo => exec_csrw r hgo, fun _ _ _ hgo => exec_qstat hgo⟩
  · rintro c rd rs op arg _ _ _ s hgo rfl rfl hshift rfl
    exact exec_scuArithmetic hgo (scuResult_defined s hshift)
  · intro c rd rs op arg s hgo hshift hwide
    exact ⟨_, exec_scuArithmetic hgo (scuResult_free s hshift hwide)⟩
  · rfl
  · intro hr
    rw [reg_setReg, if_pos ⟨rfl, hr⟩]
  · intro hq
    rw [reg_setReg, if_neg fun h => hq h.1]
  · rintro c a b cond offset _ _ _ s hgo hjal hjalr rfl rfl rfl
    rw [exec_scuBranch offset hgo hjal hjalr]
    cases cond
    case jal => exact absurd rfl hjal
    case jalr => exact absurd rfl hjalr
    all_goals rfl
  · rintro c rd r _ s hgo rfl
    rw [exec_csrr hgo]
    cases r
    case cycleLo | timeLo => simp [coreRegValue, bits]
    case cycleHi | timeHi => simp only [coreRegValue, ofNat_bits]
    all_goals rfl

end Sys2Proof.Machine
end

section
/-! Laws of the SCU's narrow accesses (08 R331; 10 R400 to R406, R434 to R436), and the proof of O29. -/
namespace Sys2Proof.Machine

/-! ### Issue (10 R400, R406) -/

/-- A misaligned access faults with cause 0x15. -/
theorem narrowFault_of_misaligned (s : State) (c : Nat) {a n : Nat} (isWrite : Bool) (halign : a % n ≠ 0) :
    narrowFault s c a n isWrite = some 0x15 := if_pos halign

/-- The core with one narrow request more counted for a group. -/
def Core.narrowCounted (k : Core) (g : Nat) : Core := { k with narrow := Tab.put k.narrow g (Tab.get 0 k.narrow g + 1) }

/-- A request that goes out is counted for its group. -/
theorem countNarrow_issued (c g : Nat) (s : State) : countNarrow c g false s = s.setCore c ((s.core c).narrowCounted g) := rfl

section
variable {c r q : Nat} {offset : Int} {width : Width} {s : State} (hgo : scuGo s c .none [r, q] = true)
include hgo

/-- A load that faults raises its cause as a trap. -/
theorem exec_scuLoad_fault {cause : Nat} (l : List ReadError)
    (hfault : narrowFault s c ((s.core c).reg q + BitVec.ofInt 32 offset).toNat (widthBytes width) false = some cause) :
    exec (.scuLoad c r q offset width l) s = .next (raiseTrap c cause s) := by
  change execScuLoad c r q offset width l s = _
  simp only [execScuLoad, hgo, hfault, Bool.not_true, Bool.false_eq_true, if_false]

/-- A store that faults raises its cause as a trap. -/
theorem exec_scuStore_fault {cause : Nat}
    (hfault : narrowFault s c ((s.core c).reg q + BitVec.ofInt 32 offset).toNat (widthBytes width) true = some cause) :
    exec (.scuStore c r q offset width) s = .next (raiseTrap c cause s) := by
  change execScuStore c r q offset width s = _
  simp only [execScuStore, hgo, hfault, Bool.not_true, Bool.false_eq_true, if_false]

variable {a : U32} (haddr : a = (s.core c).reg q + BitVec.ofInt 32 offset) (hlocal : remoteAt s c a.toNat = none)
  (hcount : mustDefer s c (bankGroup s c a.toNat) = false)
include haddr hlocal hcount

/-- A local load within its count is counted and in flight, and its register waits. -/
theorem exec_scuLoad_issued (hfault : narrowFault s c a.toNat (widthBytes width) false = none) :
    exec (.scuLoad c r q offset width []) s = .next ((s.setCore c ((s.core c).narrowCounted (bankGroup s c a.toNat))).setCore c
      { ((s.core c).narrowCounted (bankGroup s c a.toNat)).next s.now with
        loads := (s.core c).loads ++
          [{ reg := r % 32, addr := a, size := widthBytes width, signed := widthSigned width, issuedAt := s.now, seq := (s.core c).accesses,
             tag := none, deferred := false, data := none, held := (s.core c).regHeld q }],
        accesses := (s.core c).accesses + 1,
        busyRegs := if r % 32 = 0 then (s.core c).busyRegs else (r % 32) :: (s.core c).busyRegs.filter (· != r % 32) }) := by
  subst haddr
  change execScuLoad c r q offset width [] s = _
  simp only [execScuLoad, hgo, hfault, Bool.not_true, Bool.false_eq_true, if_false, foundErrors, List.foldl_nil, hlocal, hcount,
    countNarrow_issued, core_setCore]
  rfl

/-- A local store within its count is counted and waits in the write buffer. -/
theorem exec_scuStore_issued (hfault : narrowFault s c a.toNat (widthBytes width) true = none) :
    exec (.scuStore c r q offset width) s = .next ((s.setCore c ((s.core c).narrowCounted (bankGroup s c a.toNat))).setCore c
      { ((s.core c).narrowCounted (bankGroup s c a.toNat)).next s.now with
        stores := (s.core c).stores ++
          [{ addr := a, data := le (widthBytes width) ((s.core c).reg r).toNat, seq := (s.core c).accesses, window := none,
             deferred := false, held := (s.core c).regHeld r }],
        accesses := (s.core c).accesses + 1 }) := by
  subst haddr
  change execScuStore c r q offset width s = _
  simp only [execScuStore, hgo, hfault, Bool.not_true, Bool.false_eq_true, if_false, hlocal, hcount, Option.isNone_none, Option.isSome_none,
    Bool.true_and, countNarrow_issued, core_setCore]
  rfl

end

/-! ### The return of a load (10 R402, R404) -/

/-- The core with a served load returned: its value is in its register, and it is in flight no longer. -/
def Core.loadReturned (k : Core) (l : NarrowLoad) (b : Bytes) : Core :=
  { (k.setReg l.reg (loadValue l b)).setHeld l.reg l.held with
    loads := k.loads.filter (fun y => y.seq != l.seq),
    busyRegs := if (k.loads.filter (fun y => y.seq != l.seq)).any (fun y => y.reg == l.reg) then k.busyRegs
      else k.busyRegs.filter (· != l.reg) }

/-- Writing a register changes the registers alone. -/
theorem setReg_eq (k : Core) (r : Nat) (v : U32) : k.setReg r v = { k with regs := (k.setReg r v).regs } := by
  unfold Core.setReg
  split <;> rfl

/-- The oldest load of a register, once served, returns. -/
theorem exec_scuLoadReturn {c rd : Nat} {l : NarrowLoad} {b : Bytes} {s : State}
    (hload : (s.core c).loads.find? (fun l => l.reg == rd % 32 && !l.deferred && (l.tag.isNone || l.data.isSome)) = some l)
    (hserved : l.data = some b) (hsame : (s.core c).loads.find? (fun x => x.seq == l.seq) = some l) (hwait : (s.core c).wait = .none) :
    exec (.scuLoadReturn c rd) s = .next (s.setCore c ((s.core c).loadReturned l b)) := by
  change execScuLoadReturn c rd s = _
  simp only [execScuLoadReturn, hload, hserved, Option.isSome_some, if_true, hsame, Option.getD_some]
  rw [setReg_eq, settleFence_of_wait_none (by simpa [Core.setHeld] using hwait), Core.loadReturned, setReg_eq]
  rfl

/-- A load that has waited 64 cycles of its gap-fill bank is served. -/
theorem exec_narrowWaitTimeout {c reg : Nat} {l : NarrowLoad} {s : State}
    (hload : (s.core c).loads.find? (fun l => l.reg == reg % 32 && !l.deferred && l.tag.isNone && l.data.isNone) = some l)
    (hgap : gapFill s c (bankGroup s c l.addr.toNat) = true)
    (hdue : l.issuedAt + 64000 / (if bankGroup s c l.addr.toNat = 0 then (s.core c).clock else 1200) ≤ s.now) :
    exec (.narrowWaitTimeout c reg) s = .next (serveLoad c l s) := by
  change execNarrowWaitTimeout c reg s = _
  simp only [execNarrowWaitTimeout, hload, hgap, hdue, decide_true, Bool.and_self, if_true]

/-! ### Stores become visible (10 R434 to R436) -/

/-- What an address of a core names does not depend on its write buffer. -/
theorem coreAt_setStores (s : State) (c : Nat) (l : List NarrowStore) (who : Who) (a n : Nat) :
    coreAt (s.setCore c { s.core c with stores := l }) c who a n = coreAt s c who a n := by
  simp only [coreAt, core_setCore]

@[simp] theorem core_putData (m : Mem) (a : Nat) (bs : Bytes) (held : Bool) (s : State) (c : Nat) :
    (putData m a bs held s).core c = s.core c := by
  cases m <;> rfl

/-- Data put into a core's CM is written there. -/
theorem cm_putData (c a : Nat) (bs : Bytes) (held : Bool) (s : State) :
    Tab.get [] (putData (.cm c) a bs held s).mem.cm c = memWrite (Tab.get [] s.mem.cm c) a bs := tab_get_put _ _ _ _

theorem kennel_putData_cm (c a : Nat) (bs : Bytes) (held : Bool) (s : State) :
    (putData (.cm c) a bs held s).mem.kennel = s.mem.kennel := rfl

/-- The only access of an SCU, a store of its CM, is written there when it becomes visible. -/
theorem completeStore_cm {c x : Nat} {st : NarrowStore} {s : State} (hstores : (s.core c).stores = [st]) (hloads : (s.core c).loads = [])
    (hlocal : st.window = none) (hplace : coreAt s c .scu st.addr.toNat st.data.length = .ok [(.mem (.cm c) x, st.data.length)]) :
    completeStore c st s = putData (.cm c) x st.data st.held (s.setCore c { s.core c with stores := [] }) := by
  have holder : (s.core c).loads.filter (fun l => l.seq < st.seq && l.data.isNone && l.tag.isNone &&
      overlaps l.addr.toNat l.size st.addr.toNat st.data.length) = [] := by simp [hloads]
  have hleft : (s.core c).stores.filter (fun x => x.seq != st.seq) = [] := by simp [hstores]
  simp only [completeStore, holder, List.foldl_nil, hleft, hlocal, coreAt_setStores, hplace]
  simp [writePlaces]

/-- A store that no older one of its address precedes leaves the write buffer. -/
theorem exec_scuStoreComplete {c i : Nat} {st : NarrowStore} {s : State} (hst : (s.core c).stores[i]? = some st)
    (hissued : st.deferred = false)
    (holdest : (s.core c).stores.any (fun x => x.seq < st.seq && overlaps x.addr.toNat x.data.length st.addr.toNat st.data.length) = false) :
    exec (.scuStoreComplete c i) s = .next (settleFence c (completeStore c st s)) := by
  change execScuStoreComplete c i s = _
  simp only [execScuStoreComplete, hst, hissued, holdest, Bool.or_self, Bool.false_eq_true, if_false]

/-! ### A new window (10 R406) -/

/-- A core without accesses has none that a new window lets go. -/
theorem releaseNarrow_of_idle {c : Nat} (g : Nat) {s : State} (hloads : (s.core c).loads = []) (hstores : (s.core c).stores = []) :
    releaseNarrow c g s = s := by
  simp [releaseNarrow, hloads, hstores]

/-- A new window of a core's CM begins with no request counted. -/
theorem exec_narrowWindowRollover_cm {c : Nat} {s : State} (hloads : (s.core c).loads = []) (hstores : (s.core c).stores = []) :
    exec (.narrowWindowRollover c 0) s = .next (s.setCore c { s.core c with narrow := Tab.del (s.core c).narrow 0 }) := by
  change execNarrowWindowRollover c 0 s = _
  simp only [execNarrowWindowRollover, if_true, List.foldl_cons, List.foldl_nil]
  rw [releaseNarrow_of_idle] <;> simpa

/-- Settles O29: each clause is the law of its access. -/
theorem scuAccessesAct : Obligations.ScuAccessesAct := by
  unfold Obligations.ScuAccessesAct
  refine ⟨?_, ?_, ?_, ?_, fun _ _ _ _ hload hgap hdue => exec_narrowWaitTimeout hload hgap hdue, ?_,
    fun _ _ hloads hstores => exec_narrowWindowRollover_cm hloads hstores⟩
  · rintro c rd rs _ offset width a s hgo haddr rfl hfault hlocal hcount
    refine ⟨_, exec_scuLoad_issued hgo haddr hlocal hcount hfault, ?_⟩
    simp +contextual [Core.next, Core.goTo, Core.narrowCounted]
  · rintro c rs rb _ offset width a s hgo haddr rfl hfault hlocal hcount
    refine ⟨_, exec_scuStore_issued hgo haddr hlocal hcount hfault, ?_⟩
    simp [Core.next, Core.goTo, Core.narrowCounted]
  · intro c rd rs offset width s hgo halign
    exact ⟨exec_scuLoad_fault hgo [] (narrowFault_of_misaligned s c false halign),
      exec_scuStore_fault hgo (narrowFault_of_misaligned s c true halign)⟩
  · intro c rd l b s hload hserved hsame hwait
    refine ⟨_, exec_scuLoadReturn hload hserved hsame hwait, ?_, ?_⟩
    · rw [core_setCore]
      rfl
    · rw [core_setCore]
      rfl
  · rintro c i x _ st s hst hstores hloads hwait hissued hlocal rfl hplace
    have hvisible := completeStore_cm hstores hloads hlocal hplace
    refine ⟨_, exec_scuStoreComplete hst hissued (by simp [hstores]), ?_⟩
    rw [hvisible, settleFence_of_wait_none (by simpa using hwait), core_putData, core_setCore, cm_putData, kennel_putData_cm]
    exact ⟨rfl, rfl, rfl⟩

end Sys2Proof.Machine
end

section
/-! Laws of the SCU's queues, fences, events, traps and of the watchdog (08 R332, R333, R340, R341, R353 to R357; 10 R436, R437, R439), and
the proof of O30. -/
namespace Sys2Proof.Machine

/-! ### Queues (08 R332, R333, R340, R341; 10 R439) -/

/-- FQ pushes a legal descriptor while the fetch queue has room. -/
theorem exec_fq {c rs : Nat} {b : Bytes} {s : State} (hgo : scuGo s c .fetchQueue [rs] = true) (hroom : (s.core c).fetchQueue.length < 32)
    (hstores : (s.core c).stores = []) (hentry : queueEntry c rs s = .ok (b, s)) (hlegal : descriptorOk b = true) :
    exec (.fq c rs) s = .next (settleFence c (s.setCore c
      { (s.core c).next s.now with
        fetchQueue := (s.core c).fetchQueue ++ [{ id := (s.core c).nextDesc, bytes := b }],
        nextDesc := (s.core c).nextDesc + 1 })) := by
  change execFq c rs s = _
  simp only [execFq, hgo, Nat.not_le.mpr hroom, flushStores_of_no_stores hstores, hentry, hlegal, Bool.not_true, Bool.false_eq_true, if_false]

/-- XQ pushes a legal chained command into the queue it names, while that has room. -/
theorem exec_xq {c rs : Nat} {b : Bytes} {s : State} (hgo : scuGo s c .none [rs] = true) (hstores : (s.core c).stores = [])
    (hentry : queueEntry c rs s = .ok (b, s)) (hlegal : chainLegal b = true)
    (hroom : (if cQueue b = 0 then (s.core c).queue0 else (s.core c).queue1).length < 8) :
    exec (.xq c rs) s = .next (notePresent c (s.core c) (s.setCore c (if cQueue b = 0 then
      { (s.core c).next s.now with queue0 := (s.core c).queue0 ++ [{ bytes := b }] } else
      { (s.core c).next s.now with queue1 := (s.core c).queue1 ++ [{ bytes := b }] }))) := by
  have hwait := wait_of_scuGo hgo
  have hready : ∀ q, scuGo s c (.chainQueue q) [rs] = true := fun q => by
    simp only [scuGo, hwait] at hgo ⊢
    exact hgo
  change execXq c rs s = _
  simp only [execXq, hready, flushStores_of_no_stores hstores, hentry, hlegal, hwait, Nat.not_le.mpr hroom, Bool.or_self, Bool.not_true,
    bne_self_eq_false, Bool.false_and, Bool.false_eq_true, if_false]
  rfl

/-- TWAIT goes on where the tile has completed, and waits for it where it has not. -/
theorem exec_twait {c rs : Nat} (q : Nat) {n : U16} {s : State} (hgo : scuGo s c .none [rs] = true)
    (hn : n = ((s.core c).reg rs).setWidth 16) : exec (.twait c q rs) s = .next (s.setCore c
      (if tileDone (s.core c) q n then (s.core c).next s.now else { (s.core c).next s.now with wait := .tile q n })) := by
  subst hn
  change execTwait c q rs s = _
  simp only [execTwait, hgo, Bool.not_true, Bool.false_eq_true, if_false]

/-! ### Instructions without operands (08 R332, R353; 10 R436, R437) -/

section
variable {c : Nat} {s : State} (hgo : scuGo s c .none [] = true)
include hgo

theorem exec_fenceFull : exec (.fenceFull c) s = .next (settleFence c (s.setCore c { (s.core c).next s.now with wait := .fence })) := by
  change execFenceFull c s = _
  simp only [execFenceFull, hgo, Bool.not_true, Bool.false_eq_true, if_false]

/-- With no access outstanding FENCE.FULL ends at once. -/
theorem exec_fenceFull_ends (hloads : (s.core c).loads = []) (hstores : (s.core c).stores = []) : exec (.fenceFull c) s = .next
    ((s.setCore c { (s.core c).next s.now with wait := .fence }).setCore c
      { (s.core c).next s.now with wait := .none, scuAt := s.now }) := by
  rw [exec_fenceFull hgo, settleFence_ends (by rw [core_setCore]) (by rw [core_setCore]; exact hloads) (by rw [core_setCore]; exact hstores),
    core_setCore]
  rfl

theorem exec_fenceRemote : exec (.fenceRemote c) s =
    .next (settleFence c (s.setCore c { (s.core c).next s.now with wait := .fenceRemote s.now })) := by
  change execFenceRemote c s = _
  simp only [execFenceRemote, hgo, Bool.not_true, Bool.false_eq_true, if_false]

/-- EVT with a code that the plan declares a fault is one of the core's task. -/
theorem exec_evt (code : Nat) : exec (.evt c code) s = .next
    (if ((taskPlan s c).map (fun p => p.evts.contains (code, 1))).getD false then coreFault c 4 0 (s.setCore c ((s.core c).next s.now))
      else s.setCore c ((s.core c).next s.now)) := by
  change execEvt c code s = _
  simp only [execEvt, hgo, Bool.not_true, Bool.false_eq_true, if_false]

/-- DONE on a core without a task stops the SCU once everything it pushed has completed. -/
theorem exec_done_taskless (hdrained : runDrained (s.core c) = true) (htask : (s.core c).task = none) :
    exec (.done c) s = .next (s.setCore c { (s.core c).next s.now with stopped := true, state := .idle }) := by
  have htask' : ((s.core c).next s.now).task = none := htask
  change execDone c s = _
  simp only [execDone, hgo, hdrained, core_setCore, htask', Bool.not_true, Bool.or_self, Bool.false_eq_true, if_false]

theorem exec_trap (code : Nat) : exec (.trap c code) s = .next (raiseTrap c code s) := by
  change execTrap c code s = _
  simp only [execTrap, hgo, Bool.not_true, Bool.false_eq_true, if_false]

end

/-! ### The watchdog (08 R357; 05 R186) -/

/-- A core that the watchdog finds stuck. -/
def stalledBy (c : Nat) (s : State) : State :=
  coreFault c 2 0 (errAdd (0x100 + 4 * c) 1 (s.setCore c { s.core c with state := .stalled, stopped := true }))

section
variable {c : Nat} {s : State} (hbusy : coreBusy s c = true)
include hbusy

/-- An SCU that waits for nothing and has made no progress for 4 ms stalls its core. -/
theorem exec_coreWatchdog_scu (hgoing : (s.core c).stopped = false) (hwait : (s.core c).wait = .none) (hrows : rowWaiting s c = false)
    (hdue : (s.core c).scuAt + 4000000 ≤ s.now) : exec (.coreWatchdog c false) s = .next (stalledBy c s) := by
  change execCoreWatchdog c false s = _
  simp [execCoreWatchdog, hbusy, hgoing, hwait, hrows, hdue, stalledBy]

/-- A running tile that has made no progress for 4 ms stalls its core. -/
theorem exec_coreWatchdog_executor (hrun : (s.core c).running.isSome = true) (hdue : (s.core c).tileAt + 4000000 ≤ s.now) :
    exec (.coreWatchdog c true) s = .next (stalledBy c s) := by
  change execCoreWatchdog c true s = _
  simp [execCoreWatchdog, hbusy, hrun, hdue, stalledBy]

end

/-- Settles O30: each clause is the law of its instruction or of the watchdog. -/
theorem scuControlsAct : Obligations.ScuControlsAct := by
  unfold Obligations.ScuControlsAct
  refine ⟨fun _ _ _ _ hgo hroom hstores hentry hlegal => exec_fq hgo hroom hstores (eq_ok_of_toOption hentry) hlegal, ?_,
    fun _ q _ _ _ hgo hn => exec_twait q hgo hn,
    fun _ _ hgo => ⟨exec_fenceFull hgo, exec_fenceRemote hgo, exec_fenceFull_ends hgo⟩, fun _ code _ hgo => exec_evt hgo code, ?_, ?_,
    fun _ _ hbusy hgoing hwait hrows hdue => exec_coreWatchdog_scu hbusy hgoing hwait hrows hdue,
    fun _ _ hbusy hrun hdue => exec_coreWatchdog_executor hbusy hrun hdue⟩
  · intro c rs b s hgo hstores hentry hlegal hroom
    rw [notePresent_next]
    exact exec_xq hgo hstores (eq_ok_of_toOption hentry) hlegal hroom
  · intro c s hgo hdrained
    exact ⟨_, rfl, fun htask => Host.Outcome.next.inj (exec_done_taskless hgo hdrained htask)⟩
  · intro c code s hgo
    have hbusy := coreBusy_of_scuGo hgo
    refine ⟨exec_trap hgo code, fun hrun => ?_, fun hidle htask => ⟨_, exec_trap hgo code, ?_⟩⟩
    · rw [exec_trap hgo, raiseTrap_waits hbusy code hrun]
    · rw [core_raiseTrap_idle hbusy code hidle htask]
      exact ⟨rfl, rfl, rfl⟩

end Sys2Proof.Machine
end

section
/-! Laws of the start and the end of a tile, and of the ends of descriptors and merge entries (01 R24; 07 R297; 08 R319, R334, R343, R344,
R349; 09 R370; 11 R465, R477), and the proof of O32. -/
namespace Sys2Proof.Machine

/-! ### What counters leave alone (15 R615) -/

/-- What neither the reports of wraps nor the counters are part of is as it was before counting. -/
theorem perfAdd_leaves {α : Type} {f : State → α} (hreports : ∀ t : State, f t.quiet = f t)
    (hcounters : ∀ (t : State) (n : Counters), f { t with cnt := n } = f t) (off n : Nat) (s : State) : f (perfAdd off n s) = f s := by
  unfold perfAdd
  dsimp only
  split
  · rw [← hreports, quiet_emit, hreports, hcounters]
  · exact hcounters s _

@[simp] theorem now_perfAdd (off n : Nat) (s : State) : (perfAdd off n s).now = s.now :=
  perfAdd_leaves (fun _ => rfl) (fun _ _ => rfl) off n s

@[simp] theorem core_perfAdd (off n : Nat) (s : State) (c : Nat) : (perfAdd off n s).core c = s.core c :=
  perfAdd_leaves (f := fun t => t.core c) (fun _ => rfl) (fun _ _ => rfl) off n s

@[simp] theorem dram_perfAdd (off n : Nat) (s : State) : (perfAdd off n s).dram = s.dram :=
  perfAdd_leaves (fun _ => rfl) (fun _ _ => rfl) off n s

@[simp] theorem now_tileCounts (c q : Nat) (chain : Bytes) (sat : Nat) (s : State) : (tileCounts c q chain sat s).now = s.now := by
  simp [tileCounts]

@[simp] theorem core_tileCounts (c q : Nat) (chain : Bytes) (sat : Nat) (s : State) (k : Nat) :
    (tileCounts c q chain sat s).core k = s.core k := by
  simp [tileCounts]

/-! ### A tile starts (08 R343, R349) -/

/-- What a tile's start notes for the output it makes. -/
def markEntered (mark : Option TileMark) (s : State) : State := match mark with | some m => enterTile m s | none => s

@[simp] theorem now_markEntered (mark : Option TileMark) (s : State) : (markEntered mark s).now = s.now := by
  cases mark with
  | none => rfl
  | some m =>
    simp only [markEntered, enterTile]
    (repeat' split) <;> rfl

/-- The core with a tile of queue q running, its output slot taken. -/
def Core.tileStarted (k : Core) (q : Nat) (t : Chain) (mark : Option TileMark) (now : Nat) : Core :=
  { k with
    running := some { queue := q, chain := t, startedAt := now, mark := mark },
    slots := k.slots.filter (fun e => e.1 != cOut t.bytes) ++ [(cOut t.bytes, q, cSeq t.bytes)] }

/-- A tile without an output may start, and one with an output in its turn. -/
theorem mayStart_guard {c : Nat} {mark : Option TileMark} {s : State} (hmay : ∀ m, mark = some m → tileMayStart s c m = true) :
    (mark.map (tileMayStart s c)).getD true = true := by
  cases mark with
  | none => rfl
  | some m => exact hmay m rfl

section
variable {c : Nat} {t : Chain} {rest : List Chain} {mark : Option TileMark} {s : State} (hbusy : coreBusy s c = true)
  (hfree : (s.core c).running = none) (hmay : ∀ m, mark = some m → tileMayStart s c m = true)
include hbusy hfree hmay

/-- The head of the primary queue starts. -/
theorem exec_tileStart_primary (hqueue : (s.core c).queue0 = t :: rest) (hready : tileReady (s.core c) 0 = true) :
    exec (.tileStart c ⟨0, mark⟩) s = .next ((markEntered mark s).setCore c
      { (s.core c).tileStarted 0 t mark s.now with queue0 := rest, started0 := (s.core c).started0 + 1 }) := by
  change execTileStart c ⟨0, mark⟩ s = _
  simp only [execTileStart, hbusy, hfree, hready, mayStart_guard hmay, hqueue]
  rw [← now_markEntered mark s]
  rfl

/-- The head of the filler queue starts where that of the primary one cannot. -/
theorem exec_tileStart_filler (hqueue : (s.core c).queue1 = t :: rest) (hready : tileReady (s.core c) 1 = true) :
    exec (.tileStart c ⟨1, mark⟩) s = .next (if tileReady (s.core c) 0 then s else (markEntered mark s).setCore c
      { (s.core c).tileStarted 1 t mark s.now with queue1 := rest, started1 := (s.core c).started1 + 1 }) := by
  change execTileStart c ⟨1, mark⟩ s = _
  cases hprimary : tileReady (s.core c) 0
  · simp only [execTileStart, hbusy, hfree, hready, hprimary, mayStart_guard hmay, hqueue]
    rw [← now_markEntered mark s]
    rfl
  · simp [execTileStart, hprimary]

end

/-- A tile whose turn has not come does not start. -/
theorem exec_tileStart_early {c : Nat} (q : Nat) {m : TileMark} {s : State} (hearly : tileMayStart s c m = false) :
    exec (.tileStart c ⟨q, some m⟩) s = .next s := by
  change execTileStart c ⟨q, some m⟩ s = _
  simp [execTileStart, hearly]

/-! ### The order of tiles (01 R24; 07 R297; 09 R370) -/

/-- A tile of an interpolated output starts in the speculative pass only where it has no state and no tile of an ended interval waits, and
otherwise only once its interval has ended. -/
theorem order_of_tileMayStart {c : Nat} {m : TileMark} {o : Output} {s : State}
    (hout : (s.stream m.sc).anyOutput (BitVec.ofNat 32 m.frame) m.phase = some o) (hinterp : o.interp = true)
    (hmay : tileMayStart s c m = true) :
    (m.spec = true → tileState s m.sc o m.index = none ∧ ∀ e ∈ (s.stream m.sc).interpolated, ∀ i ∈ (outputTiles s m.sc e.frame).order
      ((((s.stream m.sc).frameOf (BitVec.ofNat 32 m.frame)).map (·.cores.idxOf c)).getD 0), tilePending s m.sc e i = false) ∧
    (m.spec = false → intervalEnded (s.stream m.sc) o = true) := by
  unfold tileMayStart at hmay
  simp only [hout, hinterp] at hmay
  split at hmay
  case h_2 => simp at hmay
  case h_1 f _ hframe =>
    rw [hframe]
    cases hspec : m.spec
    case false =>
      simp only [hspec, Bool.not_true, Bool.false_eq_true, if_false, Bool.not_false, Bool.and_true, Bool.false_or, Bool.if_false_left,
        Bool.ite_eq_true_distrib, Bool.and_eq_true] at hmay
      obtain ⟨-, hturn⟩ := hmay
      refine ⟨nofun, fun _ => ?_⟩
      split at hturn
      · obtain ⟨⟨-, hended⟩, -⟩ := hturn
        exact hended
      · obtain ⟨⟨⟨⟨-, hended⟩, -⟩, -⟩, -⟩ := hturn
        exact hended
    case true =>
      simp only [hspec, Bool.not_true, Bool.false_eq_true, if_false, Bool.and_false, if_true, Bool.false_or, Bool.if_false_left,
        Bool.and_eq_true, Option.not_isSome, Option.isNone_iff_eq_none, List.all_eq_true, Bool.not_eq_true'] at hmay
      obtain ⟨-, ⟨⟨⟨⟨-, hfresh⟩, -⟩, -⟩, -⟩, hnone⟩ := hmay
      exact ⟨fun _ => ⟨hfresh, hnone⟩, nofun⟩

/-! ### A tile completes (08 R319, R334, R344) -/

/-- The core with its running tile of queue q, of number n, completed: TILES_DONE is n, and the kinds of sat that saturated are flagged. -/
def Core.tileEnded (k : Core) (q : Nat) (n : U16) (sat : List Nat) (now : Nat) : Core :=
  { k with
    running := none, tileAt := now,
    satFlags := k.satFlags ||| BitVec.ofNat 4 (toMask ((List.range 4).filter (fun i => nth 0 sat i != 0))),
    tilesDone0 := if q = 0 then n else k.tilesDone0, none0 := if q = 0 then false else k.none0,
    tilesDone1 := if q = 0 then k.tilesDone1 else n, none1 := if q = 0 then k.none1 else false }

/-- What a tile's end notes for the output it made, where the core's task is the output's stream. -/
def markMade (mark : Option TileMark) (k : Core) (s : State) : State :=
  match mark with | some m => if k.task = some (0, m.sc) then markTile m s else s | none => s

/-- The tile that runs, of a run that counts, completes: it is counted, its output is noted, and what its end settles follows. -/
theorem exec_tileComplete {c : Nat} {r : Running} {w : Work} {s : State} (hrun : (s.core c).running = some r)
    (hboot : s.glb.boot = .running) (hpower : s.pwr.tripped = false) (hcounts : r.abandoned = false)
    (hwork : w = runChain c r.chain.bytes ((r.mark.map (·.spec)).getD false) s) (hsound : w.trap = none)
    (hwait : (w.s.core c).wait = .none) :
    exec (.tileComplete c r.queue []) s = .next (settleTrap c (notePass c (markMade r.mark
      ((w.s.core c).tileEnded r.queue (cSeq r.chain.bytes) w.sat w.s.now)
      ((tileCounts c r.queue r.chain.bytes w.sat.sum w.s).setCore c
        ((w.s.core c).tileEnded r.queue (cSeq r.chain.bytes) w.sat w.s.now))))) := by
  have hfound : foundErrors none [] s = s := rfl
  change execTileComplete c r.queue [] s = _
  simp only [execTileComplete, tileEnds, hrun, Option.any_some, beq_self_eq_true, if_true, hboot, hpower, hcounts, bne_self_eq_false,
    Bool.or_self, Bool.false_eq_true, if_false, hfound, ← hwork, hsound, core_tileCounts, now_tileCounts]
  unfold Core.tileEnded
  by_cases hqueue : r.queue = 0
  · simp only [hqueue, if_true, hwait]
    rfl
  · simp only [hqueue, if_false, hwait]
    rfl

/-! ### Descriptors and merge entries end (11 R465, R477) -/

/-- A descriptor without a piece and without a compressed burst left completes. -/
theorem exec_fetchDescriptorComplete {c i : Nat} {e : FetchEntry} {s : State} (hentry : (s.core c).fetching[i]? = some e)
    (hpieces : e.pieces = []) (hbursts : e.bursts = []) : exec (.fetchDescriptorComplete c i) s = .next (notePresent c (s.core c)
      (s.setCore c { s.core c with fetching := (s.core c).fetching.filter (fun f => f.id != e.id) })) := by
  change execFetchDescriptorComplete c i s = _
  simp only [execFetchDescriptorComplete, hentry, hpieces, hbursts, List.isEmpty_nil, Bool.not_true, Bool.false_eq_true, if_false,
    List.foldl_nil]

/-- The only entry of a merge buffer is issued when it is 32 core cycles old and the core has a place. -/
theorem exec_mergeEntryTimeout {c : Nat} {m : MergeEntry} {s : State} (hmerge : (s.core c).merge = [m])
    (hdue : m.openedAt + 32000 / (s.core c).clock ≤ s.now) (hplace : placesUsed s c < 24) :
    exec (.mergeEntryTimeout c) s = .next (issueMerge c m s) := by
  change execMergeEntryTimeout c s = _
  simp [execMergeEntryTimeout, hmerge, hdue, hplace]

@[simp] theorem dram_charge (r : Nat) (light isWrite : Bool) (s : State) : (charge r light isWrite s).dram = s.dram := by
  unfold charge
  split
  · exact dram_perfAdd _ _ s
  · rfl

/-- An issued entry takes the next transaction number. -/
theorem nextId_issueMerge (c : Nat) (m : MergeEntry) (s : State) : (issueMerge c m s).dram.nextId = s.dram.nextId + 1 := by
  simp [issueMerge, enqueueTx]

/-- Settles O32: each clause is the law of its command, or what starting a tile needs. -/
theorem tilesRun : Obligations.TilesRun := by
  unfold Obligations.TilesRun
  refine ⟨?_, ?_, fun _ q _ _ hearly => exec_tileStart_early q hearly, ?_, ?_,
    fun _ _ _ _ hentry hpieces hbursts => exec_fetchDescriptorComplete hentry hpieces hbursts,
    fun c m s hmerge hdue hplace => ⟨exec_mergeEntryTimeout hmerge hdue hplace, nextId_issueMerge c m s⟩⟩
  · rintro c t rest mark s _ hbusy hfree hqueue hready hmay rfl
    exact exec_tileStart_primary hbusy hfree hmay hqueue hready
  · rintro c t rest mark s _ hbusy hfree hqueue hready hmay rfl
    exact exec_tileStart_filler hbusy hfree hmay hqueue hready
  · rintro c m _ o s rfl hout hinterp hmay
    exact order_of_tileMayStart hout hinterp hmay
  · rintro c r w _ s _ hrun hboot hpower hcounts hwork hsound hwait rfl rfl
    exact exec_tileComplete hrun hboot hpower hcounts hwork hsound hwait

end Sys2Proof.Machine
end

section
/-! Laws of the halo timeouts of streams and jobs (09 R387 to R390), and the proof of O36. -/
namespace Sys2Proof.Machine

/-! ### A fault meets a stream's outputs (02 R55, R56) -/

/-- A hurting fault leaves every output it meets DEGRADED and with a cause. -/
theorem degraded_of_meetFault {x : Stream} {cause : Nat} {p : Output → Bool} {o : Output} (hcause : cause ≠ 0)
    (hout : o ∈ (x.meetFault cause true p).outputs) (hmet : p o = true) (hrisk : o.atRisk = true) :
    hasFlag o.flags .degraded = true ∧ o.faultCause ≠ 0 := by
  obtain ⟨a, -, rfl⟩ := List.mem_map.mp hout
  by_cases ha : (a.atRisk && p a) = true
  · rw [if_pos ha]
    refine ⟨hasFlag_setFlag_same a.flags .degraded, ?_⟩
    by_cases hfirst : a.faultCause = 0
    · simpa only [if_pos hfirst] using hcause
    · simpa only [if_neg hfirst] using hfirst
  · rw [if_neg ha] at hmet hrisk
    exact absurd (by rw [hrisk, hmet]; rfl) ha

/-! ### A stream's wait times out (09 R387, R388, R390) -/

/-- The stream after a wait on the edge w of its run for frame f timed out: the wait is counted and its edge noted, and the fault meets
the run's outputs. -/
def Stream.haloLate (x : Stream) (f : U32) (w : Nat × Bool) : Stream :=
  Stream.meetFault { x.count .halo with haloTimedOut := x.haloTimedOut ++ [w] } 3 true (runOutput f)

/-- The payload of HALO_TIMEOUT: the frame, the boundary, the consuming and the producing stripe, and the producing core, here the one that
holds the producing stripe of a run on the cores cs. -/
def haloReport (f : U32) (boundary consumer producer core : Nat) (cs : List Nat) (pos : Nat) : Bytes :=
  le 4 f.toNat ++ le 1 boundary ++ le 1 consumer ++ le 1 producer ++ le 1 (nth core cs (producer % max 1 cs.length) + 16 * pos)

section
variable {c b co pr k sc : Nat} {top : Bool} {s : State} (htask : (s.core c).task = some (0, sc)) (hbusy : coreBusy s c = true)
  (hwaits : waitsFor s c (k, !top) = true) (hnew : (s.stream sc).haloTimedOut.contains (k, !top) = false)
  (hedge : b ≠ 0 ∨ (s.stream sc).cfg.sourceKind ≠ 2)
include htask hbusy hwaits hnew hedge

/-- An unmet wait of a stream times out, and the first of its run is reported. -/
theorem exec_haloTimeout :
    exec (.haloTimeout c b co pr k top) s = .next (if (s.stream sc).haloTimedOut.isEmpty
      then emit (srcSc sc) 0x010C (haloReport (s.core c).frame b co pr c (s.stream sc).cores s.glb.packPos.toNat)
        (s.setStream sc ((s.stream sc).haloLate (s.core c).frame (k, !top)))
      else s.setStream sc ((s.stream sc).haloLate (s.core c).frame (k, !top))) := by
  have hcamera : (decide (b = 0) && decide ((s.stream sc).cfg.sourceKind = 2)) = false := by simpa [imp_iff_not_or] using hedge
  change execHaloTimeout c b co pr k top s = _
  simp only [execHaloTimeout, htask, hbusy, hwaits, hnew, hcamera, Bool.not_true, Bool.or_self, Bool.false_eq_true, if_false]
  rfl

/-- Reported or not, the timeout leaves its stream late, and changes nothing else but reports. -/
theorem haloTimeout_reaches : ∃ t, exec (.haloTimeout c b co pr k top) s = .next t ∧
    t.stream sc = (s.stream sc).haloLate (s.core c).frame (k, !top) ∧
    t.quiet = (s.setStream sc ((s.stream sc).haloLate (s.core c).frame (k, !top))).quiet := by
  refine ⟨_, exec_haloTimeout htask hbusy hwaits hnew hedge, ?_⟩
  split
  · exact ⟨(stream_emit _ _ _ _ _).trans (stream_setStream _ _ _), quiet_emit _ _ _ _⟩
  · exact ⟨stream_setStream _ _ _, rfl⟩

end

/-! ### A job's wait times out (09 R389) -/

/-- An unmet wait of a job whose counters have not changed for 4 ms has its edge noted, and the job goes on DEGRADED. -/
theorem exec_jobHaloTimeout {c k j : Nat} {top : Bool} {s : State} (htask : (s.core c).task = some (1, j))
    (hbusy : coreBusy s c = true) (hwaits : waitsFor s c (k, !top) = true)
    (hnew : (s.job j).timedOut.contains (k, !top) = false) (hdue : (s.job j).countedAt + 4000000 ≤ s.now) :
    exec (.jobHaloTimeout c k top) s = .next (s.setJob j
      { s.job j with timedOut := (s.job j).timedOut ++ [(k, !top)], degraded := true }) := by
  change execJobHaloTimeout c k top s = _
  simp only [execJobHaloTimeout, htask, hbusy, hwaits, hnew, decide_eq_false (Nat.not_lt.mpr hdue), Bool.not_true, Bool.or_self,
    Bool.false_eq_true, if_false]

/-- Settles O36: a stream's timeout leaves the stream late, which degrades the outputs of its run; a job's is the law of its command. -/
theorem haloTimeoutsAct : Obligations.HaloTimeoutsAct := by
  unfold Obligations.HaloTimeoutsAct
  refine ⟨?_, fun _ _ _ _ _ htask hbusy hwaits hnew hdue => exec_jobHaloTimeout htask hbusy hwaits hnew hdue⟩
  intro c b co pr k top sc s htask hbusy hwaits hnew hedge
  obtain ⟨t, hexec, hstream, hquiet⟩ := haloTimeout_reaches (co := co) (pr := pr) htask hbusy hwaits hnew hedge
  refine ⟨t, hexec, by rw [hstream]; rfl, ?_, t, hexec, by rw [hstream, hquiet]⟩
  rw [hstream]
  exact fun o hout hrun hrisk => degraded_of_meetFault (by decide) hout hrun hrisk

end Sys2Proof.Machine
end

section
/-! The proof of O57 (10 R393, R417, R422), from the laws of the byte memories. -/
namespace Sys2Proof.Machine

/-- Settles O57: the laws of a read after a write or a zero fill, and of the canonical form. -/
theorem memoryReadsBack : Obligations.MemoryReadsBack := by
  unfold Obligations.MemoryReadsBack
  exact ⟨memGet_memWrite, memGet_memZero,
    fun m a n bs s hwf => ⟨memoriesWf_writeMem m a bs s hwf, memoriesWf_zeroMem m a n s hwf⟩⟩

end Sys2Proof.Machine
end

section
/-! Laws of the scrubber, of zero fills and of power domains (10 R417, R421, R422, R426, R446; 14 R558; 17 R660, R678, R679), and the proof
of O34. -/
namespace Sys2Proof.Machine

/-! ### The scrubber (10 R426) -/

/-- The row that follows the one a bank's scrubber stands at, of 768 in a CM bank and 8,192 in a bank of another memory. -/
def nextScrubRow (m c b : Nat) (s : State) : Nat :=
  (Tab.get 0 s.mem.scrubRow ((m * 16 + c) * 64 + b) + 1) % (if m = 0 then 768 else 8192)

/-- The scrubber of a bank of a memory has gone to its next row. -/
def scrubbed (m c b : Nat) (s : State) : State :=
  { s with mem := { s.mem with scrubRow := Tab.put s.mem.scrubRow ((m * 16 + c) * 64 + b) (nextScrubRow m c b s) } }

/-- A scrub tick that finds no error goes to the next row of its bank. -/
theorem exec_scrubTick_clean (m c b : Nat) (s : State) (hrun : s.running = true) (hon : Tab.get 64 s.mem.scrubInterval m ≠ 0) :
    exec (.scrubTick m c b []) s = .next (scrubbed m c b s) := by
  change execScrubTick m c b [] s = _
  simp only [execScrubTick, hrun, decide_eq_false hon, Bool.not_true, Bool.or_self, Bool.false_eq_true, if_false]
  rfl

/-! ### Zero fills (10 R417, R422, R446) -/

section
variable (a n x : Nat) (s : State)

/-- A byte of the Kennel after a zero fill of the Kennel. -/
theorem memGet_zeroFill_kennel :
    memGet (zeroFill .kennel a n s).mem.kennel x = if a ≤ x ∧ x < a + n then 0 else memGet s.mem.kennel x :=
  memGet_memZero s.mem.kennel a n x

/-- A zero fill of the Kennel leaves every CM as it is. -/
@[simp] theorem zeroFill_kennel_cm : (zeroFill .kennel a n s).mem.cm = s.mem.cm := rfl

/-- A zero fill of the Kennel leaves DRAM as it is. -/
@[simp] theorem zeroFill_kennel_dramBytes : (zeroFill .kennel a n s).dram.bytes = s.dram.bytes := rfl

/-- A zero fill of the Kennel leaves the domains that still power up as they are. -/
@[simp] theorem zeroFill_kennel_kennelUp : (zeroFill .kennel a n s).mem.kennelUp = s.mem.kennelUp := rfl

end

/-- Unit u no longer waits for its zero fill. -/
def unitFilled (u : Nat) (s : State) : State :=
  { s with mem := { s.mem with filling := s.mem.filling.filter (· != u) } }

section
variable (u : Nat) (s : State) (hfilling : s.mem.filling.contains u = true)
include hfilling

/-- The fill of a CM unit zeroes its 64 KiB; the task's parameters follow when it was the last fill they wait for. -/
theorem exec_unitFillComplete_cm (hcm : u < 1000) :
    exec (.unitFillComplete u) s =
      .next (writeParams (u / 12) (zeroFill (.cm (u / 12)) (u % 12 * 65536) 65536 (unitFilled u s))) := by
  have hnotKennel : ¬ 1000 ≤ u := by omega
  change execUnitFillComplete u s = _
  simp only [execUnitFillComplete, hfilling, decide_eq_false hnotKennel, hcm, Bool.not_true, Bool.false_and, Bool.or_self,
    Bool.false_eq_true, if_false, if_true, unitFilled]

/-- The fill of a Kennel unit, whose domain has powered up, zeroes its 128 KiB. -/
theorem exec_unitFillComplete_kennel (hkennel : 1000 ≤ u)
    (hup : s.mem.kennelUp.any (fun e => e.1 == unitDomain (u - 1000)) = false) :
    exec (.unitFillComplete u) s = .next (zeroFill .kennel ((u - 1000) * 131072) 131072 (unitFilled u s)) := by
  have hnotCm : ¬ u < 1000 := by omega
  change execUnitFillComplete u s = _
  simp only [execUnitFillComplete, hfilling, hup, hnotCm, Bool.not_true, Bool.and_false, Bool.or_self, Bool.false_eq_true, if_false,
    unitFilled]

end

/-- A run of freed DRAM units, e.2 of them from e.1 on, is zeroed when its background fill completes. -/
theorem exec_dramUnitFillDone (u : Nat) (e : Nat × Nat) (s : State) (hfilling : s.dram.filling.find? (fun e => e.1 == u) = some e) :
    exec (.dramUnitFillDone u) s = .next (zeroDram (e.1 * 1048576) (e.2 * 1048576)
      { s with dram := { s.dram with filling := s.dram.filling.filter (· != e) } }) := by
  change execDramUnitFillDone u s = _
  simp only [execDramUnitFillDone, hfilling]

/-! ### Kennel domains (10 R421, R422) -/

/-- A Kennel domain that powered up comes into use zeroed. -/
theorem exec_kennelDomainReady (d : Nat) (e : Nat × Nat) (s : State) (hup : s.mem.kennelUp.find? (fun e => e.1 == d) = some e) :
    exec (.kennelDomainReady d) s = .next (zeroFill .kennel (d * 4194304) 4194304
      { s with mem := { s.mem with kennelUp := Tab.del s.mem.kennelUp d } }) := by
  change execKennelDomainReady d s = _
  simp only [execKennelDomainReady, hup]

/-- A Kennel domain that is on and has no owner goes off. -/
theorem exec_kennelDomainPowerOff (d : Nat) (s : State) (hon : domainOn s (16 + d) = true) (hfree : kennelUsed s d = false) :
    exec (.kennelDomainPowerOff d) s = .next (kennelOff d s) := by
  change execKennelDomainPowerOff d s = _
  simp only [execKennelDomainPowerOff, hon, hfree, Bool.not_false, Bool.and_self, if_true]

/-- An orphan with a unit in Kennel domain d. -/
def Orphan.inKennel (d : Nat) (o : Orphan) : Bool :=
  o.regions.any (fun r => r.mem == .kennel && r.base / 4194304 ≤ d && d ≤ (r.base + r.len - 1) / 4194304)

/-- A Kennel domain that goes off no longer powers up. -/
theorem kennelOff_kennelUp (d : Nat) (s : State) :
    (kennelOff d s).mem.kennelUp = Tab.del (endOrphans 2 (Orphan.inKennel d) s).mem.kennelUp d := rfl

/-! ### Switched domains (14 R558; 17 R660, R678, R679) -/

section
variable {s : State}

/-- A domain whose power-up time has passed counts as on; the IAC comes up empty. -/
theorem exec_domainPoweredUp {d : Nat} (hdue : s.pwr.poweringUp.any (fun e => e.1 == d && decide (e.2 ≤ s.now)) = true) (hfyx : d ≠ 31) :
    exec (.domainPoweredUp d) s = .next (if d = 24
      then { setDomain d true s with iac := { s.iac with on := true, sets := [], detectors := [], fills := [] } }
      else setDomain d true s) := by
  change execDomainPoweredUp d s = _
  simp only [execDomainPoweredUp, hdue, hfyx, Bool.not_true, Bool.false_eq_true, if_false]
  rfl

/-- FyxLink, powered up, starts to train its enabled ports. -/
theorem exec_domainPoweredUp_fyx (hdue : s.pwr.poweringUp.any (fun e => e.1 == 31 && decide (e.2 ≤ s.now)) = true) :
    exec (.domainPoweredUp 31) s = .next ((List.range 4).foldl
      (fun s k => if bit (fyxPorts s) k then s.setLink k { state := .detect, since := s.now } else s) (setDomain 31 true s)) := by
  change execDomainPoweredUp 31 s = _
  simp only [execDomainPoweredUp, hdue, Bool.not_true, Bool.false_eq_true, if_false, if_true, Nat.reduceEqDiff]

/-- The domain of a core without a task goes off 1 s after its last one. -/
theorem exec_coreDomainIdleTimeout {c t : Nat} (hidle : s.pwr.idleSince.find? (fun e => e.1 == c) = some (c, t)) (hcore : c < 16)
    (hfree : (s.core c).task = none) (hdue : t + 1000000000 ≤ s.now) :
    exec (.coreDomainIdleTimeout c) s = .next (coreOff c s) := by
  change execCoreDomainIdleTimeout c s = _
  simp only [execCoreDomainIdleTimeout, hidle, hcore, hfree, hdue, decide_true, Option.isNone_none, Bool.and_self, if_true]

/-- The OFM's domain goes off 10 ms after the last stream that runs or drains. -/
theorem exec_ofmDomainIdleTimeout {t : Nat} (hidle : s.pwr.idleSince.find? (fun e => e.1 == 30) = some (30, t))
    (hdue : t + 10000000 ≤ s.now)
    (hquiet : (List.range 32).all (fun i => !(runs s i || (s.stream i).state == .draining)) = true) :
    exec .ofmDomainIdleTimeout s = .next
      { setDomain 30 false s with pwr := { (setDomain 30 false s).pwr with idleSince := Tab.del s.pwr.idleSince 30 } } := by
  change execOfmDomainIdleTimeout s = _
  simp only [execOfmDomainIdleTimeout, hidle, hdue, hquiet, decide_true, Bool.and_self, if_true]

end

/-- Settles O34: each clause is the law of its command, or of a zero fill. -/
theorem memoryHardwareActs : Obligations.MemoryHardwareActs := by
  unfold Obligations.MemoryHardwareActs
  refine ⟨exec_scrubTick_clean, exec_unitFillComplete_cm, exec_unitFillComplete_kennel, ?zeroFill, exec_kennelDomainReady, ?kennelOff,
    fun _ _ => exec_domainPoweredUp, fun _ => exec_domainPoweredUp_fyx, fun _ _ _ => exec_coreDomainIdleTimeout,
    fun _ _ => exec_ofmDomainIdleTimeout, exec_dramUnitFillDone⟩
  case zeroFill =>
    rintro m a n x s rfl
    exact ⟨memGet_zeroFill_kennel a n x s, zeroFill_kennel_cm a n s, zeroFill_kennel_dramBytes a n s⟩
  case kennelOff =>
    exact fun d s hon hfree => ⟨exec_kennelDomainPowerOff d s hon hfree, kennelOff_kennelUp d s⟩

end Sys2Proof.Machine
end

section
/-! Laws of the DRAM transactions that complete and of the fills that return (11 R466, R474, R486 to R488; 12 R501, R503, R504; 15 R615),
and the proof of O33. -/
namespace Sys2Proof.Machine

/-! ### What a write to the IAC leaves alone (12 R504) -/

@[simp] theorem mem_perfAdd (off n : Nat) (s : State) : (perfAdd off n s).mem = s.mem :=
  perfAdd_leaves (fun _ => rfl) (fun _ _ => rfl) off n s

section
variable {α : Type} {f : State → α} (hiac : ∀ (t : State) (x : Iac), f { t with iac := x } = f t)
  (hcounted : ∀ (off n : Nat) (t : State), f (perfAdd off n t) = f t)
include hiac hcounted

theorem iacWriteLine_leaves (line : Nat) (ks : List Nat) (s : State) : f (iacWriteLine line ks s) = f s := by
  have hset (t : State) (i : Nat) (x : IacSet) : f (t.setIacSet i x) = f t := hiac t _
  unfold iacWriteLine
  dsimp only
  split
  · split
    · rw [hset, hiac]
    · rw [hcounted, hset, hiac]
  · exact hiac s _

/-- What neither the IAC nor the counters are part of is as it was before a write to the IAC. -/
theorem iacWrite_leaves (a n : Nat) (s : State) : f (iacWrite a n s) = f s := by
  unfold iacWrite
  split
  · rfl
  · exact foldl_keeps f (fun t _ => iacWriteLine_leaves hiac hcounted _ _ t) _ s

end

@[simp] theorem dram_iacWrite (a n : Nat) (s : State) : (iacWrite a n s).dram = s.dram :=
  iacWrite_leaves (fun _ _ => rfl) dram_perfAdd a n s

@[simp] theorem mem_iacWrite (a n : Nat) (s : State) : (iacWrite a n s).mem = s.mem :=
  iacWrite_leaves (fun _ _ => rfl) mem_perfAdd a n s

/-! ### Masked writes (11 R466) -/

/-- The bytes of the given offsets that a mask names go to the line at an address. -/
def putMasked (line mask : Nat) (data : Bytes) (offsets : List Nat) (s : State) : State :=
  offsets.foldl (fun s i => if bit mask i then putData .dram (line + i) [nth 0 data i] false s else s) s

section
variable (line mask : Nat) (data : Bytes)

@[simp] theorem kennel_putMasked (offsets : List Nat) (s : State) : (putMasked line mask data offsets s).mem.kennel = s.mem.kennel :=
  foldl_keeps (fun t => t.mem.kennel) (fun t i => by split <;> rfl) offsets s

@[simp] theorem cm_putMasked (offsets : List Nat) (s : State) : (putMasked line mask data offsets s).mem.cm = s.mem.cm :=
  foldl_keeps (fun t => t.mem.cm) (fun t i => by split <;> rfl) offsets s

/-- A byte of DRAM after one byte of data goes to it. -/
theorem memGet_putData_dram (a x : Nat) (b : Byte) (held : Bool) (s : State) :
    memGet (putData .dram a [b] held s).dram.bytes x = if x = a then b else memGet s.dram.bytes x :=
  memGet_memPut s.dram.bytes a x b

/-- A byte of DRAM after a masked write. -/
theorem memGet_putMasked (offsets : List Nat) (s : State) (x : Nat) : memGet (putMasked line mask data offsets s).dram.bytes x =
    if line ≤ x ∧ x - line ∈ offsets ∧ bit mask (x - line) = true then nth 0 data (x - line) else memGet s.dram.bytes x := by
  induction offsets generalizing s with
  | nil => simp [putMasked]
  | cons i offsets ih =>
    change memGet (putMasked line mask data offsets
      (if bit mask i then putData .dram (line + i) [nth 0 data i] false s else s)).dram.bytes x = _
    rw [ih]
    by_cases hx : x = line + i
    · subst hx
      by_cases hbit : bit mask i = true
      · simp [hbit, memGet_putData_dram]
      · simp [hbit]
    · have hne : line ≤ x → x - line ≠ i := by omega
      have hother : memGet (if bit mask i then putData .dram (line + i) [nth 0 data i] false s else s).dram.bytes x
          = memGet s.dram.bytes x := by
        split
        · rw [memGet_putData_dram, if_neg hx]
        · rfl
      rw [hother]
      by_cases hline : line ≤ x
      · simp [hne hline]
      · simp [hline]

end

/-! ### Accepted writes (11 R466, R488) -/

/-- The IAC's copies of the sectors that a write's mask names are struck out (12 R504). -/
def snoopMasked (line mask : Nat) (s : State) : State :=
  ((List.range 4).filter (fun k => bits mask (32 * k) 32 != 0)).foldl (fun s k => iacWrite (line + 32 * k) 32 s) s

@[simp] theorem dram_snoopMasked (line mask : Nat) (s : State) : (snoopMasked line mask s).dram = s.dram :=
  foldl_keeps State.dram (fun t _ => dram_iacWrite _ _ t) _ s

@[simp] theorem mem_snoopMasked (line mask : Nat) (s : State) : (snoopMasked line mask s).mem = s.mem :=
  foldl_keeps State.mem (fun t _ => mem_iacWrite _ _ t) _ s

section
variable {t : DramTx} {s : State}

theorem acceptWrite_up (hup : channelDown s t.addr = false) : acceptWrite t s =
    putMasked (t.addr / 128 * 128) t.mask t.data (List.range 128) (snoopMasked (t.addr / 128 * 128) t.mask s) := by
  simp only [acceptWrite, hup, Bool.false_eq_true, if_false]
  rfl

/-- An accepted write of a channel that is up changes the bytes of its line that its mask names, and no other. -/
theorem memGet_acceptWrite (a : Nat) (hup : channelDown s t.addr = false) : memGet (acceptWrite t s).dram.bytes a =
    if a / 128 = t.addr / 128 ∧ bit t.mask (a % 128) = true then nth 0 t.data (a % 128) else memGet s.dram.bytes a := by
  rw [acceptWrite_up hup, memGet_putMasked, dram_snoopMasked]
  by_cases hline : a / 128 = t.addr / 128
  · have hoffset : a - t.addr / 128 * 128 = a % 128 := by omega
    have hbase : t.addr / 128 * 128 ≤ a := by omega
    have hlast : a % 128 < 128 := by omega
    simp [hoffset, hbase, hline, hlast]
  · have hout : ¬ (t.addr / 128 * 128 ≤ a ∧ a - t.addr / 128 * 128 ∈ List.range 128 ∧
        bit t.mask (a - t.addr / 128 * 128) = true) := by
      rw [List.mem_range]
      omega
    rw [if_neg hout, if_neg fun h => hline h.1]

/-! ### Transactions and fills complete (11 R466, R474, R487; 12 R501, R503; 15 R615) -/

/-- The oldest transaction of a channel that does not retrain leaves the queue, its bytes counted. -/
theorem exec_dramTransactionComplete (error : Nat) {ch : Nat} {rest : List DramTx} (hqueue : (s.channel ch).queue = t :: rest)
    (hup : (s.channel ch).retrainingSince = none) : exec (.dramTransactionComplete ch error) s = .next (finishTx t error
      (perfAdd ((if t.isWrite then 0x580 else 0x560) + 8 * ch) (if t.light then 64 else 128)
        (s.setChannel ch { s.channel ch with queue := rest }))) := by
  change execDramTransactionComplete ch error s = _
  simp only [execDramTransactionComplete, hqueue, hup, Option.isSome_none, Bool.false_eq_true, if_false]

/-- A write of a requester that is no core waits for no piece: it is accepted. -/
theorem finishTx_write (error : Nat) (hwrite : t.isWrite = true) (hrequester : 16 ≤ t.requester) :
    finishTx t error s = acceptWrite t s := by
  simp only [finishTx, writeDone, hwrite, Nat.not_lt.mpr hrequester, if_true, if_false]

end

/-- A fill with its data, of a requester that is no core, is installed or dropped. -/
theorem exec_iacFillReturn {id : Nat} {f : Fill} {b : Bytes} {s : State} (hfill : s.iac.fills.find? (fun g => g.id == id) = some f)
    (hdata : f.data = some b) (hrequester : 16 ≤ f.requester) : exec (.iacFillReturn id) s = .next (landFill f s) := by
  change execIacFillReturn id s = _
  simp only [execIacFillReturn, hfill, hdata, Nat.not_lt.mpr hrequester, if_false]

/-- Settles O33: the laws of a transaction's end, of an accepted write and of a fill's return. -/
theorem dramTransactionsComplete : Obligations.DramTransactionsComplete := by
  unfold Obligations.DramTransactionsComplete
  refine ⟨fun _ error _ _ _ => exec_dramTransactionComplete error, fun error _ _ => finishTx_write error, ?accepted,
    fun _ _ _ _ => exec_iacFillReturn⟩
  case accepted =>
    intro t s a hup
    refine ⟨memGet_acceptWrite a hup, ?_, ?_⟩
    · rw [acceptWrite_up hup, kennel_putMasked, mem_snoopMasked]
    · rw [acceptWrite_up hup, cm_putMasked, mem_snoopMasked]

end Sys2Proof.Machine
end

section
/-! What reports, faults and the end of jobs leave of the memories and of the windows: a core's fault closes windows and opens none
(04 R156; 05 R186, R199, R212; 08 R356, R358; 10 R442; 15 R626). -/
namespace Sys2Proof.Machine

/-! ### What touches no memory -/

@[simp] theorem mem_emit (source code : Nat) (payload : Bytes) (s : State) : (emit source code payload s).mem = s.mem :=
  (congrArg State.mem (quiet_emit source code payload s) :)

@[simp] theorem mem_sendFyx (dst : Nat) (k : Packet) (s : State) : (sendFyx dst k s).mem = s.mem :=
  (congrArg State.mem (quiet_sendFyx dst k s) :)

@[simp] theorem mem_sendPkt (dst kind index : Nat) (arg : U32) (data : Bytes) (s : State) :
    (sendPkt dst kind index arg data s).mem = s.mem :=
  mem_sendFyx _ _ s

@[simp] theorem mem_complete (h : Hdr) (op : Nat) (st : Status) (result : Bytes) (s : State) : (complete h op st result s).mem = s.mem := by
  by_cases hinner : h.ring = innerRing
  · rw [complete, if_pos hinner]
  · exact (congrArg State.mem (complete_parts h op st result s hinner).2.1 :)

@[simp] theorem mem_stagedOutcome (ring : Nat) (tag : U16) (op : Nat) (st : Status) (frame : Nat) (result : Bytes) (s : State) :
    (stagedOutcome ring tag op st frame result s).mem = s.mem := by
  unfold stagedOutcome
  split
  · exact mem_complete _ _ _ _ s
  · split
    · split
      · exact mem_sendFyx _ _ s
      · rfl
    · split
      · rfl
      · exact (congrArg State.mem (quiet_committed ring tag op st frame 0 0 s) :)

@[simp] theorem mem_sharesShrink (s : State) : (sharesShrink s).mem = s.mem := by
  have hrefresh : (refreshCerts s).mem = s.mem :=
    foldl_keeps State.mem (fun t i => by dsimp only; (repeat' split) <;> rfl) _ s
  have hrelax : (relaxFloors (refreshCerts s)).mem = (refreshCerts s).mem :=
    foldl_keeps State.mem (fun t i => by dsimp only; (repeat' split) <;> rfl) _ _
  exact hrelax.trans hrefresh

@[simp] theorem mem_noteOfmIdle (s : State) : (noteOfmIdle s).mem = s.mem := by
  unfold noteOfmIdle
  split <;> rfl

@[simp] theorem mem_groupFinish (g : Nat) (s : State) : (groupFinish g s).mem = s.mem := by
  refine foldl_keeps State.mem (fun t f => ?_) _ s
  dsimp only
  split
  · split
    · exact mem_emit _ _ _ _
    · rfl
  · rfl

@[simp] theorem mem_leaveGroupFrames (sc : Nat) (s : State) : (leaveGroupFrames sc s).mem = s.mem := by
  unfold leaveGroupFrames
  split
  · rfl
  · exact mem_groupFinish _ _

@[simp] theorem mem_commitRoute (src : Nat) (target : Option Nat) (s : State) : (commitRoute src target s).mem = s.mem := by
  unfold commitRoute
  dsimp only
  (repeat' split) <;> rfl

@[simp] theorem mem_routeOutcome (src frame : Nat) (s : State) : (routeOutcome src frame s).mem = s.mem := by
  unfold routeOutcome
  split
  · dsimp only
    split
    · split
      · exact mem_complete _ _ _ _ _
      · rw [mem_stagedOutcome, mem_complete]
    · exact mem_stagedOutcome _ _ _ _ _ _ _
  · rfl

@[simp] theorem mem_settleRoutes (sc : Nat) (s : State) : (settleRoutes sc s).mem = s.mem := by
  unfold settleRoutes
  (repeat' split) <;> simp

/-- A stream that is FAULTED keeps its memory and its windows (05 R186). -/
@[simp] theorem mem_faultStream (cause core trap sc : Nat) (s : State) : (faultStream cause core trap sc s).mem = s.mem := by
  unfold faultStream
  dsimp only
  split
  · rw [mem_settleRoutes, mem_leaveGroupFrames, mem_noteOfmIdle, mem_emit, State.setStream_mem]
    exact foldl_keeps State.mem (fun _ _ => State.setCore_mem _ _ _) _ s
  · rfl

@[simp] theorem mem_poisonStrikes (task : Option (Nat × Nat)) (s : State) : (poisonStrikes task s).mem = s.mem := by
  unfold poisonStrikes
  split
  · rfl
  · dsimp only
    split <;> rfl
  · rfl

@[simp] theorem mem_taskRead (task : Option (Nat × Nat)) (m : Mem) (a n : Nat) (s : State) : (taskRead task m a n s).2.mem = s.mem := by
  unfold taskRead
  dsimp only
  split
  · exact mem_poisonStrikes task s
  · rfl

/-! ### No window is opened (04 R156; 14 R587) -/

/-- Every window of u is as it is in s, or closed. -/
def NoneOpened (s u : State) : Prop := ∀ i, u.window i = s.window i ∨ u.window i = {}

theorem noneOpened_of_windows {s u : State} (h : u.mem.windows = s.mem.windows) : NoneOpened s u := by
  intro i
  left
  rw [State.window, h]
  rfl

theorem noneOpened_of_mem {s u : State} (h : u.mem = s.mem) : NoneOpened s u :=
  noneOpened_of_windows (congrArg Memory.windows h)

theorem NoneOpened.refl (s : State) : NoneOpened s s := noneOpened_of_mem rfl

theorem NoneOpened.trans {s t u : State} (hst : NoneOpened s t) (htu : NoneOpened t u) : NoneOpened s u := by
  intro i
  rcases htu i with hsame | hclosed
  · rw [hsame]
    exact hst i
  · exact .inr hclosed

/-- What each step of a fold opens no window in, the fold opens none in. -/
theorem noneOpened_foldl {α : Type} {f : State → α → State} (hstep : ∀ s a, NoneOpened s (f s a)) (l : List α) (s : State) :
    NoneOpened s (l.foldl f s) :=
  List.foldlRecOn l f (NoneOpened.refl s) fun t ht a _ => ht.trans (hstep t a)

theorem noneOpened_foldl_snd {α β : Type} {f : β × State → α → β × State} (hstep : ∀ r a, NoneOpened r.2 (f r a).2) (l : List α)
    (r : β × State) : NoneOpened r.2 (l.foldl f r).2 :=
  List.foldlRecOn (motive := fun q => NoneOpened r.2 q.2) l f (NoneOpened.refl r.2) fun q hq a _ => hq.trans (hstep q a)

theorem noneOpened_setWindow (i : Nat) (s : State) : NoneOpened s (s.setWindow i {}) := by
  intro j
  by_cases hij : j = i
  · rw [hij, window_setWindow]
    exact .inr rfl
  · exact .inl (tab_get_put_ne _ _ _ _ _ hij)

theorem noneOpened_closeWindow (cause i : Nat) (s : State) : NoneOpened s (closeWindow cause i s) := by
  unfold closeWindow
  dsimp only
  split
  · refine (noneOpened_setWindow i s).trans (noneOpened_of_mem ?_)
    rw [mem_emit]
    split
    · rfl
    · exact foldl_keeps State.mem (fun _ _ => mem_sendPkt _ _ _ _ _ _) _ _
  · exact .refl s

theorem noneOpened_closeWindows (cause : Nat) (p : Window → Bool) (s : State) : NoneOpened s (closeWindows cause p s) := by
  refine noneOpened_foldl (fun t i => ?_) _ s
  split
  · exact noneOpened_closeWindow cause i t
  · exact .refl t

@[simp] theorem windows_freeCounters (x : Option (Nat × Nat)) (s : State) : (freeCounters x s).mem.windows = s.mem.windows := by
  cases x <;> rfl

/-- The end of a job that is not killed closes its windows and opens none (04 R152). -/
theorem noneOpened_endJob (status j : Nat) (s : State) : NoneOpened s (endJob false status j s) := by
  unfold endJob
  simp only [Bool.false_eq_true, if_false, id]
  split
  · refine (noneOpened_closeWindows 1 (fun w => w.isOpen && w.ownerKind == 1 && w.owner == j) s).trans (noneOpened_of_windows ?_)
    rw [mem_sharesShrink, mem_emit, State.setJob_mem]
    refine (windows_freeCounters _ _).trans ?_
    exact foldl_keeps (fun t : State => t.mem.windows) (f := fun t c => releaseCore c (t.setCore c (t.core c).abandon))
      (fun _ _ => rfl) _ _
  · exact .refl s

theorem noneOpened_coreFault (c cause trap : Nat) (s : State) : NoneOpened s (coreFault c cause trap s) := by
  unfold coreFault
  split
  · exact noneOpened_of_mem (mem_faultStream _ _ _ _ s)
  · exact noneOpened_endJob _ _ s
  · exact .refl s

theorem noneOpened_settleTrap (c : Nat) (s : State) : NoneOpened s (settleTrap c s) := by
  unfold settleTrap
  dsimp only
  split
  · split
    · exact .refl s
    · exact noneOpened_coreFault _ _ _ _
  · exact .refl s

theorem noneOpened_raiseTrap (c cause : Nat) (s : State) : NoneOpened s (raiseTrap c cause s) :=
  noneOpened_settleTrap c _

end Sys2Proof.Machine
end

section
/-! Laws of the descriptors that the Fetcher starts (09 R381; 10 R408, R409; 11 R449, R450, R455, R456, R463, R464, R468 to R470, R480),
and the proof of O31. -/
namespace Sys2Proof.Machine

/-! ### Fields and accesses that pass (00 R3; 10 R393) -/

theorem leVal_lt (b : Bytes) : leVal b < 256 ^ b.length := by
  induction b with
  | nil => decide
  | cons x b ih =>
    have hx := x.isLt
    rw [leVal, List.length_cons, Nat.pow_succ]
    omega

theorem fld_lt (b : Bytes) (off n : Nat) : fld b off n < 256 ^ n :=
  (leVal_lt _).trans_le (Nat.pow_le_pow_right (by decide) (List.length_take_le n _))

/-- What succeeds has a value. -/
theorem exists_ok_of_isSome {ε α : Type} {x : Except ε α} (h : x.toOption.isSome = true) : ∃ a, x = .ok a := by
  obtain ⟨a, ha⟩ := Option.isSome_iff_exists.mp h
  exact ⟨a, eq_ok_of_toOption ha⟩

/-! ### Accesses open no window (10 R392, R393; 11 R449)

A LOAD or STORE is checked against the remote windows as they are before its bursts, which may trap and so close windows. -/

@[simp] theorem mem_readPlaces (c : Nat) (l : List (Place × Nat)) (s : State) : (readPlaces c l s).2.mem = s.mem := by
  refine foldl_keeps (fun r : Bytes × State => r.2.mem) (fun r e => ?_) l ([], s)
  obtain ⟨_ | _, n⟩ := e
  · exact mem_taskRead _ _ _ _ _
  · rfl

@[simp] theorem mem_freeBytes (n : Nat) (s : State) : (freeBytes n s).2.mem = s.mem := rfl

@[simp] theorem mem_rewriteWeights (c a n : Nat) (s : State) : (rewriteWeights c a n s).mem = s.mem := by
  unfold rewriteWeights
  split
  · exact (apply_ite State.mem _ _ _).trans (ite_self _)
  · rfl

@[simp] theorem mem_storeBytes (c a n : Nat) (s : State) : (storeBytes c a n s).2.mem = s.mem := by
  refine foldl_keeps (fun r : Bytes × State => r.2.mem) (fun r e => ?_) _ ([], s)
  dsimp only
  split
  · rfl
  · split
    · rfl
    · exact mem_readPlaces _ _ _

theorem windows_writePlaces (c : Nat) (l : List (Place × Nat)) (bs : Bytes) (held : Bool) (s : State) :
    (writePlaces c l bs held s).mem.windows = s.mem.windows := by
  refine foldl_keeps (fun r : Bytes × State => r.2.mem.windows) (fun r e => ?_) l (bs, s)
  obtain ⟨m | _, n⟩ := e
  · cases m <;> rfl
  · rfl

theorem noneOpened_writeCore (c a : Nat) (bs : Bytes) (held : Bool) (s : State) : NoneOpened s (writeCore c a bs held s) := by
  unfold writeCore
  split
  · exact noneOpened_of_windows (windows_writePlaces _ _ _ _ _)
  · exact noneOpened_raiseTrap _ _ _

theorem noneOpened_moveCore (c src dst n : Nat) (lost : Bool) (s : State) : NoneOpened s (moveCore c src dst n lost s) := by
  unfold moveCore
  split
  · exact noneOpened_raiseTrap _ _ _
  · rename_i l _
    have hread : (readPlaces c l (rewriteWeights c src n s)).2.mem = s.mem := by simp
    cases lost <;> exact .trans (noneOpened_of_mem (by exact hread)) (noneOpened_writeCore _ _ _ _ _)

/-- Reading the bytes of a store, where the descriptor is one, changes no memory. -/
theorem mem_storedBytes (store : Bool) (c a n : Nat) (s : State) : (if store then storeBytes c a n s else ([], s)).2.mem = s.mem := by
  split
  · exact mem_storeBytes c a n s
  · rfl

/-- A burst that starts opens no window: on-chip bytes move or are read. -/
theorem noneOpened_startBurst (c : Nat) (b : Bytes) (lost : Bool) (x : Int × Int × Nat) (s : State) :
    NoneOpened s (startBurst c b lost x s).2 := by
  unfold startBurst
  dsimp only
  split
  · refine noneOpened_foldl_snd (fun r e => ?_) _ ([], s)
    split
    · exact noneOpened_of_mem (mem_storedBytes _ _ _ _ _)
    · split <;> exact noneOpened_moveCore _ _ _ _ _ _
  · split <;> exact noneOpened_of_mem (mem_storedBytes _ _ _ _ _)
  · exact noneOpened_of_mem (mem_storedBytes _ _ _ _ _)

/-! ### LOAD and STORE (11 R449, R463, R464, R469, R470) -/

/-- Where no window has been opened since, what the windows allow now they allowed before. -/
theorem windowDenies_before {s u : State} {ps : List Piece} (hnone : NoneOpened s u) (hallowed : windowDenies u ps = false) :
    windowDenies s ps = false := by
  simp only [windowDenies, List.any_eq_false] at hallowed ⊢
  intro p hp
  rcases hnone p.window with hsame | hclosed
  · rw [← hsame]
    exact hallowed p hp
  · have hshut : (if p.isWrite then ({} : Window).write else ({} : Window).read) = false := ite_self _
    have hlocal := hallowed p hp
    rw [hclosed, hshut, Bool.not_false, Bool.and_true] at hlocal
    rw [Bool.eq_false_iff.mpr hlocal, Bool.false_and]
    exact Bool.false_ne_true

/-- The pieces of a transfer's bursts, started in their order, and the state that they leave. -/
def startBursts (c : Nat) (b : Bytes) (l : List (Int × Int × Nat)) (s : State) : List Piece × State :=
  l.foldl (fun r x => (r.1 ++ (startBurst c b (waitLost s c b) x r.2).1, (startBurst c b (waitLost s c b) x r.2).2)) ([], s)

theorem noneOpened_startBursts (c : Nat) (b : Bytes) (l : List (Int × Int × Nat)) (s : State) :
    NoneOpened s (startBursts c b l s).2 :=
  noneOpened_foldl_snd (by exact fun r x => noneOpened_startBurst c b (waitLost s c b) x r.2) l ([], s)

/-- The bursts that a LOAD of a block feature map decodes at its end, as near address, length and far offset (11 R470, R482). -/
def packedBursts (b : Bytes) (l : List (Int × Int × Nat)) : List (Nat × Nat × Nat) :=
  if dKind b = 0 && dBfr b != 0 then l.map (fun x => (x.2.1.toNat, x.2.2, x.1.toNat)) else []

section
variable {c : Nat} {e : FetchEntry} {l : List (Int × Int × Nat)} {s : State} {r : List Piece × State}

/-- A transfer without a fault is in flight with the pieces of its bursts. -/
theorem startTransfer_launches (hbursts : (burstsOf c e.bytes s).toOption = some l) (hfault : transferFault s c e.bytes l = none)
    (hstarted : r = startBursts c e.bytes l s) (hallowed : windowDenies r.2 r.1 = false) :
    startTransfer c e s = launch c e r.1 (packedBursts e.bytes l) r.2 := by
  subst hstarted
  have hbefore : windowDenies s (startBursts c e.bytes l s).1 = false :=
    windowDenies_before (noneOpened_startBursts c e.bytes l s) hallowed
  simp only [startTransfer, eq_ok_of_toOption hbursts, hfault]
  exact if_neg (Bool.eq_false_iff.mp hbefore)

theorem exec_fetchLoad (hbusy : coreBusy s c = true) (hnext : nextDescriptor s c 0 = some e) :
    exec (.fetchLoad c []) s = .next (startTransfer c e s) := by
  change execFetchLoad c [] s = _
  simp only [execFetchLoad, hbusy, hnext, Bool.not_true, Bool.false_eq_true, if_false]
  rfl

theorem exec_fetchStore (hbusy : coreBusy s c = true) (hnext : nextDescriptor s c 1 = some e) :
    exec (.fetchStore c []) s = .next (startTransfer c e s) := by
  change execFetchStore c [] s = _
  simp only [execFetchStore, hbusy, hnext, Bool.not_true, Bool.false_eq_true, if_false]
  rfl

end

/-- A burst that a LOAD reads from DRAM becomes the pieces of its range. -/
theorem startBurst_loadDram (c far near n : Nat) {b : Bytes} (lost : Bool) (s : State) (hspace : dSpace b = 1) (hformat : dBfr b = 0)
    (hload : dKind b = 0) : startBurst c b lost ((far : Int), (near : Int), n) s =
      (regionPieces s c 1 ((s.core c).dramBase * 1048576) far near n false lost [], s) := by
  simp [startBurst, hspace, hformat, hload]

/-! ### GATHER (11 R450, R455, R456, R480, R481) -/

/-- The sources of n indices, in the order of 11 R456. -/
def gatherSources (b idx : Bytes) (n : Nat) : List Nat := (List.range n).flatMap (fun k => (gatherVectors b (fld idx (4 * k) 4) k).1)

/-- The weight area of n indices (11 R456). -/
def gatherArea (b idx : Bytes) (n : Nat) : Bytes :=
  weightArea b ((List.range n).map (fun k => (gatherVectors b (fld idx (4 * k) 4) k).2))

/-- A gather is in flight once its weight area is written: vectors on chip move to near one after the other, those of DRAM become pieces,
of sectors for the IAC in tiered mode. -/
def launchVectors (c : Nat) (e : FetchEntry) (near : Nat) (srcs : List Nat) (s : State) : State :=
  let eb := fld e.bytes 18 2
  let base := (s.core c).dramBase * 1048576
  let lost := waitLost s c e.bytes
  if dSpace e.bytes = 1 then
    launch c e (srcs.zipIdx.flatMap (fun v =>
        if s.mem.flat then piecesOf 1 (if isLight (base + v.1) eb then 64 else 128) (base + v.1) (near + v.2 * eb) eb false lost []
        else piecesOf 3 32 (base + v.1) (near + v.2 * eb) eb false lost [])) []
      (if s.mem.flat then s else srcs.foldl (fun s v => charge c (isLight (base + v) eb) false s) s)
  else launch c e [] [] (srcs.zipIdx.foldl (fun s v => moveCore c v.1 (near + v.2 * eb) eb lost s) s)

section
variable {c : Nat} {e : FetchEntry} {s : State}

theorem exec_fetchGather (hbusy : coreBusy s c = true) (hnext : nextDescriptor s c 2 = some e) :
    exec (.fetchGather c []) s = .next (startGather c e s) := by
  change execFetchGather c [] s = _
  simp only [execFetchGather, hbusy, hnext, Bool.not_true, Bool.false_eq_true, if_false]
  rfl

/-- A gather without a fault writes its weight area and launches its vectors. -/
theorem startGather_launches {n aux : Nat} {ps : List (Place × Nat)} {idx area : Bytes} {srcs : List Nat} (hn : n = fld e.bytes 44 2)
    (haux : aux = fld e.bytes 20 4) (hidx : (coreAt s c .fetchRead (fld e.bytes 40 4) (4 * n)).toOption = some ps)
    (hread : readPlaces c ps s = (idx, s)) (harea : area = gatherArea e.bytes idx n) (hsrcs : srcs = gatherSources e.bytes idx n)
    (hwaits : rowWaits e.bytes = []) (hinside : fld e.bytes 17 1 = 0 → ∀ k < n, fld idx (4 * k) 4 < fld e.bytes 36 2 * fld e.bytes 38 2)
    (hnear : (coreAt s c .fetchWrite aux (area.length + srcs.length * fld e.bytes 18 2)).toOption.isSome = true)
    (hfar : srcs.findSome? (vectorFault s c e.bytes) = none) :
    startGather c e s = launchVectors c e (aux + area.length) srcs (if area.isEmpty then s else writeCore c aux area false s) := by
  have hindices : (decide (fld e.bytes 17 1 = 0) &&
      (List.range n).any (fun k => decide (fld e.bytes 36 2 * fld e.bytes 38 2 ≤ fld idx (4 * k) 4))) = false := by
    rw [Bool.and_eq_false_imp]
    intro habsolute
    rw [List.any_eq_false]
    intro k hk
    rw [decide_eq_true_eq, Nat.not_le]
    exact hinside (of_decide_eq_true habsolute) k (List.mem_range.mp hk)
  obtain ⟨places, hplaces⟩ := exists_ok_of_isSome hnear
  subst hn haux harea hsrcs
  have hsources (l : List Nat) : (l.map (fun k => gatherVectors e.bytes (fld idx (4 * k) 4) k)).flatMap (·.1) =
      l.flatMap (fun k => (gatherVectors e.bytes (fld idx (4 * k) 4) k).1) := List.flatMap_map _ _ _
  have hweights (l : List Nat) : (l.map (fun k => gatherVectors e.bytes (fld idx (4 * k) 4) k)).map (·.2) =
      l.map (fun k => (gatherVectors e.bytes (fld idx (4 * k) 4) k).2) := List.map_map
  rw [gatherArea, gatherSources] at hplaces
  rw [gatherSources] at hfar
  simp only [startGather, eq_ok_of_toOption hidx, hread, hwaits, List.any_nil, hindices, hsources, hweights, hplaces, hfar,
    Bool.false_eq_true, if_false]
  rfl

variable (near : Nat) (srcs : List Nat)

theorem launchVectors_onChip (hspace : dSpace e.bytes ≠ 1) : launchVectors c e near srcs s = launch c e [] []
    (srcs.zipIdx.foldl (fun t v => moveCore c v.1 (near + v.2 * fld e.bytes 18 2) (fld e.bytes 18 2) (waitLost s c e.bytes) t) s) := by
  simp only [launchVectors, hspace, if_false]

theorem launchVectors_flat (hspace : dSpace e.bytes = 1) (hflat : s.mem.flat = true) : launchVectors c e near srcs s = launch c e
    (srcs.zipIdx.flatMap (fun v => piecesOf 1 (if isLight ((s.core c).dramBase * 1048576 + v.1) (fld e.bytes 18 2) then 64 else 128)
      ((s.core c).dramBase * 1048576 + v.1) (near + v.2 * fld e.bytes 18 2) (fld e.bytes 18 2) false (waitLost s c e.bytes) [])) [] s := by
  simp only [launchVectors, hspace, hflat, if_true]

theorem launchVectors_tiered (hspace : dSpace e.bytes = 1) (htiered : s.mem.flat = false) : launchVectors c e near srcs s = launch c e
    (srcs.zipIdx.flatMap (fun v => piecesOf 3 32 ((s.core c).dramBase * 1048576 + v.1) (near + v.2 * fld e.bytes 18 2)
      (fld e.bytes 18 2) false (waitLost s c e.bytes) [])) []
    (srcs.foldl (fun t v => charge c (isLight ((s.core c).dramBase * 1048576 + v) (fld e.bytes 18 2)) false t) s) := by
  simp only [launchVectors, hspace, htiered, Bool.false_eq_true, if_true, if_false]

end

/-! ### FILL and COPY (10 R408, R409) -/

section
variable {c a d n : Nat} {e : FetchEntry} {s : State} (hbusy : coreBusy s c = true)
include hbusy

theorem exec_fetchFill (hnext : nextDescriptor s c 3 = some e) (ha : a = fld e.bytes 16 4) (hn : n = fld e.bytes 20 4)
    (htarget : fillTarget s c .fetchWrite a n = none) : exec (.fetchFill c) s = .next (launch c e [] []
      (writeCore c a ((List.range n).map (fun i => nth 0 ((e.bytes.drop 24).take 4) ((a + i) % 4))) false s)) := by
  subst ha hn
  change execFetchFill c s = _
  simp only [execFetchFill, hbusy, hnext, htarget, Bool.not_true, Bool.false_eq_true, if_false]

theorem exec_fetchCopy (hnext : nextDescriptor s c 4 = some e) (ha : a = fld e.bytes 16 4) (hd : d = fld e.bytes 20 4)
    (hn : n = fld e.bytes 24 4) (hsource : fillTarget s c .fetchRead a n = none) (htarget : fillTarget s c .fetchWrite d n = none)
    (hapart : d + n ≤ a ∨ a + n ≤ d) : exec (.fetchCopy c []) s = .next (launch c e [] []
      ((cutAt 128 a n).foldl (fun t x => moveCore c x.1 (d + (x.1 - a)) x.2 false t) s)) := by
  have hfound : foundErrors none [] s = s := rfl
  have hoverlap : (decide (a < d + n) && decide (d < a + n)) = false := by
    rw [← Bool.decide_and, decide_eq_false_iff_not]
    omega
  subst ha hd hn
  change execFetchCopy c [] s = _
  simp only [execFetchCopy, hbusy, hnext, hfound, hsource, htarget, Option.orElse_none, hoverlap, Bool.not_true,
    Bool.false_eq_true, if_false]

end

/-! ### PUBLISH (09 R381; 11 R468) -/

/-- A field of a counter after a publication: the larger of its value and the new one, or the new one where the counter is of another
generation. -/
def raisedField (same : Prop) [Decidable same] (old : U16) (new : Nat) : U16 := if same ∧ new ≤ old.toNat then old else BitVec.ofNat 16 new

@[simp] theorem core_setCounter (s : State) (n : Nat) (x : U16 × U16 × U32) (c : Nat) : (s.setCounter n x).core c = s.core c := rfl

@[simp] theorem counter_setCore (s : State) (c : Nat) (k : Core) (n : Nat) : (s.setCore c k).counter n = s.counter n := rfl

@[simp] theorem packStream_setCounter (s : State) (n : Nat) (x : U16 × U16 × U32) (sc : Nat) :
    packStream (s.setCounter n x) sc = packStream s sc := rfl

@[simp] theorem packStream_setCore (s : State) (c : Nat) (k : Core) (sc : Nat) : packStream (s.setCore c k) sc = packStream s sc := rfl

/-- For a stream, a publication writes its counter alone; the counter's generation is then the frame's. -/
theorem publish_stream {c i sc top bottom : Nat} {s : State} (htask : (s.core c).task = some (0, sc)) (htop : top < 2 ^ 16)
    (hbottom : bottom < 2 ^ 16) :
    publish c i (BitVec.ofNat 16 top) (BitVec.ofNat 16 bottom) s = s.setCounter ((s.core c).ctrBase + i)
      (raisedField ((s.counter ((s.core c).ctrBase + i)).2.2 = (s.core c).frame) (s.counter ((s.core c).ctrBase + i)).1 top,
       raisedField ((s.counter ((s.core c).ctrBase + i)).2.2 = (s.core c).frame) (s.counter ((s.core c).ctrBase + i)).2.1 bottom,
       (s.core c).frame) := by
  have hgen : runGen s c = (s.core c).frame := by simp only [runGen, htask]
  simp only [publish, hgen, core_setCounter, htask, raisedField, Bool.and_eq_true, decide_eq_true_eq, BitVec.toNat_ofNat,
    Nat.mod_eq_of_lt htop, Nat.mod_eq_of_lt hbottom]

/-- A descriptor leaves the queue of its core. -/
def unqueue (c : Nat) (e : FetchEntry) (s : State) : State :=
  s.setCore c { s.core c with fetchQueue := (s.core c).fetchQueue.filter (fun f => f.id != e.id) }

/-- Core c without a descriptor in its queue. -/
theorem core_unqueue (c : Nat) (e : FetchEntry) (s : State) :
    (unqueue c e s).core c = { s.core c with fetchQueue := (s.core c).fetchQueue.filter (fun f => f.id != e.id) } :=
  core_setCore _ _ _

section
variable {c i sc : Nat} {e : FetchEntry} {s : State} (hbusy : coreBusy s c = true) (hnext : nextDescriptor s c 5 = some e)
  (hi : i = fld e.bytes 16 2 % 4096) (hcount : i < (s.core c).ctrCount) (htask : (s.core c).task = some (0, sc))
  (hsingle : packStream s sc = false)
include hbusy hnext hi hcount htask hsingle

/-- The counter that a PUBLISH of a stream leaves, whose value was v: its fields are raised, its generation is the frame's. -/
theorem exec_fetchPublish {v : U16 × U16 × U32} (hv : v = s.counter ((s.core c).ctrBase + i)) : exec (.fetchPublish c) s = .next
    ((unqueue c e s).setCounter ((s.core c).ctrBase + i) (raisedField (v.2.2 = (s.core c).frame) v.1 (fld e.bytes 20 2),
      raisedField (v.2.2 = (s.core c).frame) v.2.1 (fld e.bytes 22 2), (s.core c).frame)) := by
  have hindex : bits (fld e.bytes 16 2) 0 12 = i := by
    rw [hi]
    exact congrArg (· % 4096) (Nat.div_one _)
  have htop : fld e.bytes 20 2 < 2 ^ 16 := fld_lt _ _ 2
  have hbottom : fld e.bytes 22 2 < 2 ^ 16 := fld_lt _ _ 2
  subst hv
  change execFetchPublish c s = _
  simp only [execFetchPublish, hbusy, hnext, hindex, Nat.not_le.mpr hcount, htask, publish_stream (sc := sc), core_setCore, htop, hbottom,
    packStream_setCounter, packStream_setCore, counter_setCore, hsingle, unqueue, Bool.not_true, Bool.false_eq_true, if_false]

end

/-- Settles O31: the laws of the commands that start a descriptor, and of a burst that a LOAD reads from DRAM. -/
theorem fetchesStart : Obligations.FetchesStart := by
  unfold Obligations.FetchesStart
  refine ⟨?load, ?store, fun c far near n _ lost s => startBurst_loadDram c far near n lost s, ?gather,
    fun _ _ _ _ _ hbusy hnext => exec_fetchFill hbusy hnext, fun _ _ _ _ _ _ hbusy hnext => exec_fetchCopy hbusy hnext, ?publish⟩
  case load =>
    intro c e l s r hbusy hnext hbursts hfault hstarted hallowed
    rw [exec_fetchLoad hbusy hnext, startTransfer_launches hbursts hfault hstarted hallowed]
    rfl
  case store =>
    intro c e l s r hbusy hnext hbursts hfault hstarted hallowed
    rw [exec_fetchStore hbusy hnext, startTransfer_launches hbursts hfault hstarted hallowed]
    rfl
  case gather =>
    rintro c n _ aux e ps idx area srcs s u hbusy hnext hn rfl haux hidx hread harea hsrcs hwaits hinside hnear hfar rfl
    rw [exec_fetchGather hbusy hnext, startGather_launches hn haux hidx hread harea hsrcs hwaits hinside hnear hfar]
    exact ⟨fun hspace => congrArg _ (launchVectors_onChip _ srcs hspace),
      fun hspace hflat => congrArg _ (launchVectors_flat _ srcs hspace hflat),
      fun hspace htiered => congrArg _ (launchVectors_tiered _ srcs hspace htiered)⟩
  case publish =>
    intro c i e sc v s hbusy hnext hi hcount htask hsingle hv
    refine ⟨_, exec_fetchPublish hbusy hnext hi hcount htask hsingle hv, counter_setCounter _ _ _, ?_⟩
    rw [core_setCounter, core_unqueue]

end Sys2Proof.Machine
end

section
/-! Laws of the tally and of the end of a vote (13 R534, R540, R541), and the proof of O50. -/
namespace Sys2Proof.Machine

/-! ### The class of the largest sum (13 R540) -/

/-- Class w is the winner among the first n with the sums f: no other class exceeds its sum, and every lower one falls short of it. Among no
class, the winner is class 0, where the comparisons begin. -/
structure LowestMax (f : Nat → Nat) (n w : Nat) : Prop where
  within : w < n ∨ w = 0
  largest : ∀ c < n, f c ≤ f w
  lowest : ∀ c < w, f c < f w

/-- The comparison of one more class keeps the winner of those before it, or puts the new class in its place. -/
theorem LowestMax.compare {f : Nat → Nat} {n w : Nat} (h : LowestMax f n w) : LowestMax f (n + 1) (if f w < f n then n else w) := by
  obtain ⟨hwithin, hlargest, hlowest⟩ := h
  split
  case isTrue hless =>
    have hbelow (c : Nat) (hc : c < n) : f c < f n := (hlargest c hc).trans_lt hless
    exact ⟨.inl n.lt_succ_self, Nat.forall_lt_succ_right.mpr ⟨fun c hc => (hbelow c hc).le, le_rfl⟩, hbelow⟩
  case isFalse hless =>
    exact ⟨hwithin.imp_left Nat.lt_succ_of_lt, Nat.forall_lt_succ_right.mpr ⟨hlargest, not_lt.mp hless⟩, hlowest⟩

/-- The comparisons of the first n classes in order, from class 0 on, end at their winner. -/
theorem lowestMax_foldl (f : Nat → Nat) (n : Nat) :
    LowestMax f n ((List.range n).foldl (fun b c => if f b < f c then c else b) 0) := by
  induction n with
  | zero => exact ⟨.inr rfl, nofun, nofun⟩
  | succ n ih =>
    rw [List.range_succ, List.foldl_append]
    exact ih.compare

/-- Class 0 wins when every sum is 0: below a higher winner, class 0 would have to fall short of 0. -/
theorem LowestMax.eq_zero {f : Nat → Nat} {n w : Nat} (h : LowestMax f n w) (hzero : ∀ c < n, f c = 0) : w = 0 :=
  h.within.elim (fun hw => Nat.eq_zero_of_not_pos fun hpos => by simpa [hzero w hw] using h.lowest 0 hpos) id

/-- With no class left out, the best class is the winner among all 16. -/
theorem lowestMax_bestClass (sums : List Nat) : LowestMax (nth 0 sums) 16 (bestClass sums none) := by
  have hall : (List.range 16).filter (fun c => some c != none) = List.range 16 := List.filter_eq_self.mpr fun _ _ => rfl
  rw [bestClass, hall]
  exact lowestMax_foldl _ 16

/-- The sum that the tally keeps for a class below n. -/
theorem nth_map_range (f : Nat → Nat) {n c : Nat} (hc : c < n) : nth 0 ((List.range n).map f) c = f c := by
  simp [nth, hc]

/-- The winner of a tally is one of the 16 classes. -/
theorem winner_tally_lt (v : VoteJob) (l : List (Option (Nat × Nat))) : (tally v l).winner < 16 :=
  (lowestMax_bestClass _).within.elim id fun h => h.trans_lt (by decide)

/-- The winner's sum in a tally is that of its class. -/
theorem winnerSum_tally (v : VoteJob) (l : List (Option (Nat × Nat))) : (tally v l).winnerSum = classSum l (tally v l).winner :=
  nth_map_range _ (winner_tally_lt v l)

/-- The winner of a tally is the winner of the class sums. -/
theorem lowestMax_tally (v : VoteJob) (l : List (Option (Nat × Nat))) : LowestMax (classSum l) 16 (tally v l).winner := by
  have hwinner := winner_tally_lt v l
  have h : LowestMax (nth 0 ((List.range 16).map (classSum l))) 16 (tally v l).winner := lowestMax_bestClass _
  refine ⟨.inl hwinner, fun c hc => ?_, fun c hc => ?_⟩
  · simpa only [nth_map_range _ hc, nth_map_range _ hwinner] using h.largest c hc
  · simpa only [nth_map_range _ (hc.trans hwinner), nth_map_range _ hwinner] using h.lowest c hc

/-- A class sum takes the weights of the leaves of its class, and only those. -/
theorem classSum_filter (l : List (Option (Nat × Nat))) (c : Nat) :
    classSum l c = (((l.filterMap id).filter (fun x => x.1 == c)).map (·.2)).sum % 2 ^ 32 := by
  rw [classSum, List.sum_map_ite (fun x : Nat × Nat => x.1 = c) (·.2) (fun _ => 0), List.map_const', List.sum_replicate_nat, mul_zero,
    add_zero]
  rfl

/-! ### The end of a vote (13 R534, R541) -/

@[simp] theorem stream_perfAdd (off n : Nat) (s : State) (c : Nat) : (perfAdd off n s).stream c = s.stream c :=
  perfAdd_leaves (f := fun t => t.stream c) (fun _ => rfl) (fun _ _ => rfl) off n s

@[simp] theorem ensemble_perfAdd (off n : Nat) (s : State) (c : Nat) : (perfAdd off n s).ensemble c = s.ensemble c :=
  perfAdd_leaves (f := fun t => t.ensemble c) (fun _ => rfl) (fun _ _ => rfl) off n s

/-- The results that wait, with one more in the order of their frames. -/
def placeVote (r : VoteResult) (l : List VoteResult) : List VoteResult :=
  l.filter (fun q => !later q.frame r.frame) ++ [r] ++ l.filter (fun q => later q.frame r.frame)

theorem mem_placeVote (r : VoteResult) (l : List VoteResult) : r ∈ placeVote r l := by
  simp [placeVote]

/-- A vote of a bound stream completes: the engine is free, the vote and its abandoned trees are counted, and its tally waits. -/
theorem exec_voteComplete {v : VoteJob} {e : Nat} {l : List (Option (Nat × Nat))} {s : State} (hrunning : s.tve.running = some v)
    (hbound : (s.stream v.sc).bind.ensemble = some e)
    (hl : l = treeResults (s.ensemble e) (frontStage (s.ensemble e).front v.features) v.bad) :
    exec .voteComplete s = .next ((perfAdd 0x5B0 1 { s with tve := { s.tve with running := none } }).setStream v.sc
      { (s.stream v.sc).count .abandoned (l.countP (·.isNone)) with votes := placeVote (tally v l) (s.stream v.sc).votes }) := by
  subst hl
  change execVoteComplete s = _
  have hstream : ({ s with tve := { s.tve with running := none } } : State).stream v.sc = s.stream v.sc := rfl
  simp only [execVoteComplete, hrunning, stream_perfAdd, hstream, hbound, ensemble_perfAdd]
  rfl

/-- Settles O50: the tally's winner is where the comparisons of the class sums end, and the tally is among the results that wait. -/
theorem voteWinner : Obligations.VoteWinner := by
  unfold Obligations.VoteWinner
  refine ⟨?completes, classSum_filter⟩
  case completes =>
    intro v e l s hrunning hbound hl
    have hwins := lowestMax_tally v l
    refine ⟨_, tally v l, exec_voteComplete hrunning hbound hl, ?_, rfl, winner_tally_lt v l, winnerSum_tally v l, hwins.largest,
      hwins.lowest, hwins.eq_zero⟩
    rw [stream_setStream]
    exact mem_placeVote _ _

end Sys2Proof.Machine
end

section
/-! Facts about packets that several statements use (14 R561, R571, R578): a packet that this device hears takes its effect, what answers on
the links leave alone. -/
namespace Sys2Proof.Machine

/-! ### Packets heard (14 R561, R571, R578) -/

/-- A packet that has come from a member of the pack has its effect. -/
theorem onPacket_heard {k : Packet} {marked : Bool} {s : State} (hheard : Heard k marked s) (act : State → State) :
    onPacket k marked act s = .next (act s) := by
  obtain ⟨hrun, hfyx, hdst, hmember, hepoch⟩ := hheard
  have hstale : ¬ ((marked && later s.pack.epoch k.epoch) = true) := by
    cases marked with
    | false => exact Bool.false_ne_true
    | true => simp [hepoch rfl]
  simp only [onPacket, hrun, hfyx, hdst, hmember, hstale, Bool.not_true, Bool.or_self, Bool.false_eq_true, ne_eq, not_true_eq_false, if_false]

/-- A packet of a formation for this device has its effect, whoever has sent it. -/
theorem onForming_here {k : Packet} {s : State} (hrun : s.running = true) (hfyx : domainOn s 31 = true) (hdst : k.dst = s.glb.packPos.toNat)
    (act : State → State) : onForming k act s = .next (act s) := by
  simp only [onForming, hrun, hfyx, hdst, Bool.not_true, Bool.or_self, Bool.false_eq_true, ne_eq, not_true_eq_false, if_false]

/-- What a follower does with a packet of its leader is done. -/
theorem fromLeader_guard {k : Packet} {s : State} (hfollows : follows s = true) (hleader : k.src = s.pack.leaderPos) :
    (follows s && decide (k.src = s.pack.leaderPos)) = true := by
  simp [hfollows, hleader]

/-! ### What answers leave alone (14 R561) -/

@[simp] theorem quiet_sendPkt (dst kind index : Nat) (arg : U32) (data : Bytes) (s : State) :
    (sendPkt dst kind index arg data s).quiet = s.quiet :=
  quiet_sendFyx _ _ s

@[simp] theorem quiet_prepAck (tag : U16) (st : Status) (final : Bool) (s : State) : (prepAck tag st final s).quiet = s.quiet :=
  quiet_sendFyx _ _ s

@[simp] theorem quiet_sendBy (port dst kind : Nat) (tag : U16) (arg : U32) (data : Bytes) (s : State) :
    (sendBy port dst kind tag arg data s).quiet = s.quiet := by
  simp [sendBy]

/-! ### What links leave alone (14 R559 to R571) -/

section
variable {α : Type} {f : State → α} (hsent : ∀ (s : State) (m : Sent), f (s.send m) = f s)
  (hlinks : ∀ (s : State) (n : Nat) (l : Link), l.state = (s.link n).state → f (s.setLink n l) = f s)
include hsent hlinks

/-- What neither the messages sent nor the links are part of, but for the links' states, is as it was before a flit. -/
theorem flitOut_leaves (port ftype seq : Nat) (payload : Bytes) (nak : Bool) (s : State) : f (flitOut port ftype seq payload nak s) = f s := by
  simp only [flitOut]
  split
  · exact (hsent _ _).trans ((hlinks _ _ _ (by rfl)).trans (hsent _ _))
  · exact (hlinks _ _ _ (by rfl)).trans (hsent _ _)

theorem sendFlits_leaves (port : Nat) (l : List (Nat × Bytes)) (s : State) : f (sendFlits port l s) = f s := by
  induction l generalizing s with
  | nil => exact hlinks _ _ _ (by rfl)
  | cons t ts ih =>
    unfold sendFlits
    split
    · exact (ih _).trans ((hlinks _ _ _ (by rfl)).trans (flitOut_leaves hsent hlinks port _ _ _ _ s))
    · exact hlinks _ _ _ (by rfl)

theorem queuePacket_leaves (port : Nat) (k : Packet) (s : State) : f (queuePacket port k s) = f s := by
  simp only [queuePacket, pumpLink]
  split
  · exact (sendFlits_leaves hsent hlinks port _ _).trans ((hlinks _ _ _ (by rfl)).trans (hlinks _ _ _ (by rfl)))
  · exact hlinks _ _ _ (by rfl)

theorem sendFyx_leaves (dst : Nat) (k : Packet) (s : State) : f (sendFyx dst k s) = f s := by
  unfold sendFyx
  dsimp only
  split
  · exact (queuePacket_leaves hsent hlinks _ k _).trans (hsent _ _)
  · exact hsent _ _

end

@[simp] theorem rings_sendFyx (dst : Nat) (k : Packet) (s : State) : (sendFyx dst k s).rings = s.rings :=
  sendFyx_leaves (fun _ _ => rfl) (fun _ _ _ _ => rfl) dst k s

@[simp] theorem mgmt_sendFyx (dst : Nat) (k : Packet) (s : State) : (sendFyx dst k s).mgmt = s.mgmt :=
  sendFyx_leaves (fun _ _ => rfl) (fun _ _ _ _ => rfl) dst k s

end Sys2Proof.Machine
end

section
/-! Laws of the pack's time and of the loss of its members (14 R581 to R583, R598 to R604), and the proof of O45. -/
namespace Sys2Proof.Machine

/-! ### The exchange of times (14 R581, R582) -/

theorem exec_timeSyncTick {s : State} (hrun : s.running = true) (hleads : leads s = true) : exec .timeSyncTick s = .next
    ((peers s).foldl (fun s m => sendPkt m 0x20 0 0 (le 8 (timeNs s).toNat) (s.setMember m { s.member m with t1 := timeNs s })) s) := by
  change execTimeSyncTick s = _
  simp only [execTimeSyncTick, hrun, hleads, Bool.and_self, if_true]

section
variable {k : Packet} {s : State} (hheard : Heard k false s)
include hheard

theorem exec_timeSync (hfollows : follows s = true) (hleader : k.src = s.pack.leaderPos) : exec (.timeSync k) s = .next
    (sendPkt k.src 0x21 0 0 (le 8 (timeNs s).toNat ++ le 8 (timeNs s).toNat)
      { s with pack := { s.pack with sync := some ((timeNs s).toNat, (timeNs s).toNat) } }) := by
  change execTimeSync k s = _
  rw [execTimeSync, onPacket_heard hheard, if_pos (fromLeader_guard hfollows hleader)]

/-- The leader keeps since when a member's offset is more than 1 us. -/
theorem exec_timeReply {d : Int} (hleads : leads s = true)
    (hd : d = timeOffset (s.member k.src).t1 (fld k.data 0 8) (fld k.data 8 8) (timeNs s)) : exec (.timeReply k) s = .next
    (sendPkt k.src 0x22 0 0 (le 8 (s.member k.src).t1.toNat ++ le 8 (timeNs s).toNat) (s.setMember k.src
      { s.member k.src with
        contactAt := s.now, offset := d,
        offSince := if d < -1000 ∨ 1000 < d then some ((s.member k.src).offSince.getD s.now) else none })) := by
  change execTimeReply k s = _
  rw [execTimeReply, onPacket_heard hheard, hleads, hd]
  simp only [Bool.not_true, Bool.false_eq_true, if_false, Bool.or_eq_true, decide_eq_true_eq]

theorem exec_timeFollow {t2 t3 : Nat} {d : Int} (hfollows : follows s = true) (hleader : k.src = s.pack.leaderPos)
    (hsync : s.pack.sync = some (t2, t3)) (hd : d = timeOffset (fld k.data 0 8) t2 t3 (fld k.data 8 8)) : exec (.timeFollow k) s = .next
    { s with pack := { s.pack with heardAt := s.now, sync := none, offset := d, slew := -d } } := by
  change execTimeFollow k s = _
  simp only [execTimeFollow, onPacket_heard hheard, fromLeader_guard hfollows hleader, hsync, hd, if_true]

end

/-! ### Silence and offsets (14 R582, R583) -/

section
variable {q : Nat} {s : State} (hrun : s.running = true) (hleads : leads s = true) (hmember : memberOk s q = true)
include hrun hleads hmember

theorem exec_leaderContactTimeout (hdue : (s.member q).contactAt + 1000 * s.pack.timeout ≤ s.now) :
    exec (.leaderContactTimeout q) s = .next (ejectMember q 2 s) := by
  change execLeaderContactTimeout q s = _
  simp only [execLeaderContactTimeout, hrun, hleads, hmember, hdue, Bool.and_self, decide_true, if_true]

theorem exec_timeOffsetTimeout {t : Nat} (hsince : (s.member q).offSince = some t) (hdue : t + 10000000 ≤ s.now) :
    exec (.timeOffsetTimeout q) s = .next (ejectMember q 5 s) := by
  change execTimeOffsetTimeout q s = _
  simp only [execTimeOffsetTimeout, hsince, hrun, hleads, hmember, hdue, Bool.and_self, decide_true, if_true]

end

theorem exec_followerContactTimeout {s : State} (hrun : s.running = true) (hfollows : follows s = true)
    (hdue : s.pack.heardAt + 1000 * s.pack.timeout ≤ s.now) : exec .followerContactTimeout s = .next (leavePack 7 s) := by
  change execFollowerContactTimeout s = _
  simp only [execFollowerContactTimeout, hrun, hfollows, hdue, Bool.and_self, decide_true, if_true]

/-! ### Ejection (14 R598 to R600, R604) -/

/-- The low bits of a word are its remainder. -/
theorem bits_zero (v w : Nat) : bits v 0 w = v % 2 ^ w := by
  rw [bits, pow_zero, Nat.div_one]

section
variable {k : Packet} {s : State}

theorem exec_eject_self (hheard : Heard k true s) (hfollows : follows s = true) (hleader : k.src = s.pack.leaderPos)
    (hself : k.arg.toNat % 8 = s.glb.packPos.toNat) : exec (.eject k) s = .next (leavePack (bits k.arg.toNat 8 8) s) := by
  change execEject k s = _
  rw [execEject, onPacket_heard hheard]
  simp only [hfollows, hleader, hself, bits_zero, Nat.reducePow, Bool.not_true, ne_eq, not_true_eq_false, decide_false, Bool.or_self,
    Bool.false_eq_true, if_false, if_true]

/-- Another member is out; without a stream of the pack no certificate is revoked. -/
theorem exec_eject_other (hheard : Heard k true s) (hfollows : follows s = true) (hleader : k.src = s.pack.leaderPos)
    (hother : k.arg.toNat % 8 ≠ s.glb.packPos.toNat) (hnone : packStreams s = []) : exec (.eject k) s = .next
    { s.setMember (k.arg.toNat % 8) { s.member (k.arg.toNat % 8) with state := 3 } with
      pack := { (s.setMember (k.arg.toNat % 8) { s.member (k.arg.toNat % 8) with state := 3 }).pack with state := .degraded } } := by
  change execEject k s = _
  rw [execEject, onPacket_heard hheard]
  simp only [hfollows, hleader, hother, hnone, bits_zero, Nat.reducePow, Bool.not_true, ne_eq, not_true_eq_false, decide_false, Bool.or_self,
    Bool.false_eq_true, if_false, List.foldl_nil]

theorem exec_memberStatus_pcieLost (hheard : Heard k false s) (hleads : leads s = true) (hcause : k.arg.toNat % 256 = 2) :
    exec (.memberStatus k) s = .next (ejectMember k.src 6 s) := by
  change execMemberStatus k s = _
  rw [execMemberStatus, onPacket_heard hheard]
  simp only [hleads, bits_zero, Nat.reducePow, hcause, if_true]

end

/-- The streams that run on the pack do not hang on what the leader knows of a member. -/
theorem packStreams_setMember (s : State) (q : Nat) (x : Member) : packStreams (s.setMember q x) = packStreams s := rfl

theorem exec_packFillStart {q t : Nat} {s : State} (hejected : (s.member q).ejectedAt = some t) (hrun : s.running = true)
    (hleads : leads s = true) (hfilled : (s.member q).filled = false) (hdue : t + 1000 * s.pack.timeout ≤ s.now) (hnone : packStreams s = []) :
    exec (.packFillStart q) s = .next (s.setMember q { s.member q with filled := true }) := by
  change execPackFillStart q s = _
  simp only [execPackFillStart, hejected, hrun, hleads, hfilled, Nat.not_lt.mpr hdue, packStreams_setMember, hnone, List.foldl_nil,
    Bool.not_true, Bool.or_self, decide_false, Bool.false_eq_true, if_false]

/-- Settles O45: the laws of the exchange of times, of the timeouts by which members leave, and of the packets that tell of it. -/
theorem packTimeActs : Obligations.PackTimeActs := by
  unfold Obligations.PackTimeActs
  refine ⟨fun _ => exec_timeSyncTick, ?sync, ?reply,
    fun _ _ _ _ _ hheard => exec_timeFollow hheard,
    fun _ _ hrun hleads hmember => ⟨?contact, ?offset⟩,
    fun _ => exec_followerContactTimeout, fun _ _ hheard hfollows hleader => ⟨?self, ?other⟩, fun _ _ => exec_memberStatus_pcieLost,
    fun _ _ _ => exec_packFillStart⟩
  case sync =>
    rintro k s _ hheard hfollows hleader rfl
    exact exec_timeSync hheard hfollows hleader
  case reply =>
    rintro k s d _ hheard hleads rfl hd
    exact exec_timeReply hheard hleads hd
  case contact => exact exec_leaderContactTimeout hrun hleads hmember
  case offset => exact fun _ => exec_timeOffsetTimeout hrun hleads hmember
  case self => exact exec_eject_self hheard hfollows hleader
  case other => exact exec_eject_other hheard hfollows hleader

end Sys2Proof.Machine
end

section
/-! Laws of frames, buffers, events and rows that cross a pack (14 R590 to R596; 10 R437). -/
namespace Sys2Proof.Machine

section
variable {k : Packet} {s : State} (hheard : Heard k false s)
include hheard

/-! ### Frames and buffers (14 R590, R593, R594) -/

theorem exec_accept {b : Buf} (hbuf : (s.stream k.index).inBufs[fld k.data 0 1]? = some b) (hpack : followsPack s k.index = true)
    (hstate : (s.stream k.index).state = .running) : exec (.accept k) s = .next
    (acceptFrame k.index (some b) none (s.stream k.index).esid 0 0 (s.setStream k.index { s.stream k.index with
      inBufs := (s.stream k.index).inBufs.take (fld k.data 0 1) ++ (s.stream k.index).inBufs.drop (fld k.data 0 1 + 1),
      nextFrame := k.arg })) := by
  change execAccept k s = _
  rw [execAccept, onPacket_heard hheard]
  simp only [hbuf, hpack, hstate, beq_self_eq_true, Bool.and_self, if_true]

theorem exec_bindReq (hleads : leads s = true) (hpack : packStream s k.index = true) :
    exec (.bindReq k) s = .next (bindOutput k.index k.arg (fld k.data 0 1) (fld k.data 1 1) s) := by
  change execBindReq k s = _
  rw [execBindReq, onPacket_heard hheard, hleads, hpack, Bool.and_self, if_pos rfl]

theorem exec_featurePart (hleads : leads s = true) (hpack : packStream s k.index = true) :
    exec (.featurePart k) s = .next (partHeard k.index k.arg k.src s) := by
  change execFeaturePart k s = _
  rw [execFeaturePart, onPacket_heard hheard, hleads, hpack, Bool.and_self, if_pos rfl]

/-- The leader's answer to a request of this device for a buffer takes the request away. -/
def bindAnswered (sc : Nat) (f : U32) (ph d : Nat) (s : State) : State :=
  { s with pack := { s.pack with bindAsked := s.pack.bindAsked.filter (fun e => e != (sc, f, ph, d)) } }

/-- A stream that takes buffer i of a descriptor's queue into an output. -/
def Stream.boundAt (x : Stream) (f : U32) (ph d i : Nat) (b : Buf) : Stream :=
  { x with outBufs := Tab.put x.outBufs d ((Tab.get [] x.outBufs d).take i ++ (Tab.get [] x.outBufs d).drop (i + 1)) }.onOutput f ph d
    (fun o => { o with bound := true, buf := some b })

theorem exec_bind {b : Buf} (hpack : followsPack s k.index = true) (hbuffer : fld k.data 2 1 ≠ 0xFF)
    (hposted : (Tab.get [] (s.stream k.index).outBufs (fld k.data 1 1))[fld k.data 2 1]? = some b) : exec (.bind k) s = .next
    ((bindAnswered k.index k.arg (fld k.data 0 1) (fld k.data 1 1) s).setStream k.index
      ((s.stream k.index).boundAt k.arg (fld k.data 0 1) (fld k.data 1 1) (fld k.data 2 1) b)) := by
  change execBind k s = _
  have hstream (l : List (Nat × U32 × Nat × Nat)) : ({ s with pack := { s.pack with bindAsked := l } } : State).stream k.index =
      s.stream k.index := rfl
  rw [execBind, onPacket_heard hheard]
  simp only [hpack, hbuffer, hstream, hposted, Bool.not_true, Bool.false_eq_true, if_false]
  rfl

theorem exec_bandReport_input (hleads : leads s = true) (hpack : packStream s k.index = true) (hinput : fld k.data 8 1 = 1) :
    exec (.bandReport k) s = .next (releasePart k.index k.arg k.src s) := by
  change execBandReport k s = _
  rw [execBandReport, onPacket_heard hheard]
  simp only [hleads, hpack, hinput, Bool.not_true, Bool.or_self, Bool.false_eq_true, if_false, if_true]

/-! ### Events (14 R595; 15 R622) -/

/-- The counter of the leader's stream that counts a forwarded event of it. -/
def eventCounted (own : Bool) (k : Packet) (s : State) : State :=
  match eventCounter (fld k.data 0 2) with
  | some c => if own then scAdd (fld k.data 2 1) c 1 s else s
  | none => s

/-- A forwarded event is one of a stream of the pack, or of the member that sends it. -/
theorem exec_eventFwd {own : Bool} (hleads : leads s = true)
    (hown : own = (decide (fld k.data 3 1 = 1) && packStream s (fld k.data 2 1))) : exec (.eventFwd k) s = .next
    (emitRaw (if own then srcSc (fld k.data 2 1) else srcMember k.src) (fld k.data 0 2) ((k.data.drop 16).take 16)
      (emitLost (eventCounted own k s))) := by
  change execEventFwd k s = _
  rw [execEventFwd, onPacket_heard hheard]
  simp only [hleads, Bool.not_true, Bool.false_eq_true, if_false, eventCounted, hown, Bool.and_eq_true, decide_eq_true_eq] <;> rfl

/-! ### Rows and counters (14 R591) -/

theorem exec_haloData {r : Region} (hpack : packStream s k.index = true)
    (hregion : (s.stream k.index).regions.find? (fun r => r.mem == .kennel) = some r) (hinside : k.arg.toNat + k.data.length ≤ r.len) :
    exec (.haloData k) s = .next (putData .kennel (r.base + k.arg.toNat) k.data false s) := by
  change execHaloData k s = _
  rw [execHaloData, onPacket_heard hheard]
  simp only [hregion, hpack, hinside, decide_true, Bool.and_self, if_true]

theorem exec_counterExport {base n : Nat} (hpack : packStream s k.index = true) (hbase : (s.stream k.index).counterBase = some (base, n))
    (hinside : k.arg.toNat < n) : exec (.counterExport k) s = .next (s.setCounter (base + k.arg.toNat)
      (BitVec.ofNat 16 (fld k.data 0 2), BitVec.ofNat 16 (fld k.data 2 2), BitVec.ofNat 32 (fld k.data 4 4))) := by
  change execCounterExport k s = _
  rw [execCounterExport, onPacket_heard hheard]
  simp only [hbase, hpack, hinside, decide_true, Bool.and_self, if_true]

end

/-- A lost-events record writes the event ring alone (03 R79). -/
@[simp] theorem quiet_emitLost (s : State) : (emitLost s).quiet = s.quiet := by
  unfold emitLost
  split
  · exact quiet_emitRaw _ _ _ _
  · rfl

@[simp] theorem kennel_putData_kennel (a : Nat) (bs : Bytes) (held : Bool) (s : State) :
    (putData .kennel a bs held s).mem.kennel = memWrite s.mem.kennel a bs := rfl

@[simp] theorem cm_putData_kennel (a : Nat) (bs : Bytes) (held : Bool) (s : State) : (putData .kennel a bs held s).mem.cm = s.mem.cm := rfl

@[simp] theorem dram_putData_kennel (a : Nat) (bs : Bytes) (held : Bool) (s : State) : (putData .kennel a bs held s).dram = s.dram := rfl

end Sys2Proof.Machine
end

section
/-! Laws of windows across members (14 R584 to R587; 04 R167; 10 R437), and the proof of O46. -/
namespace Sys2Proof.Machine

section
variable {k : Packet} {s : State} (hheard : Heard k false s)
include hheard

theorem exec_winWrite {m : Mem} {a : Nat} (hplace : ownedAt s k.index k.arg.toNat k.data.length = some (m, a))
    (hwrite : (s.window k.index).write = true) : exec (.winWrite k) s = .next
    (sendPkt k.src 0x43 k.index (BitVec.ofNat 32 k.tag.toNat) [] (putOutside m a k.data s)) := by
  change execWinWrite k s = _
  rw [execWinWrite, onPacket_heard hheard]
  simp only [hplace, hwrite, if_true]

theorem exec_winReadReq {m : Mem} {a : Nat} (hplace : ownedAt s k.index k.arg.toNat (fld k.data 0 4) = some (m, a)) :
    exec (.winReadReq k []) s = .next
      (sendRead k k.arg.toNat (outsideRead m a (fld k.data 0 4) s).1 (outsideRead m a (fld k.data 0 4) s).2) := by
  have hfound : foundErrors none [] s = s := rfl
  change execWinReadReq k [] s = _
  rw [execWinReadReq, onPacket_heard hheard]
  simp only [hplace, hfound]

/-- The last bytes of a member's answer complete the DEBUG_READ that waits for it. -/
theorem exec_winReadResp_last {r : MemberRead} (hread : s.pack.reads.find? (fun r => r.tag == k.tag) = some r)
    (hdata : k.arg.toNat < 2 ^ 31) (hlast : r.len ≤ (r.data ++ k.data).length) : exec (.winReadResp k) s = .next
    (debugDone r.cmd r.dest .ok (r.data ++ k.data) { s with pack := { s.pack with reads := s.pack.reads.filter (fun x => x.tag != r.tag) } }) := by
  have hstatus : bit k.arg.toNat 31 = false := by
    rw [bit, Nat.div_eq_of_lt hdata]
    rfl
  change execWinReadResp k s = _
  rw [execWinReadResp, onPacket_heard hheard]
  simp only [hread, memberReadArrives, hstatus, hlast, Bool.false_eq_true, if_false, if_true]

theorem exec_winAck {c : Nat}
    (hcore : (List.range 16).find? (fun c => (s.core c).remote.any (fun e => e.1 == BitVec.ofNat 16 k.arg.toNat)) = some c) :
    exec (.winAck k) s = .next (settleFence c (s.setCore c
      { s.core c with remote := (s.core c).remote.filter (fun e => e.1 != BitVec.ofNat 16 k.arg.toNat) })) := by
  change execWinAck k s = _
  rw [execWinAck, onPacket_heard hheard]
  simp only [hcore]

theorem exec_winClosed (hremote : (s.window (k.arg.toNat % 64)).kind ≠ 0) :
    exec (.winClosed k) s = .next (s.setWindow (k.arg.toNat % 64) {}) := by
  change execWinClosed k s = _
  rw [execWinClosed, onPacket_heard hheard]
  simp only [hremote, if_false]

theorem exec_dbgRead_ok {b : Bytes} {u : State} (hread : debugBytes k.data [] s = (.ok, b, u)) (hsome : b ≠ []) :
    exec (.dbgRead k []) s = .next (sendRead k 0 b u) := by
  have hbytes : b.isEmpty = false := List.isEmpty_eq_false_iff.mpr hsome
  change execDbgRead k [] s = _
  rw [execDbgRead, onPacket_heard hheard]
  simp only [hread, hbytes, Bool.false_eq_true, if_false, if_true]

end

/-- The end of a fence touches the pack's state in nothing. -/
@[simp] theorem pack_settleFence (c : Nat) (s : State) : (settleFence c s).pack = s.pack := by
  unfold settleFence
  dsimp only
  (repeat' split) <;> rfl

/-- Whether this device leads is a matter of the pack's state, whatever becomes of a core. -/
theorem leads_settleFence_setCore (c : Nat) (x : Core) (s : State) : leads (settleFence c (s.setCore c x)) = leads s := by
  simp only [leads, inPack, pack_settleFence, State.setCore_pack]

/-- A fence that has waited the pack timeout ends, and the leader closes the windows whose acknowledgements are missing. -/
theorem exec_windowAckTimeout {c since : Nat} {s : State} (hwait : (s.core c).wait = .fenceRemote since) (hremote : (s.core c).remote ≠ [])
    (hdue : since + 1000 * s.pack.timeout ≤ s.now) : exec (.windowAckTimeout c) s = .next
    (if leads s then ((s.core c).remote.map (·.2)).dedup.foldl (fun s w => closeWindow 3 w s)
        (settleFence c (s.setCore c { s.core c with remote := [] }))
      else settleFence c (s.setCore c { s.core c with remote := [] })) := by
  have hmissing : (s.core c).remote.isEmpty = false := List.isEmpty_eq_false_iff.mpr hremote
  change execWindowAckTimeout c s = _
  simp only [execWindowAckTimeout, hwait, hmissing, Nat.not_lt.mpr hdue, leads_settleFence_setCore, Bool.or_self, decide_false,
    Bool.false_eq_true, if_false]

/-- Settles O46: the laws of the packets of frames, buffers, events, rows and windows, and of the fence that waits for acknowledgements. -/
theorem packFramesAct : Obligations.PackFramesAct := by
  unfold Obligations.PackFramesAct
  refine ⟨fun _ _ _ hheard => exec_accept hheard, ?bindReq, ?bind, fun _ _ => exec_bandReport_input, ?eventFwd, ?haloData,
    fun _ _ _ _ hheard => exec_counterExport hheard, ?winWrite, ?winReadReq, fun _ _ _ hheard => exec_winReadResp_last hheard, ?winAck,
    fun _ _ _ _ hheard => exec_dbgRead_ok hheard, fun _ _ _ => exec_windowAckTimeout⟩
  case bindReq => exact fun _ _ hheard hleads hpack => ⟨exec_bindReq hheard hleads hpack, exec_featurePart hheard hleads hpack⟩
  case bind =>
    rintro k b s _ _ _ hheard hpack rfl rfl rfl hbuffer hposted
    refine ⟨_, exec_bind hheard hpack hbuffer hposted, ?_, ?_⟩
    · rw [stream_setStream]
      rfl
    · rw [stream_setStream]
      exact tab_get_put _ _ _ _
  case eventFwd =>
    rintro k own s _ hheard hleads hown rfl
    have hexec := exec_eventFwd hheard hleads hown
    exact ⟨hexec, _, hexec, (quiet_emitRaw _ _ _ _).trans (quiet_emitLost _)⟩
  case haloData =>
    intro k r s hheard hpack hregion hinside
    exact ⟨_, exec_haloData hheard hpack hregion hinside, kennel_putData_kennel _ _ _ s, dram_putData_kennel _ _ _ s,
      cm_putData_kennel _ _ _ s⟩
  case winWrite =>
    intro k a s hheard hplace hwrite
    exact ⟨_, exec_winWrite hheard hplace hwrite, kennel_putData_kennel _ _ _ s, dram_putData_kennel _ _ _ s⟩
  case winReadReq =>
    rintro k a _ s hheard rfl hplace
    exact exec_winReadReq hheard hplace
  case winAck => exact fun _ _ _ hheard hcore => ⟨exec_winAck hheard hcore, exec_winClosed hheard⟩

end Sys2Proof.Machine
end

section
/-! Laws of the packets of pack operations and of their timeout (14 R575 to R579), and the proof of O44. -/
namespace Sys2Proof.Machine

/-! ### The packets of an operation (14 R575 to R578) -/

section
variable {k : Packet} {s : State}

/-- The part of an operation's command that this member holds, while parts are missing. -/
abbrev partialOp (k : Packet) (s : State) : Option PackOp := s.pack.ops.find? (fun o => o.id == k.tag.toNat && !o.complete)

/-- An operation that begins with the first part of its command. -/
def opBegun (k : Packet) (s : State) : PackOp :=
  { id := k.tag.toNat, epoch := k.epoch, opcode := fld k.data 0 2, params := k.data.drop 8, cmd := none, first := [], final := [],
    issuedAt := s.now, complete := decide (fld k.data 2 2 ≤ (k.data.drop 8).length), len := fld k.data 2 2 }

/-- The operations without one of a number, and then an operation. -/
def opPlaced (id : Nat) (o : PackOp) (s : State) : State :=
  { dropOp id s with pack := { (dropOp id s).pack with ops := (dropOp id s).pack.ops ++ [o] } }

theorem exec_prepare_gap (hheard : Heard k true s) (hfollows : follows s = true) (hleader : k.src = s.pack.leaderPos)
    (hgap : k.arg.toNat ≠ ((partialOp k s).map (·.params.length)).getD 0) :
    exec (.prepare k) s = .next (prepAck k.tag .badLength true (dropOp k.tag.toNat s)) := by
  change execPrepare k s = _
  rw [execPrepare, onPacket_heard hheard]
  simp only [hfollows, hleader, hgap, Bool.not_true, ne_eq, not_true_eq_false, not_false_eq_true, decide_false, Bool.or_self,
    Bool.false_eq_true, if_false, if_true]

theorem exec_prepare_first (hheard : Heard k true s) (hfollows : follows s = true) (hleader : k.src = s.pack.leaderPos)
    (hnew : partialOp k s = none) (hstart : k.arg = 0) : exec (.prepare k) s = .next
    (if (opBegun k s).complete then stagePrepared (opBegun k s) (opPlaced k.tag.toNat (opBegun k s) s)
      else opPlaced k.tag.toNat (opBegun k s) s) := by
  have hzero : k.arg.toNat = 0 := by rw [hstart]; rfl
  change execPrepare k s = _
  rw [execPrepare, onPacket_heard hheard]
  simp only [hfollows, hleader, hnew, hzero, Option.map_none, Option.getD_none, List.nil_append, Nat.zero_add, Bool.not_true, ne_eq,
    not_true_eq_false, decide_false, Bool.or_self, Bool.false_eq_true, if_false]
  rfl

theorem exec_commit {o : PackOp} (hheard : Heard k true s)
    (hop : s.pack.ops.find? (fun o => o.id == k.tag.toNat && o.complete && o.cmd.isNone) = some o) (hload : o.opcode ≠ 0x0100) :
    exec (.commit k) s = .next (runInner o (dropOp o.id s)) := by
  change execCommit k s = _
  rw [execCommit, onPacket_heard hheard]
  simp only [hop, hload, if_false]

theorem exec_abort {o : PackOp} (hheard : Heard k true s)
    (hop : s.pack.ops.find? (fun o => o.id == k.tag.toNat && o.cmd.isNone) = some o) (hload : o.opcode ≠ 0x0100) :
    exec (.abort k) s = .next { dropOp o.id s with staged := s.staged.filter (fun e => !(e.ring == innerRing && e.tag == k.tag)) } := by
  change execAbort k s = _
  rw [execAbort, onPacket_heard hheard]
  simp only [hop, undoLoad, hload, if_false]
  rfl

section
variable (hheard : Heard k false s) (hfollows : follows s = true) (hleader : k.src = s.pack.leaderPos)
include hheard hfollows hleader

theorem exec_epoch_later (hlater : later k.arg s.pack.epoch = true) : exec (.epoch k) s = .next
    { s with pack := { s.pack with epoch := k.arg, ops := s.pack.ops.filter (fun o => !later k.arg o.epoch) } } := by
  change execEpoch k s = _
  rw [execEpoch, onPacket_heard hheard, fromLeader_guard hfollows hleader, hlater, Bool.and_self, if_pos rfl]

theorem exec_epoch_same (hsame : k.arg = s.pack.epoch) : exec (.epoch k) s = .next s := by
  have hlater : later k.arg s.pack.epoch = false := by simp [later, hsame]
  change execEpoch k s = _
  rw [execEpoch, onPacket_heard hheard, fromLeader_guard hfollows hleader, hlater]
  simp only [hsame, Bool.and_false, Bool.false_eq_true, decide_true, Bool.and_self, if_true, if_false]

theorem exec_epoch_older (hlater : later k.arg s.pack.epoch = false) (hother : k.arg ≠ s.pack.epoch) :
    exec (.epoch k) s = .next (errAdd 0x204 1 s) := by
  change execEpoch k s = _
  rw [execEpoch, onPacket_heard hheard, fromLeader_guard hfollows hleader, hlater]
  simp only [hother, Bool.and_false, Bool.false_eq_true, decide_false, if_false]

end
end

/-! ### The timeout of an operation (14 R578, R579) -/

/-- The members whose first answer to an operation is missing. -/
def lateMembers (o : PackOp) (s : State) : List Nat := (peers s).filter (fun p => !o.first.any (fun e => e.1 == p))

/-- The leader passes to the next epoch and tells its members. -/
def epochAdvanced (s : State) : State :=
  let u : State := { s with pack := { s.pack with epoch := s.pack.epoch + 1 } }
  (peers u).foldl (fun t m => sendPkt m 0x14 0 t.pack.epoch [] t) u

/-- The leader counts in a row the operations that a member has let expire. -/
def missNoted (late : List Nat) (s : State) (m : Nat) : State :=
  s.setMember m { s.member m with missed := if late.contains m then (s.member m).missed + 1 else 0 }

/-- What the leader does once an operation has expired: a member that has missed two in a row is ejected. -/
def missesCounted (late : List Nat) (s : State) : State :=
  let u := (peers s).foldl (missNoted late) s
  ((peers u).filter (fun m => 2 ≤ (u.member m).missed)).foldl (fun s m => ejectMember m 2 s) u

theorem exec_packTimeoutExpiry {id : Nat} {o : PackOp} {h : Hdr} {s : State} (hop : s.pack.ops.find? (fun o => o.id == id) = some o)
    (hcmd : o.cmd = some h) (hrun : s.running = true) (hleads : leads s = true) (hopen : o.agreed = false) (hlate : lateMembers o s ≠ [])
    (hdue : o.issuedAt + 1000 * o.limit ≤ s.now) : exec (.packTimeoutExpiry id) s = .next
    (missesCounted (lateMembers o s) (epochAdvanced (complete h o.opcode .packMemberTimeout [] (dropOp id s)))) := by
  have hmissing : (lateMembers o s).isEmpty = false := List.isEmpty_eq_false_iff.mpr hlate
  change execPackTimeoutExpiry id s = _
  rw [lateMembers] at hmissing
  simp only [execPackTimeoutExpiry, hop, hcmd, hrun, hleads, hopen, hmissing, Nat.not_lt.mpr hdue, Bool.not_true, Bool.or_self,
    decide_false, Bool.false_eq_true, if_false]
  rfl

/-- A completion is a matter of the rings and the management port. -/
theorem Completed.of_apart {h : Hdr} {op : Nat} {st : Status} {result : Bytes} {t v : State} (hdone : Completed h op st result v)
    (hrings : t.rings = v.rings) (hmgmt : t.mgmt = v.mgmt) : Completed h op st result t := by
  simpa only [Completed, newest, State.inFlight, State.ring, hrings, hmgmt] using hdone

@[simp] theorem rings_epochAdvanced (s : State) : (epochAdvanced s).rings = s.rings :=
  foldl_keeps State.rings (fun _ _ => rings_sendFyx _ _ _) _ _

@[simp] theorem mgmt_epochAdvanced (s : State) : (epochAdvanced s).mgmt = s.mgmt :=
  foldl_keeps State.mgmt (fun _ _ => mgmt_sendFyx _ _ _) _ _

/-- Telling the members of an epoch changes nothing but the epoch. -/
theorem quiet_epochAdvanced (s : State) :
    (epochAdvanced s).quiet = { s.quiet with pack := { s.quiet.pack with epoch := s.quiet.pack.epoch + 1 } } :=
  foldl_keeps State.quiet (fun _ _ => quiet_sendPkt _ _ _ _ _ _) _ _

theorem nodup_peers (s : State) : (peers s).Nodup := (List.nodup_range.filter _).filter _

theorem member_setMember_ne (s : State) {q m : Nat} (x : Member) (hne : q ≠ m) : (s.setMember m x).member q = s.member q :=
  tab_get_put_ne _ _ _ _ _ hne

@[simp] theorem state_missNoted (late : List Nat) (s : State) (m q : Nat) : ((missNoted late s m).member q).state = (s.member q).state := by
  by_cases hq : q = m
  · rw [hq, missNoted, member_setMember]
  · rw [missNoted, member_setMember_ne _ _ hq]

theorem member_foldl_missNoted (late : List Nat) {l : List Nat} {q : Nat} (hq : q ∉ l) (s : State) :
    (l.foldl (missNoted late) s).member q = s.member q := by
  induction l generalizing s with
  | nil => rfl
  | cons m l ih =>
    obtain ⟨hm, hl⟩ := not_or.mp (mt List.mem_cons.mpr hq)
    exact (ih hl _).trans (member_setMember_ne _ _ hm)

/-- A member that is counted once has missed at most one more operation. -/
theorem missed_foldl_missNoted (late : List Nat) {l : List Nat} (hnodup : l.Nodup) (s : State) (q : Nat) :
    ((l.foldl (missNoted late) s).member q).missed ≤ (s.member q).missed + 1 := by
  induction l generalizing s with
  | nil => exact Nat.le_succ _
  | cons m l ih =>
    obtain ⟨hm, hrest⟩ := List.nodup_cons.mp hnodup
    rw [List.foldl_cons]
    by_cases hq : q = m
    · rw [hq, member_foldl_missNoted late hm, missNoted, member_setMember]
      dsimp only
      split <;> omega
    · refine (ih hrest _).trans_eq ?_
      rw [missNoted, member_setMember_ne _ _ hq]

/-- Counting leaves who is a member as it was. -/
theorem peers_foldl_missNoted (late l : List Nat) (s : State) : peers (l.foldl (missNoted late) s) = peers s :=
  foldl_keeps peers (fun s m => by simp only [peers, state_missNoted]; rfl) l s

/-- Where no member has missed an operation before, none is ejected. -/
theorem missesCounted_of_none_missed {late : List Nat} {s : State} (hnone : ∀ m ∈ peers s, (s.member m).missed = 0) :
    missesCounted late s = (peers s).foldl (missNoted late) s := by
  have hfew : ∀ m ∈ peers s, ¬ (decide (2 ≤ (((peers s).foldl (missNoted late) s).member m).missed) = true) := by
    intro m hm
    have hone := missed_foldl_missNoted late (nodup_peers s) s m
    rw [hnone m hm] at hone
    simpa using hone
  simp only [missesCounted, peers_foldl_missNoted, List.filter_eq_nil_iff.mpr hfew, List.foldl_nil]

theorem boot_of_running {s : State} (hrun : s.running = true) : s.glb.boot = .running := by
  simp only [State.running, Bool.and_eq_true, beq_iff_eq] at hrun
  obtain ⟨⟨hboot, -⟩, -⟩ := hrun
  exact hboot

/-- An operation that expires where no member has missed one before completes, and the epoch advances. -/
theorem packTimeoutExpiry_completes {id : Nat} {o : PackOp} {h : Hdr} {s : State} (late : List Nat) (hrun : s.running = true)
    (hring : h.ring < 8) (hnone : ∀ m ∈ peers s, (s.member m).missed = 0) {t : State}
    (ht : t = missesCounted late (epochAdvanced (complete h o.opcode .packMemberTimeout [] (dropOp id s)))) :
    Completed h o.opcode .packMemberTimeout [] t ∧ t.pack.epoch = s.pack.epoch + 1 ∧
      t.pack.ops = s.pack.ops.filter (fun x => x.id != id) := by
  have hboot : s.glb.boot = .running := boot_of_running hrun
  obtain ⟨hdone, hquiet, -⟩ := complete_spec h o.opcode .packMemberTimeout [] (dropOp id s) (by omega) hboot
  generalize complete h o.opcode .packMemberTimeout [] (dropOp id s) = v at hdone hquiet ht
  have hadvanced := quiet_epochAdvanced v
  rw [hquiet] at hadvanced
  have hpeers : peers (epochAdvanced v) = peers s := (congrArg peers hadvanced :)
  have hmembers : (epochAdvanced v).member = s.member := (congrArg State.member hadvanced :)
  rw [missesCounted_of_none_missed (by rwa [hpeers, hmembers])] at ht
  subst ht
  have hkeeps {α : Type} (field : State → α) (hfield : ∀ s m, field (missNoted late s m) = field s) :
      field ((peers (epochAdvanced v)).foldl (missNoted late) (epochAdvanced v)) = field (epochAdvanced v) :=
    foldl_keeps field hfield _ _
  refine ⟨hdone.of_apart ?_ ?_, ?_, ?_⟩
  · exact (hkeeps State.rings fun _ _ => rfl).trans (rings_epochAdvanced v)
  · exact (hkeeps State.mgmt fun _ _ => rfl).trans (mgmt_epochAdvanced v)
  · exact (hkeeps (fun u => u.pack.epoch) fun _ _ => rfl).trans (congrArg (fun u => u.pack.epoch) hadvanced :)
  · exact (hkeeps (fun u => u.pack.ops) fun _ _ => rfl).trans (congrArg (fun u => u.pack.ops) hadvanced :)

/-- Settles O44: the laws of the packets of pack operations and of an operation's timeout. -/
theorem packOperationsAct : Obligations.PackOperationsAct := by
  unfold Obligations.PackOperationsAct
  refine ⟨fun _ _ => exec_prepare_gap, ?first, fun _ _ _ => exec_commit, fun _ _ _ => exec_abort, ?epoch, ?expiry⟩
  case first =>
    rintro k _ s hheard hfollows hleader hnew hstart rfl
    exact exec_prepare_first hheard hfollows hleader hnew hstart
  case epoch =>
    exact fun k s hheard hfollows hleader => ⟨exec_epoch_later hheard hfollows hleader, exec_epoch_same hheard hfollows hleader,
      exec_epoch_older hheard hfollows hleader⟩
  case expiry =>
    intro id o h s hop hcmd hrun hleads hopen hlate hdue hring hnone
    obtain ⟨m, hm, hmissing⟩ := List.any_eq_true.mp hlate
    have hsome : lateMembers o s ≠ [] := fun hnil => List.filter_eq_nil_iff.mp hnil m hm hmissing
    exact ⟨_, exec_packTimeoutExpiry hop hcmd hrun hleads hopen hsome hdue,
      packTimeoutExpiry_completes (lateMembers o s) hrun hring (by simpa using hnone) rfl⟩

end Sys2Proof.Machine
end

section
/-! Laws of the formation of a pack (04 R162; 14 R561, R572 to R574, R582), and the proof of O43. -/
namespace Sys2Proof.Machine

/-! ### Discovery and its answers (14 R561, R572 to R574) -/

/-- A DISCOVER of a source is noted with the port it has come by; earlier ones of the source are forgotten. -/
def discoverNoted (n : Nat) (k : Packet) (s : State) : State :=
  { s with pack := { s.pack with seen := (k.src, k.tag.toNat, n) :: s.pack.seen.filter (fun e => e.1 != k.src) } }

/-- A DISCOVER that has come by a port goes out by the others and is answered by this one. -/
def discoverAnswered (n : Nat) (k : Packet) (s : State) : State :=
  let s := (List.range 4).foldl (fun s q => if q ≠ n && (s.link q).state == .up then queuePacket q k (s.send (.fyx k.dst k)) else s) s
  let s := sendBy n k.src 0x02 k.tag (BitVec.ofNat 32 (planEntries s).length) (infoBytes s) s
  (planParts s).foldl (fun s l => sendBy n k.src 0x03 k.tag (BitVec.ofNat 32 l.length) l.flatten s) s

theorem exec_discover {n : Nat} {k : Packet} {s : State} (hrun : s.running = true) (hfyx : domainOn s 31 = true)
    (hup : (s.link n).state = .up) (hnew : s.pack.seen.any (fun e => e.1 == k.src && e.2.1 == k.tag.toNat) = false) :
    exec (.discover n k) s = .next (discoverAnswered n k (discoverNoted n k s)) := by
  change execDiscover n k s = _
  simp only [execDiscover, hrun, hfyx, hup, hnew, bne_self_eq_false, Bool.not_true, Bool.or_self, Bool.false_eq_true, if_false]
  rfl

/-- Forwarding and answering a DISCOVER send packets and do nothing else. -/
theorem quiet_discoverAnswered (n : Nat) (k : Packet) (s : State) : (discoverAnswered n k s).quiet = s.quiet := by
  refine (foldl_keeps State.quiet (fun _ _ => quiet_sendBy _ _ _ _ _ _ _) _ _).trans ((quiet_sendBy _ _ _ _ _ _ _).trans ?_)
  refine foldl_keeps State.quiet (fun s q => ?_) _ s
  split
  · exact quiet_queuePacket _ _ _
  · rfl

section
variable {k : Packet} {s : State} (hrun : s.running = true) (hfyx : domainOn s 31 = true) (hdst : k.dst = s.glb.packPos.toNat)
  (hforming : s.pack.forming.isSome = true)
include hrun hfyx hdst hforming

theorem exec_packInfo_first (hother : k.src ≠ s.glb.packPos.toNat) (hnone : (s.member k.src).info = []) : exec (.packInfo k) s = .next
    (s.setMember k.src { s.member k.src with state := 1, info := pad 32 k.data, fw := BitVec.ofNat 32 (fld k.data 0 4) }) := by
  have hopen : s.pack.forming.isNone = false := by simpa using hforming
  change execPackInfo k s = _
  rw [execPackInfo, onForming_here hrun hfyx hdst]
  simp only [hopen, hother, hnone, List.isEmpty_nil, Bool.not_true, decide_false, Bool.or_self, Bool.false_eq_true, if_false]

theorem exec_packInfo_second (hknown : (s.member k.src).info ≠ []) :
    exec (.packInfo k) s = .next { s with pack := { s.pack with duplicate := true } } := by
  have hopen : s.pack.forming.isNone = false := by simpa using hforming
  have hanswered : (s.member k.src).info.isEmpty = false := List.isEmpty_eq_false_iff.mpr hknown
  change execPackInfo k s = _
  rw [execPackInfo, onForming_here hrun hfyx hdst]
  simp only [hopen, hanswered, Bool.not_false, Bool.or_true, Bool.false_eq_true, if_false, if_true]

theorem exec_planHashes (hother : k.src ≠ s.glb.packPos.toNat) : exec (.planHashes k) s = .next
    (s.setMember k.src { s.member k.src with hashes := (s.member k.src).hashes ++ k.data }) := by
  have hopen : s.pack.forming.isNone = false := by simpa using hforming
  change execPlanHashes k s = _
  rw [execPlanHashes, onForming_here hrun hfyx hdst]
  simp only [hopen, hother, decide_false, Bool.or_self, Bool.false_eq_true, if_false]

end

/-! ### The comparison (14 R573, R574) -/

/-- The members of a formation but the leader. -/
def formPeers (m : Nat) (s : State) : List Nat := (maskBits m 8).filter (· != s.glb.packPos.toNat)

/-- The members with their disagreements. -/
def formDisagreements (m : Nat) (s : State) : List (Nat × Nat) := (formPeers m s).map (fun p => (p, disagreement s p))

/-- A required link of the topology is missing. -/
def topologyBad (m topo : Nat) (s : State) : Bool :=
  (requiredLinks topo (packOrder topo m)).any (fun e => linksBetween s e.1 e.2.1 < e.2.2)

/-- Everything that keeps a formation from its pack, as RESULT names it (04 R162). -/
def formDiffers (m topo : Nat) (s : State) : Nat :=
  (formDisagreements m s).foldl (fun a e => a ||| e.2) (if topologyBad m topo s then 16 else 0)

/-- The leader leads the pack of its formation, with epoch 1. -/
def leadsFormed (m topo : Nat) (s : State) : State :=
  let own := s.glb.packPos.toNat
  let u : State := { s with pack := { s.pack with
    topology := topo, leader := true, leaderPos := own, epoch := 1, order := packOrder topo m,
    nextHop := nextHops s (requiredLinks topo (packOrder topo m)) own } }
  u.setMember own { u.member own with
    state := 2, fw := u.glb.fwVersion, ackEpoch := 1, links := toMask ((List.range 4).filter (fun k => (u.link k).state == .up)) }

/-- FORM to every other member. -/
def formSent (m topo : Nat) (s : State) : State :=
  let order := packOrder topo m
  (formPeers m s).foldl (fun t p => sendPkt p 0x04 0 (BitVec.ofNat 32 t.pack.timeout)
    (le 1 m ++ le 1 topo ++ (order ++ List.replicate (8 - order.length) 0xFF).flatMap (le 1)
      ++ (nextHops t (requiredLinks topo order) p).flatMap (le 1)) t) (leadsFormed m topo s)

section
variable {h : Hdr} {m topo start : Nat} {s : State} (hrun : s.running = true) (hforming : s.pack.forming = some (h, m, topo, start))
  (hdue : start + 5000000 ≤ s.now) (hepoch : s.pack.epoch = 0)
include hrun hforming hdue hepoch

theorem exec_packFormDiscoveryTimeout : exec .packFormDiscoveryTimeout s = .next
    (if positionsClash s (maskBits m 8) then formFails h .packPosDuplicate [] s
      else if formDiffers m topo s ≠ 0 then formFails h .packMismatch (le 4 (formDiffers m topo s) ++
        le 1 (toMask (((formDisagreements m s).filter (fun e => e.2 != 0)).map (·.1)))) s
      else formSent m topo s) := by
  have hgo : ¬ ((!s.running || decide (s.now < start + 5000000) || s.pack.epoch != 0) = true) := by
    simp [hrun, hepoch, hdue]
  change execPackFormDiscoveryTimeout s = _
  unfold execPackFormDiscoveryTimeout
  split
  case h_1 hnone => simp [hnone] at hforming
  case h_2 hsome =>
    cases hsome.symm.trans hforming
    rw [if_neg hgo]
    rfl

end

/-- Bits put together are 0 when each part is. -/
theorem foldl_or_eq_zero_iff (l : List (Nat × Nat)) (a : Nat) : l.foldl (fun a e => a ||| e.2) a = 0 ↔ a = 0 ∧ ∀ e ∈ l, e.2 = 0 := by
  induction l generalizing a with
  | nil => simp
  | cons e l ih => simp [ih, Nat.or_eq_zero_iff, and_assoc]

/-- Nothing keeps a formation from its pack when no required link is missing and no member disagrees. -/
theorem formDiffers_eq_zero_iff (m topo : Nat) (s : State) :
    formDiffers m topo s = 0 ↔ topologyBad m topo s = false ∧ ∀ p ∈ formPeers m s, disagreement s p = 0 := by
  simp [formDiffers, formDisagreements, foldl_or_eq_zero_iff]

/-- A member that has not answered disagrees. -/
theorem disagreement_of_silent {s : State} {q : Nat} (hsilent : (s.member q).info = []) : disagreement s q = 32 := by
  simp [disagreement, hsilent]

theorem mem_formPeers {m q : Nat} {s : State} (hq : q ∈ maskBits m 8) (hother : q ≠ s.glb.packPos.toNat) : q ∈ formPeers m s :=
  List.mem_filter.mpr ⟨hq, bne_iff_ne.mpr hother⟩

/-- Sending FORM changes nothing of the leader's pack. -/
theorem quiet_formSent (m topo : Nat) (s : State) : (formSent m topo s).quiet = (leadsFormed m topo s).quiet :=
  foldl_keeps State.quiet (fun _ _ => quiet_sendPkt _ _ _ _ _ _) _ _

/-! ### FORM and its answers (14 R572, R582) -/

/-- The device is a follower of the pack that FORM names, with its leader's timebase. -/
def formTaken (k : Packet) (lead : Nat) (s : State) : State :=
  { s with
    shift := (lead : Int) - (s.now : Int)
    pack := { s.pack with
      state := .formed, leader := false, leaderPos := k.src, members := fld k.data 0 1, topology := fld k.data 1 1, epoch := k.epoch
      timeout := k.arg.toNat, offset := 0, order := ((k.data.drop 2).take 8).map (·.toNat) |>.filter (· < 8)
      nextHop := ((k.data.drop 10).take 8).map (·.toNat)
      table := (maskBits (fld k.data 0 1) 8).map (fun p => (p, { state := 2, contactAt := s.now }))
      heardAt := s.now, ops := [], sync := none, slew := 0 } }

theorem exec_form {k : Packet} (lead : Nat) {s : State} (hrun : s.running = true) (hfyx : domainOn s 31 = true)
    (hdst : k.dst = s.glb.packPos.toNat) (hsingle : s.pack.state = .single) (hidle : packBusy s = false) :
    exec (.form k lead) s = .next (prepAck k.tag .ok true (formTaken k lead s)) := by
  change execForm k lead s = _
  rw [execForm, onForming_here hrun hfyx hdst]
  simp only [hsingle, hidle, bne_self_eq_false, Bool.or_self, Bool.false_eq_true, if_false]
  rfl

/-- The formed pack has the leader's timebase. -/
theorem timeNs_formTaken (k : Packet) (lead : Nat) (s : State) : timeNs (formTaken k lead s) = lead :=
  add_sub_cancel _ _

/-- The last answer to FORM completes PACK_FORM. -/
theorem settleForming_last {h : Hdr} {m topo start : Nat} {s : State} (hforming : s.pack.forming = some (h, m, topo, start))
    (hepoch : s.pack.epoch = 1) (hall : (maskBits m 8).all (fun p => (s.member p).state == 2) = true) : settleForming s =
    complete h 0x0700 .ok (le 4 0 ++ le 4 0 ++ le 4 1) { s with pack := { s.pack with state := .formed, forming := none } } := by
  unfold settleForming
  split
  case h_1 hnone => simp [hnone] at hforming
  case h_2 hsome =>
    cases hsome.symm.trans hforming
    rw [if_pos (by rw [hall, hepoch]; rfl)]

/-- A follower has answered FORM. -/
def formAnswered (k : Packet) (s : State) : State :=
  s.setMember k.src { s.member k.src with
    state := 2, ackEpoch := k.epoch, contactAt := s.now
    links := toMask ((List.range 4).filter (fun q => (nth none (portsOf s k.src) q).isSome)) }

theorem exec_prepAck_forming {k : Packet} {s : State} (hrun : s.running = true) (hfyx : domainOn s 31 = true)
    (hdst : k.dst = s.glb.packPos.toNat) (hstate : s.pack.state = .forming) (hepoch : s.pack.epoch = 1)
    (hmember : bit s.pack.members k.src = true) : exec (.prepAck k) s = .next (settleForming (formAnswered k s)) := by
  change execPrepAck k s = _
  simp only [execPrepAck, hstate, beq_self_eq_true, if_true, onForming_here hrun hfyx hdst, hepoch, decide_true, hmember, Bool.and_self]
  rfl

/-- Settles O43: the laws of discovery, of the leader's comparison, of FORM and of its answers. -/
theorem packFormationActs : Obligations.PackFormationActs := by
  unfold Obligations.PackFormationActs
  refine ⟨?discover, fun _ _ => exec_packInfo_first, fun _ _ => exec_packInfo_second, fun _ _ => exec_planHashes, ?fails, ?agrees, ?form,
    ?answered⟩
  case discover =>
    exact fun n k s hrun hfyx hup hnew => ⟨_, exec_discover hrun hfyx hup hnew, quiet_discoverAnswered n k _⟩
  case fails =>
    intro h m topo start s hrun hforming hdue hepoch
    have hexec := exec_packFormDiscoveryTimeout hrun hforming hdue hepoch
    refine ⟨fun hclash => ?_, fun hclash ⟨q, hq, hother, hsilent⟩ => ?_⟩
    · rw [hexec, if_pos hclash]
    · have hdiffers : formDiffers m topo s ≠ 0 := fun hzero => by
        have hagrees := ((formDiffers_eq_zero_iff m topo s).mp hzero).2 q (mem_formPeers hq hother)
        simp [disagreement_of_silent hsilent] at hagrees
      exact ⟨_, by rw [hexec, hclash, if_neg Bool.false_ne_true, if_pos hdiffers]⟩
  case agrees =>
    intro h m topo start s hrun hforming hdue hepoch hclash hagree hlinks
    have hdiffers : formDiffers m topo s = 0 := by
      refine (formDiffers_eq_zero_iff m topo s).mpr ⟨hlinks, fun p hp => ?_⟩
      obtain ⟨hp, hother⟩ := List.mem_filter.mp hp
      simpa [bne_iff_ne.mp hother] using List.all_eq_true.mp hagree p hp
    have hquiet := quiet_formSent m topo s
    refine ⟨formSent m topo s, ?_, (congrArg (fun t => t.pack.epoch) hquiet :), (congrArg (fun t => t.pack.leader) hquiet :),
      (congrArg (fun t => t.pack.leaderPos) hquiet :), (congrArg (fun t => t.pack.topology) hquiet :),
      (congrArg (fun t => t.pack.order) hquiet :), ?_⟩
    · rw [exec_packFormDiscoveryTimeout hrun hforming hdue hepoch, hclash, if_neg Bool.false_ne_true, if_neg (not_not.mpr hdiffers)]
    · have hmember : (formSent m topo s).member s.glb.packPos.toNat = (leadsFormed m topo s).member s.glb.packPos.toNat :=
        (congrArg (fun t => State.member t s.glb.packPos.toNat) hquiet :)
      rw [hmember, leadsFormed, member_setMember]
  case form =>
    intro k lead s hrun hfyx hdst hsingle hidle
    have hquiet := quiet_prepAck k.tag .ok true (formTaken k lead s)
    exact ⟨_, exec_form lead hrun hfyx hdst hsingle hidle, (congrArg (fun t => t.pack.state) hquiet :),
      (congrArg (fun t => t.pack.leader) hquiet :), (congrArg (fun t => t.pack.leaderPos) hquiet :),
      (congrArg (fun t => t.pack.members) hquiet :), (congrArg (fun t => t.pack.topology) hquiet :),
      (congrArg (fun t => t.pack.epoch) hquiet :), (congrArg (fun t => t.pack.timeout) hquiet :),
      (congrArg timeNs hquiet :).trans (timeNs_formTaken k lead s)⟩
  case answered =>
    rintro k h m topo start s _ hrun hfyx hdst hstate hforming hepoch hmember rfl hall
    rw [exec_prepAck_forming hrun hfyx hdst hstate hepoch hmember]
    exact congrArg _ (settleForming_last (s := formAnswered k s) hforming hepoch hall)

end Sys2Proof.Machine
end

section
/-! Facts about what stands on the lanes of a FyxLink port (14 R556 to R560): ordered sets, lanes with inverted wires, the scrambler, flits. -/
namespace Sys2Proof.Machine

/-! ### Masks -/

theorem bit_eq_testBit (v i : Nat) : bit v i = v.testBit i := by
  rw [bit, Nat.testBit_eq_decide_div_mod_eq]
  rfl

theorem testBit_toMask (l : List Nat) (j : Nat) : (toMask l).testBit j = decide (j ∈ l) := by
  have hfold (l : List Nat) (a : Nat) : (l.foldl (fun m i => m ||| 2 ^ i) a).testBit j = (a.testBit j || decide (j ∈ l)) := by
    induction l generalizing a with
    | nil => simp
    | cons i l ih =>
      rw [List.foldl_cons, ih, Nat.testBit_or, Nat.testBit_two_pow]
      simp [Bool.or_assoc, eq_comm]
  simpa [toMask] using hfold l 0

/-- A mask is made of its bits. -/
theorem toMask_maskBits {m n : Nat} (hm : m < 2 ^ n) : toMask (maskBits m n) = m := by
  refine Nat.eq_of_testBit_eq fun j => ?_
  rw [testBit_toMask]
  by_cases hj : j < n
  · simp [maskBits, hj, bit_eq_testBit]
  · have hhigh : m.testBit j = false := Nat.testBit_lt_two_pow (hm.trans_le (Nat.pow_le_pow_right (by decide) (not_lt.mp hj)))
    simp [maskBits, hj, hhigh]

/-! ### Ordered sets (14 R557, R558) -/

/-- A word of an ordered set carries MAGIC above 32 bits. -/
theorem setWord_div_magic (k : OsKind) (l pos port rate : Nat) (ack : Bool) : setWord k l pos port rate ack / 2 ^ 32 = magic := by
  have hack : b2n ack ≤ 1 := by cases ack <;> decide
  have hid : setId k < 2 ^ 8 := by cases k <;> decide
  unfold setWord
  split <;> omega

/-- A lane shows its word and whether its wires are inverted. -/
theorem blockWord_lane {w : Nat} (hmagic : w / 2 ^ 32 = magic) (inverted : Bool) :
    blockWord (if inverted then uninvert ⟨2, BitVec.ofNat 64 w⟩ else ⟨2, BitVec.ofNat 64 w⟩) = some (w, inverted) := by
  have hw : w < 2 ^ 64 := by unfold magic at hmagic; omega
  have hword : (BitVec.ofNat 64 w).toNat = w := Nat.mod_eq_of_lt hw
  cases inverted with
  | false => simp only [Bool.false_eq_true, if_false, blockWord, hword, hmagic, decide_true, Bool.and_self, if_true]
  | true =>
    have hflipped : (2 ^ 64 - 1 - w) / 2 ^ 32 = magicInverted := by unfold magic at hmagic; unfold magicInverted; omega
    have hback : 2 ^ 64 - 1 - (2 ^ 64 - 1 - w) = w := by omega
    have hheader : ~~~(2 : BitVec 2) = 1 := rfl
    have hne : ¬ ((1 : BitVec 2) = 2) := by decide
    simp only [if_true, blockWord, uninvert, BitVec.toNat_not, hword, hheader, hne, hflipped, hback, decide_false, decide_true,
      Bool.false_and, Bool.false_eq_true, if_false, Bool.and_self]

/-- The words f on the logical lanes as 8 lanes show them, those of inv with inverted wires. -/
def shownWords (f : Nat → Nat) (inv : Nat) : List (Nat × Bool) := (List.range 8).map (fun l => (f l, bit inv l))

/-- The words that the lanes of an ordered set show, some of them with inverted wires. -/
theorem shown_setBlocks (k : OsKind) (pos port rate inv : Nat) (ack : Bool) :
    ((setBlocks k pos port rate ack).zipIdx.map (fun e => if bit inv e.2 then uninvert e.1 else e.1)).filterMap blockWord =
      shownWords (fun l => setWord k l pos port rate ack) inv := by
  simp only [shownWords, setBlocks, List.range, List.range.loop, List.map_cons, List.map_nil, List.zipIdx_cons, List.zipIdx_nil, List.filterMap_cons,
    List.filterMap_nil, Nat.zero_add, Nat.reduceAdd, blockWord_lane (setWord_div_magic _ _ _ _ _ _)]

section
variable (k : OsKind) (l pos port rate : Nat) (ack : Bool)

/-- All words of an ordered set begin with its SET_ID. -/
theorem setWord_mod : setWord k l pos port rate ack % 2 ^ 8 = setId k := by
  have hid : setId k < 2 ^ 8 := by cases k <;> decide
  unfold setWord
  split <;> omega

/-- But for LANE, the words of an ordered set are equal. -/
theorem setWord_above_lane : setWord k l pos port rate ack / 2 ^ 11 = setWord k 0 pos port rate ack / 2 ^ 11 := by
  have hid : setId k < 2 ^ 8 := by cases k <;> decide
  unfold setWord
  split <;> omega

theorem lane_setWord : bits (setWord k l pos port rate ack) 8 3 = l % 8 := by
  have hid : setId k < 2 ^ 8 := by cases k <;> decide
  unfold bits setWord
  split <;> omega

/-- POS, ACK, PORT and RATE of a TS2. -/
theorem setWord_ts2_fields : bits (setWord .ts2 l pos port rate ack) 12 3 = pos % 8 ∧ bits (setWord .ts2 l pos port rate ack) 16 2 = port % 4 ∧
    bits (setWord .ts2 l pos port rate ack) 18 2 = rate % 4 ∧ bit (setWord .ts2 l pos port rate ack) 15 = ack := by
  unfold bits bit setWord setId magic
  cases ack <;> simp only [if_true, b2n, Bool.false_eq_true, if_false, beq_iff_eq, beq_eq_false_iff_ne] <;> omega

/-- POS, ACK, PORT and RATE of any other set are 0. -/
theorem setWord_other_fields {k : OsKind} (hk : k ≠ .ts2) : bits (setWord k l pos port rate ack) 12 3 = 0 ∧
    bits (setWord k l pos port rate ack) 16 2 = 0 ∧ bits (setWord k l pos port rate ack) 18 2 = 0 ∧
    bit (setWord k l pos port rate ack) 15 = false := by
  have hid : setId k < 2 ^ 8 := by cases k <;> decide
  unfold bits bit setWord magic
  simp only [hk, if_false, beq_eq_false_iff_ne]
  omega

end

theorem kindOf_setId (k : OsKind) : kindOf (setId k) = some k := by
  cases k <;> rfl

/-- Eight blocks that show words alike but for LANE are read as the set of the first word. -/
theorem readSet_of_shown {bs : List LaneBlock} {f : Nat → Nat} {inv : Nat} (hlen : bs.length = 8)
    (hshown : bs.filterMap blockWord = shownWords f inv)
    (halike : ∀ l, f l % 2 ^ 8 = f 0 % 2 ^ 8 ∧ f l / 2 ^ 11 = f 0 / 2 ^ 11) (hlane : ∀ l, bits (f l) 8 3 = l % 8) (hinv : inv < 256) :
    readSet bs = (kindOf (bits (f 0) 0 8)).map (fun k =>
      { kind := k, pos := bits (f 0) 12 3, port := bits (f 0) 16 2, lanes := List.range 8, inverted := inv
        ack := bit (f 0) 15, rate := bits (f 0) 18 2 }) := by
  have hfirst : ((shownWords f inv).map (·.1)).headD 0 = f 0 := rfl
  have hall : (shownWords f inv).all (fun e => e.1 % 2 ^ 8 == f 0 % 2 ^ 8 && e.1 / 2 ^ 11 == f 0 / 2 ^ 11) = true := by
    rw [shownWords, List.all_map, List.all_eq_true]
    exact fun l _ => by simpa using halike l
  have hlanes : (shownWords f inv).map (fun e => bits e.1 8 3) = List.range 8 := by
    rw [shownWords, List.map_map]
    exact (List.map_congr_left fun l hl => (hlane l).trans (Nat.mod_eq_of_lt (List.mem_range.mp hl))).trans (List.map_id _)
  have hinverted : (List.range 8).filter (fun i => (nth (0, false) (shownWords f inv) i).2) = maskBits inv 8 := by
    refine List.filter_congr fun i hi => ?_
    simp [shownWords, nth, List.mem_range.mp hi]
  have hcount : (shownWords f inv).length = 8 := rfl
  simp only [readSet, hshown, hfirst, hlen, hcount, decide_true, Bool.true_and, hall, if_true, hlanes, hinverted,
    toMask_maskBits (n := 8) hinv]

/-- The blocks of an ordered set are read as it, whichever lanes have inverted wires. -/
theorem readSet_setBlocks (k : OsKind) {pos port rate inv : Nat} (ack : Bool) (hpos : pos < 8) (hport : port < 4) (hrate : rate < 4)
    (hinv : inv < 256) : readSet ((setBlocks k pos port rate ack).zipIdx.map (fun e => if bit inv e.2 then uninvert e.1 else e.1)) =
    some { kind := k, pos := if k = .ts2 then pos else 0, port := if k = .ts2 then port else 0, lanes := List.range 8, inverted := inv,
           ack := decide (k = .ts2) && ack, rate := if k = .ts2 then rate else 0 } := by
  have hid : bits (setWord k 0 pos port rate ack) 0 8 = setId k := (bits_zero _ _).trans (setWord_mod _ _ _ _ _ _)
  rw [readSet_of_shown (f := fun l => setWord k l pos port rate ack) (by simp [setBlocks]) (shown_setBlocks k pos port rate inv ack)
    (fun l => ⟨by simp only [setWord_mod], setWord_above_lane k l pos port rate ack⟩) (fun l => lane_setWord k l pos port rate ack) hinv, hid,
    kindOf_setId]
  by_cases hk : k = .ts2
  · subst hk
    obtain ⟨hposWord, hportWord, hrateWord, hackWord⟩ := setWord_ts2_fields 0 pos port rate ack
    rw [Nat.mod_eq_of_lt hpos] at hposWord
    rw [Nat.mod_eq_of_lt hport] at hportWord
    rw [Nat.mod_eq_of_lt hrate] at hrateWord
    simp only [hposWord, hportWord, hrateWord, hackWord, Option.map_some, if_true, decide_true, Bool.true_and]
  · obtain ⟨hposWord, hportWord, hrateWord, hackWord⟩ := setWord_other_fields 0 pos port rate ack hk
    simp only [hposWord, hportWord, hrateWord, hackWord, Option.map_some, hk, if_false, decide_false, Bool.false_and]

end Sys2Proof.Machine
end

section
/-! What reports leave of the FyxLink links (14 R595; 15 R629): a follower's event goes out by a link and changes no link's state. -/
namespace Sys2Proof.Machine

@[simp] theorem pack_evqPlace (e : Event) (s : State) : (evqPlace e s).pack = s.pack := by
  unfold evqPlace
  split
  · unfold evqWrite
    dsimp only
    split
    · rw [signal_eq]
      rfl
    · rfl
  · split <;> rfl

@[simp] theorem pack_emitRaw (source code : Nat) (p : Bytes) (s : State) : (emitRaw source code p s).pack = s.pack := by
  unfold emitRaw evqNumber evqClearLost
  dsimp only
  split <;> exact pack_evqPlace _ _

@[simp] theorem pack_emitLost (s : State) : (emitLost s).pack = s.pack := by
  unfold emitLost
  split
  · exact pack_emitRaw _ _ _ _
  · rfl

/-- The fault log and the marks of an event are no part of the pack. -/
theorem emit_pack (source code : Nat) (p : Bytes) (s : State) : (emit source code p s).pack = (publishEvent source code p s).pack := by
  have hmarks (u : State) : (eventMarks code u).pack = u.pack := by
    unfold eventMarks
    (repeat' split) <;> rfl
  have hlog (a b d : Nat) (l : Bytes) (u : State) : (logFault a b d l u).pack = u.pack := by
    unfold logFault logRepeat logNew
    (repeat' split) <;> rfl
  unfold emit
  dsimp only
  split
  · exact (hlog _ _ _ _ _).trans (hmarks _)
  · exact hmarks _

theorem link_setLink_ne (s : State) {j n : Nat} (l : Link) (hne : j ≠ n) : (s.setLink n l).link j = s.link j :=
  tab_get_put_ne _ _ _ _ _ hne

/-- A link that keeps its state keeps every link's state. -/
theorem linkState_setLink (s : State) (n : Nat) (l : Link) (j : Nat) (hl : l.state = (s.link n).state) :
    ((s.setLink n l).link j).state = (s.link j).state := by
  by_cases hj : j = n
  · rw [hj, link_setLink, hl]
  · rw [link_setLink_ne _ _ hj]

@[simp] theorem linkState_sendFyx (dst : Nat) (k : Packet) (s : State) (j : Nat) : ((sendFyx dst k s).link j).state = (s.link j).state :=
  sendFyx_leaves (f := fun t => (t.link j).state) (fun _ _ => rfl) (fun s n l hl => linkState_setLink s n l j hl) dst k s

/-- No event changes the state of a link. -/
@[simp] theorem linkState_emit (source code : Nat) (p : Bytes) (s : State) (j : Nat) :
    ((emit source code p s).link j).state = (s.link j).state := by
  have hlink : (emit source code p s).link j = (publishEvent source code p s).link j := by
    rw [State.link, State.link, emit_pack]
  rw [hlink]
  unfold publishEvent
  split
  · exact linkState_sendFyx _ _ s j
  · rw [State.link, State.link, pack_emitRaw, pack_emitLost]

@[simp] theorem linkState_portFault (source cause portBit lanes detail : Nat) (active : Bool) (s : State) (j : Nat) :
    ((portFault source cause portBit lanes detail active s).link j).state = (s.link j).state := by
  unfold portFault
  split
  · rfl
  · exact (linkState_emit _ _ _ _ j).trans (by split <;> rfl)

end Sys2Proof.Machine
end

section
/-! Laws of the training of a FyxLink port (14 R557, R558, R564, R565; 19 R771), and the proof of O40. -/
namespace Sys2Proof.Machine

@[simp] theorem link_sendSet (port : Nat) (k : OsKind) (ack : Bool) (s : State) (n : Nat) : (sendSet port k ack s).link n = s.link n := rfl

/-! ### The steps of a training (14 R558) -/

/-- One more TS1 in a row. -/
def ts1Counted (n : Nat) (s : State) : State := s.setLink n { s.link n with ts1 := (s.link n).ts1 + 1, heardAt := s.now }

theorem setArrives_ts1 {n : Nat} {o : OrderedSet} {s : State} (htraining : (s.link n).state = .training) (hkind : o.kind = .ts1)
    (haligned : (s.link n).aligned = false) : setArrives n o s =
    if 64 ≤ (s.link n).ts1 + 1 then alignLanes n o (ts1Counted n s) else ts1Counted n s := by
  have hup : ((LinkState.training == .up) = true) = False := by decide
  have hdetect : ((LinkState.training == .detect) = true) = False := by decide
  simp only [setArrives, ts1Counted, hkind, htraining, hup, hdetect, haligned, Bool.false_eq_true, if_false]

/-- Lanes in order, none of them inverted, are aligned and answered with TS2. -/
theorem alignLanes_in_order {n : Nat} {o : OrderedSet} {s : State} (hlanes : o.lanes = List.range 8) (hinverted : o.inverted = 0) :
    alignLanes n o s = sendSet n .ts2 false (s.setLink n { s.link n with aligned := true, reversed := false, inverted := 0 }) := by
  simp only [alignLanes, hlanes, hinverted, if_true]

/-- One more TS2 in a row; the 16th is answered with ACK. -/
def ts2Counted (n : Nat) (o : OrderedSet) (s : State) : State :=
  let u := s.setLink n { s.link n with
    ts2 := (s.link n).ts2 + 1, nPos := o.pos, nPort := o.port, nRate := o.rate, gotAck := o.ack || (s.link n).gotAck, heardAt := s.now }
  if (s.link n).ts2 + 1 = 16 then sendSet n .ts2 true u else u

theorem link_ts2Counted (n : Nat) (o : OrderedSet) (s : State) : (ts2Counted n o s).link n = { s.link n with
    ts2 := (s.link n).ts2 + 1, nPos := o.pos, nPort := o.port, nRate := o.rate, gotAck := o.ack || (s.link n).gotAck, heardAt := s.now } := by
  unfold ts2Counted
  dsimp only
  split
  · rw [link_sendSet, link_setLink]
  · rw [link_setLink]

@[simp] theorem quiet_ts2Counted (n : Nat) (o : OrderedSet) (s : State) : (ts2Counted n o s).quiet = s.quiet := by
  unfold ts2Counted
  dsimp only
  split <;> rfl

/-- The 16th TS2 in a row, with an ACK received and equal RATEs, ends the training. -/
theorem configSet_last {n : Nat} {o : OrderedSet} {s : State} (hcount : 15 ≤ (s.link n).ts2) (hpos : (s.link n).nPos = o.pos)
    (hport : (s.link n).nPort = o.port) (hrate : (s.link n).nRate = o.rate) (hack : o.ack = true ∨ (s.link n).gotAck = true)
    (hequal : o.rate = fyxRate s) : configSet n o s = linkUp n (ts2Counted n o s) := by
  have hsame : ((s.link n).ts2 != 0 && (s.link n).nPos == o.pos && (s.link n).nPort == o.port && (s.link n).nRate == o.rate) = true := by
    have hsome : (s.link n).ts2 ≠ 0 := by omega
    simp [hsome, hpos, hport, hrate]
  have hended : (decide (16 ≤ (s.link n).ts2 + 1) && (o.ack || (s.link n).gotAck)) = true := by
    have hlong : 16 ≤ (s.link n).ts2 + 1 := by omega
    simpa [hlong] using hack
  have hours : o.rate = fyxRate (ts2Counted n o s) := hequal.trans (congrArg fyxRate (quiet_ts2Counted n o s) :).symm
  simp only [ts2Counted] at hours
  simp only [configSet, ts2Counted, hsame, hended, hours.symm, if_true, Bool.true_and, decide_true]

/-- A link that comes UP from its training, with full credits. -/
def linkOpened (n : Nat) (s : State) : State :=
  let l := s.link n
  s.setLink n {
    state := .up, nPos := l.nPos, nPort := l.nPort, nValid := true, nRate := l.nRate, reversed := l.reversed, inverted := l.inverted
    txScr := l.txScr, rxScr := l.rxScr, since := s.now, heardAt := s.now, progressAt := s.now, sentAt := s.now, credits := fullCredits }

theorem linkUp_trained {n : Nat} {s : State} (htraining : (s.link n).state = .training) : linkUp n s =
    emit srcDevice 0x0700 (le 1 n ++ le 1 (s.link n).nPos ++ le 1 (s.link n).nPort) (portRecovered srcPorts (15 + n) (linkOpened n s)) := by
  have hnew : ((LinkState.training == .recovery) = true) = False := by decide
  simp only [linkUp, htraining, hnew, if_false]
  rfl

/-! ### Ordered sets that a port in training receives (14 R558) -/

section
variable {n : Nat} {b : List LaneBlock} {o : OrderedSet} {s : State} (hfyx : domainOn s 31 = true) (hport : n < 4)
  (htraining : (s.link n).state = .training) (hset : readSet b = some o)
include hfyx hport htraining hset

/-- A port in training takes the set that the lanes show. -/
theorem exec_fyxOrderedSet_training : exec (.fyxOrderedSet n b) s = .next (setArrives n o s) := by
  change execFyxOrderedSet n b s = _
  simp [execFyxOrderedSet, hfyx, htraining, hset, Nat.not_le.mpr hport]

theorem exec_fyxOrderedSet_skip (hkind : o.kind = .skip) :
    exec (.fyxOrderedSet n b) s = .next (s.setLink n { s.link n with heardAt := s.now }) := by
  rw [exec_fyxOrderedSet_training hfyx hport htraining hset]
  simp only [setArrives, hkind]

theorem exec_fyxOrderedSet_ts1 (hkind : o.kind = .ts1) (haligned : (s.link n).aligned = false) (hfew : (s.link n).ts1 + 1 < 64) :
    exec (.fyxOrderedSet n b) s = .next (ts1Counted n s) := by
  rw [exec_fyxOrderedSet_training hfyx hport htraining hset, setArrives_ts1 htraining hkind haligned, if_neg (Nat.not_le.mpr hfew)]

theorem exec_fyxOrderedSet_ts1_last (hkind : o.kind = .ts1) (haligned : (s.link n).aligned = false) (hcount : (s.link n).ts1 = 63)
    (hlanes : o.lanes = List.range 8) (hinverted : o.inverted = 0) : exec (.fyxOrderedSet n b) s = .next
    (sendSet n .ts2 false ((s.setLink n { s.link n with ts1 := 64, heardAt := s.now }).setLink n
      { s.link n with ts1 := 64, heardAt := s.now, aligned := true, reversed := false, inverted := 0 })) := by
  rw [exec_fyxOrderedSet_training hfyx hport htraining hset, setArrives_ts1 htraining hkind haligned,
    if_pos (by omega), alignLanes_in_order hlanes hinverted, ts1Counted, link_setLink, hcount]

/-- The last TS2 of a training brings the link UP. -/
theorem exec_fyxOrderedSet_ts2_last (hkind : o.kind = .ts2) (haligned : (s.link n).aligned = true) (hcount : 15 ≤ (s.link n).ts2)
    (hpos : (s.link n).nPos = o.pos) (hnport : (s.link n).nPort = o.port) (hrate : (s.link n).nRate = o.rate)
    (hack : o.ack = true ∨ (s.link n).gotAck = true) (hequal : o.rate = fyxRate s) : exec (.fyxOrderedSet n b) s = .next
    (emit srcDevice 0x0700 (le 1 n ++ le 1 o.pos ++ le 1 o.port) (portRecovered srcPorts (15 + n) (linkOpened n (ts2Counted n o s)))) := by
  have hstill : ((ts2Counted n o s).link n).state = .training := by rw [link_ts2Counted, htraining]
  rw [exec_fyxOrderedSet_training hfyx hport htraining hset]
  simp only [setArrives, hkind, haligned, if_true, configSet_last hcount hpos hnport hrate hack hequal, linkUp_trained hstill, link_ts2Counted]

end

theorem exec_fyxOrderedSet_none {b : List LaneBlock} (n : Nat) (s : State) (hnone : readSet b = none) :
    exec (.fyxOrderedSet n b) s = .next s := by
  change execFyxOrderedSet n b s = _
  simp only [execFyxOrderedSet, hnone, ite_self]

/-! ### Timeouts and lane faults (14 R558, R564, R565; 19 R771) -/

section
variable {n : Nat} {s : State} (hdue : (s.link n).since + 1000000 ≤ s.now)
include hdue

theorem exec_fyxTrainingTimeout (htraining : (s.link n).state = .training) : exec (.fyxTrainingTimeout n) s = .next (startDetect n s) := by
  change execFyxTrainingTimeout n s = _
  simp only [execFyxTrainingTimeout, htraining, hdue, beq_self_eq_true, decide_true, Bool.and_self, if_true]

theorem exec_fyxDownRetryTimeout (hdown : (s.link n).state = .down) : exec (.fyxDownRetryTimeout n) s = .next (startDetect n s) := by
  change execFyxDownRetryTimeout n s = _
  simp only [execFyxDownRetryTimeout, hdown, hdue, beq_self_eq_true, decide_true, Bool.and_self, if_true]

end

section
variable {n : Nat} {s : State} (hfyx : domainOn s 31 = true) (hport : n < 4) (hup : (s.link n).state = .up)
include hfyx hport hup

theorem exec_fyxLaneFaultDetect_gone (short : Bool) :
    exec (.fyxLaneFaultDetect n 0 short) s = .next (portRecovered srcPorts (15 + n) s) := by
  change execFyxLaneFaultDetect n 0 short s = _
  simp [execFyxLaneFaultDetect, hfyx, hup, Nat.not_le.mpr hport, fyxBit]

theorem exec_fyxLaneFaultDetect_found {lanes : Nat} {short : Bool} (hsome : lanes ≠ 0) (hpart : short = true ∨ lanes ≠ 0xFF) :
    exec (.fyxLaneFaultDetect n lanes short) s = .next (portFault srcPorts (if short then 0x2C else 0x2B) (15 + n) lanes 0 true s) := by
  have hfault : ¬ ((!short && decide (lanes = 0xFF)) = true) := by
    rcases hpart with hshort | hopen
    · simp [hshort]
    · simp [hopen]
  change execFyxLaneFaultDetect n lanes short s = _
  simp only [execFyxLaneFaultDetect, hfyx, hup, Nat.not_le.mpr hport, hsome, hfault, linkState_portFault, fyxBit, Bool.not_true,
    decide_false, Bool.or_false, Bool.false_or, Bool.false_eq_true, if_false, reduceCtorEq, beq_iff_eq]

end

/-- Settles O40: the laws of ordered sets on the lanes and in training, of the timeouts of training, and of lane faults. -/
theorem fyxPortsTrain : Obligations.FyxPortsTrain := by
  unfold Obligations.FyxPortsTrain
  refine ⟨fun k _ _ _ _ ack => readSet_setBlocks k ack, fun _ _ _ _ => exec_fyxOrderedSet_skip, fun n _ s => exec_fyxOrderedSet_none n s,
    fun _ _ _ _ => exec_fyxOrderedSet_ts1, fun _ _ _ _ => exec_fyxOrderedSet_ts1_last, ?linkUp, ?timeouts, ?laneFaults⟩
  case linkUp =>
    intro n b o s hfyx hport htraining hset hkind haligned hcount hpos hnport hrate hack hequal
    refine ⟨linkOpened n (ts2Counted n o s),
      exec_fyxOrderedSet_ts2_last hfyx hport htraining hset hkind haligned hcount hpos hnport hrate hack hequal, ?_, ?_, ?_, ?_,
      quiet_ts2Counted n o s⟩
    · rw [linkOpened, link_setLink]
    · rw [linkOpened, link_setLink, link_ts2Counted]
    · rw [linkOpened, link_setLink]
    · rw [linkOpened, link_setLink]
      rfl
  case timeouts => exact fun n s hdue => ⟨exec_fyxTrainingTimeout hdue, exec_fyxDownRetryTimeout hdue, rfl⟩
  case laneFaults =>
    exact fun n lanes short s hfyx hport hup => ⟨exec_fyxLaneFaultDetect_gone hfyx hport hup short,
      exec_fyxLaneFaultDetect_found hfyx hport hup⟩

end Sys2Proof.Machine
end

section
/-! Facts about the bits of flits (14 R556, R559): what is scrambled is descrambled, and a flit's fields are read back from its bytes. -/
namespace Sys2Proof.Machine

/-! ### Bytes and numbers (00 R3) -/

@[simp] theorem length_le (n v : Nat) : (le n v).length = n := by
  induction n generalizing v with
  | zero => rfl
  | succ n ih => simp [le, ih]

theorem leVal_le (n v : Nat) : leVal (le n v) = v % 256 ^ n := by
  induction n generalizing v with
  | zero => simp [le, leVal, Nat.mod_one]
  | succ n ih =>
    rw [le, leVal, ih, BitVec.toNat_ofNat, pow_succ' 256 n]
    exact Nat.mod_mul.symm

theorem le_leVal (b : Bytes) : le b.length (leVal b) = b := by
  induction b with
  | nil => rfl
  | cons x b ih =>
    have hx := x.isLt
    have hlow : BitVec.ofNat 8 (x.toNat + 256 * leVal b) = x := BitVec.eq_of_toNat_eq (by rw [BitVec.toNat_ofNat]; omega)
    have hrest : (x.toNat + 256 * leVal b) / 256 = leVal b := by omega
    rw [leVal, List.length_cons, le, hlow, hrest, ih]

/-- The field that a number was written to holds the number. -/
theorem fld_le_append (n v : Nat) (r : Bytes) : fld (le n v ++ r) 0 n = v % 256 ^ n := by
  rw [fld, List.drop_zero, List.take_left' (length_le n v), leVal_le]

/-- A field after other bytes. -/
theorem fld_append_right (l r : Bytes) (off n : Nat) : fld (l ++ r) (l.length + off) n = fld r off n := by
  simp [fld]

/-- The bytes of a field, written as a number, are the bytes. -/
theorem le_fld {b : Bytes} {off n : Nat} (hlen : off + n ≤ b.length) : le n (fld b off n) = (b.drop off).take n := by
  have hn : ((b.drop off).take n).length = n := by simp; omega
  have h := le_leVal ((b.drop off).take n)
  rwa [hn] at h

/-- A byte string is its eights in order. -/
theorem flatMap_eights (b : Bytes) (n : Nat) : (List.range n).flatMap (fun k => (b.drop (8 * k)).take 8) = b.take (8 * n) := by
  induction n with
  | zero => simp
  | succ n ih =>
    rw [List.range_succ, List.flatMap_append, ih, Nat.mul_succ, List.take_add]
    simp

/-! ### The scrambler (14 R556) -/

theorem scramble_lt (k st d : Nat) : (scramble k st d).1 < 2 ^ k := by
  induction k generalizing st d with
  | zero => exact Nat.one_pos
  | succ k ih =>
    have hrest := ih ((2 * st + (d + st / 2 ^ 38 + st / 2 ^ 57) % 2) % 2 ^ 58) (d / 2)
    simp only [scramble]
    omega

/-- Descrambling undoes scrambling, bit by bit: both work with the same 58 scrambled bits. -/
theorem descramble_scramble {k d : Nat} (hd : d < 2 ^ k) (st : Nat) : descramble k st (scramble k st d).1 = (d, (scramble k st d).2) := by
  induction k generalizing st d with
  | zero =>
    have hzero : d = 0 := by omega
    rw [hzero]
    rfl
  | succ k ih =>
    have hrest : d / 2 < 2 ^ k := by omega
    simp only [scramble, descramble]
    generalize hb : (d + st / 2 ^ 38 + st / 2 ^ 57) % 2 = b
    have hbit : b < 2 := by omega
    generalize hr : scramble k ((2 * st + b) % 2 ^ 58) (d / 2) = r
    have hlow : (b + 2 * r.1) % 2 = b := by omega
    have hhigh : (b + 2 * r.1) / 2 = r.1 := by omega
    have hback := ih hrest ((2 * st + b) % 2 ^ 58)
    rw [hr] at hback
    rw [hlow, hhigh, hback]
    refine Prod.ext ?_ rfl
    dsimp only
    omega

/-- A flit's blocks, descrambled with the state that scrambled them, are its bytes. -/
theorem readBlocks_flitBlocks (scr : List Nat) {b : Bytes} (hlen : b.length = 64) :
    readBlocks scr (flitBlocks scr b).1 = (b, true, (flitBlocks scr b).2) := by
  have hlanes : (List.range 8).map (fun k => descramble 64 (nth 0 scr k) (nth ⟨0, 0⟩ (flitBlocks scr b).1 k).payload.toNat) =
      (List.range 8).map (fun k => (fld b (8 * k) 8, (scramble 64 (nth 0 scr k) (fld b (8 * k) 8)).2)) := by
    refine List.map_congr_left fun k hk => ?_
    have hblock : (nth ⟨0, 0⟩ (flitBlocks scr b).1 k).payload = BitVec.ofNat 64 (scramble 64 (nth 0 scr k) (fld b (8 * k) 8)).1 := by
      simp [nth, flitBlocks, List.mem_range.mp hk]
    rw [hblock, BitVec.toNat_ofNat, Nat.mod_eq_of_lt (scramble_lt 64 _ _), descramble_scramble (fld_lt b (8 * k) 8)]
  have hbytes : (List.range 8).flatMap (fun k => le 8 (fld b (8 * k) 8)) = b := by
    have heights : (List.range 8).flatMap (fun k => le 8 (fld b (8 * k) 8)) = (List.range 8).flatMap (fun k => (b.drop (8 * k)).take 8) :=
      List.flatMap_congr fun k hk => le_fld (by have := List.mem_range.mp hk; omega)
    rw [heights, flatMap_eights, List.take_of_length_le (by omega)]
  have hheaders : ((flitBlocks scr b).1.length == 8 && (flitBlocks scr b).1.all (fun b => b.header == 1)) = true := by
    simp [flitBlocks]
  rw [readBlocks, hlanes, hheaders]
  simp only [List.flatMap_map, hbytes, List.map_map, flitBlocks, Function.comp_def]

/-! ### The fields of a flit (14 R559) -/

theorem length_flitHead (seq ftype ack cls credits : Nat) (av nak : Bool) {payload : Bytes} (hlen : payload.length = 52) :
    (flitHead seq ftype ack av nak cls credits payload).length = 60 := by
  simp [flitHead, pad, hlen]

theorem pad_of_length {n : Nat} {b : Bytes} (hlen : b.length = n) : pad n b = b := by
  simp [pad, hlen]

/-- ACK_SEQ, ACK_VALID and NAK in their word. -/
theorem ackWord_fields (av nak : Bool) {ack w : Nat} (hack : ack < 4096) (hw : w = (ack % 4096 + 4096 * b2n av + 8192 * b2n nak) % 2 ^ 16) :
    bits w 0 12 = ack ∧ bit w 12 = av ∧ bit w 13 = nak := by
  unfold bits bit
  cases av <;> cases nak <;> simp only [b2n, Bool.false_eq_true, if_true, if_false, beq_iff_eq, beq_eq_false_iff_ne] at hw ⊢ <;> omega

section
variable {seq ftype ack cls credits : Nat} {av nak : Bool} {payload : Bytes} (hlen : payload.length = 52)
include hlen

/-- The words of a flit's head, and its payload. -/
theorem flitBytes_parts {b : Bytes} (hb : b = flitBytes seq ftype ack av nak cls credits payload) :
    fld b 0 2 = (seq % 4096 + 4096 * ftype) % 2 ^ 16 ∧ fld b 2 2 = (ack % 4096 + 4096 * b2n av + 8192 * b2n nak) % 2 ^ 16 ∧
      fld b 4 1 = (cls % 4 + 4 * credits) % 2 ^ 8 ∧ (b.drop 8).take 52 = payload := by
  have hparts : b = (le 2 (seq % 4096 + 4096 * ftype) ++ (le 2 (ack % 4096 + 4096 * b2n av + 8192 * b2n nak) ++
      (le 1 (cls % 4 + 4 * credits) ++ le 3 0))) ++ (payload ++ le 4 (crc32c (flitHead seq ftype ack av nak cls credits payload)).toNat) := by
    simp [hb, flitBytes, flitHead, pad_of_length hlen]
  have hpayload : (b.drop 8).take 52 = payload := by
    rw [hparts, List.drop_left' (by simp), List.take_left' hlen]
  simp only [List.append_assoc] at hparts
  rw [hparts] at hpayload ⊢
  refine ⟨fld_le_append 2 _ _, ?_, ?_, hpayload⟩
  · exact (fld_append_right (le 2 _) _ 0 2).trans (fld_le_append 2 _ _)
  · exact (fld_append_right (le 2 _) _ 2 1).trans ((fld_append_right (le 2 _) _ 0 1).trans (fld_le_append 1 _ _))

/-- A flit ends with the CRC of what stands before it. -/
theorem flitBytes_crc {b : Bytes} (hb : b = flitBytes seq ftype ack av nak cls credits payload) :
    (crc32c (b.take 60)).toNat = fld b 60 4 := by
  have hhead := length_flitHead seq ftype ack cls credits av nak hlen
  subst hb
  have hcrc := fld_append_right (flitHead seq ftype ack av nak cls credits payload)
    (le 4 (crc32c (flitHead seq ftype ack av nak cls credits payload)).toNat ++ []) 0 4
  rw [fld_le_append, hhead, List.append_nil] at hcrc
  rw [flitBytes, List.take_left' hhead]
  exact (hcrc.trans (Nat.mod_eq_of_lt (BitVec.isLt _))).symm

/-- A flit's fields are read back from its bytes. -/
theorem readFlit_flitBytes (hseq : seq < 4096) (hftype : ftype < 16) (hack : ack < 4096) (hcls : cls < 4) (hcredits : credits < 64) :
    readFlit (flitBytes seq ftype ack av nak cls credits payload) true =
      { ftype := ftype, seq := seq, ack := ack, ackValid := av, nak := nak, cls := cls, credits := credits, crcOk := true
        payload := payload } := by
  generalize hb : flitBytes seq ftype ack av nak cls credits payload = b
  obtain ⟨hword, hackWord, hcredit, hpayload⟩ := flitBytes_parts hlen hb.symm
  have hcrc := flitBytes_crc hlen hb.symm
  obtain ⟨hackField, hav, hnak⟩ := ackWord_fields av nak hack hackWord
  have hftypeField : bits (fld b 0 2) 12 4 = ftype := by rw [hword]; unfold bits; omega
  have hseqField : bits (fld b 0 2) 0 12 = seq := by rw [hword]; unfold bits; omega
  have hclsField : bits (fld b 4 1) 0 2 = cls := by rw [hcredit]; unfold bits; omega
  have hcreditsField : bits (fld b 4 1) 2 6 = credits := by rw [hcredit]; unfold bits; omega
  simp only [readFlit, hav, hnak, hackField, hftypeField, hseqField, hclsField, hcreditsField, hcrc, hpayload, beq_self_eq_true, Bool.and_self]

end

end Sys2Proof.Machine
end

section
/-! Laws of flits on a link that is UP, of replays and of the end of a link (14 R559, R560, R566 to R569), and the proof of O41. -/
namespace Sys2Proof.Machine

/-! ### Flits (14 R559, R566, R567, R569) -/

theorem exec_fyxFlitReceived {n : Nat} {b : List LaneBlock} {r : Bytes × Bool × List Nat} {s : State} (hfyx : domainOn s 31 = true)
    (hup : (s.link n).state = .up) (hr : r = readBlocks (s.link n).rxScr (logicalLanes (s.link n).inverted (s.link n).reversed b)) :
    exec (.fyxFlitReceived n b) s = .next (flitArrives n (readFlit r.1 r.2.1) (s.setLink n { s.link n with rxScr := r.2.2 })) := by
  have hopen : (!domainOn s 31 || (s.link n).state != .up) = false := by rw [hfyx, hup]; rfl
  change execFyxFlitReceived n b s = _
  simp only [execFyxFlitReceived, hopen, Bool.false_eq_true, if_false, hr]

section
variable {n : Nat} {f : Flit} {s : State}

theorem flitArrives_badCrc (hcrc : f.crcOk = false) : flitArrives n f s = sendNak n s := by
  simp only [flitArrives, hcrc, Bool.not_false, if_true]

/-- The link has heard a flit that neither acknowledges nor asks for a replay; the flit's credits have come back. -/
def creditsTaken (n : Nat) (f : Flit) (s : State) : State := takeCredits n f.cls f.credits (s.setLink n { s.link n with heardAt := s.now })

theorem rxSeq_creditsTaken : ((creditsTaken n f s).link n).rxSeq = (s.link n).rxSeq := by
  simp only [creditsTaken, takeCredits, link_setLink]

/-- A flit of the expected SEQ advances it, and its payload joins the packet. -/
def flitAccepted (n : Nat) (f : Flit) (s : State) : State :=
  takePayload n f (s.setLink n { s.link n with rxSeq := ((s.link n).rxSeq + 1) % 4096, nakSent := false })

/-- A whole flit that neither acknowledges nor asks for a replay returns credits; what else it does hangs on its kind and its SEQ. -/
theorem flitArrives_plain (hcrc : f.crcOk = true) (hack : f.ackValid = false) (hnak : f.nak = false) : flitArrives n f s = pumpLink n
    (if f.ftype = 0 then creditsTaken n f s else if f.seq ≠ (s.link n).rxSeq then sendNak n (creditsTaken n f s)
      else flitAccepted n f (creditsTaken n f s)) := by
  rw [← rxSeq_creditsTaken (n := n) (f := f)]
  simp only [flitArrives, hcrc, hack, hnak, Bool.not_true, Bool.false_eq_true, if_false]
  rfl

end

/-! ### Timers of a link that is UP (14 R566, R567) -/

section
variable {n : Nat} {s : State} (hup : (s.link n).state = .up)
include hup

theorem exec_fyxIdleFlitTimer (hdue : (s.link n).sentAt + 32 * tFlit s / 10 ≤ s.now) :
    exec (.fyxIdleFlitTimer n) s = .next (flitOut n 0 0 [] false s) := by
  change execFyxIdleFlitTimer n s = _
  simp only [execFyxIdleFlitTimer, hup, hdue, beq_self_eq_true, decide_true, Bool.and_self, if_true]

/-- A replay is counted, for the port and in a row. -/
def replayCounted (n : Nat) (s : State) : State :=
  (errAdd (0x1E0 + 4 * n) 1 s).setLink n { s.link n with replays := (s.link n).replays + 1, progressAt := s.now }

theorem exec_fyxReplayTimeout (hheld : (s.link n).unacked ≠ []) (hdue : (s.link n).progressAt + 1000 ≤ s.now) :
    exec (.fyxReplayTimeout n) s = .next
      (if 16 ≤ (s.link n).replays + 1 then startRecovery n (replayCounted n s) else resend n (replayCounted n s)) := by
  have hsome : (s.link n).unacked.isEmpty = false := List.isEmpty_eq_false_iff.mpr hheld
  change execFyxReplayTimeout n s = _
  simp only [execFyxReplayTimeout, hup, hsome, hdue, beq_self_eq_true, Bool.not_false, decide_true, Bool.and_self, if_true, replay,
    Bool.false_eq_true, if_false]
  rfl

end

/-! ### The end of a link (14 R568) -/

/-- A link is DOWN: what waited on it is dropped. -/
def linkDropped (n : Nat) (s : State) : State :=
  s.setLink n { s.link n with
    state := .down, since := s.now, unacked := [], queued := [], waiting := [], rx := [], nValid := false }

/-- Whether a position is a member's is no matter of the links, nor of reports. -/
theorem memberOk_of_quiet {s t : State} (h : t.quiet = s.quiet) (p : Nat) : memberOk t p = memberOk s p :=
  (congrArg (fun u => memberOk u p) h :)

/-- A link that has heard nothing for 32 us is DOWN and reports it, and leaves the pack alone where its neighbour is no member. -/
theorem exec_fyxLinkDown_silent {n : Nat} {s : State} (hup : (s.link n).state = .up) (hdue : (s.link n).heardAt + 32000 ≤ s.now)
    (hstranger : memberOk s (s.link n).nPos = false) :
    exec (.fyxLinkDown n) s = .next (emit srcDevice 0x0701 (le 1 n ++ le 1 (s.link n).nPos) (linkDropped n s)) := by
  have hstill : memberOk (emit srcDevice 0x0701 (le 1 n ++ le 1 (s.link n).nPos) (linkDropped n s)) (s.link n).nPos = false :=
    (memberOk_of_quiet (quiet_emit _ _ _ _) _).trans hstranger
  rw [linkDropped] at hstill ⊢
  change execFyxLinkDown n s = _
  simp only [execFyxLinkDown, hup, hdue, beq_self_eq_true, decide_true, Bool.true_or, Bool.and_self, Bool.not_true, Bool.false_eq_true, if_false,
    hstill]

/-- Settles O41: the laws of flits on the lanes, of their arrival, of the timers of a link and of its end. -/
theorem fyxFlitsMove : Obligations.FyxFlitsMove := by
  unfold Obligations.FyxFlitsMove
  refine ⟨fun k st d hd => descramble_scramble hd st, fun scr b => readBlocks_flitBlocks scr, ?fields,
    fun _ _ _ _ => exec_fyxFlitReceived, fun _ _ _ => flitArrives_badCrc, ?arrives, fun _ _ => exec_fyxIdleFlitTimer, ?replay, ?down⟩
  case fields =>
    exact fun seq ftype ack cls credits av nak payload hseq hftype hack hcls hcredits hlen =>
      readFlit_flitBytes hlen hseq hftype hack hcls hcredits
  case arrives =>
    rintro n f s _ hcrc hack hnak rfl
    have harrives := flitArrives_plain (n := n) (s := s) hcrc hack hnak
    refine ⟨fun hidle => ?_, fun hdata hseq => ?_, fun hdata hseq => ?_⟩
    · rw [harrives, if_pos hidle, creditsTaken]
    · rw [harrives, if_neg hdata, if_neg (not_not.mpr hseq), flitAccepted, creditsTaken]
    · rw [harrives, if_neg hdata, if_pos hseq, creditsTaken]
  case replay =>
    rintro n s _ hup hheld hdue rfl
    exact exec_fyxReplayTimeout hup hheld hdue
  case down =>
    intro n s hup hdue hstranger
    exact ⟨_, exec_fyxLinkDown_silent hup hdue hstranger, by rw [linkState_emit, linkDropped, link_setLink], fun _ => rfl⟩

end Sys2Proof.Machine
end

section
/-! What programs OTP (16 R636): every command but three keeps the bits that only one command each can program, and each of the three
changes its own alone; the proofs of O54, O56 and O60. -/
namespace Sys2Proof.Machine

/-! ### The commands that program no such bit -/

/-- The three commands that program bits of OTP that stay (16 R636; 04 R122, R169; 16 R648). -/
def programsOtp : Instr → Bool
  | .customerKeyProgram _ _ | .debugLock _ _ | .rollbackProgram => true
  | _ => false

/-- Each command but the three keeps the queue, the programmed bits and the fuses: exec's arms, one law each. -/
theorem exec_kept {c : Instr} {s t : State} (hother : programsOtp c = false) (ht : exec c s = .next t) : t.kept = s.kept := by
  cases c with
  | nop h p => exact execNop_kept h p s t ht
  | getInfo h p => exact execGetInfo_kept h p s t ht
  | resync h p => exact execResync_kept h p s t ht
  | powerProfile h p => exact execPowerProfile_kept h p s t ht
  | keepRead h p => exact execKeepRead_kept h p s t ht
  | keepWrite h p => exact execKeepWrite_kept h p s t ht
  | faultExport h p => exact execFaultExport_kept h p s t ht
  | fwInstall h p image => exact execFwInstall_kept h p image s t ht
  | customerKeyProgram => contradiction
  | deviceReset h p => exact execDeviceReset_kept h p s t ht
  | modelLoad h p => exact execModelLoad_kept h p s t ht
  | modelReside h p => exact execModelReside_kept h p s t ht
  | modelUnload h p => exact execModelUnload_kept h p s t ht
  | modelQuery h p => exact execModelQuery_kept h p s t ht
  | streamConfig h p => exact execStreamConfig_kept h p s t ht
  | streamStart h p => exact execStreamStart_kept h p s t ht
  | streamStop h p => exact execStreamStop_kept h p s t ht
  | streamRelease h p => exact execStreamRelease_kept h p s t ht
  | bufferPost h p => exact execBufferPost_kept h p s t ht
  | routeSet h p => exact execRouteSet_kept h p s t ht
  | outputSet h p => exact execOutputSet_kept h p s t ht
  | groupSet h p => exact execGroupSet_kept h p s t ht
  | setProfile h p => exact execSetProfile_kept h p s t ht
  | certRead h p => exact execCertRead_kept h p s t ht
  | csiConfig h p => exact execCsiConfig_kept h p s t ht
  | sensorProfileLoad h p => exact execSensorProfileLoad_kept h p s t ht
  | setExposure h p => exact execSetExposure_kept h p s t ht
  | rfeSet h p => exact execRfeSet_kept h p s t ht
  | irledSet h p => exact execIrledSet_kept h p s t ht
  | fsyncSet h p => exact execFsyncSet_kept h p s t ht
  | sensorPower h p => exact execSensorPower_kept h p s t ht
  | sctlXfer h p result nak data => exact execSctlXfer_kept h p result nak data s t ht
  | jobSubmit h p shape => exact execJobSubmit_kept h p shape s t ht
  | jobKill h p => exact execJobKill_kept h p s t ht
  | memoryModeSet h p => exact execMemoryModeSet_kept h p s t ht
  | windowOpen h p => exact execWindowOpen_kept h p s t ht
  | windowClose h p => exact execWindowClose_kept h p s t ht
  | scrubSet h p => exact execScrubSet_kept h p s t ht
  | treeLoad h p nodes roots front => exact execTreeLoad_kept h p nodes roots front s t ht
  | treeUnload h p => exact execTreeUnload_kept h p s t ht
  | treeBind h p => exact execTreeBind_kept h p s t ht
  | profileTableSet h p => exact execProfileTableSet_kept h p s t ht
  | packForm h p => exact execPackForm_kept h p s t ht
  | packDissolve h p => exact execPackDissolve_kept h p s t ht
  | packEject h p => exact execPackEject_kept h p s t ht
  | packTimeoutSet h p => exact execPackTimeoutSet_kept h p s t ht
  | countersSnapshot h p => exact execCountersSnapshot_kept h p s t ht
  | debugRead h p errors => exact execDebugRead_kept h p errors s t ht
  | testChallenge h p => exact execTestChallenge_kept h p s t ht
  | testUnlock h p => exact execTestUnlock_kept h p s t ht
  | debugLock => contradiction
  | slotFetch ring slot => exact execSlotFetch_kept ring slot s t ht
  | ringWhistleWrite ring value => exact execRingWhistleWrite_kept ring value s t ht
  | ringCqHeadWrite ring value => exact execRingCqHeadWrite_kept ring value s t ht
  | evqHeadWrite value => exact execEvqHeadWrite_kept value s t ht
  | ringEnable ring coalCount coalUsec => exact execRingEnable_kept ring coalCount coalUsec s t ht
  | ringDisable ring => exact execRingDisable_kept ring s t ht
  | evqEnable coalCount coalUsec => exact execEvqEnable_kept coalCount coalUsec s t ht
  | evqDisable => exact execEvqDisable_kept s t ht
  | evqLostRead => exact execEvqLostRead_kept s t ht
  | glbStrayRead => exact execGlbStrayRead_kept s t ht
  | registerWrite target value => exact execRegisterWrite_kept target value s t ht
  | bar0StrayAccess isRead len => exact execBar0StrayAccess_kept isRead len s t ht
  | interruptCoalesceTimeout vector => exact execInterruptCoalesceTimeout_kept vector s t ht
  | msixUnmask w => exact execMsixUnmask_kept w s t ht
  | commandBoundTimeout ring tag => exact execCommandBoundTimeout_kept ring tag s t ht
  | dmaReadCompletion id data => exact execDmaReadCompletion_kept id data s t ht
  | dmaReadTimeout id => exact execDmaReadTimeout_kept id s t ht
  | mgmtSubmit bytes => exact execMgmtSubmit_kept bytes s t ht
  | mgmtPoll extra reads => exact execMgmtPoll_kept extra reads s t ht
  | mgmtRead offset count extra reads => exact execMgmtRead_kept offset count extra reads s t ht
  | mgmtBusTimeout sda scl => exact execMgmtBusTimeout_kept sda scl s t ht
  | pcieLinkDown => exact execPcieLinkDown_kept s t ht
  | pcieLinkUp => exact execPcieLinkUp_kept s t ht
  | pciePerstNAssert => exact execPciePerstNAssert_kept s t ht
  | pciePerstNRelease => exact execPciePerstNRelease_kept s t ht
  | flr => exact execFlr_kept s t ht
  | busMasterEnableClear => exact execBusMasterEnableClear_kept s t ht
  | d3hotEntry => exact execD3hotEntry_kept s t ht
  | poisonedTlpWrite bar => exact execPoisonedTlpWrite_kept bar s t ht
  | bar2Read offset len errors => exact execBar2Read_kept offset len errors s t ht
  | bar2Write offset data => exact execBar2Write_kept offset data s t ht
  | bar2StrayAccess isRead len => exact execBar2StrayAccess_kept isRead len s t ht
  | timeNowLoRead => exact execTimeNowLoRead_kept s t ht
  | timeCapture => exact execTimeCapture_kept s t ht
  | keepwUserWrite word value => exact execKeepwUserWrite_kept word value s t ht
  | keepwSetWrite word value => exact execKeepwSetWrite_kept word value s t ht
  | keepwQueueEntry => exact execKeepwQueueEntry_kept s t ht
  | perfLatch value => exact execPerfLatch_kept value s t ht
  | perfLatchDone => exact execPerfLatchDone_kept s t ht
  | glbBootGo => exact execGlbBootGo_kept s t ht
  | hostDownloadDone image => exact execHostDownloadDone_kept image s t ht
  | hostFrameAccept sc picture => exact execHostFrameAccept_kept sc picture s t ht
  | csiFrameStart port vc sensorFrame corrected lost => exact execCsiFrameStart_kept port vc sensorFrame corrected lost s t ht
  | csiFrameEnd port vc sensorFrame ecc => exact execCsiFrameEnd_kept port vc sensorFrame ecc s t ht
  | csiLongPacket port vc dataType ecc crcOk payload => exact execCsiLongPacket_kept port vc dataType ecc crcOk payload s t ht
  | frameEndTimeout port vc => exact execFrameEndTimeout_kept port vc s t ht
  | csiHsBurst port started inverted order => exact execCsiHsBurst_kept port started inverted order s t ht
  | deskewSequence port delays => exact execDeskewSequence_kept port delays s t ht
  | deskewTimeout port => exact execDeskewTimeout_kept port s t ht
  | clockLostTimeout port => exact execClockLostTimeout_kept port s t ht
  | sourceLostTimeout sc => exact execSourceLostTimeout_kept sc s t ht
  | statsComplete port vc => exact execStatsComplete_kept port vc s t ht
  | exposureWriteWindow sc edge => exact execExposureWriteWindow_kept sc edge s t ht
  | exposureCommitAck sc => exact execExposureCommitAck_kept sc s t ht
  | exposureWindowClose sc result => exact execExposureWindowClose_kept sc result s t ht
  | sctlXferDone bus result nak data => exact execSctlXferDone_kept bus result nak data s t ht
  | sctlStuckTimeout bus sda scl released => exact execSctlStuckTimeout_kept bus sda scl released s t ht
  | sctlBusRecovered bus => exact execSctlBusRecovered_kept bus s t ht
  | irledPulseStart channel => exact execIrledPulseStart_kept channel s t ht
  | irledPulseEnd channel => exact execIrledPulseEnd_kept channel s t ht
  | irledFaultDetect channel short => exact execIrledFaultDetect_kept channel short s t ht
  | fsyncOutEdge k => exact execFsyncOutEdge_kept k s t ht
  | fsyncInEdge k => exact execFsyncInEdge_kept k s t ht
  | sensorPwrSettled k => exact execSensorPwrSettled_kept k s t ht
  | sensorPwrOvercurrent k => exact execSensorPwrOvercurrent_kept k s t ht
  | sensorPwrRetry k => exact execSensorPwrRetry_kept k s t ht
  | sensorPwrBackfeed k => exact execSensorPwrBackfeed_kept k s t ht
  | tileStart core tile => exact execTileStart_kept core tile s t ht
  | tileComplete core queue errors => exact execTileComplete_kept core queue errors s t ht
  | scuArithmetic core op rd rs arg => exact execScuArithmetic_kept core op rd rs arg s t ht
  | scuLoad core rd rs offset width errors => exact execScuLoad_kept core rd rs offset width errors s t ht
  | scuLoadReturn core rd => exact execScuLoadReturn_kept core rd s t ht
  | scuStore core rs rb offset width => exact execScuStore_kept core rs rb offset width s t ht
  | scuBranch core cond a b offset => exact execScuBranch_kept core cond a b offset s t ht
  | fq core rs => exact execFq_kept core rs s t ht
  | xq core rs => exact execXq_kept core rs s t ht
  | twait core queue rs => exact execTwait_kept core queue rs s t ht
  | qstat core rd => exact execQstat_kept core rd s t ht
  | fenceFull core => exact execFenceFull_kept core s t ht
  | fenceRemote core => exact execFenceRemote_kept core s t ht
  | csrr core rd r => exact execCsrr_kept core rd r s t ht
  | csrw core rs r => exact execCsrw_kept core rs r s t ht
  | evt core code => exact execEvt_kept core code s t ht
  | done core => exact execDone_kept core s t ht
  | trap core code => exact execTrap_kept core code s t ht
  | fetchLoad core errors => exact execFetchLoad_kept core errors s t ht
  | fetchStore core errors => exact execFetchStore_kept core errors s t ht
  | fetchGather core errors => exact execFetchGather_kept core errors s t ht
  | fetchFill core => exact execFetchFill_kept core s t ht
  | fetchCopy core errors => exact execFetchCopy_kept core errors s t ht
  | fetchPublish core => exact execFetchPublish_kept core s t ht
  | fetchDescriptorComplete core index => exact execFetchDescriptorComplete_kept core index s t ht
  | mergeEntryTimeout core => exact execMergeEntryTimeout_kept core s t ht
  | dramTransactionComplete channel error => exact execDramTransactionComplete_kept channel error s t ht
  | iacFillReturn id => exact execIacFillReturn_kept id s t ht
  | haloTimeout core boundary consumer producer counter top => exact execHaloTimeout_kept core boundary consumer producer counter top s t ht
  | jobHaloTimeout core counter top => exact execJobHaloTimeout_kept core counter top s t ht
  | coreWatchdog core executor => exact execCoreWatchdog_kept core executor s t ht
  | narrowWaitTimeout core reg => exact execNarrowWaitTimeout_kept core reg s t ht
  | narrowWindowRollover core group => exact execNarrowWindowRollover_kept core group s t ht
  | scrubTick memory core bank errors => exact execScrubTick_kept memory core bank errors s t ht
  | unitFillComplete unit => exact execUnitFillComplete_kept unit s t ht
  | kennelDomainReady d => exact execKennelDomainReady_kept d s t ht
  | kennelDomainPowerOff d => exact execKennelDomainPowerOff_kept d s t ht
  | domainPoweredUp d => exact execDomainPoweredUp_kept d s t ht
  | coreDomainIdleTimeout core => exact execCoreDomainIdleTimeout_kept core s t ht
  | ofmDomainIdleTimeout => exact execOfmDomainIdleTimeout_kept s t ht
  | dramUnitFillDone first => exact execDramUnitFillDone_kept first s t ht
  | residencyOperationStart => exact execResidencyOperationStart_kept s t ht
  | residencyOperationDone ok => exact execResidencyOperationDone_kept ok s t ht
  | modelLoadCopyDone handle pkg => exact execModelLoadCopyDone_kept handle pkg s t ht
  | flashOperationDone ok => exact execFlashOperationDone_kept ok s t ht
  | dramRetrainStart channel => exact execDramRetrainStart_kept channel s t ht
  | dramRetrained channel rate => exact execDramRetrained_kept channel rate s t ht
  | dramChannelDown channel => exact execDramChannelDown_kept channel s t ht
  | operatingPointChangeDone core => exact execOperatingPointChangeDone_kept core s t ht
  | avsTick margin => exact execAvsTick_kept margin s t ht
  | avsCodeStep => exact execAvsCodeStep_kept s t ht
  | outputDeadline sc frame phase desc => exact execOutputDeadline_kept sc frame phase desc s t ht
  | tileCheck sc frame phase tile eccError errors => exact execTileCheck_kept sc frame phase tile eccError errors s t ht
  | bandRelease sc frame phase band => exact execBandRelease_kept sc frame phase band s t ht
  | bandReleaseDeadline sc frame phase band => exact execBandReleaseDeadline_kept sc frame phase band s t ht
  | ofmRowWrite sc frame phase desc row => exact execOfmRowWrite_kept sc frame phase desc row s t ht
  | outputComplete sc frame phase desc => exact execOutputComplete_kept sc frame phase desc s t ht
  | groupWindowExpiry group => exact execGroupWindowExpiry_kept group s t ht
  | voteStart badTrees tableError => exact execVoteStart_kept badTrees tableError s t ht
  | voteComplete => exact execVoteComplete_kept s t ht
  | thermalSample temps => exact execThermalSample_kept temps s t ht
  | thermalDegradeStep => exact execThermalDegradeStep_kept s t ht
  | thermalRecoveryTimeout => exact execThermalRecoveryTimeout_kept s t ht
  | thermalClearTimeout => exact execThermalClearTimeout_kept s t ht
  | thermalTrip sensor => exact execThermalTrip_kept sensor s t ht
  | fyxOrderedSet port lanes => exact execFyxOrderedSet_kept port lanes s t ht
  | fyxTrainingTimeout port => exact execFyxTrainingTimeout_kept port s t ht
  | fyxFlitReceived port lanes => exact execFyxFlitReceived_kept port lanes s t ht
  | fyxIdleFlitTimer port => exact execFyxIdleFlitTimer_kept port s t ht
  | fyxReplayTimeout port => exact execFyxReplayTimeout_kept port s t ht
  | fyxLinkDown port => exact execFyxLinkDown_kept port s t ht
  | fyxDownRetryTimeout port => exact execFyxDownRetryTimeout_kept port s t ht
  | fyxLaneFaultDetect port lanes short => exact execFyxLaneFaultDetect_kept port lanes short s t ht
  | discover port k => exact execDiscover_kept port k s t ht
  | packInfo k => exact execPackInfo_kept k s t ht
  | planHashes k => exact execPlanHashes_kept k s t ht
  | packFormDiscoveryTimeout => exact execPackFormDiscoveryTimeout_kept s t ht
  | form k lead => exact execForm_kept k lead s t ht
  | prepare k => exact execPrepare_kept k s t ht
  | prepAck k => exact execPrepAck_kept k s t ht
  | commit k => exact execCommit_kept k s t ht
  | abort k => exact execAbort_kept k s t ht
  | epoch k => exact execEpoch_kept k s t ht
  | eject k => exact execEject_kept k s t ht
  | timeSyncTick => exact execTimeSyncTick_kept s t ht
  | timeSync k => exact execTimeSync_kept k s t ht
  | timeReply k => exact execTimeReply_kept k s t ht
  | timeFollow k => exact execTimeFollow_kept k s t ht
  | accept k => exact execAccept_kept k s t ht
  | bindReq k => exact execBindReq_kept k s t ht
  | bind k => exact execBind_kept k s t ht
  | bandReport k => exact execBandReport_kept k s t ht
  | eventFwd k => exact execEventFwd_kept k s t ht
  | featurePart k => exact execFeaturePart_kept k s t ht
  | haloData k => exact execHaloData_kept k s t ht
  | counterExport k => exact execCounterExport_kept k s t ht
  | winWrite k => exact execWinWrite_kept k s t ht
  | winReadReq k errors => exact execWinReadReq_kept k errors s t ht
  | winReadResp k => exact execWinReadResp_kept k s t ht
  | winAck k => exact execWinAck_kept k s t ht
  | winClosed k => exact execWinClosed_kept k s t ht
  | dbgRead k errors => exact execDbgRead_kept k errors s t ht
  | memberStatus k => exact execMemberStatus_kept k s t ht
  | packTimeoutExpiry op => exact execPackTimeoutExpiry_kept op s t ht
  | leaderContactTimeout pos => exact execLeaderContactTimeout_kept pos s t ht
  | followerContactTimeout => exact execFollowerContactTimeout_kept s t ht
  | timeOffsetTimeout pos => exact execTimeOffsetTimeout_kept pos s t ht
  | packFillStart pos => exact execPackFillStart_kept pos s t ht
  | powerOn => exact execPowerOn_kept s t ht
  | powerLoss => exact execPowerLoss_kept s t ht
  | porstNAssert lowUs => exact execPorstNAssert_kept lowUs s t ht
  | porstNRise b => exact execPorstNRise_kept b s t ht
  | shepherdStart => exact execShepherdStart_kept s t ht
  | shepherdWatchdog => exact execShepherdWatchdog_kept s t ht
  | lockstepMismatch => exact execLockstepMismatch_kept s t ht
  | rollbackProgram => contradiction
  | heartbeatTick => exact execHeartbeatTick_kept s t ht
  | keepSecondsTick => exact execKeepSecondsTick_kept s t ht
  | xtal32kLoss => exact execXtal32kLoss_kept s t ht
  | keepSupplySwitch toIo => exact execKeepSupplySwitch_kept toIo s t ht
  | keepDomainReset => exact execKeepDomainReset_kept s t ht
  | vbatReversalLatch => exact execVbatReversalLatch_kept s t ht
  | vbatValid => exact execVbatValid_kept s t ht
  | windowAckTimeout core => exact execWindowAckTimeout_kept core s t ht
  | scuStoreComplete core index => exact execScuStoreComplete_kept core index s t ht
  | jtagAccess j => exact execJtagAccess_kept j s t ht
  | d3hotExit => exact execD3hotExit_kept s t ht
  | xtal32kRestored => exact execXtal32kRestored_kept s t ht

/-- The programmed bits are part of what is kept. -/
theorem otpFixed_of_kept {s t : State} (h : t.kept = s.kept) : t.otp.fixed = s.otp.fixed := (congrArg (fun k => k.2.1) h :)

/-! ### The commands that program one of them -/

/-- A host command acts only once its checks have passed; otherwise it keeps what every command keeps (03 R73). -/
theorem command_cases {op : Nat} {h : Hdr} {p : Bytes} {len form state : List (Bool × Status)} {act : State → State} {s t : State}
    (ht : command op h p len form state act s = .next t) : t.kept = s.kept ∨ firstFail state = none ∧ t = act s := by
  obtain rfl := Host.Outcome.next.inj ht
  split
  · split
    · exact Or.inl (complete_kept ..)
    · rename_i hpass
      split
      · exact Or.inl (prepareAll_kept ..)
      · exact Or.inr ⟨((firstFail_append ..).mp hpass).2, rfl⟩
  · exact Or.inl rfl

/-- CUSTOMER_KEY_PROGRAM changes the key hash alone, and only where none is programmed (04 R122). -/
theorem customerKeyProgram_otp {h : Hdr} {p : Bytes} {s t : State} (ht : exec (.customerKeyProgram h p) s = .next t) :
    t.otp.fixed = s.otp.fixed ∨ s.otp.keyHash = none ∧ t.otp.fixed = { s.otp with keyHash := some (p.take 32) }.fixed := by
  change execCustomerKeyProgram h p s = _ at ht
  unfold execCustomerKeyProgram at ht
  obtain hkept | ⟨hpass, rfl⟩ := command_cases ht
  · exact Or.inl (otpFixed_of_kept hkept)
  · exact Or.inr ⟨Option.isNone_iff_eq_none.mp ((firstFail_cons ..).mp hpass).1, otpFixed_of_kept (complete_kept ..)⟩

/-- DEBUG_LOCK sets its bit alone (04 R169). -/
theorem debugLock_otp {h : Hdr} {p : Bytes} {s t : State} (ht : exec (.debugLock h p) s = .next t) :
    t.otp.fixed = s.otp.fixed ∨ t.otp.fixed = { s.otp with debugLocked := true }.fixed := by
  change execDebugLock h p s = _ at ht
  unfold execDebugLock at ht
  obtain hkept | ⟨-, rfl⟩ := command_cases ht
  · exact Or.inl (otpFixed_of_kept hkept)
  · exact Or.inr (otpFixed_of_kept (complete_kept ..))

/-- The rollback timer raises the level alone, to at most the 32 steps of its code (16 R648). -/
theorem rollbackProgram_otp {s t : State} (ht : exec .rollbackProgram s = .next t) :
    t.otp = s.otp ∨ t.otp = { s.otp with rollback := max s.otp.rollback (min 32 s.glb.fwLevel) } := by
  obtain rfl := Host.Outcome.next.inj ht
  split
  · exact Or.inr rfl
  · exact Or.inl rfl

/-! ### What a command can do to OTP -/

theorem fixed_eq_iff {a b : Otp} : b.fixed = a.fixed ↔
    b.keyHash = a.keyHash ∧ b.rollback = a.rollback ∧ b.debugLocked = a.debugLocked ∧ b.fusedRemaps = a.fusedRemaps := by
  simp only [Otp.fixed, Prod.mk.injEq]

/-- Everything a step can do to the bits that stay: nothing, a first key hash, DEBUG_LOCK, or a higher rollback level (16 R636). -/
inductive OtpStep (o o' : Otp) : Prop
  | same (h : o'.fixed = o.fixed)
  | key (hash : Bytes) (hnone : o.keyHash = none) (h : o'.fixed = { o with keyHash := some hash }.fixed)
  | lock (h : o'.fixed = { o with debugLocked := true }.fixed)
  | raise (level : Nat) (h : o'.fixed = { o with rollback := max o.rollback (min 32 level) }.fixed)

theorem exec_otp {c : Instr} {s t : State} (ht : exec c s = .next t) : OtpStep s.otp t.otp := by
  by_cases hother : programsOtp c = false
  · exact .same (otpFixed_of_kept (exec_kept hother ht))
  · cases c with
    | customerKeyProgram h p => exact (customerKeyProgram_otp ht).elim .same fun ⟨hnone, hkey⟩ => .key _ hnone hkey
    | debugLock h p => exact (debugLock_otp ht).elim .same .lock
    | rollbackProgram =>
      exact (rollbackProgram_otp ht).elim (fun hsame => .same (congrArg Otp.fixed hsame)) fun hraised => .raise _ (congrArg Otp.fixed hraised)
    | _ => exact absurd rfl hother

/-- A step does what a command can do: the clock programs nothing. -/
theorem step_otp {s t : State} (ht : step s = .next t) : OtpStep s.otp t.otp := by
  unfold step at ht
  split at ht
  · obtain rfl := Host.Outcome.next.inj ht
    exact .same (otpFixed_of_kept (tick_kept s))
  · have hfront := exec_otp ht
    exact hfront

theorem OtpStep.keeps_le {o a b : Otp} (hstep : OtpStep a b) (hle : o.le a) : o.le b := by
  obtain ⟨hhash, hlock, hlevel, hremaps⟩ := hle
  cases hstep with
  | same h =>
    obtain ⟨k, r, d, f⟩ := fixed_eq_iff.mp h
    exact ⟨fun x hx => k ▸ hhash x hx, fun hx => d ▸ hlock hx, r ▸ hlevel, f.trans hremaps⟩
  | key hash hnone h =>
    obtain ⟨-, r, d, f⟩ := fixed_eq_iff.mp h
    exact ⟨fun x hx => absurd (hnone.symm.trans (hhash x hx)) nofun, fun hx => d ▸ hlock hx, r ▸ hlevel, f.trans hremaps⟩
  | lock h =>
    obtain ⟨k, r, d, f⟩ := fixed_eq_iff.mp h
    exact ⟨fun x hx => k ▸ hhash x hx, fun _ => d, r ▸ hlevel, f.trans hremaps⟩
  | raise level h =>
    obtain ⟨k, r, d, f⟩ := fixed_eq_iff.mp h
    exact ⟨fun x hx => k ▸ hhash x hx, fun hx => d ▸ hlock hx, r ▸ hlevel.trans (Nat.le_max_left ..), f.trans hremaps⟩

theorem OtpStep.keeps_range {a b : Otp} (hstep : OtpStep a b) (hrange : a.rollback ≤ 32) : b.rollback ≤ 32 := by
  cases hstep with
  | same h | key _ _ h | lock h => exact (fixed_eq_iff.mp h).2.1.trans_le hrange
  | raise level h => exact (fixed_eq_iff.mp h).2.1.trans_le (max_le hrange (Nat.min_le_left ..))

/-! ### The obligations -/

/-- Settles O54: whatever a step does to OTP keeps what is programmed. -/
theorem stepKeepsOtp : Obligations.StepKeepsOtp := by
  unfold Obligations.StepKeepsOtp
  exact fun o s t hle ht => (step_otp ht).keeps_le hle

/-- Settles O56: every other command by what commands keep, the three by what they program. -/
theorem onlyTheirCommandsProgramOtp : Obligations.OnlyTheirCommandsProgramOtp := by
  unfold Obligations.OnlyTheirCommandsProgramOtp
  refine ⟨?others, ?key, ?lock, ?rollback⟩
  case others =>
    intro c s t ht hkey hlock hrollback
    refine otpFixed_of_kept (exec_kept ?_ ht)
    cases c with
    | customerKeyProgram h p => exact absurd rfl (hkey h p)
    | debugLock h p => exact absurd rfl (hlock h p)
    | rollbackProgram => exact absurd rfl hrollback
    | _ => rfl
  case key =>
    intro h p s t ht
    obtain hsame | ⟨hnone, hkey⟩ := customerKeyProgram_otp ht
    · obtain ⟨k, r, d, f⟩ := fixed_eq_iff.mp hsame
      exact ⟨d, r, f, fun _ => k⟩
    · obtain ⟨-, r, d, f⟩ := fixed_eq_iff.mp hkey
      exact ⟨d, r, f, fun hprogrammed => absurd hnone hprogrammed⟩
  case lock =>
    intro h p s t ht
    obtain hsame | hlock := debugLock_otp ht
    · obtain ⟨k, r, d, f⟩ := fixed_eq_iff.mp hsame
      exact ⟨k, r, f, fun hlocked => d.trans hlocked⟩
    · obtain ⟨k, r, d, f⟩ := fixed_eq_iff.mp hlock
      exact ⟨k, r, f, fun _ => d⟩
  case rollback =>
    intro s t ht
    obtain hsame | hraised := rollbackProgram_otp ht
    · rw [hsame]
      exact ⟨rfl, rfl, rfl, le_rfl⟩
    · rw [hraised]
      exact ⟨rfl, rfl, rfl, Nat.le_max_left ..⟩

/-- Settles O60: a step raises the level to at most 32; OTP is unprogrammed at reset. -/
theorem rollbackStaysInRange : Obligations.RollbackStaysInRange := by
  unfold Obligations.RollbackStaysInRange
  exact ⟨fun s t hrange ht => (step_otp ht).keeps_range hrange, rfl⟩

end Sys2Proof.Machine
end

section
/-! Laws of the PCIe function and its link (03 R80, R96; 17 R664, R665, R687; 18 R725, R726), and the proof of O16. -/
namespace Sys2Proof.Machine

/-! ### The link (17 R664; 18 R726) -/

theorem exec_pcieLinkDown {s : State} (hup : s.pcie.linkUp = true) : exec .pcieLinkDown s = .next (pcieDown (linkLoss s)) := by
  change execPcieLinkDown s = _
  rw [execPcieLinkDown, if_pos hup]

theorem exec_pcieLinkUp {s : State} (htraining : s.pcie.training = true) (hperst : s.pcie.perst = false) :
    exec .pcieLinkUp s = .next { s with pcie := { s.pcie with linkUp := true, training := false } } := by
  change execPcieLinkUp s = _
  simp only [execPcieLinkUp, htraining, hperst, Bool.not_false, Bool.and_self, if_true]

theorem exec_pciePerstNAssert {s : State} (hperst : s.pcie.perst = false) (hporst : s.pwr.porst = false) (hup : s.pcie.linkUp = true) :
    exec .pciePerstNAssert s = .next (pcieDown (linkLoss { s with pcie := { s.pcie with perst := true } })) := by
  change execPciePerstNAssert s = _
  simp only [execPciePerstNAssert, hperst, hporst, hup, Bool.or_self, Bool.false_eq_true, if_false, if_true]

theorem exec_busMasterEnableClear {s : State} (hup : s.pcie.linkUp = true) (hmaster : s.pcie.busMaster = true) :
    exec .busMasterEnableClear s = .next (linkLoss { s with pcie := { s.pcie with busMaster := false } }) := by
  change execBusMasterEnableClear s = _
  simp only [execBusMasterEnableClear, hup, hmaster, Bool.and_self, if_true]

theorem exec_d3hotEntry {s : State} (hup : s.pcie.linkUp = true) (hd0 : s.pcie.d3hot = false) :
    exec .d3hotEntry s = .next (linkLoss { s with pcie := { s.pcie with d3hot := true } }) := by
  change execD3hotEntry s = _
  simp only [execD3hotEntry, hup, hd0, Bool.not_false, Bool.and_self, if_true]

/-! ### Function-level reset (17 R687) -/

/-- The state of a function-level reset before Shepherd's part: registers and configuration space reset, the backlog emptied. -/
def functionReset (s : State) : State :=
  emptyBacklog (resetHostRegs { s with pcie := { linkUp := true, perst := s.pcie.perst, mayTrain := s.pcie.mayTrain } })

/-- What a function-level reset leaves while Shepherd runs, before it announces its start: cause 7, no test mode. -/
def flrLeft (s : State) : State :=
  { flrTasks (functionReset s) with glb := { (flrTasks (functionReset s)).glb with resetCause := 7, testMode := false } }

theorem coresLive_of_running {s : State} (hrun : s.glb.boot = .running) (htrip : s.pwr.tripped = false) : coresLive s = true := by
  simp only [coresLive, hrun, htrip, beq_self_eq_true, Bool.not_false, Bool.and_self]

theorem exec_flr {s : State} (hup : s.pcie.linkUp = true) (hrun : s.glb.boot = .running) (htrip : s.pwr.tripped = false) :
    exec .flr s = .next (deviceStarted (applyProfile (bootProfile (flrLeft s)) (flrLeft s))) := by
  have hlive : coresLive (functionReset s) = true := coresLive_of_running (s := functionReset s) hrun htrip
  change execFlr s = _
  simp only [execFlr, hup, Bool.not_true, Bool.false_eq_true, if_false]
  exact congrArg Host.Outcome.next (if_pos hlive)

/-! ### MSI-X (18 R725) -/

theorem exec_msixUnmask_vector {v : Nat} (b : Bool) (s : State) (hv : v < 64) :
    exec (.msixUnmask (.vector v b)) s = .next (sendPending { s with pcie := { s.pcie with vecMask := Tab.put s.pcie.vecMask v b } }) := by
  change execMsixUnmask (.vector v b) s = _
  simp only [execMsixUnmask, hv, if_true]

theorem exec_msixUnmask_entry {v : Nat} (a : U64) (d : U32) (s : State) (hv : v < 64) :
    exec (.msixUnmask (.entry v a d)) s = .next (sendPending { s with pcie := { s.pcie with vecMsg := Tab.put s.pcie.vecMsg v (a, d) } }) := by
  change execMsixUnmask (.entry v a d) s = _
  simp only [execMsixUnmask, hv, if_true]

/-- Settles O16: the laws of the link, of the function-level reset and of the MSI-X writes. -/
theorem pcieEventsAct : Obligations.PcieEventsAct := by
  unfold Obligations.PcieEventsAct
  refine ⟨fun s hup => ⟨exec_pcieLinkDown hup, rfl⟩, fun _ => exec_pcieLinkUp, fun _ => exec_pciePerstNAssert, fun _ => rfl,
    fun _ => exec_busMasterEnableClear, fun _ => exec_d3hotEntry, fun _ => rfl, ?flr, ?msix⟩
  case flr =>
    intro s hup hrun htrip
    exact ⟨flrLeft s, exec_flr hup hrun htrip, rfl, rfl, rfl, rfl, rfl, rfl, rfl, rfl⟩
  case msix =>
    intro b v a d s hv
    exact ⟨rfl, rfl, exec_msixUnmask_vector b s hv, exec_msixUnmask_entry a d s hv⟩

end Sys2Proof.Machine
end

section
/-! Laws of power, of the resets and of Shepherd's watchdogs (04 R123; 15 R627, R628; 17 R673 to R677, R685, R686), and the proof of O18. -/
namespace Sys2Proof.Machine

/-! ### Power and PORST_N (17 R673, R674, R675, R677) -/

theorem exec_powerOn {s : State} (hoff : s.pwr.rails = false) : exec .powerOn s = .next
    { s.send (.pin .avsVid 0 10) with
      pwr := { s.pwr with rails := true, porst := true, avs := 10 }, keep := { s.keep with supply := .io18 },
      glb := { s.glb with resetCause := 0 } } := by
  change execPowerOn s = _
  simp only [execPowerOn, hoff, Bool.false_eq_true, if_false]
  rfl

theorem exec_powerLoss {s : State} (hon : s.pwr.rails = true) : exec .powerLoss s = .next
    { coldReset 0 s with
      pwr := { (coldReset 0 s).pwr with rails := false }, keep := { (coldReset 0 s).keep with supply := .vbat } } := by
  change execPowerLoss s = _
  simp only [execPowerLoss, hon, if_true]

theorem exec_porstNAssert_reset {us : Nat} {s : State} (hon : s.pwr.rails = true) (hhigh : s.pwr.porst = false) (hlong : 10 ≤ us) :
    exec (.porstNAssert us) s = .next (coldReset 1 s) := by
  have hpulse : (!s.pwr.rails || s.pwr.porst || decide (us < 1)) = false := by
    simp only [hon, hhigh, decide_eq_false (show ¬us < 1 by omega)]; rfl
  change execPorstNAssert us s = _
  rw [execPorstNAssert, hpulse, if_neg (by decide), if_neg (by omega)]

theorem exec_porstNAssert_glitch {us : Nat} {s : State} (hshort : us < 1) : exec (.porstNAssert us) s = .next s := by
  change execPorstNAssert us s = _
  simp only [execPorstNAssert, hshort, decide_true, Bool.or_true, if_true]

theorem exec_porstNRise {b : BootPins} {s : State} (hon : s.pwr.rails = true) (hlow : s.pwr.porst = true) :
    exec (.porstNRise b) s = .next (bootFromPins b s) := by
  change execPorstNRise b s = _
  simp only [execPorstNRise, hon, hlow, Bool.and_self, if_true]

/-! ### Shepherd's start, its watchdogs, and DEVICE_RESET (04 R123; 15 R627, R628; 17 R675, R685) -/

theorem exec_shepherdStart {s : State} (hstarting : s.glb.boot = .starting) : exec .shepherdStart s = .next (shepherdStart s) := by
  change execShepherdStart s = _
  simp only [execShepherdStart, hstarting, beq_self_eq_true, if_true]

theorem exec_shepherdWatchdog {s : State} (hrun : s.glb.boot = .running) (htrip : s.pwr.tripped = false)
    (hdue : s.glb.beatAt + 50000000 ≤ s.now) : exec .shepherdWatchdog s = .next (restart 1 5 s) := by
  change execShepherdWatchdog s = _
  simp only [execShepherdWatchdog, coresLive_of_running hrun htrip, hdue, decide_true, Bool.and_self, if_true]

theorem exec_lockstepMismatch {s : State} (hrun : s.glb.boot = .running) (htrip : s.pwr.tripped = false) :
    exec .lockstepMismatch s = .next (restart 2 6 s) := by
  change execLockstepMismatch s = _
  simp only [execLockstepMismatch, coresLive_of_running hrun htrip, if_true]

/-- DEVICE_RESET completes, and then resets. -/
theorem exec_deviceReset {h : Hdr} {p : Bytes} {s : State} (ht : Taken 0x0009 h p s) (hres : resOk p [0xFF, 0, 0, 0] = true)
    (hkind : fld p 0 1 = 3 ∨ fld p 0 1 = 4) :
    exec (.deviceReset h p) s =
      .next (if fld p 0 1 = 3 then coldReset 3 (complete h 0x0009 .ok [] s) else warmReset 4 (complete h 0x0009 .ok [] s)) := by
  change execDeviceReset h p s = _
  unfold execDeviceReset
  exact command_runs ht (by simp [firstFail_cons, firstFail_nil, hres, hkind])

/-- Settles O18: the laws of power and PORST_N, of the watchdogs and of DEVICE_RESET. -/
theorem powerAndResetsAct : Obligations.PowerAndResetsAct := by
  unfold Obligations.PowerAndResetsAct
  refine ⟨fun _ => exec_powerOn, fun _ => exec_powerLoss, fun _ _ => exec_porstNAssert_reset, fun _ _ => exec_porstNAssert_glitch,
    fun _ _ => exec_porstNRise, fun _ => exec_shepherdStart, fun _ => exec_shepherdWatchdog, fun _ => exec_lockstepMismatch, ?reset⟩
  case reset =>
    intro h p s ht hres hkind
    obtain ⟨hdone, hquiet, -⟩ := complete_spec h 0x0009 .ok [] s (taken_ring ht) (taken_boot ht)
    exact ⟨_, hdone, hquiet, exec_deviceReset ht hres hkind⟩

end Sys2Proof.Machine
end

section
/-! Laws of the boot registers, the keep domain and JTAG (10 R433; 16 R631, R642, R645, R648, R651; 17 R692; 18 R703, R734; 19 R751, R761,
R773), and the proof of O19. -/
namespace Sys2Proof.Machine

/-! ### The host's image (16 R646; 17 R692; 18 R734) -/

theorem exec_glbBootGo {s : State} (hwait : s.glb.boot = .waitHost) (htrip : s.pwr.tripped = false) (hmaster : s.pcie.busMaster = true)
    (haddr : s.glb.bootAddr.toNat % 4096 = 0) (hlen : s.glb.bootLen.toNat % 4096 = 0) (hmin : 4096 ≤ s.glb.bootLen.toNat)
    (hmax : s.glb.bootLen.toNat ≤ 8388608) :
    exec .glbBootGo s = .next (settleAlert (startRead .bootImage s.glb.bootAddr.toNat s.glb.bootLen.toNat
      { s with glb := { s.glb with boot := .hostLoading } })) := by
  have hgo : (s.glb.boot == .waitHost && !s.pwr.tripped) = true := by simp [hwait, htrip]
  have hplaced : (s.glb.bootAddr.toNat % 4096 != 0 || s.glb.bootLen.toNat % 4096 != 0 || decide (s.glb.bootLen.toNat < 4096)
      || decide (8388608 < s.glb.bootLen.toNat)) = false := by simp [haddr, hlen, hmin, hmax]
  change execGlbBootGo s = _
  simp only [execGlbBootGo, hgo, hmaster, hplaced, Bool.not_true, Bool.false_eq_true, if_true, if_false]

/-- The read of the host's image is no longer outstanding. -/
def imageReadEnded (s : State) : State :=
  { s with reads := s.reads.filter (fun r => match r.purpose with | .bootImage => false | _ => true) }

/-- The device waits for the host again, with a status (17 R692 step 5). -/
def waitsAgain (st : Status) (u : State) : State :=
  { u with glb := { u.glb with boot := .waitHost, lastStatus := BitVec.ofNat 16 st.code } }

/-- What the end of the read of the host's image leads to: the image runs, or the device waits again with the status. -/
def downloadEnded (image : Option Bytes) (len : Nat) (u : State) : State :=
  match image with
  | none => waitsAgain .hostReadFailed u
  | some b =>
    match verifyImage u (pad len b) len with
    | none => loadImage (pad len b) 3 u
    | some st => waitsAgain st u

theorem exec_hostDownloadDone (image : Option Bytes) {s : State} (hloading : s.glb.boot = .hostLoading) :
    exec (.hostDownloadDone image) s = .next (settleAlert (downloadEnded image s.glb.bootLen.toNat (imageReadEnded s))) := by
  have hload : (s.glb.boot == .hostLoading) = true := by simp [hloading]
  change execHostDownloadDone image s = _
  rw [execHostDownloadDone, if_pos hload]
  cases image with
  | none => rfl
  | some b => rfl

/-! ### Timers (16 R642, R648; 18 R703) -/

theorem exec_rollbackProgram {s : State} (hrun : s.running = true) (hdue : s.glb.startedAt + 60000000000 ≤ s.now)
    (hbehind : s.otp.rollback < s.glb.fwLevel) (hlevel : s.glb.fwLevel ≤ 32) :
    exec .rollbackProgram s = .next { s with otp := { s.otp with rollback := s.glb.fwLevel } } := by
  have hraised : max s.otp.rollback (min 32 s.glb.fwLevel) = s.glb.fwLevel := by omega
  change execRollbackProgram s = _
  simp only [execRollbackProgram, hrun, hdue, hbehind, decide_true, Bool.and_self, if_true, hraised]

theorem exec_heartbeatTick {s : State} (hrun : s.running = true) :
    exec .heartbeatTick s = .next { s with glb := { s.glb with heartbeat := s.glb.heartbeat + 1, beatAt := s.now } } := by
  change execHeartbeatTick s = _
  rw [execHeartbeatTick, if_pos hrun]

theorem exec_keepSecondsTick {s : State} (hxtal : s.keep.xtal = true) (hheld : s.keep.supply ≠ .lost)
    (hroom : s.keep.seconds ≠ 0xFFFFFFFF) :
    exec .keepSecondsTick s = .next { s with keep := { s.keep with seconds := s.keep.seconds + 1, secondsAt := s.now } } := by
  have hcounts : (s.keep.xtal && s.keep.supply != .lost && s.keep.seconds != 0xFFFFFFFF#32) = true := by
    simpa [hxtal, hheld] using hroom
  change execKeepSecondsTick s = _
  rw [execKeepSecondsTick, if_pos hcounts]

/-- The counter of seconds stands at its end. -/
theorem exec_keepSecondsTick_full {s : State} (hfull : s.keep.seconds = 0xFFFFFFFF) : exec .keepSecondsTick s = .next s := by
  change execKeepSecondsTick s = _
  rw [execKeepSecondsTick, if_neg (by simp [hfull])]

/-! ### The keep domain's supply (16 R631, R645; 19 R751, R773) -/

section
variable {s : State}

theorem exec_vbatReversalLatch_io (hio : s.keep.supply = .io18) :
    exec .vbatReversalLatch s = .next { s with keep := { s.keep with inputReversed := true } } := by
  change execVbatReversalLatch s = _
  rw [execVbatReversalLatch, if_pos hio]

theorem exec_vbatReversalLatch_lost (hio : s.keep.supply ≠ .io18) : exec .vbatReversalLatch s =
    .next { s with keep := { supply := .lost, keepLost := true, inputReversed := true, xtal := s.keep.xtal } } := by
  change execVbatReversalLatch s = _
  rw [execVbatReversalLatch, if_neg hio]
  rfl

theorem exec_keepSupplySwitch_vbat (hio : s.keep.supply = .io18) (hoff : s.pwr.rails = false) :
    exec (.keepSupplySwitch false) s = .next { s with keep := { s.keep with supply := .vbat } } := by
  change execKeepSupplySwitch false s = _
  simp only [execKeepSupplySwitch, hio, hoff, Bool.false_eq_true, if_false, decide_true, Bool.not_false, Bool.and_self, if_true]

theorem exec_keepDomainReset (hio : s.keep.supply ≠ .io18) :
    exec .keepDomainReset s = .next { s with keep := s.keep.lost } := by
  change execKeepDomainReset s = _
  rw [execKeepDomainReset, if_neg hio]

theorem exec_vbatValid : exec .vbatValid s = .next { s with keep := { s.keep with
    supply := if s.keep.supply = .lost then .vbat else s.keep.supply,
    vbatReversed := s.keep.vbatReversed || s.keep.inputReversed, inputReversed := false } } := by
  change execVbatValid s = _
  have hsupply : (if s.keep.supply = .lost then { s with keep := { s.keep with supply := .vbat } } else s) =
      { s with keep := { s.keep with supply := if s.keep.supply = .lost then .vbat else s.keep.supply } } := by
    split <;> rfl
  rw [execVbatValid, hsupply]
  cases hlatch : s.keep.inputReversed with
  | false => simp [hlatch]
  | true => simp [hlatch]

end

/-! ### JTAG (10 R433; 16 R651) -/

/-- The memory that the debug port names. -/
def jtagMem (memory core : Nat) : Mem := if memory = 0 then .cm core else if memory = 1 then .kennel else .dram

theorem exec_jtagAccess_locked (j : Jtag) {s : State} (hlocked : s.otp.debugLocked = true) :
    exec (.jtagAccess j) s = .next (match j with | .boundaryScan b => s.send (.tdo b) | _ => s) := by
  change execJtagAccess j s = _
  cases j <;> simp only [execJtagAccess, hlocked, if_true]

/-- Before DEBUG_LOCK the debug port halts and resumes the control cores, and reads and writes the memory it names. -/
theorem exec_jtagAccess_unlocked (memory core addr len : Nat) (data : Bytes) {s : State} (hunlocked : s.otp.debugLocked = false) :
    exec (.jtagAccess .halt) s = .next { s with glb := { s.glb with jtagHalted := true } } ∧
    exec (.jtagAccess .resume) s = .next { s with glb := { s.glb with jtagHalted := false } } ∧
    exec (.jtagAccess (.read memory core addr len)) s = .next
      ((outsideRead (jtagMem memory core) addr len s).2.send (.tdo (outsideRead (jtagMem memory core) addr len s).1)) ∧
    exec (.jtagAccess (.write memory core addr data)) s = .next (putOutside (jtagMem memory core) addr data s) := by
  have hrun (j : Jtag) : exec (.jtagAccess j) s = execJtagAccess j s := rfl
  simp only [hrun, execJtagAccess, hunlocked, Bool.false_eq_true, if_false]
  exact ⟨trivial, trivial, rfl, rfl⟩

@[simp] theorem length_readMem (s : State) (m : Mem) (a n : Nat) : (readMem s m a n).length = n := by
  cases m <;> exact length_memRead _ _ _

/-- What an outside read makes of bytes none of which is held or dead is the bytes themselves (10 R433). -/
theorem outsideRead_plain {m : Mem} {a n : Nat} {s : State} (hheld : anyHeld s m a n = false)
    (hlive : ∀ k < n, deadByte s m (a + k) = false)
    (hopen : ∀ k < n, s.mem.held.contains ((memKey m).1, (memKey m).2, (a + k) / 128) = false) :
    outsideRead m a n s = (readMem s m a n, s) := by
  have hbyte : ∀ e ∈ (readMem s m a n).zipIdx,
      (if (s.mem.held.contains ((memKey m).1, (memKey m).2, (a + e.2) / 128) || deadByte s m (a + e.2)) = true then 0 else e.1) = e.1 := by
    intro e he
    have hk : e.2 < n := (List.snd_lt_of_mem_zipIdx he).trans_eq (length_readMem s m a n)
    rw [hopen _ hk, hlive _ hk, Bool.or_self, if_neg (by decide)]
  rw [outsideRead, hheld, List.map_congr_left hbyte, List.zipIdx_map_fst, if_neg (by decide)]

/-- Settles O19: the laws of the host's image, of the timers, of the keep domain's supply and of JTAG. -/
theorem bootAndKeepAct : Obligations.BootAndKeepAct := by
  unfold Obligations.BootAndKeepAct
  refine ⟨fun _ => exec_glbBootGo, ?download, fun _ => exec_rollbackProgram, fun _ => exec_heartbeatTick,
    fun _ => exec_keepSecondsTick, fun _ => exec_keepSecondsTick_full,
    fun s => ⟨rfl, rfl, exec_vbatReversalLatch_io, exec_vbatReversalLatch_lost⟩, fun _ => rfl,
    fun _ => exec_keepSupplySwitch_vbat, fun _ => exec_keepDomainReset, fun _ => exec_vbatValid,
    fun j _ => exec_jtagAccess_locked j, ?jtag, fun _ _ _ _ => outsideRead_plain⟩
  case download =>
    intro image s hloading
    refine ⟨imageReadEnded s, rfl, (exec_hostDownloadDone image hloading).trans ?_⟩
    generalize imageReadEnded s = u
    cases image with
    | none => rfl
    | some b => rfl
  case jtag =>
    rintro memory core addr len data m s hunlocked rfl
    exact exec_jtagAccess_unlocked memory core addr len data hunlocked

end Sys2Proof.Machine
end

section
/-! Laws of register writes without a row of their own (18 R703, R710 to R712, R717 to R719, R726), and the proof of O15. -/
namespace Sys2Proof.Machine

/-! ### BAR0 (18 R702, R717, R726) -/

section
variable {s : State} (hopen : barOpen s = true)
include hopen

/-- A write to the block of the GLB_ registers. -/
theorem exec_registerWrite_glb {off o : Nat} (hblock : blockOf off = (.glb, o)) (v : U32) :
    exec (.registerWrite (.bar0 off) v) s = .next (writeGlb o v s) := by
  change execRegisterWrite (.bar0 off) v s = _
  simp only [execRegisterWrite, hopen, hblock, Bool.not_true, Bool.false_eq_true, if_false]

/-- While Shepherd runs, a write to a ring's block. -/
theorem exec_registerWrite_ring {off n o : Nat} (hrun : s.glb.boot = .running) (hblock : blockOf off = (.ring n, o)) (v : U32) :
    exec (.registerWrite (.bar0 off) v) s = .next (writeRing n o v s) := by
  change execRegisterWrite (.bar0 off) v s = _
  simp only [execRegisterWrite, hopen, hblock, hrun, beq_self_eq_true, Bool.not_true, Bool.false_eq_true, if_false, if_true]

/-- While Shepherd runs, a write to the event ring's block. -/
theorem exec_registerWrite_evq {off o : Nat} (hrun : s.glb.boot = .running) (hblock : blockOf off = (.evq, o)) (v : U32) :
    exec (.registerWrite (.bar0 off) v) s = .next (writeEvq o v s) := by
  change execRegisterWrite (.bar0 off) v s = _
  simp only [execRegisterWrite, hopen, hblock, hrun, beq_self_eq_true, Bool.not_true, Bool.false_eq_true, if_false, if_true]

end

/-- The boot registers take a value while the boot ROM waits for the host (18 R703, R717). -/
theorem writeGlb_boot {s : State} (hwait : s.glb.boot = .waitHost) (v : U32) :
    writeGlb 0x014 v s = { s with glb := { s.glb with bootAddr := setLow s.glb.bootAddr v } } ∧
    writeGlb 0x018 v s = { s with glb := { s.glb with bootAddr := setHigh s.glb.bootAddr v } } ∧
    writeGlb 0x01C v s = { s with glb := { s.glb with bootLen := v } } := by
  simp only [writeGlb, hwait, beq_self_eq_true, if_true, and_self]

section
variable {n : Nat} {s : State} (hoff : (s.ring n).enable = false) (hidle : (s.ring n).idle = true)
include hoff hidle

/-- The base of a ring that is disabled and idle takes its lower half (18 R710). -/
theorem writeRing_base (v : U32) : writeRing n 0x00 v s = s.setRing n { s.ring n with sqBase := setLow (s.ring n).sqBase v } := by
  simp only [writeRing, hoff, hidle, Bool.not_false, Bool.and_self, if_true]

/-- A ring that is disabled and idle takes two sizes in range (18 R710, R719). -/
theorem writeRing_sizes {v : U32} (hsq : log2Ok (BitVec.ofNat 4 v.toNat) = true) (hcq : log2Ok (BitVec.ofNat 4 (v.toNat / 256)) = true) :
    writeRing n 0x10 v s =
      s.setRing n { s.ring n with sqLog2 := BitVec.ofNat 4 v.toNat, cqLog2 := BitVec.ofNat 4 (v.toNat / 256) } := by
  simp only [writeRing, hoff, hidle, hsq, hcq, Bool.not_false, Bool.and_self, if_true]

end

/-! ### Configuration space (18 R712, R726) -/

section
variable {s : State} (hup : s.pcie.linkUp = true) (v : U32)
include hup

theorem exec_registerWrite_command : exec (.registerWrite .command v) s = .next (if s.pcie.busMaster && !bit v.toNat 2 then
      linkLoss { s with pcie := { s.pcie with memSpace := bit v.toNat 1, busMaster := bit v.toNat 2 } }
    else { s with pcie := { s.pcie with memSpace := bit v.toNat 1, busMaster := bit v.toNat 2 } }) := by
  change execRegisterWrite .command v s = _
  simp only [execRegisterWrite, hup, if_true]

theorem exec_registerWrite_completionTimeout : exec (.registerWrite .completionTimeout v) s =
    .next { s with pcie := { s.pcie with cplTimeout := BitVec.ofNat 4 v.toNat } } := by
  change execRegisterWrite .completionTimeout v s = _
  simp only [execRegisterWrite, hup, if_true]

end

/-- Settles O15: the block that a write reaches, and what the block makes of it. -/
theorem registerWritesAct : Obligations.RegisterWritesAct := by
  unfold Obligations.RegisterWritesAct
  refine ⟨fun v s hopen => exec_registerWrite_glb (o := 0x034) hopen rfl v, ?boot, ?base, ?sizes,
    fun off n v s hopen hrun hblock => exec_registerWrite_ring hopen hrun hblock v,
    fun off v s hopen hrun hblock => exec_registerWrite_evq hopen hrun hblock v,
    fun v _ hup => exec_registerWrite_command hup v, fun v _ hup => exec_registerWrite_completionTimeout hup v⟩
  case boot =>
    intro v s hopen hwait
    obtain ⟨hlow, hhigh, hlen⟩ := writeGlb_boot hwait v
    exact ⟨hlow ▸ exec_registerWrite_glb hopen rfl v, hhigh ▸ exec_registerWrite_glb hopen rfl v,
      hlen ▸ exec_registerWrite_glb hopen rfl v⟩
  case base =>
    intro off n v s hopen hrun hblock hoff hidle
    rw [exec_registerWrite_ring hopen hrun hblock, writeRing_base hoff hidle]
  case sizes =>
    intro off n v s hopen hrun hblock hoff hidle hsq hcq
    rw [exec_registerWrite_ring hopen hrun hblock, writeRing_sizes hoff hidle hsq hcq]

end Sys2Proof.Machine
end

section
/-! Laws of the timebase registers, the keep mirror's queue and the counter latch (15 R621; 16 R640; 18 R728 to R733), and the proof of
O17. -/
namespace Sys2Proof.Machine

/-! ### The timebase (18 R728, R729) -/

section
variable {s : State} (hopen : barOpen s = true)
include hopen

theorem exec_timeNowLoRead : exec .timeNowLoRead s =
    .next { s.send (.reply (le 4 s.us) false) with glb := { s.glb with nowHi := BitVec.ofNat 32 (s.us / 2 ^ 32) } } := by
  change execTimeNowLoRead s = _
  rw [execTimeNowLoRead, if_pos hopen]

theorem exec_timeCapture : exec .timeCapture s = .next { s with glb := { s.glb with captured := BitVec.ofNat 64 s.us } } := by
  change execTimeCapture s = _
  rw [execTimeCapture, if_pos hopen]

/-! ### The keep mirror's queue (18 R730, R731) -/

variable (hrun : s.glb.boot = .running)
include hrun

theorem exec_keepwUserWrite (w : Nat) (v : U32) :
    exec (.keepwUserWrite w v) s = .next (queueKeep { settings := false, word := w, value := v } s) := by
  change execKeepwUserWrite w v s = _
  simp only [execKeepwUserWrite, hopen, hrun, Bool.not_true, bne_self_eq_false, Bool.false_eq_true, if_false]

theorem exec_keepwSetWrite (w : Nat) (v : U32) : exec (.keepwSetWrite w v) s = .next (if settingOk s w v.toNat
    then queueKeep { settings := true, word := w, value := v } s else { s with keep := { s.keep with rejected := true } }) := by
  change execKeepwSetWrite w v s = _
  simp only [execKeepwSetWrite, hopen, hrun, Bool.not_true, bne_self_eq_false, Bool.false_eq_true, if_false]

/-! ### The counter latch (15 R621; 18 R733) -/

theorem exec_perfLatch (v : U32) (hidle : s.perf.busy = false) (hselects : v.toNat % 4 ≠ 0) : exec (.perfLatch v) s = .next
    { foldBytes s with perf := { (foldBytes s).perf with
        busy := true, sel := BitVec.ofNat 2 v.toNat, latchAt := (foldBytes s).us, latchPerf := (foldBytes s).cnt.perf,
        latchErrors := Tab.put (foldBytes s).cnt.errors 0x20C (foldBytes s).evq.lostTotal } } := by
  change execPerfLatch v s = _
  simp only [execPerfLatch, hopen, hrun, hidle, hselects, Bool.not_true, bne_self_eq_false, decide_false, Bool.or_self, Bool.false_eq_true,
    if_false]

end

theorem exec_keepwQueueEntry {w : KeepWrite} {rest : List KeepWrite} {s : State} (hrun : s.running = true)
    (hqueue : s.keep.queue = w :: rest) : exec .keepwQueueEntry s = .next
      (if w.settings then writeSettings [(w.word, w.value)] { s with keep := { s.keep with queue := rest } }
        else writeUser w.word w.value { s with keep := { s.keep with queue := rest } }) := by
  change execKeepwQueueEntry s = _
  simp only [execKeepwQueueEntry, hrun, hqueue, Bool.not_true, Bool.false_eq_true, if_false]

theorem exec_perfLatchDone {s : State} (hbusy : s.perf.busy = true) : exec .perfLatchDone s = .next
    { s with perf := { s.perf with
        busy := false, time := BitVec.ofNat 64 s.perf.latchAt, perfValid := s.perf.perfValid || s.perf.sel.getLsbD 0,
        errorsValid := s.perf.errorsValid || s.perf.sel.getLsbD 1,
        perfSet := if s.perf.sel.getLsbD 0 then s.perf.latchPerf else s.perf.perfSet,
        errorSet := if s.perf.sel.getLsbD 1 then s.perf.latchErrors else s.perf.errorSet } } := by
  change execPerfLatchDone s = _
  rw [execPerfLatchDone, if_pos hbusy]

/-- Settles O17: the laws of the timebase registers, the keep mirror's queue and the counter latch. -/
theorem timeKeepPerfAct : Obligations.TimeKeepPerfAct := by
  unfold Obligations.TimeKeepPerfAct
  refine ⟨fun _ => exec_timeNowLoRead, fun _ => exec_timeCapture, fun w v s hopen hrun => exec_keepwUserWrite hopen hrun w v, ?settings,
    fun _ _ _ => exec_keepwQueueEntry, fun v s hopen hrun => exec_perfLatch hopen hrun v, fun _ => exec_perfLatchDone⟩
  case settings =>
    intro w v s hopen hrun hroom
    rw [exec_keepwSetWrite hopen hrun, queueKeep, if_pos hroom]

end Sys2Proof.Machine
end

section
/-! What the passing of one microsecond leaves (03 R9; 08 R332; 14 R582; 15 R615), and the proof of O2. -/
namespace Sys2Proof.Machine

/-- The state but for reports and for what counts or follows the time: the counters, the cores, the offset of the timebase, the pack. -/
def State.untimed (s : State) : State := { s.quiet with cnt := {}, cores := [], shift := 0, pack := {} }

theorem untimed_perfAdd (off n : Nat) (s : State) : (perfAdd off n s).untimed = s.untimed :=
  perfAdd_leaves (fun _ => rfl) (fun _ _ => rfl) off n s

theorem untimed_foldBytes (s : State) : (foldBytes s).untimed = s.untimed := by
  unfold foldBytes
  dsimp only
  split
  · rfl
  · rw [untimed_perfAdd, untimed_perfAdd]
    rfl

theorem untimed_coreTick (s : State) (c : Nat) : (coreTick s c).untimed = s.untimed := by
  have hcycles (off n : Nat) (k : Core) : (perfAdd off n (s.setCore c k)).untimed = s.untimed := untimed_perfAdd off n _
  unfold coreTick
  dsimp only
  split
  · rfl
  · split
    · rw [untimed_perfAdd, hcycles]
    · exact hcycles ..

theorem untimed_slewTick (s : State) : (slewTick s).untimed = s.untimed := by
  unfold slewTick
  split <;> rfl

/-- A tick moves the timebase on by a microsecond, and leaves what neither counts nor follows the time. -/
theorem untimed_tick (s : State) : (tick s).untimed = { s with now := s.now + 1000 }.untimed := by
  rw [tick, untimed_slewTick, foldl_keeps State.untimed untimed_coreTick, untimed_foldBytes]

/-- On an empty queue a step is a tick. -/
theorem step_idle {s : State} (hidle : s.pending = []) : step s = .next (tick s) := by
  rw [step, hidle]

/-- Settles O2: the fields it names are among what a tick leaves. -/
theorem stepIdleTicks : Obligations.StepIdleTicks := by
  unfold Obligations.StepIdleTicks
  intro s hidle
  have hleft {α : Type} (field : State → α) := congrArg field (untimed_tick s)
  exact ⟨tick s, step_idle hidle, (hleft State.now :), (hleft State.pending :).trans hidle, (hleft State.streams :), (hleft State.models :),
    (hleft State.jobs :), (hleft State.mem :), (hleft State.cam :), (hleft State.dram :), (hleft (fun t => t.otp.fixed) :)⟩

end Sys2Proof.Machine
end

section
/-! Laws of memory as the host reaches it, through BAR2 and by DEBUG_READ (04 R167; 18 R713, R715, R736, R737), and the proof of O26. -/
namespace Sys2Proof.Machine

/-! ### BAR2 (18 R713, R715, R736, R737) -/

theorem exec_bar2Read_kennel {off n a : Nat} {w : Window} {s : State} (hopen : barOpen s = true)
    (hwindow : bar2Window s off n false = some w) (hplace : bar2At s w off = some (.kennel, a))
    (hplain : ∀ k < n, deadByte s .kennel (a + k) = false ∧ s.mem.held.contains (1, 0, (a + k) / 128) = false)
    (hheld : anyHeld s .kennel a n = false) :
    exec (.bar2Read off n []) s = .next (s.send (.reply (readMem s .kennel a n) false)) := by
  have hfound : foundErrors none [] s = s := rfl
  have hread : outsideRead .kennel a n s = (readMem s .kennel a n, s) :=
    outsideRead_plain hheld (fun k hk => (hplain k hk).1) (fun k hk => (hplain k hk).2)
  have hwhole : (List.range n).any (fun k => deadByte s .kennel (a + k) &&
      !s.mem.held.contains ((memKey .kennel).1, (memKey .kennel).2, (a + k) / 128)) = false := by
    rw [List.any_eq_false]
    intro k hk
    simp [(hplain k (List.mem_range.mp hk)).1]
  change execBar2Read off n [] s = _
  simp only [execBar2Read, hopen, Bool.not_true, Bool.false_eq_true, if_false, hwindow, Option.bind_some, hplace, hfound, hread, hwhole]

theorem exec_bar2Write_kennel {off a : Nat} {data : Bytes} {w : Window} {s : State} (hopen : barOpen s = true)
    (hwindow : bar2Window s off data.length true = some w) (hplace : bar2At s w off = some (.kennel, a)) :
    exec (.bar2Write off data) s = .next (putData .kennel a data false (received data.length s)) := by
  have hopen' : barOpen (received data.length s) = true := hopen
  have hwindow' : bar2Window (received data.length s) off data.length true = some w := hwindow
  have hplace' : bar2At (received data.length s) w off = some (.kennel, a) := hplace
  change execBar2Write off data s = _
  simp only [execBar2Write, hopen', Bool.not_true, Bool.false_eq_true, if_false, hwindow', Option.bind_some, hplace', putOutside]

/-! ### DEBUG_READ (04 R167) -/

/-- The words of a range that lies whole in one region. -/
theorem regionWords_within {r : Region} {off n : Nat} (hfits : off + 8 * n ≤ r.len) (hsome : 0 < n) :
    regionWords [r] off n = (List.range n).map (fun i => (r.mem, r.base + off + 8 * i)) := by
  have hmin : min n ((r.len - off) / 8) = n := by omega
  simp only [regionWords, if_neg (show ¬n = 0 by omega), if_neg (show ¬r.len ≤ off by omega), hmin, List.append_nil]

/-- A DEBUG_READ asks for words of the one Kennel region of a live stream, none of them held or poisoned (04 R167). -/
structure PlainKennelRead (p : Bytes) (s : State) (r : Region) : Prop where
  stream : fld p 0 1 = 1
  kennel : fld p 1 1 = 1
  context : fld p 4 4 < 32
  live : admitted s (fld p 4 4) = true
  region : (s.stream (fld p 4 4)).regions.filter (fun r => r.mem == .kennel) = [r]
  mem : r.mem = .kennel
  nonempty : 8 ≤ fld p 12 4
  words : fld p 12 4 % 8 = 0
  fits : fld p 8 4 + fld p 12 4 ≤ r.len
  unheld : ∀ k < fld p 12 4, anyHeld s .kennel (r.base + fld p 8 4 + k) 8 = false
  sound : ∀ k < fld p 12 4, poisoned s .kennel (r.base + fld p 8 4 + k) = false

/-- Where those words lie. -/
def kennelPlaces (p : Bytes) (r : Region) : List (Mem × Nat) :=
  (List.range (fld p 12 4 / 8)).map (fun i => (.kennel, r.base + fld p 8 4 + 8 * i))

/-- The bytes of those words. -/
def kennelWords (p : Bytes) (s : State) (r : Region) : Bytes :=
  (List.range (fld p 12 4 / 8)).flatMap (fun i => readMem s .kennel (r.base + fld p 8 4 + 8 * i) 8)

/-- What holds of each word of such a read holds of each place it reads. -/
theorem kennelPlaces_forall {p : Bytes} {r : Region} {good : Mem × Nat → Prop}
    (hgood : ∀ k < fld p 12 4, good (.kennel, r.base + fld p 8 4 + k)) : ∀ e ∈ kennelPlaces p r, good e := by
  intro e he
  obtain ⟨i, hi, rfl⟩ := List.mem_map.mp he
  have hword := List.mem_range.mp hi
  exact hgood _ (by omega)

section
variable {p : Bytes} {s : State} {r : Region} (hr : PlainKennelRead p s r)
include hr

theorem kennelWords_ne_nil : kennelWords p s r ≠ [] := by
  have hword : 0 < fld p 12 4 / 8 := Nat.div_pos hr.nonempty (by decide)
  intro hnone
  have hfirst := List.flatMap_eq_nil_iff.mp hnone 0 (List.mem_range.mpr hword)
  exact absurd (congrArg List.length hfirst) (by rw [length_readMem]; decide)

/-- Such a read delivers its bytes and strikes nothing. -/
theorem debugBytes_kennel : debugBytes p [] s = (.ok, kennelWords p s r, s) := by
  have hword : 0 < fld p 12 4 / 8 := Nat.div_pos hr.nonempty (by decide)
  have hfits := hr.fits
  have hfound : foundErrors (some 4) [] s = s := rfl
  have hregions : debugRegions s 1 (fld p 4 4) = some (s.stream (fld p 4 4)).regions := by
    simp [debugRegions, hr.context, hr.live]
  have hplaces : regionWords [r] (fld p 8 4) (fld p 12 4 / 8) = kennelPlaces p r :=
    (regionWords_within (by omega) hword).trans (by rw [hr.mem, kennelPlaces])
  have hopen : (kennelPlaces p r).any (fun e => anyHeld s e.1 e.2 8) = false :=
    List.any_eq_false.mpr (kennelPlaces_forall fun k hk => Bool.eq_false_iff.mp (hr.unheld k hk))
  have hsound : (kennelPlaces p r).takeWhile (fun e => !poisoned s e.1 e.2) = kennelPlaces p r :=
    List.takeWhile_eq_self_iff.mpr (kennelPlaces_forall fun k hk => by rw [hr.sound k hk]; rfl)
  simp only [debugBytes, hr.stream, hregions, hr.kennel, Nat.one_ne_zero, if_false, hr.region, hplaces, hopen, Bool.false_eq_true, hfound, hsound]
  simp only [kennelPlaces, kennelWords, List.length_map, List.length_range, lt_irrefl, if_false, if_true, List.flatMap_map]

/-- DEBUG_READ of this device's own Kennel words, taken with fields its rules allow, delivers them and completes. -/
theorem exec_debugRead_kennel {h : Hdr} (ht : Taken 0x0801 h p s) (hres : resOk p ([0xFF, 0xFF, 0x0F, 0x07] ++ full 20) = true)
    (hoff : fld p 8 4 % 8 = 0) (hmax : fld p 12 4 ≤ 4096) (hdest : destOk h (fld p 16 8) = true)
    (hpos : bits (fld p 3 1) 0 3 = s.glb.packPos.toNat) :
    exec (.debugRead h p []) s = .next (complete h 0x0801 .ok [] (deliverData h (fld p 16 8) (kennelWords p s r) s)) := by
  have hself : debugPos s (bits (fld p 3 1) 0 3) = true := by
    simp [debugPos, hpos]
  have hdata : (kennelWords p s r).isEmpty = false := List.isEmpty_eq_false_iff.mpr (kennelWords_ne_nil hr)
  change execDebugRead h p [] s = _
  unfold execDebugRead
  refine (command_runs ht ?_).trans ?_
  · simpa [firstFail_cons, firstFail_nil, hr.stream, hr.kennel, hoff, hr.nonempty, hmax, hr.words, hdest, hself] using hres
  · simp only [hpos, if_true, debugBytes_kennel hr, debugDone, hdata, Bool.false_eq_true, if_false]
    rfl

end

/-- Settles O26: the laws of BAR2 and of DEBUG_READ. -/
theorem windowAccessesAct : Obligations.WindowAccessesAct := by
  unfold Obligations.WindowAccessesAct
  refine ⟨fun _ _ _ _ _ => exec_bar2Read_kennel, ?write, ?debug⟩
  case write =>
    intro off a data w s hopen hwindow hplace
    exact ⟨_, exec_bar2Write_kennel hopen hwindow hplace, rfl, rfl, rfl, rfl⟩
  case debug =>
    rintro h p s r _ _ ht hres hstream hkennel rfl rfl hoff hsome hmax hwords hdest hpos hid hlive hregion hfits hmem hsound hunheld
    exact answersData_of_complete (taken_ring ht) (taken_boot ht) (exec_debugRead_kennel
      ⟨hstream, hkennel, hid, hlive, hregion, hmem, hsome, hwords, hfits, hunheld, hsound⟩ ht hres hoff hmax hdest hpos)

end Sys2Proof.Machine
end

section
/-! What one step takes from the queue (INVENTORY.md Agents; 04 R114), and the proof of O55. -/
namespace Sys2Proof.Machine

/-- The queue and the fuses are part of what is kept. -/
theorem queue_fuses_of_kept {s t : State} (h : t.kept = s.kept) : t.pending = s.pending ∧ t.glb.fuses = s.glb.fuses :=
  ⟨(congrArg (fun k => k.1) h :), (congrArg (fun k => k.2.2) h :)⟩

/-- A host command keeps the queue and the fuses where its effect does (03 R73). -/
theorem command_queue_fuses {op : Nat} {h : Hdr} {p : Bytes} {len form state : List (Bool × Status)} {act : State → State} {s t : State}
    (ht : command op h p len form state act s = .next t)
    (hact : (act s).pending = s.pending ∧ (act s).glb.fuses = s.glb.fuses) : t.pending = s.pending ∧ t.glb.fuses = s.glb.fuses := by
  obtain hkept | ⟨-, rfl⟩ := command_cases ht
  · exact queue_fuses_of_kept hkept
  · exact hact

/-- No command changes the queue or the fuses: most keep all of what commands keep, the three that program OTP these two. -/
theorem exec_queue_fuses {c : Instr} {s t : State} (ht : exec c s = .next t) : t.pending = s.pending ∧ t.glb.fuses = s.glb.fuses := by
  by_cases hother : programsOtp c = false
  · exact queue_fuses_of_kept (exec_kept hother ht)
  · cases c with
    | customerKeyProgram h p =>
      change execCustomerKeyProgram h p s = _ at ht
      unfold execCustomerKeyProgram at ht
      exact command_queue_fuses ht (queue_fuses_of_kept (complete_kept ..) :)
    | debugLock h p =>
      change execDebugLock h p s = _ at ht
      unfold execDebugLock at ht
      exact command_queue_fuses ht (queue_fuses_of_kept (complete_kept ..) :)
    | rollbackProgram =>
      obtain rfl := Host.Outcome.next.inj ht
      split <;> exact ⟨rfl, rfl⟩
    | _ => exact absurd rfl hother

/-- Settles O55: an empty queue passes time, a command at its front is run on the rest of it. -/
theorem stepConsumesOne : Obligations.StepConsumesOne := by
  unfold Obligations.StepConsumesOne
  intro s t ht
  cases hqueue : s.pending with
  | nil =>
    obtain rfl := Host.Outcome.next.inj ((step_idle hqueue).symm.trans ht)
    obtain ⟨hpending, hfuses⟩ := queue_fuses_of_kept (tick_kept s)
    exact ⟨hpending.trans hqueue, hfuses⟩
  | cons c cs =>
    rw [step, hqueue] at ht
    exact exec_queue_fuses ht

end Sys2Proof.Machine
end
section
/-! The system commands that report (04 R113, R114, R116, R118, R120, R166), and the proof of O3. -/
namespace Sys2Proof.Machine

/-- What a command that is taken does when completing is its last act (03 R75). -/
theorem answers_of_taken {c : Instr} {op : Nat} {h : Hdr} {p : Bytes} {st : Status} {res : Bytes} {s u : State} (ht : Taken op h p s)
    (hboot : u.glb.boot = s.glb.boot) (he : exec c s = .next (complete h op st res u)) : Answers c h op st res s u :=
  answers_of_complete (taken_ring ht) (hboot.trans (taken_boot ht)) he

/-- The same where it delivers data before (04 R111). -/
theorem answersData_of_taken {c : Instr} {op : Nat} {h : Hdr} {p : Bytes} {res : Bytes} {dest : Nat} {d : Bytes} {s u : State}
    (ht : Taken op h p s) (hboot : u.glb.boot = s.glb.boot) (he : exec c s = .next (complete h op .ok res (deliverData h dest d u))) :
    AnswersData c h op res dest d s u :=
  answersData_of_complete (taken_ring ht) (hboot.trans (taken_boot ht)) he

theorem exec_nop {h : Hdr} (p : Bytes) {s : State} (ht : Taken 0x0000 h [] s) :
    exec (.nop h p) s = .next (complete h 0x0000 .ok [] s) :=
  romCommand_runs ht rfl

theorem exec_getInfo {h : Hdr} (p : Bytes) {s : State} (ht : Taken 0x0001 h [] s) :
    exec (.getInfo h p) s = .next (complete h 0x0001 .ok (infoResult s) s) :=
  romCommand_runs ht rfl

/-- The state in which RESYNC has been counted (18 R711). -/
def resynced (s : State) : State := { s with glb := { s.glb with snapshots := s.glb.snapshots + 1 } }

theorem exec_resync {h : Hdr} {p : Bytes} {s : State} (ht : Taken 0x0002 h p s) (hdest : destOk h (fld p 0 8) = true)
    (hsome : h.ring = 15 ∨ fld p 0 8 ≠ 0) :
    exec (.resync h p) s = .next (complete h 0x0002 .ok (le 8 s.us) (deliverData h (fld p 0 8) (summary h s) (resynced s))) := by
  change execResync h p s = _
  unfold execResync
  exact command_runs ht (by simp [firstFail_cons, firstFail_nil, hdest, hsome])

theorem exec_keepRead {h : Hdr} {p : Bytes} {s : State} (ht : Taken 0x0004 h p s)
    (hres : resOk p ([0xFF, 0xFF, 0xFF, 0] ++ full 8) = true) (harea : fld p 0 1 ≤ 3) (hfirst : fld p 1 1 ≤ 63) (hsome : 1 ≤ fld p 2 1)
    (hfits : fld p 1 1 + fld p 2 1 ≤ 64) (hdest : destOk h (fld p 4 8) = true) {d : Bytes}
    (hd : d = (List.range (fld p 2 1)).flatMap (fun i => keepEntry s (fld p 0 1) (fld p 1 1 + i))) :
    exec (.keepRead h p) s = .next (complete h 0x0004 .ok (le 4 d.length) (deliverData h (fld p 4 8) d s)) := by
  have hcount : fld p 2 1 ≤ 64 := by omega
  subst hd
  change execKeepRead h p s = _
  unfold execKeepRead
  exact command_runs ht (by simpa [firstFail_cons, firstFail_nil, harea, hfirst, hsome, hcount, hfits, hdest] using hres)

section
variable {h : Hdr} {p : Bytes} {s : State} (ht : Taken 0x0006 h [] s) (hres : resOk p ([0xFF, 0xFF, 0, 0] ++ full 8) = true)
include ht hres

/-- FAULT_EXPORT to host memory (04 R120). -/
theorem exec_faultExport_host (htarget : fld p 0 1 = 1) (hring : h.ring ≠ 15) (hpart : fld p 1 1 = 0) (hdest : destOk h (fld p 4 8) = true) :
    exec (.faultExport h p) s = .next (complete h 0x0006 .ok (le 4 (exportBytes h true 0 s).length)
      (deliverData h (fld p 4 8) (exportBytes h true 0 s) s)) := by
  change execFaultExport h p s = _
  unfold execFaultExport
  refine (romCommand_runs ht ?_).trans ?_
  · simpa [firstFail_cons, firstFail_nil, htarget, hring, hpart, hdest] using hres
  · simp [htarget, taken_boot ht]

/-- FAULT_EXPORT into the port's response buffer (04 R120, R111). -/
theorem exec_faultExport_port (htarget : fld p 0 1 = 2) (hring : h.ring = 15) (hpart : fld p 1 1 ≤ 1) (hdest : fld p 4 8 = 0) {d : Bytes}
    (hd : d = if fld p 1 1 = 1 then summary h s else exportBytes h false 0 s) :
    exec (.faultExport h p) s = .next (complete h 0x0006 .ok (le 4 d.length) (deliverData h 0 d s)) := by
  subst hd
  change execFaultExport h p s = _
  unfold execFaultExport
  refine (romCommand_runs ht ?_).trans ?_
  · simpa [firstFail_cons, firstFail_nil, htarget, hring, hpart, hdest] using hres
  · simp [htarget, hdest, taken_boot ht]

end

/-- Folding the byte counters touches counters and reports alone (15 R615). -/
theorem boot_foldBytes (s : State) : (foldBytes s).glb.boot = s.glb.boot := (congrArg (fun t => t.glb.boot) (untimed_foldBytes s) :)

theorem exec_countersSnapshot {h : Hdr} {p : Bytes} {s : State} (ht : Taken 0x0800 h p s)
    (hres : resOk p (full 4 ++ [7, 0, 0, 0] ++ full 8) = true) (hdest : destOk h (fld p 8 8) = true) {d : Bytes}
    (hd : d = snapshot (fld p 0 4) (fld p 4 1) (foldBytes s)) :
    exec (.countersSnapshot h p) s = .next (complete h 0x0800 .ok (le 4 d.length ++ le 4 0 ++ le 8 (foldBytes s).us)
      (deliverData h (fld p 8 8) d (foldBytes s))) := by
  subst hd
  change execCountersSnapshot h p s = _
  unfold execCountersSnapshot
  exact command_runs ht (by simpa [firstFail_cons, firstFail_nil, hdest] using hres)

/-- Settles O3: each command completes with its result, its data delivered before. -/
theorem systemReportsAnswer : Obligations.SystemReportsAnswer := by
  unfold Obligations.SystemReportsAnswer
  refine ⟨?nop, ?getInfo, ?resync, ?keepRead, ?exportHost, ?exportPort, ?snapshot⟩
  case nop => exact fun h p s ht => answers_of_taken ht rfl (exec_nop p ht)
  case getInfo => exact fun h p s ht => answers_of_taken ht rfl (exec_getInfo p ht)
  case resync =>
    exact fun h p s ht hdest hsome => answersData_of_taken ht rfl (exec_resync ht hdest hsome)
  case keepRead =>
    exact fun h p s ht hres harea hfirst hsome hfits hdest =>
      answersData_of_taken ht rfl (exec_keepRead ht hres harea hfirst hsome hfits hdest rfl)
  case exportHost =>
    exact fun h p s ht hres htarget hring hpart hdest _ =>
      answersData_of_taken ht rfl (exec_faultExport_host ht hres htarget hring hpart hdest)
  case exportPort =>
    exact fun h p s ht hres htarget hring hpart hdest =>
      answersData_of_taken ht rfl (exec_faultExport_port ht hres htarget hring hpart hdest rfl)
  case snapshot =>
    exact fun h p s ht hres hdest =>
      answersData_of_taken ht (boot_foldBytes s) (exec_countersSnapshot ht hres hdest rfl)

end Sys2Proof.Machine
end

section
/-! What a slot's form, a fence and GET_INFO's result say (03 R73, R74; 04 R113, R114), and the proofs of O47 and O48. -/
namespace Sys2Proof.Machine

/-- A direct slot whose opcode has one length of at most 48 bytes is refused for its length alone (03 R73). -/
theorem slotForm_of_length {b : Bytes} {n : Nat} {port : Bool} (hdirect : bit (fld b 4 1) 0 = false)
    (hrow : opForm (fld b 0 2) = some { lenOk := fun l => l == n, indirect := false, port := port }) (hshort : n ≤ 48) :
    slotForm b = if fld b 6 2 = n then none else some .badLength := by
  by_cases hlen : fld b 6 2 = n
  · simp [slotForm, hrow, hdirect, hlen, Nat.not_lt.mpr hshort]
  · simp [slotForm, hrow, hlen]

/-- A command with FENCE that can run finds no earlier one of its ring (03 R74). -/
theorem earlier_of_fence {h : Hdr} {s : State} (hrun : canRun h s = true) (hfence : h.fence = true) : earlier h s = [] := by
  simp only [canRun, waits, hfence, Bool.true_and, Bool.and_eq_true, Bool.not_eq_true', Bool.or_eq_false_iff, Bool.not_eq_false',
    List.isEmpty_iff] at hrun
  exact hrun.2.2

/-- While an earlier command is in flight, one with FENCE waits (03 R74). -/
theorem canRun_of_earlier {h : Hdr} {s : State} (hfence : h.fence = true) (hearlier : earlier h s ≠ []) : canRun h s = false :=
  Bool.eq_false_iff.mpr fun hrun => hearlier (earlier_of_fence hrun hfence)

/-- A command whose turn has not come changes nothing (03 R74). -/
theorem command_waits {op : Nat} {h : Hdr} {p : Bytes} {len form state : List (Bool × Status)} {act : State → State} {s : State}
    (hwaits : canRun h s = false) : command op h p len form state act s = .next s := by
  simp [command, hwaits]

/-- Settles O47: the form of its slot, its completion, and what FENCE waits for. -/
theorem nopResult : Obligations.NopResult := by
  unfold Obligations.NopResult
  refine ⟨?form, ?taken, ?fenced⟩
  case form =>
    intro b _ hop hdirect
    exact slotForm_of_length hdirect (congrArg opForm hop) (Nat.zero_le _)
  case taken =>
    exact fun h p s ht => ⟨answers_of_taken ht rfl (exec_nop p ht), earlier_of_fence ht.1⟩
  case fenced =>
    intro h p s hring hfence hearlier
    have hport : h.ring ≠ 15 := by omega
    change romCommand 0x0000 h [] [] _ s = _
    simp only [romCommand, hport, decide_false, Bool.false_and, Bool.false_eq_true, if_false]
    exact command_waits (canRun_of_earlier hfence hearlier)

/-! ### The table of GET_INFO (04 R114) -/

/-- A field behind the first one of a layout. -/
theorem fld_skip {m off : Nat} (v : Nat) (r : Bytes) (n : Nat) (hoff : m ≤ off) : fld (le m v ++ r) off n = fld r (off - m) n := by
  have hat := fld_append_right (le m v) r (off - m) n
  rwa [length_le, Nat.add_sub_cancel' hoff] at hat

theorem fld_le (n v : Nat) : fld (le n v) 0 n = v % 256 ^ n := by
  rw [← List.append_nil (le n v), fld_le_append]

/-- The fields of the RESULT, each at its offset. -/
theorem infoResult_fields (s : State) : fld (infoResult s) 0 2 = 0x3216 ∧ fld (infoResult s) 2 1 = s.glb.stepping.toNat % 256 ∧
    fld (infoResult s) 3 1 = romVersion s % 256 ∧ fld (infoResult s) 4 4 = fwShown s % 2 ^ 32 ∧ fld (infoResult s) 8 2 = capBits s % 2 ^ 16 ∧
    fld (infoResult s) 10 2 = dramMaxRate s % 2 ^ 16 ∧ fld (infoResult s) 12 1 = 16 ∧
    fld (infoResult s) 13 1 = (if s.glb.stepping = 0xA0 then 4 else 8) % 256 ∧
    fld (infoResult s) 14 1 = (b2n s.glb.gradeE + 2 * b2n s.otp.keyHash.isSome + 4 * b2n s.otp.debugLocked + 8 * b2n s.glb.testPins) % 256 ∧
    fld (infoResult s) 15 1 = (s.otp.rollback + 64 * s.glb.bootSrc.toNat) % 256 := by
  simp [infoResult, fld_skip, fld_le_append, fld_le]

/-- The capability bits (04 R114). -/
theorem capBits_bits (s : State) : bit (capBits s) 0 = s.glb.capCamera ∧ bit (capBits s) 1 = s.glb.capFyx ∧
    bit (capBits s) 2 = (s.glb.stepping != 0xA0) ∧ bit (capBits s) 3 = true ∧ bit (capBits s) 4 = (s.glb.stepping != 0xA0) ∧
    capBits s < 32 := by
  unfold capBits
  generalize (s.glb.stepping != 0xA0) = newer
  cases s.glb.capCamera <;> cases s.glb.capFyx <;> cases newer <;> decide

/-- The flags of byte 14 (04 R114). -/
theorem infoFlags_bits (a b c d : Bool) : b2n a + 2 * b2n b + 4 * b2n c + 8 * b2n d < 256 ∧
    bit (b2n a + 2 * b2n b + 4 * b2n c + 8 * b2n d) 0 = a ∧ bit (b2n a + 2 * b2n b + 4 * b2n c + 8 * b2n d) 1 = b ∧
    bit (b2n a + 2 * b2n b + 4 * b2n c + 8 * b2n d) 2 = c ∧ bit (b2n a + 2 * b2n b + 4 * b2n c + 8 * b2n d) 3 = d := by
  cases a <;> cases b <;> cases c <;> cases d <;> decide

/-- The rollback count and the boot straps of byte 15 (04 R114). -/
theorem infoLast_bits {r : Nat} (hr : r ≤ 32) (b : BitVec 2) :
    bits ((r + 64 * b.toNat) % 256) 0 6 = r ∧ bits ((r + 64 * b.toNat) % 256) 6 2 = b.toNat := by
  have hb := b.isLt
  simp only [bits]
  omega

theorem length_infoResult (s : State) : (infoResult s).length = 16 := by
  simp [infoResult]

theorem fwShown_lt (s : State) : fwShown s < 2 ^ 32 := by
  unfold fwShown
  split
  · exact s.glb.fwVersion.isLt
  · decide

/-- Settles O48: the completion, and the fields of its table. -/
theorem getInfoResult : Obligations.GetInfoResult := by
  unfold Obligations.GetInfoResult
  refine ⟨fun h p s ht => answers_of_taken ht rfl (exec_getInfo p ht), ?table⟩
  intro s b0 hstepping hrollback
  obtain ⟨hpart, hstep, hrom, hfw, hcap, hrate, hcores, hpack, hflags, hlast⟩ := infoResult_fields s
  obtain ⟨hcamera, hfyx, hb0, hbit3, hbit4, hcaps⟩ := capBits_bits s
  obtain ⟨hflagsLt, hgrade, hkey, hlock, hpins⟩ := infoFlags_bits s.glb.gradeE s.otp.keyHash.isSome s.otp.debugLocked s.glb.testPins
  obtain ⟨hlevel, hstraps⟩ := infoLast_bits hrollback s.glb.bootSrc
  have hnewer : (s.glb.stepping != 0xA0) = b0 := by cases b0 <;> simp [hstepping]
  rw [Nat.mod_eq_of_lt (by omega)] at hcap
  rw [Nat.mod_eq_of_lt (fwShown_lt s)] at hfw
  rw [Nat.mod_eq_of_lt hflagsLt] at hflags
  rw [hpart, hstep, hrom, hfw, hcap, hrate, hcores, hpack, hflags, hlast]
  refine ⟨length_infoResult s, rfl, ?_, ?_, ?_, hcamera, hfyx, hb0.trans hnewer, hbit3, hbit4.trans hnewer, hcaps, ?_, rfl, ?_,
    hgrade, hkey, hlock, hpins, hlevel, hstraps⟩
  · cases b0 <;> simp [hstepping]
  · cases b0 <;> simp [romVersion, hstepping]
  · simp [fwShown]
  · cases b0 <;> simp [dramMaxRate, hstepping]
  · cases b0 <;> simp [hstepping]

end Sys2Proof.Machine
end

section
/-! SUPPORT. What the operations of tasks, streams, models and memories leave alone: how far the boot has come (17 R669). A command that
completes once such an operation is done is remembered only while the Shepherd firmware runs (03 R81). -/
namespace Sys2Proof.Machine

/-- How far the boot has come (17 R669). -/
def State.bootState (s : State) : BootState := s.glb.boot

@[simp] theorem boot_mk (x0 x1 x2 x3 x4 x5 x6 x7 x8 x9 x10 x11 x12 x13 x14 x15 x16 x17 x18 x19 x20 x21 x22 x23 x24 x25 x26 x27 x28 x29 x30 x31 x32) :
    State.bootState ⟨x0, x1, x2, x3, x4, x5, x6, x7, x8, x9, x10, x11,
      x12, x13, x14, x15, x16, x17, x18, x19, x20, x21, x22, x23, x24, x25, x26, x27, x28, x29, x30, x31, x32⟩ = x2.boot := rfl
@[simp] theorem boot_fold (s : State) : s.glb.boot = s.bootState := rfl

@[simp] theorem foldl_boot {α : Type} (f : State → α → State) (h : ∀ s a, (f s a).bootState = s.bootState) (l : List α) (s : State) :
    (l.foldl f s).bootState = s.bootState := foldl_keeps State.bootState h l s
@[simp] theorem ite_boot (p : Prop) [Decidable p] (a b : State) : (if p then a else b).bootState = if p then a.bootState else b.bootState := by
  split <;> rfl
theorem foldl2_boot {α β : Type} (f : β × State → α → β × State) (h : ∀ r a, (f r a).2.bootState = r.2.bootState) (l : List α)
    (r : β × State) : (l.foldl f r).2.bootState = r.2.bootState := foldl_keeps (fun r => r.2.bootState) h l r
theorem foldlW_boot {α β : Type} (f : β × Work → α → β × Work) (h : ∀ r a, (f r a).2.s.bootState = r.2.s.bootState) (l : List α)
    (r : β × Work) : (l.foldl f r).2.s.bootState = r.2.s.bootState := foldl_keeps (fun r => r.2.s.bootState) h l r
@[simp] theorem send_boot (s : State) (m : Sent) : (s.send m).bootState = s.bootState := by simp [State.send]

/-! ### Reports and completions -/

@[simp] theorem sendFyx_boot (dst : Nat) (k : Packet) (s : State) : (sendFyx dst k s).bootState = s.bootState :=
  (congrArg State.bootState (quiet_sendFyx dst k s) :)
@[simp] theorem emit_boot (source code : Nat) (p : Bytes) (s : State) : (emit source code p s).bootState = s.bootState :=
  (congrArg State.bootState (quiet_emit source code p s) :)
@[simp] theorem committed_boot (ring : Nat) (tag : U16) (op : Nat) (st : Status) (f b n : Nat) (s : State) :
    (committed ring tag op st f b n s).bootState = s.bootState := (congrArg State.bootState (quiet_committed ring tag op st f b n s) :)
@[simp] theorem perfAdd_boot (off n : Nat) (s : State) : (perfAdd off n s).bootState = s.bootState :=
  (congrArg State.bootState (untimed_perfAdd off n s) :)
@[simp] theorem complete_boot (h : Hdr) (op : Nat) (st : Status) (res : Bytes) (s : State) :
    (complete h op st res s).bootState = s.bootState := by
  by_cases hinner : h.ring = 16
  · rw [complete, if_pos (show h.ring = innerRing from hinner)]
    rfl
  · exact (congrArg State.bootState (complete_parts h op st res s hinner).2.1 :)
@[simp] theorem stage_boot (h : Hdr) (op target : Nat) (ready : Bool) (c : Change) (s : State) :
    (stage h op target ready c s).bootState = s.bootState := by
  simp only [stage, markStarted, State.setInFlight]
  split
  · rfl
  · exact complete_boot ..

/-! ### The numbered parts, counters and memories -/

@[simp] theorem State.setStream_boot (s : State) (c : Nat) (x : Stream) : (s.setStream c x).bootState = s.bootState := by
  simp [State.setStream]
@[simp] theorem State.setModel_boot (s : State) (h : Nat) (x : Model) : (s.setModel h x).bootState = s.bootState := by
  simp [State.setModel]
@[simp] theorem State.setJob_boot (s : State) (j : Nat) (x : Job) : (s.setJob j x).bootState = s.bootState := by
  simp [State.setJob]
@[simp] theorem State.setGroup_boot (s : State) (g : Nat) (x : Group) : (s.setGroup g x).bootState = s.bootState := by
  simp [State.setGroup]
@[simp] theorem State.setCore_boot (s : State) (c : Nat) (x : Core) : (s.setCore c x).bootState = s.bootState := by
  simp [State.setCore]
@[simp] theorem State.setSource_boot (s : State) (k : Nat) (x : Source) : (s.setSource k x).bootState = s.bootState := by
  simp [State.setSource]
@[simp] theorem State.setIrled_boot (s : State) (k : Nat) (x : IrLed) : (s.setIrled k x).bootState = s.bootState := by
  simp [State.setIrled]
@[simp] theorem State.setWindow_boot (s : State) (w : Nat) (x : Window) : (s.setWindow w x).bootState = s.bootState := by
  simp [State.setWindow]
@[simp] theorem errAdd_boot (off n : Nat) (s : State) : (errAdd off n s).bootState = s.bootState := by
  simp [errAdd]
@[simp] theorem scAdd_boot (sc : Nat) (c : SCtr) (n : Nat) (s : State) : (scAdd sc c n s).bootState = s.bootState := by
  simp [scAdd]
@[simp] theorem prepAck_boot (tag : U16) (st : Status) (final : Bool) (s : State) : (prepAck tag st final s).bootState = s.bootState := by
  simp [prepAck]
@[simp] theorem onOp_boot (id : Nat) (f : PackOp → PackOp) (s : State) : (onOp id f s).bootState = s.bootState := by
  simp [onOp]
@[simp] theorem stagedOutcome_boot (ring : Nat) (tag : U16) (op : Nat) (st : Status) (frame : Nat) (result : Bytes) (s : State) :
    (stagedOutcome ring tag op st frame result s).bootState = s.bootState := by
  fun_cases stagedOutcome ring tag op st frame result s <;> simp
@[simp] theorem State.onMem_boot (s : State) (m : Mem) (f : List Host.Cell → List Host.Cell) : (s.onMem m f).bootState = s.bootState := by
  fun_cases State.onMem s m f <;> simp
@[simp] theorem writeMem_boot (m : Mem) (a : Nat) (bs : Bytes) (s : State) : (writeMem m a bs s).bootState = s.bootState := by
  simp [writeMem]
@[simp] theorem zeroMem_boot (m : Mem) (a n : Nat) (s : State) : (zeroMem m a n s).bootState = s.bootState := by
  simp [zeroMem]

/-! ### Certificates and operating points -/

@[simp] theorem refreshCerts_boot (s : State) : (refreshCerts s).bootState = s.bootState := by
  unfold refreshCerts
  refine foldl_boot _ (fun s i => ?_) _ _
  dsimp only
  split <;> simp
@[simp] theorem relaxFloors_boot (s : State) : (relaxFloors s).bootState = s.bootState := by
  unfold relaxFloors
  refine foldl_boot _ (fun s i => ?_) _ _
  dsimp only
  (repeat' split) <;> simp
@[simp] theorem sharesShrink_boot (s : State) : (sharesShrink s).bootState = s.bootState := by
  simp [sharesShrink]
@[simp] theorem setOp_boot (c op : Nat) (s : State) : (setOp c op s).bootState = s.bootState := by
  simp [setOp]
@[simp] theorem settleOps_boot (s : State) : (settleOps s).bootState = s.bootState := by
  simp [settleOps]

/-! ### Tasks and their memory -/

@[simp] theorem sendPkt_boot (dst kind index : Nat) (arg : U32) (data : Bytes) (s : State) :
    (sendPkt dst kind index arg data s).bootState = s.bootState := by
  simp [sendPkt]
@[simp] theorem zeroFill_boot (m : Mem) (a n : Nat) (s : State) : (zeroFill m a n s).bootState = s.bootState := by
  simp [zeroFill]
@[simp] theorem putData_boot (m : Mem) (a : Nat) (bs : Bytes) (held : Bool) (s : State) :
    (putData m a bs held s).bootState = s.bootState := by
  simp [putData]
@[simp] theorem setDomain_boot (d : Nat) (on : Bool) (s : State) : (setDomain d on s).bootState = s.bootState := by
  simp [setDomain]
@[simp] theorem freeOwner_boot (o : Nat) (s : State) : (freeOwner o s).bootState = s.bootState := by
  simp [freeOwner]
@[simp] theorem endOrphan_boot (cause : Nat) (id : U32) (s : State) : (endOrphan cause id s).bootState = s.bootState := by
  simp [endOrphan]
@[simp] theorem endOrphans_boot (cause : Nat) (p : Orphan → Bool) (s : State) : (endOrphans cause p s).bootState = s.bootState := by
  simp [endOrphans]
@[simp] theorem coreOn_boot (c : Nat) (s : State) : (coreOn c s).bootState = s.bootState := by
  simp [coreOn]
@[simp] theorem coreOff_boot (c : Nat) (s : State) : (coreOff c s).bootState = s.bootState := by
  simp [coreOff]
@[simp] theorem kennelOn_boot (d : Nat) (s : State) : (kennelOn d s).bootState = s.bootState := by
  simp [kennelOn]
@[simp] theorem takeKennel_boot (o first n : Nat) (s : State) : (takeKennel o first n s).bootState = s.bootState := by
  simp [takeKennel]
@[simp] theorem takeCm_boot (o c first n : Nat) (s : State) : (takeCm o c first n s).bootState = s.bootState := by
  simp [takeCm]
@[simp] theorem takeDram_boot (o first n : Nat) (s : State) : (takeDram o first n s).bootState = s.bootState := by
  simp [takeDram]
@[simp] theorem freeDram_boot (o : Nat) (s : State) : (freeDram o s).bootState = s.bootState := by
  simp [freeDram]
theorem allocTask_boot {o : Nat} {cores : List Nat} {p : Plan} {s t : State} {d : List Region} (ht : allocTask o cores p s = .ok (d, t)) :
    t.bootState = s.bootState := by
  unfold allocTask at ht
  split at ht
  · split at ht
    · simp at ht
    · simp only [Except.ok.injEq, Prod.mk.injEq] at ht
      obtain ⟨-, rfl⟩ := ht
      simp
  · split at ht
    · simp only [Except.ok.injEq, Prod.mk.injEq] at ht
      obtain ⟨-, rfl⟩ := ht
      split <;> simp
    · simp at ht
    · simp at ht
@[simp] theorem freeCounters_boot (x : Option (Nat × Nat)) (s : State) : (freeCounters x s).bootState = s.bootState := by
  fun_cases freeCounters x s <;> simp
@[simp] theorem allocCounters_boot (n : Nat) (s : State) : (allocCounters n s).2.bootState = s.bootState := by
  fun_cases allocCounters n s <;> simp
@[simp] theorem closeWindow_boot (cause i : Nat) (s : State) : (closeWindow cause i s).bootState = s.bootState := by
  simp [closeWindow]
@[simp] theorem closeWindows_boot (cause : Nat) (p : Window → Bool) (s : State) : (closeWindows cause p s).bootState = s.bootState := by
  simp [closeWindows]
@[simp] theorem releaseCore_boot (c : Nat) (s : State) : (releaseCore c s).bootState = s.bootState := by
  simp [releaseCore]
@[simp] theorem makeOrphan_boot (o : Nat) (l : List Region) (s : State) : (makeOrphan o l s).2.bootState = s.bootState := by
  fun_cases makeOrphan o l s <;> simp
@[simp] theorem abortStaged_boot (sc : Nat) (s : State) : (abortStaged sc s).bootState = s.bootState := by
  simp [abortStaged]
@[simp] theorem groupFinish_boot (g : Nat) (s : State) : (groupFinish g s).bootState = s.bootState := by
  unfold groupFinish
  refine foldl_boot _ (fun s f => ?_) _ _
  dsimp only
  split
  · split <;> simp
  · rfl
@[simp] theorem leaveGroupFrames_boot (sc : Nat) (s : State) : (leaveGroupFrames sc s).bootState = s.bootState := by
  fun_cases leaveGroupFrames sc s <;> simp
@[simp] theorem commitRoute_boot (src : Nat) (target : Option Nat) (s : State) : (commitRoute src target s).bootState = s.bootState := by
  simp only [commitRoute]
  (repeat' split) <;> simp
@[simp] theorem routeOutcome_boot (src frame : Nat) (s : State) : (routeOutcome src frame s).bootState = s.bootState := by
  simp only [routeOutcome]
  (repeat' split) <;> simp
@[simp] theorem settleRoutes_boot (sc : Nat) (s : State) : (settleRoutes sc s).bootState = s.bootState := by
  fun_cases settleRoutes sc s <;> simp
@[simp] theorem noteOfmIdle_boot (s : State) : (noteOfmIdle s).bootState = s.bootState := by
  simp [noteOfmIdle]
@[simp] theorem endStream_boot (killed : Bool) (side : SideChange) (sc : Nat) (s : State) (fin : State → State) (hside : ∀ a x,
    (side a x).bootState = x.bootState) (hfin : ∀ x, (fin x).bootState = x.bootState) :
    (endStream killed side sc s fin).bootState = s.bootState := by
  cases killed <;> simp [endStream, hside, hfin]
@[simp] theorem faultStream_boot (cause core trap sc : Nat) (s : State) : (faultStream cause core trap sc s).bootState = s.bootState := by
  simp [faultStream]
@[simp] theorem endJob_boot (killed : Bool) (status j : Nat) (s : State) (fin : State → State) (hfin : ∀ x,
    (fin x).bootState = x.bootState) :
    (endJob killed status j s fin).bootState = s.bootState := by
  simp only [endJob]
  (repeat' split) <;> simp [hfin]
@[simp] theorem coreFault_boot (c cause trap : Nat) (s : State) : (coreFault c cause trap s).bootState = s.bootState := by
  fun_cases coreFault c cause trap s <;> simp

/-! ### Streams -/

@[simp] theorem freeBytes_boot (n : Nat) (s : State) : (freeBytes n s).2.bootState = s.bootState := by
  simp [freeBytes]
@[simp] theorem strike_boot (sc cause : Nat) (s : State) : (strike sc cause s).bootState = s.bootState := by
  simp [strike]
@[simp] theorem applySide_boot (c : Change) (s : State) : (applySide c s).bootState = s.bootState := by
  fun_cases applySide c s <;> simp
@[simp] theorem starve_boot (sc : Nat) (f : U32) (ph d : Nat) (s : State) : (starve sc f ph d s).bootState = s.bootState := by
  simp [starve]
@[simp] theorem releasePart_boot (sc : Nat) (f : U32) (pos : Nat) (s : State) : (releasePart sc f pos s).bootState = s.bootState := by
  simp only [releasePart]
  (repeat' split) <;> simp
@[simp] theorem inputDone_boot (sc : Nat) (f : U32) (s : State) : (inputDone sc f s).bootState = s.bootState := by
  simp only [inputDone]
  (repeat' split) <;> simp
@[simp] theorem setGroupMembers_boot (g members policy : Nat) (s : State) :
    (setGroupMembers g members policy s).bootState = s.bootState := by
  simp [setGroupMembers]
@[simp] theorem discardVotes_boot (sc : Nat) (s : State) : (discardVotes sc s).bootState = s.bootState := by
  simp [discardVotes]
@[simp] theorem renameOwner_boot (a b : Nat) (s : State) : (renameOwner a b s).bootState = s.bootState := by
  simp [renameOwner]
@[simp] theorem writeParams_boot (c : Nat) (s : State) : (writeParams c s).bootState = s.bootState := by
  simp [writeParams]
@[simp] theorem boundCore_boot (kind num handle : Nat) (regs : List Region) (ctr : Option (Nat × Nat)) (p : Plan) (c : Nat) (s : State) :
    (boundCore kind num handle regs ctr p c s).bootState = s.bootState := by
  simp [boundCore]
@[simp] theorem installTask_boot (sc : Nat) (p : Plan) (cores : List Nat) (regs : List Region) (s : State) :
    (installTask sc p cores regs s).bootState = s.bootState := by
  simp [installTask]
@[simp] theorem swapTask_boot (sc : Nat) (s : State) : (swapTask sc s).bootState = s.bootState := by
  simp only [swapTask]
  (repeat' split) <;> simp
@[simp] theorem commitConfig_boot (sc : Nat) (cfg : StreamCfg) (s : State) : (commitConfig sc cfg s).bootState = s.bootState := by
  simp [commitConfig]
@[simp] theorem commitChange_boot (sc : Nat) (s : State) (c : Change) : (commitChange sc s c).bootState = s.bootState := by
  simp only [commitChange]
  (repeat' split) <;> simp
@[simp] theorem startCore_boot (first base c : Nat) (s : State) : (startCore first base c s).bootState = s.bootState := by
  simp [startCore]
@[simp] theorem discardTiles_boot (sc : Nat) (n : U32) (ph : Nat) (s : State) : (discardTiles sc n ph s).bootState = s.bootState := by
  simp [discardTiles]

/-! ### The stream commands -/

@[simp] theorem routeTo_boot (sc src : Nat) (s : State) : (routeTo sc src s).bootState = s.bootState := by
  simp [routeTo]
@[simp] theorem unroute_boot (sc : Nat) (s : State) : (unroute sc s).bootState = s.bootState := by
  simp [unroute]
@[simp] theorem configureNow_boot (sc : Nat) (c : StreamCfg) (s : State) : (configureNow sc c s).bootState = s.bootState := by
  simp [configureNow]

/-! ### Errors of memory -/

@[simp] theorem remapFails_boot (memory core bank row lack : Nat) (s : State) :
    (remapFails memory core bank row lack s).bootState = s.bootState := by
  simp [remapFails]
@[simp] theorem remapRow_boot (memory core bank row reason : Nat) (s : State) :
    (remapRow memory core bank row reason s).bootState = s.bootState := by
  simp only [remapRow]
  (repeat' split) <;> simp
@[simp] theorem correctable_boot (memory core a : Nat) (s : State) : (correctable memory core a s).bootState = s.bootState := by
  simp [correctable]
@[simp] theorem uncorrectable_boot (m : Mem) (a cls : Nat) (s : State) : (uncorrectable m a cls s).bootState = s.bootState := by
  simp [uncorrectable]
@[simp] theorem poisonStrikes_boot (task : Option (Nat × Nat)) (s : State) : (poisonStrikes task s).bootState = s.bootState := by
  fun_cases poisonStrikes task s <;> simp
@[simp] theorem taskRead_boot (task : Option (Nat × Nat)) (m : Mem) (a n : Nat) (s : State) :
    (taskRead task m a n s).2.bootState = s.bootState := by
  simp [taskRead]

/-! ### The irregular cache -/

@[simp] theorem State.setIacSet_boot (s : State) (i : Nat) (x : IacSet) : (s.setIacSet i x).bootState = s.bootState := by
  simp [State.setIacSet]
@[simp] theorem iacWriteLine_boot (line : Nat) (ks : List Nat) (s : State) : (iacWriteLine line ks s).bootState = s.bootState := by
  simp only [iacWriteLine]
  (repeat' split) <;> simp
@[simp] theorem iacWrite_boot (a n : Nat) (s : State) : (iacWrite a n s).bootState = s.bootState := by
  simp [iacWrite]
@[simp] theorem iacError_boot (sector : Nat) (uncorrectable tagError : Bool) (s : State) :
    (iacError sector uncorrectable tagError s).bootState = s.bootState := by
  simp only [iacError]
  (repeat' split) <;> simp
@[simp] theorem putDram_boot (a : Nat) (bs : Bytes) (s : State) : (putDram a bs s).bootState = s.bootState := by
  simp [putDram]
@[simp] theorem zeroDram_boot (a n : Nat) (s : State) : (zeroDram a n s).bootState = s.bootState := by
  simp [zeroDram]
@[simp] theorem foundErrors_boot (cls : Option Nat) (l : List ReadError) (s : State) : (foundErrors cls l s).bootState = s.bootState := by
  simp [foundErrors]

/-! ### Models and residency -/

@[simp] theorem evict_boot (h v : Nat) (s : State) : (evict h v s).bootState = s.bootState := by
  simp [evict]
@[simp] theorem evictMask_boot (h mask : Nat) (s : State) : (evictMask h mask s).bootState = s.bootState := by
  simp [evictMask]
@[simp] theorem abortResides_boot (h : Nat) (s : State) : (abortResides h s).bootState = s.bootState := by
  simp [abortResides]
@[simp] theorem dropModel_boot (h : Nat) (s : State) : (dropModel h s).bootState = s.bootState := by
  simp [dropModel]

/-! ### Domains -/

@[simp] theorem startDomain_boot (d delay : Nat) (s : State) : (startDomain d delay s).bootState = s.bootState := by
  simp [startDomain]
@[simp] theorem startFixedDomains_boot (s : State) : (startFixedDomains s).bootState = s.bootState := by
  simp [startFixedDomains]

/-! ### Fetches -/

@[simp] theorem settleTrap_boot (c : Nat) (s : State) : (settleTrap c s).bootState = s.bootState := by
  fun_cases settleTrap c s <;> simp
@[simp] theorem raiseTrap_boot (c cause : Nat) (s : State) : (raiseTrap c cause s).bootState = s.bootState := by
  simp [raiseTrap]
@[simp] theorem readPlaces_boot (c : Nat) (l : List (Place × Nat)) (s : State) : (readPlaces c l s).2.bootState = s.bootState := by
  unfold readPlaces
  refine (foldl2_boot _ (fun r e => ?_) _ _).trans rfl
  dsimp only
  (repeat' split) <;> simp
@[simp] theorem writePlaces_boot (c : Nat) (l : List (Place × Nat)) (bs : Bytes) (held : Bool) (s : State) :
    (writePlaces c l bs held s).bootState = s.bootState := by
  unfold writePlaces
  refine (foldl2_boot _ (fun r e => ?_) _ _).trans rfl
  dsimp only
  (repeat' split) <;> simp

/-! ### Features -/

@[simp] theorem featureSet_boot (sc : Nat) (frame : U32) (features : List (Option Nat)) (degraded : Bool) (s : State) :
    (featureSet sc frame features degraded s).bootState = s.bootState := by
  simp [featureSet]

/-! ### Passes -/

@[simp] theorem partHeard_boot (sc : Nat) (f : U32) (pos : Nat) (s : State) : (partHeard sc f pos s).bootState = s.bootState := by
  simp [partHeard]
@[simp] theorem frameWorked_boot (sc : Nat) (f : U32) (s : State) : (frameWorked sc f s).bootState = s.bootState := by
  simp [frameWorked]
@[simp] theorem notePass_boot (c : Nat) (s : State) : (notePass c s).bootState = s.bootState := by
  fun_cases notePass c s <;> simp

/-! ### The executor -/

@[simp] theorem Work.plane_boot (k : Work) (kind fmt : Nat) (d : Dims) (f : Nat → Nat → Nat → Counted) :
    (Work.plane k kind fmt d f).2.s.bootState = k.s.bootState := by
  simp [Work.plane]
@[simp] theorem Work.free_boot (k : Work) (w : At) (kind fmt : Nat) (d : Dims) (operands : List Int) :
    (Work.free k w kind fmt d operands).2.s.bootState = k.s.bootState := by
  simp [Work.free]
@[simp] theorem Work.read_boot (c : Nat) (k : Work) (a n : Nat) : (Work.read c k a n).2.s.bootState = k.s.bootState := by
  simp only [Work.read]
  (repeat' split) <;> simp
@[simp] theorem Work.slot_boot (c : Nat) (k : Work) (chain : Bytes) (which base fmt : Nat) (d : Dims) :
    (Work.slot c k chain which base fmt d).2.s.bootState = k.s.bootState := by
  unfold Work.slot
  refine (foldlW_boot _ (fun r e => ?_) _ _).trans rfl
  simp
@[simp] theorem convStage_boot (c : Nat) (chain : Bytes) (w : StageWord) (d : Dims) (k : Work) :
    (convStage c chain w d k).2.s.bootState = k.s.bootState := by
  unfold convStage
  dsimp only
  (repeat' split) <;> simp
@[simp] theorem Work.params_boot (c : Nat) (k : Work) (a size n : Nat) : (Work.params c k a size n).2.s.bootState = k.s.bootState := by
  simp [Work.params]
@[simp] theorem requantStage_boot (c : Nat) (w : StageWord) (p : Plane) (k : Work) :
    (requantStage c w p k).2.s.bootState = k.s.bootState := by
  simp only [requantStage]
  (repeat' split) <;> simp
@[simp] theorem convertStage_boot (i : At) (w : StageWord) (p : Plane) (k : Work) :
    (convertStage i w p k).2.s.bootState = k.s.bootState := by
  simp only [convertStage]
  (repeat' split) <;> simp
@[simp] theorem lutStage_boot (c : Nat) (i : At) (w : StageWord) (p : Plane) (k : Work) :
    (lutStage c i w p k).2.s.bootState = k.s.bootState := by
  simp only [lutStage]
  (repeat' split) <;> simp
@[simp] theorem eltStage_boot (c : Nat) (i : At) (w : StageWord) (p : Plane) (k : Work) :
    (eltStage c i w p k).2.s.bootState = k.s.bootState := by
  unfold eltStage
  dsimp only
  (repeat' split) <;> simp
@[simp] theorem poolStage_boot (c : Nat) (i : At) (w : StageWord) (d : Dims) (k : Work) :
    (poolStage c i w d k).2.s.bootState = k.s.bootState := by
  unfold poolStage
  dsimp only
  (repeat' split) <;> simp
@[simp] theorem d2sStage_boot (i : At) (w : StageWord) (d : Dims) (p : Plane) (k : Work) :
    (d2sStage i w d p k).2.s.bootState = k.s.bootState := by
  fun_cases d2sStage i w d p k <;> simp
@[simp] theorem resampleStage_boot (c : Nat) (i : At) (w : StageWord) (d : Dims) (k : Work) :
    (resampleStage c i w d k).2.s.bootState = k.s.bootState := by
  simp only [resampleStage]
  (repeat' split) <;> simp
@[simp] theorem warpStage_boot (c : Nat) (i : At) (w : StageWord) (d : Dims) (k : Work) :
    (warpStage c i w d k).2.s.bootState = k.s.bootState := by
  simp only [warpStage]
  (repeat' split) <;> simp
@[simp] theorem depthwiseStage_boot (c : Nat) (i : At) (w : StageWord) (d : Dims) (k : Work) :
    (depthwiseStage c i w d k).2.s.bootState = k.s.bootState := by
  unfold depthwiseStage
  dsimp only
  split
  · simp [foldlW_boot]
  · simp [foldlW_boot]
@[simp] theorem stageWord_boot (c : Nat) (chain : Bytes) (n : Nat) (w : StageWord) (d : Dims) (prev : Plane) (k : Work) :
    (stage_ c chain n w d prev k).2.s.bootState = k.s.bootState := by
  unfold stage_
  dsimp only
  (repeat' split) <;> simp
@[simp] theorem runStages_boot (c : Nat) (chain : Bytes) (x2 : List (StageWord × Dims)) (x3 : Nat) (x4 : Plane) (x5 : Work) :
    (runStages c chain x2 x3 x4 x5).2.s.bootState = x5.s.bootState := by
  induction x2 generalizing x3 x4 x5 with
  | nil => rfl
  | cons e l ih => obtain ⟨w, d⟩ := e; rw [runStages]; simp [ih]
@[simp] theorem Work.output_boot (c : Nat) (k : Work) (chain : Bytes) (p : Plane) (held : Bool) :
    (Work.output c k chain p held).s.bootState = k.s.bootState := by
  unfold Work.output
  dsimp only
  split
  · rfl
  · refine foldl_boot _ (fun s e => ?_) _ _
    split <;> simp
@[simp] theorem runChain_boot (c : Nat) (chain : Bytes) (held : Bool) (s : State) :
    (runChain c chain held s).s.bootState = s.bootState := by
  simp [runChain]
@[simp] theorem markTile_boot (m : TileMark) (s : State) : (markTile m s).bootState = s.bootState := by
  simp only [markTile]
  (repeat' split) <;> simp
@[simp] theorem tileCounts_boot (c q : Nat) (chain : Bytes) (sat : Nat) (s : State) :
    (tileCounts c q chain sat s).bootState = s.bootState := by
  simp [tileCounts]
@[simp] theorem tileEnds_boot (core : Nat) (errors : List ReadError) (s : State) : (tileEnds core errors s).bootState = s.bootState := by
  simp only [tileEnds]
  (repeat' split) <;> simp

/-! ### Jobs -/

@[simp] theorem startJob_boot (h : Hdr) (j : Nat) (x : Job) (p : Plan) (s : State) : (startJob h j x p s).bootState = s.bootState := by
  unfold startJob
  dsimp only
  split
  · exact complete_boot ..
  · rename_i regs t halloc
    have hcounters := allocCounters_boot (counterNeed p (jobCfg x.shape) none (maskBits x.coreMask 16).length) t
    split
    · exact complete_boot ..
    · rename_i ctr u hctr
      rw [hctr] at hcounters
      simpa using hcounters.trans (allocTask_boot halloc)

/-! ### Kills -/

@[simp] theorem finishTiles_boot (cores : List Nat) (s : State) : (finishTiles cores s).bootState = s.bootState := by
  simp [finishTiles]
@[simp] theorem killStream_boot (sc : Nat) (s : State) (fin : State → State) (hfin : ∀ x, (fin x).bootState = x.bootState) :
    (killStream sc s fin).bootState = s.bootState := by
  simp only [killStream]
  rw [endStream_boot _ _ _ _ _ (fun _ _ => by simp) hfin]
  simp
@[simp] theorem killJob_boot (j : Nat) (s : State) (fin : State → State) (hfin : ∀ x, (fin x).bootState = x.bootState) :
    (killJob j s fin).bootState = s.bootState := by
  simp [killJob, hfin]
@[simp] theorem killAll_boot (s : State) : (killAll s).bootState = s.bootState := by
  simp [killAll]

/-! ### What a test unlock and a power profile do -/

@[simp] theorem applyProfile_boot (p : Nat) (s : State) : (applyProfile p s).bootState = s.bootState := by
  simp [applyProfile]
@[simp] theorem clearOnChip_boot (s : State) : (clearOnChip s).bootState = s.bootState := by
  simp [clearOnChip]
@[simp] theorem clearDramTasks_boot (s : State) : (clearDramTasks s).bootState = s.bootState := by
  simp [clearDramTasks]

end Sys2Proof.Machine
end

section
/-! The system commands that change settings, keys, test and debug state (04 R117, R119, R122, R168, R169; 16 R640, R653, R654), and the
proof of O4. -/
namespace Sys2Proof.Machine

theorem writeSettings_boot (l : List (Nat × U32)) (s : State) : (writeSettings l s).bootState = s.bootState := by
  unfold writeSettings
  dsimp only
  split <;> rfl

/-- What POWER_PROFILE leaves: the profile in force, and in the settings where it asks for that (04 R117). -/
def profiled (p : Bytes) (s : State) : State :=
  if bit (fld p 1 1) 0 then writeSettings [(1, BitVec.ofNat 32 (fld p 0 1))] (applyProfile (fld p 0 1) s) else applyProfile (fld p 0 1) s

theorem profiled_boot (p : Bytes) (s : State) : (profiled p s).bootState = s.bootState := by
  unfold profiled
  split
  · exact (writeSettings_boot ..).trans (applyProfile_boot ..)
  · exact applyProfile_boot ..

theorem exec_powerProfile {h : Hdr} {p : Bytes} {s : State} (ht : Taken 0x0003 h p s) (hres : resOk p [0xFF, 1, 0, 0] = true)
    (hprofile : fld p 0 1 ≤ 3) (hbudget : profileOverBudget s (fld p 0 1) = false) (hfree : profileBlocked s (fld p 0 1) = false) :
    exec (.powerProfile h p) s = .next (complete h 0x0003 .ok (le 1 s.pwr.profile) (profiled p s)) := by
  change execPowerProfile h p s = _
  unfold execPowerProfile
  exact command_runs ht (by simp [firstFail_cons, firstFail_nil, hres, hprofile, hbudget, hfree])

/-! ### KEEP_WRITE (04 R119) -/

/-- The operands of a KEEP_WRITE of an area name words that it has (04 R119). -/
structure KeepWriteForm (p : Bytes) (area : Nat) : Prop where
  length : p.length = 4 + 4 * fld p 2 1
  reserved : resOk p ([0xFF, 0xFF, 0xFF, 0] ++ full (4 * fld p 2 1)) = true
  area : fld p 0 1 = area
  first : fld p 1 1 ≤ 63
  some : 1 ≤ fld p 2 1
  few : fld p 2 1 ≤ 8
  fits : fld p 1 1 + fld p 2 1 ≤ 64

section
variable {h : Hdr} {p : Bytes} {s : State} (ht : Taken 0x0005 h p s)
include ht

theorem exec_keepWrite_user (hform : KeepWriteForm p 0) :
    exec (.keepWrite h p) s = .next (complete h 0x0005 .ok [] (writeUsers (keepWords p) s)) := by
  change execKeepWrite h p s = _
  unfold execKeepWrite
  refine (command_runs ht ?_).trans (by rw [if_pos hform.area])
  simpa [keepForm, firstFail_cons, firstFail_nil, hform.length, hform.area, hform.first, hform.some, hform.few, hform.fits] using hform.reserved

theorem exec_keepWrite_settings (hform : KeepWriteForm p 1) (hok : (keepWords p).all (fun e => settingOk s e.1 e.2.toNat) = true) :
    exec (.keepWrite h p) s = .next (complete h 0x0005 .ok [] (writeSettings (keepWords p) s)) := by
  have harea : fld p 0 1 ≠ 0 := by rw [hform.area]; decide
  change execKeepWrite h p s = _
  unfold execKeepWrite
  refine (command_runs ht ?_).trans (by rw [if_neg harea])
  simpa [keepForm, firstFail_cons, firstFail_nil, hform.length, hform.area, hform.first, hform.some, hform.few, hform.fits, hok]
    using hform.reserved

end

theorem writeUsers_boot (l : List (Nat × U32)) (s : State) : (writeUsers l s).bootState = s.bootState :=
  foldl_boot (fun s (e : Nat × U32) => writeUser e.1 e.2 s) (fun _ _ => rfl) l s

/-! ### Keys, test and debug (04 R122, R168, R169) -/

theorem exec_customerKeyProgram {h : Hdr} {p : Bytes} {s : State} (ht : Taken 0x0008 h p s) (hmagic : fld p 32 4 = 0x5345414C)
    (hnone : s.otp.keyHash = none) (hkey : s.glb.fwCustomer = some (p.take 32)) :
    exec (.customerKeyProgram h p) s = .next (complete h 0x0008 .ok [] { s with otp := { s.otp with keyHash := some (p.take 32) } }) := by
  change execCustomerKeyProgram h p s = _
  unfold execCustomerKeyProgram
  exact command_runs ht (by simp [firstFail_cons, firstFail_nil, hmagic, hnone, hkey])

/-- The state in which a challenge has been given (16 R653). -/
def challenged (s : State) : State :=
  { s with drawn := s.drawn + 1, glb := { s.glb with nonce := some (freeBytes 16 s).1, challenges := s.glb.challenges + 1 } }

theorem exec_testChallenge {h : Hdr} (p : Bytes) {s : State} (ht : Taken 0x0802 h [] s) (hpins : s.glb.testPins = true)
    (hleft : s.glb.challenges < 8) :
    exec (.testChallenge h p) s = .next (complete h 0x0802 .ok (freeBytes 16 s).1 (challenged s)) := by
  change execTestChallenge h p s = _
  unfold execTestChallenge
  exact command_runs ht (by simp [firstFail_cons, firstFail_nil, hpins, hleft])

/-- The state in which a challenge has been used up (16 R653). -/
def nonceUsed (s : State) : State := { s with glb := { s.glb with nonce := none } }

/-- The message that TEST_UNLOCK's signature is over (16 R653). -/
def unlockMessage (n : Bytes) (s : State) : Bytes := n ++ le 2 0x3216 ++ le 1 s.glb.stepping.toNat ++ List.replicate 13 0

/-- Test mode is entered: the user words are cleared and a scar is programmed (16 R654). -/
def enterTestMode (t : State) : State :=
  { t with keep := { t.keep with user := [] }, otp := { t.otp with scar := t.otp.scar ||| 16 }, glb := { t.glb with testMode := true } }

/-- What a signed unlock leaves: no task, nothing in the memories that tasks had, test mode (16 R654). -/
def testUnlocked (s : State) : State := enterTestMode (clearDramTasks (clearOnChip (killAll (nonceUsed s))))

theorem enterTestMode_boot (t : State) : (enterTestMode t).bootState = t.bootState := rfl

theorem testUnlocked_boot (s : State) : (testUnlocked s).bootState = s.bootState := by
  rw [testUnlocked, enterTestMode_boot, clearDramTasks_boot, clearOnChip_boot, killAll_boot]
  rfl

theorem rings_logNew (code source frame : Nat) (d : Bytes) (s : State) : (logNew code source frame d s).rings = s.rings := rfl
theorem mgmt_logNew (code source frame : Nat) (d : Bytes) (s : State) : (logNew code source frame d s).mgmt = s.mgmt := rfl
theorem logNew_boot (code source frame : Nat) (d : Bytes) (s : State) : (logNew code source frame d s).bootState = s.bootState := rfl

section
variable {h : Hdr} {p : Bytes} {s : State} (ht : Taken 0x0803 h p s) (hzeros : zeros p 64 8 = true)
include ht hzeros

theorem exec_testUnlock_ok {n : Bytes} (hnonce : s.glb.nonce = some n)
    (hsigned : Config.ecdsa s.glb.fwVendorKey (unlockMessage n s) (p.take 64) = true) :
    exec (.testUnlock h p) s = .next (complete h 0x0803 .ok [] (logNew 0x0904 0 0 [] (testUnlocked s))) := by
  change execTestUnlock h p s = _
  unfold execTestUnlock
  refine (command_runs ht (by simp [firstFail_cons, firstFail_nil, hzeros])).trans ?_
  rw [unlockMessage] at hsigned
  simp only [hnonce, hsigned, if_true, testUnlocked, nonceUsed]
  generalize clearDramTasks _ = t
  rfl

/-- The log entry of the unlock is a report. -/
theorem answers_testUnlock_ok {n : Bytes} (hnonce : s.glb.nonce = some n)
    (hsigned : Config.ecdsa s.glb.fwVendorKey (unlockMessage n s) (p.take 64) = true) :
    Answers (.testUnlock h p) h 0x0803 .ok [] s (testUnlocked s) :=
  answers_of_quiet (taken_ring ht) ((logNew_boot ..).trans ((testUnlocked_boot s).trans (taken_boot ht)))
    (exec_testUnlock_ok ht hzeros hnonce hsigned) (quiet_logNew ..) (rings_logNew ..) (mgmt_logNew ..)

theorem exec_testUnlock_unsigned {n : Bytes} (hnonce : s.glb.nonce = some n)
    (hsigned : Config.ecdsa s.glb.fwVendorKey (unlockMessage n s) (p.take 64) = false) :
    exec (.testUnlock h p) s = .next (complete h 0x0803 .unlockFailed [] (nonceUsed s)) := by
  change execTestUnlock h p s = _
  unfold execTestUnlock
  refine (command_runs ht (by simp [firstFail_cons, firstFail_nil, hzeros])).trans ?_
  rw [unlockMessage] at hsigned
  simp only [hnonce, hsigned, Bool.false_eq_true, if_false]
  rfl

theorem exec_testUnlock_unchallenged (hnonce : s.glb.nonce = none) :
    exec (.testUnlock h p) s = .next (complete h 0x0803 .unlockFailed [] s) := by
  have hsame : nonceUsed s = s := by rw [nonceUsed, ← hnonce]
  change execTestUnlock h p s = _
  unfold execTestUnlock
  refine (command_runs ht (by simp [firstFail_cons, firstFail_nil, hzeros])).trans ?_
  simp only [hnonce, Bool.false_eq_true, if_false]
  exact congrArg (fun t => Host.Outcome.next (complete h 0x0803 .unlockFailed [] t)) hsame

end

theorem exec_debugLock {h : Hdr} {p : Bytes} {s : State} (ht : Taken 0x0804 h p s) (hmagic : fld p 0 4 = 0x4C4F434B) :
    exec (.debugLock h p) s =
      .next (complete h 0x0804 .ok (le 1 (b2n s.otp.debugLocked)) { s with otp := { s.otp with debugLocked := true } }) := by
  change execDebugLock h p s = _
  unfold execDebugLock
  exact command_runs ht (by simp [firstFail_cons, firstFail_nil, hmagic])

/-- Settles O4: each command completes on the state of its rules. -/
theorem systemCommandsAct : Obligations.SystemCommandsAct := by
  unfold Obligations.SystemCommandsAct
  refine ⟨?profile, ?user, ?settings, ?key, ?challenge, ?unlock, ?unchallenged, ?lock⟩
  case profile =>
    exact fun h p s ht hres hprofile hbudget hfree =>
      answers_of_taken ht (profiled_boot p s) (exec_powerProfile ht hres hprofile hbudget hfree)
  case user =>
    exact fun h p s ht hlen hres harea hfirst hsome hfew hfits =>
      answers_of_taken ht (writeUsers_boot _ s) (exec_keepWrite_user ht ⟨hlen, hres, harea, hfirst, hsome, hfew, hfits⟩)
  case settings =>
    exact fun h p s ht hlen hres harea hfirst hsome hfew hfits hok =>
      answers_of_taken ht (writeSettings_boot _ s) (exec_keepWrite_settings ht ⟨hlen, hres, harea, hfirst, hsome, hfew, hfits⟩ hok)
  case key =>
    exact fun h p s ht hmagic hnone hkey => answers_of_taken ht rfl (exec_customerKeyProgram ht hmagic hnone hkey)
  case challenge =>
    exact fun h p s ht hpins hleft => answers_of_taken ht rfl (exec_testChallenge p ht hpins hleft)
  case unlock =>
    intro h p n s ht hzeros hnonce
    split
    case isTrue hsigned =>
      have hunlocked := answers_testUnlock_ok ht hzeros hnonce hsigned
      unfold testUnlocked nonceUsed at hunlocked
      generalize clearDramTasks _ = t at hunlocked ⊢
      exact hunlocked
    case isFalse hsigned =>
      exact answers_of_taken ht rfl (exec_testUnlock_unsigned ht hzeros hnonce (Bool.eq_false_iff.mpr hsigned))
  case unchallenged =>
    exact fun h p s ht hzeros hnonce => answers_of_taken ht rfl (exec_testUnlock_unchallenged ht hzeros hnonce)
  case lock => exact fun h p s ht hmagic => answers_of_taken ht rfl (exec_debugLock ht hmagic)

end Sys2Proof.Machine
end

section
/-! The commands that work on the boot flash (04 R120, R121; 16 R638, R646, R656; 17 R690, R691), and the proof of O5. -/
namespace Sys2Proof.Machine

/-- A command that answers reaches the state it answers on. -/
theorem reaches_of_answers {c : Instr} {h : Hdr} {op : Nat} {st : Status} {res : Bytes} {s u : State} (ha : Answers c h op st res s u) :
    Reaches c s u := by
  obtain ⟨t, hexec, -, hquiet, -⟩ := ha
  exact ⟨t, hexec, hquiet⟩

/-- A command of a ring that is taken and ends by staging a change completes PENDING (03 R75). -/
theorem answers_of_taken_stage {c : Instr} {op target : Nat} {h : Hdr} {p : Bytes} {ready : Bool} {ch : Change} {s u : State}
    (ht : Taken op h p s) (hring : h.ring ≠ 15) (hboot : u.glb.boot = s.glb.boot) (he : exec c s = .next (stage h op target ready ch u)) :
    Answers c h op .pending stagedResult s { u with staged := u.staged ++ [waiting h op target ready ch] } :=
  answers_of_stage (taken_ring ht) hring (hboot.trans (taken_boot ht)) he

/-- A flash operation joins the queue. -/
def flashQueued (o : FlashOp) (s : State) : State := { s with flash := { s.flash with queue := s.flash.queue ++ [o] } }

theorem boot_flashQueued (o : FlashOp) (s : State) : (flashQueued o s).glb.boot = s.glb.boot := rfl

theorem exec_faultExport_flash {h : Hdr} {p : Bytes} {s : State} (ht : Taken 0x0006 h [] s)
    (hres : resOk p ([0xFF, 0xFF, 0, 0] ++ full 8) = true) (htarget : fld p 0 1 = 0) (hpart : fld p 1 1 = 0) (hdest : fld p 4 8 = 0)
    (hfitted : s.flash.fitted = true) :
    exec (.faultExport h p) s = .next (stage h 0x0006 0 true .flash (flashQueued (.export_ (exportBytes h true 0 s)) s)) := by
  have hboot : s.bootState = .running := taken_boot ht
  change execFaultExport h p s = _
  unfold execFaultExport
  refine (romCommand_runs ht ?_).trans ?_
  · simpa [firstFail_cons, firstFail_nil, htarget, hpart, hdest, hfitted] using hres
  · simp [htarget, hboot, flashQueued]

/-! ### FW_INSTALL (04 R121) -/

section
variable {h : Hdr} {p : Bytes} {s : State} (ht : Taken 0x0007 h p s) (hres : resOk p (full 12 ++ [1, 0, 0, 0]) = true)
  (haddr : fld p 0 8 % 4096 = 0) (hlow : 4096 ≤ fld p 8 4) (hhigh : fld p 8 4 ≤ 8388608) (hfitted : s.flash.fitted = true)
include ht hres haddr hlow hhigh hfitted

/-- An image that passes its checks is queued (16 R646). -/
theorem exec_fwInstall_queued {b : Bytes} (hok : verifyImage s (pad (fld p 8 4) b) (min (fld p 8 4) (directory s.flash).2) = none) :
    exec (.fwInstall h p (some b)) s =
      .next (stage h 0x0007 0 true .flash (flashQueued (.install (pad (fld p 8 4) b) (bit (fld p 12 1) 0)) s)) := by
  change execFwInstall h p (some b) s = _
  unfold execFwInstall
  refine (command_runs ht ?_).trans ?_
  · simpa [firstFail_cons, firstFail_nil, haddr, hlow, hhigh, hfitted] using hres
  · simp only [hok, flashQueued]

/-- A read that fails, or an image that fails a check, ends the command with that status and changes no more (17 R690). -/
theorem exec_fwInstall_refused {image : Option Bytes} {st : Status}
    (hbad : (match image with
      | none => some .hostReadFailed
      | some b => verifyImage s (pad (fld p 8 4) b) (min (fld p 8 4) (directory s.flash).2)) = some st) :
    exec (.fwInstall h p image) s = .next (committed h.ring h.tag 0x0007 st 0 0 0 (complete h 0x0007 .pending stagedResult s)) := by
  change execFwInstall h p image s = _
  unfold execFwInstall
  refine (command_runs ht ?_).trans ?_
  · simpa [firstFail_cons, firstFail_nil, haddr, hlow, hhigh, hfitted] using hres
  · cases image with
    | none =>
      obtain rfl := Option.some.inj hbad
      rfl
    | some b => simp only [hbad]

theorem reaches_fwInstall_refused {image : Option Bytes} {st : Status}
    (hbad : (match image with
      | none => some .hostReadFailed
      | some b => verifyImage s (pad (fld p 8 4) b) (min (fld p 8 4) (directory s.flash).2)) = some st) :
    Reaches (.fwInstall h p image) s s :=
  ⟨_, exec_fwInstall_refused ht hres haddr hlow hhigh hfitted hbad,
    (quiet_committed ..).trans (complete_parts h 0x0007 .pending stagedResult s (taken_ring ht)).2.1⟩

end

/-! ### The end of a flash operation (16 R656) -/

def State.setFlash (s : State) (f : Flash) : State := { s with flash := f }

theorem quiet_setFlash (s : State) (f : Flash) : (s.setFlash f).quiet = s.quiet.setFlash f := rfl

/-- A fault record is written to the reserved area of the flash (16 R638). -/
def exportSent (b : Bytes) (s : State) : State :=
  (((s.send (.flash (s.flash.size - 8192) [])).send (.flash (s.flash.size - 8192 + 4096) [])).send
    (.flash (s.flash.size - 8192 + 64) (b.drop 64))).send (.flash (s.flash.size - 8192) (b.take 64))

/-- What the operation at the head of the queue writes as it ends. -/
def flashWritten (ok : Bool) (o : FlashOp) (s : State) : State :=
  match o, ok with
  | .export_ b, true => (exportSent b s).setFlash { (exportSent b s).flash with export_ := some b }
  | .export_ _, false => s.setFlash { s.flash with export_ := none }
  | .install b a, true => installImage b a s
  | .install _ _, false => s

theorem flashWritten_install (ok : Bool) (b : Bytes) (a : Bool) (s : State) :
    flashWritten ok (.install b a) s = if ok then installImage b a s else s := by
  cases ok <;> rfl

/-- The operation at the head leaves the queue. -/
def flashTaken (rest : List FlashOp) (s : State) : State := s.setFlash { s.flash with queue := rest }

/-- The command that waited for a flash operation ends with its outcome (04 R120, R121). -/
def flashOutcome (ok : Bool) (e : Staged) (s : State) : State :=
  stagedOutcome e.ring e.tag e.opcode.toNat (if ok then .ok else .internalFault) 0 (le 4 5696)
    { s with staged := s.staged.filter (· != e) }

/-- What is left to do once the flash is written: to end the command that waited, if one did. -/
def flashEnds (ok : Bool) (s : State) : State :=
  match s.staged.find? (fun e => e.change == .flash) with
  | none => s
  | some e => flashOutcome ok e s

theorem flashEnds_of_staged {ok : Bool} {e : Staged} {s : State} (h : s.staged.find? (fun e => e.change == .flash) = some e) :
    flashEnds ok s = flashOutcome ok e s := by
  unfold flashEnds
  rw [h]

theorem exec_flashOperationDone {ok : Bool} {o : FlashOp} {rest : List FlashOp} {s : State} (hqueue : s.flash.queue = o :: rest)
    (hport : portAnswers s = true) :
    exec (.flashOperationDone ok) s = .next (flashEnds ok (flashWritten ok o (flashTaken rest s))) := by
  change execFlashOperationDone ok s = _
  unfold execFlashOperationDone
  rw [hqueue]
  simp only [hport, Bool.not_true, Bool.false_eq_true, if_false]
  cases o <;> cases ok <;> rfl

/-- An install writes its slot and the directory. -/
theorem quiet_installImage (b : Bytes) (a : Bool) (s : State) :
    (installImage b a s).quiet = (s.setFlash (installImage b a s).flash).quiet := rfl

/-- An operation writes the flash and tells nobody but the flash's own interface. -/
theorem quiet_flashWritten (ok : Bool) (o : FlashOp) (s : State) :
    (flashWritten ok o s).quiet = (s.setFlash (flashWritten ok o s).flash).quiet := by
  cases o with
  | export_ b =>
    cases ok with
    | true => 
      simp only [flashWritten, quiet_setFlash, exportSent, quiet_send]
      rfl
    | false => rfl
  | install b a =>
    cases ok with
    | true => exact quiet_installImage b a s
    | false => rfl

/-- The end of an operation takes it off the queue, writes what it writes, and ends the command that waited for it. -/
theorem reaches_flashOperationDone {ok : Bool} {o : FlashOp} {rest : List FlashOp} {e : Staged} {s : State}
    (hqueue : s.flash.queue = o :: rest) (hport : portAnswers s = true)
    (hstaged : s.staged.find? (fun e => e.change == .flash) = some e) (hops : s.pack.ops = []) :
    Reaches (.flashOperationDone ok) s
      { s with flash := (flashWritten ok o (flashTaken rest s)).flash, staged := s.staged.filter (· != e) } := by
  have hquiet := quiet_flashWritten ok o (flashTaken rest s)
  have hkept : (flashWritten ok o (flashTaken rest s)).staged = s.staged := (congrArg State.staged hquiet :)
  have hnone : (flashWritten ok o (flashTaken rest s)).pack.ops = [] := (congrArg (fun t => t.pack.ops) hquiet :).trans hops
  refine ⟨_, exec_flashOperationDone hqueue hport, ?_⟩
  rw [flashEnds_of_staged (by rw [hkept]; exact hstaged)]
  unfold flashOutcome
  refine (quiet_stagedOutcome _ _ _ _ _ _ _ ?_).trans ?_
  · exact hnone
  rw [hkept]
  exact quiet_setStaged _ hquiet

/-- Settles O5: an operation is queued with its command staged, and its end is what it writes. -/
theorem flashCommandsAct : Obligations.FlashCommandsAct := by
  unfold Obligations.FlashCommandsAct
  refine ⟨?exporting, ?install, ?exported, ?installed⟩
  case exporting =>
    intro h p s ht hres htarget hpart hdest hring hfitted
    have hdone := exec_faultExport_flash ht hres htarget hpart hdest hfitted
    have hans := answers_of_taken_stage ht (by omega) (boot_flashQueued ..) hdone
    exact hans
  case install =>
    intro h p image s ht hres haddr hlow hhigh hfitted hring
    cases image with
    | none => exact reaches_fwInstall_refused ht hres haddr hlow hhigh hfitted rfl
    | some b =>
      cases hverify : verifyImage s (pad (fld p 8 4) b) (min (fld p 8 4) (directory s.flash).2) with
      | none =>
        simp only [hverify, if_true]
        have hdone := exec_fwInstall_queued ht hres haddr hlow hhigh hfitted hverify
        have hans := answers_of_taken_stage ht (by omega) (boot_flashQueued ..) hdone
        exact reaches_of_answers hans
      | some st =>
        simp only [hverify, reduceCtorEq, if_false]
        exact reaches_fwInstall_refused ht hres haddr hlow hhigh hfitted hverify
  case exported =>
    intro ok b rest e s hqueue hport hstaged hops
    have hdone := reaches_flashOperationDone (ok := ok) hqueue hport hstaged hops
    cases ok <;> exact hdone
  case installed =>
    intro ok a b rest e s hqueue hport hstaged hops
    have hdone := reaches_flashOperationDone (ok := ok) hqueue hport hstaged hops
    rw [flashWritten_install] at hdone
    exact hdone

end Sys2Proof.Machine
end

section
/-! STREAM_RELEASE (04 R134), and the proof of O49. -/
namespace Sys2Proof.Machine

/-- The first failure of two lists of checks, one after the other (03 R73). -/
theorem firstFail_append_or (a b : List (Bool × Status)) : firstFail (a ++ b) = (firstFail a).or (firstFail b) := by
  induction a with
  | nil => rfl
  | cons check a ih =>
    obtain ⟨holds, st⟩ := check
    cases holds with
    | false => rfl
    | true => exact ih

/-- The checks common to all commands of a ring pass for one that is taken, so the command's own decide (03 R73). -/
theorem firstFail_checksOf {op : Nat} {h : Hdr} {p : Bytes} {s : State} (ht : Taken op h p s) (len form state : List (Bool × Status)) :
    firstFail (checksOf op h s len form state) = firstFail (len ++ form ++ state) := by
  obtain ⟨-, hclean, hmode, hleader, -, hring⟩ := ht
  have hport : (h.ring != 15 || onPort op) = true := by
    rcases hring with hring | ⟨-, hon⟩
    · simp only [Bool.or_eq_true, bne_iff_ne]; omega
    · rw [hon, Bool.or_true]
  have hfirst : firstFail [(slotClean h s, Status.reservedNonzero)] = none := by rw [hclean]; rfl
  have hsecond : firstFail [(h.ring != 15 || onPort op, Status.notOnPort),
      (h.ring == 15 || h.ring == innerRing || onPort op || !s.follower, Status.notLeader),
      (!s.glb.testMode, Status.badState)] = none := by simp [hport, hleader, hmode, firstFail_cons, firstFail_nil]
  simp only [checksOf, firstFail_append_or, hfirst, hsecond, Option.or_none]

/-- A command that is taken and fails a check of its own completes with that check's status (03 R73). -/
theorem command_fails {op : Nat} {h : Hdr} {p : Bytes} {len form state : List (Bool × Status)} {act : State → State} {s : State} {st : Status}
    (ht : Taken op h p s) (hfail : firstFail (len ++ form ++ state) = some st) :
    command op h p len form state act s = .next (complete h op st [] s) :=
  command_refused ht.1 ((firstFail_checksOf ht len form state).trans hfail)

section
variable {h : Hdr} {p : Bytes} {s : State} {sc : Nat} (ht : Taken 0x0203 h p s) (hres : resOk p [0x1F] = true) (hsc : bits (fld p 0 1) 0 5 = sc)
include ht hres hsc

/-- A stream that runs or that an alignment group holds is not released (04 R134). -/
theorem exec_streamRelease_refused (hbad : (s.stream sc).state ≠ .configured ∨ (s.stream sc).group ≠ none) :
    exec (.streamRelease h p) s = .next (complete h 0x0203 .badState [] s) := by
  change execStreamRelease h p s = _
  unfold execStreamRelease
  refine command_fails ht ?_
  by_cases hstate : (s.stream sc).state = .configured
  · have hgroup : (s.stream sc).group.isNone = false := by
      simpa only [Option.isNone_eq_false_iff, Option.isSome_iff_ne_none] using hbad.resolve_left (not_not_intro hstate)
    simp [hsc, hres, hstate, hgroup, firstFail]
  · have hwrong : ((s.stream sc).state == .configured) = false := beq_false_of_ne hstate
    simp [hsc, hres, hwrong, firstFail]

/-- The stream's staged commands are aborted, its route is freed, its context is as after reset (04 R134, R140). -/
theorem exec_streamRelease (hstate : (s.stream sc).state = .configured) (hgroup : (s.stream sc).group = none) :
    exec (.streamRelease h p) s = .next (complete h 0x0203 .ok [] ((unroute sc (abortStaged sc s)).setStream sc {})) := by
  change execStreamRelease h p s = _
  unfold execStreamRelease
  rw [hsc]
  exact command_runs ht (by simp [firstFail_cons, firstFail_nil, hres, hstate, hgroup])

theorem answers_streamRelease (hstate : (s.stream sc).state = .configured) (hgroup : (s.stream sc).group = none) :
    Answers (.streamRelease h p) h 0x0203 .ok [] s ((unroute sc (abortStaged sc s)).setStream sc {}) := by
  refine answers_of_taken ht ?_ (exec_streamRelease ht hres hsc hstate hgroup)
  simp

end

/-- No source feeds a stream that has been unrouted (05 R198). -/
theorem routes_unroute (sc : Nat) (s : State) : ∀ e ∈ (unroute sc s).routes, e.2 ≠ sc := by
  intro e he
  simpa using (List.mem_filter.mp he).2

/-- Settles O49: the length decides the slot's form; a stream that is free to go is reset whole. -/
theorem streamReleaseResult : Obligations.StreamReleaseResult := by
  unfold Obligations.StreamReleaseResult
  refine ⟨?form, ?refused, ?released⟩
  case form => exact fun b _ hop hdirect => slotForm_of_length (port := false) hdirect (congrArg opForm hop) (by decide)
  case refused => exact fun h p s ht hres hbad => answers_of_taken ht rfl (exec_streamRelease_refused ht hres rfl hbad)
  case released =>
    intro h p s ht hres hstate hgroup
    have hstream := stream_setStream (unroute (bits (fld p 0 1) 0 5) (abortStaged (bits (fld p 0 1) 0 5) s)) (bits (fld p 0 1) 0 5) {}
    exact ⟨_, answers_streamRelease ht hres rfl hstate hgroup, hstream, congrArg Stream.state hstream, routes_unroute _ _⟩

end Sys2Proof.Machine
end

section
/-! What follows the completion of a kill, and the stream commands (04 R131 to R135, R140), and the proof of O6. -/
namespace Sys2Proof.Machine

/-! ### What a fold over streams leaves -/

theorem state_setStream (s : State) (n m : Nat) (x : Stream) (h : x.state = (s.stream m).state) :
    ((s.setStream m x).stream n).state = (s.stream n).state := by
  by_cases hnm : n = m
  · subst hnm
    rw [stream_setStream, h]
  · exact congrArg Stream.state (tab_get_put_ne _ _ _ _ _ hnm)

/-- Refreshing the certificates and relaxing the floors keep what every write of a stream's certificate and floor keeps (02 R45). -/
theorem sharesShrink_keeps {β : Type} (field : State → β)
    (hcert : ∀ (s : State) (i : Nat) (c : Cert), field (s.setStream i { s.stream i with cert := c }) = field s)
    (hfloor : ∀ (s : State) (i : Nat) (f : Option Nat), field (s.setStream i { s.stream i with nextFloor := f }) = field s) (s : State) :
    field (sharesShrink s) = field s := by
  have hrefresh : field (refreshCerts s) = field s :=
    foldl_keeps field (fun t i => by dsimp only; (repeat' split) <;> first | rfl | exact hcert _ _ _) _ s
  have hrelax : field (relaxFloors (refreshCerts s)) = field (refreshCerts s) :=
    foldl_keeps field (fun t i => by dsimp only; (repeat' split) <;> first | rfl | exact hfloor _ _ _) _ _
  exact hrelax.trans hrefresh

@[simp] theorem rings_sharesShrink (s : State) : (sharesShrink s).rings = s.rings :=
  sharesShrink_keeps State.rings (fun _ _ _ => rfl) (fun _ _ _ => rfl) s

@[simp] theorem mgmt_sharesShrink (s : State) : (sharesShrink s).mgmt = s.mgmt :=
  sharesShrink_keeps State.mgmt (fun _ _ _ => rfl) (fun _ _ _ => rfl) s

@[simp] theorem state_sharesShrink (s : State) (n : Nat) : ((sharesShrink s).stream n).state = (s.stream n).state :=
  sharesShrink_keeps (fun s => (s.stream n).state) (fun _ _ _ => state_setStream _ _ _ _ rfl) (fun _ _ _ => state_setStream _ _ _ _ rfl) s

@[simp] theorem rings_noteOfmIdle (s : State) : (noteOfmIdle s).rings = s.rings := by
  unfold noteOfmIdle
  split <;> rfl

@[simp] theorem mgmt_noteOfmIdle (s : State) : (noteOfmIdle s).mgmt = s.mgmt := by
  unfold noteOfmIdle
  split <;> rfl

@[simp] theorem stream_noteOfmIdle (s : State) (n : Nat) : (noteOfmIdle s).stream n = s.stream n := by
  unfold noteOfmIdle
  split <;> rfl

/-! ### The end of a stream and of a job -/

/-- The end of a stream brings it to CONFIGURED, calls what completes the command, and then reports and shares the load anew (04 R133). -/
theorem endStream_eq (killed : Bool) (side : SideChange) (sc : Nat) (s : State) (fin : State → State)
    (hside : ∀ c t, (side c t).bootState = t.bootState) : ∃ (e : Bytes) (v : State), (v.stream sc).state = .configured ∧
      v.bootState = s.bootState ∧ endStream killed side sc s fin = noteOfmIdle (sharesShrink (emit (srcSc sc) 0x0105 e (fin v))) := by
  unfold endStream
  extract_lets x shadow s1 s2 s3 s4 s5 s6 s7
  have hboot : s7.bootState = s.bootState := by simp [s1, s2, s3, s4, s5, s6, s7, hside]
  clear_value s7
  split
  next orphan t horphan =>
    have hfreed : t.bootState = s.bootState := by
      refine Eq.trans (b := s7.bootState) (?_ : (orphan, t).2.bootState = _) hboot
      rw [← horphan]
      split <;> simp
    extract_lets y cert z u tve v
    exact ⟨_, v, congrArg Stream.state (stream_setStream ..), (State.setStream_boot t sc z).trans hfreed, rfl⟩

/-- A stream that is killed ends CONFIGURED and the command that killed it completes (04 R133). -/
theorem killStream_completes {h : Hdr} {op : Nat} {st : Status} {res : Bytes} {s : State} (sc : Nat) (hring : h.ring ≠ 16)
    (hboot : s.glb.boot = .running) :
    Completed h op st res (killStream sc s (complete h op st res)) ∧
      ((killStream sc s (complete h op st res)).stream sc).state = .configured := by
  obtain ⟨e, v, hstate, hrun, heq⟩ := endStream_eq true applySide sc (settleRoutes sc (finishTiles (s.stream sc).cores s))
    (complete h op st res) (fun _ _ => by simp)
  obtain ⟨hdone, hquiet, -⟩ := complete_spec h op st res v hring (by rw [boot_fold, hrun]; simpa using hboot)
  have hstreams : ∀ n, (complete h op st res v).stream n = v.stream n := fun n => (congrArg (fun t : State => t.stream n) hquiet :)
  unfold killStream
  rw [heq]
  exact ⟨hdone.of_apart (by simp) (by simp), by simp [hstreams, hstate]⟩

/-! ### Changes of a stream -/

/-- A change that takes effect at once on a stream that does not run (04 R172). -/
theorem boundaryCommand_now {op sc : Nat} {h : Hdr} {c : Change} {s : State} (hout : outstanding s sc = false)
    (hready : changeReady s sc c = true) (hstate : (s.stream sc).state ≠ .running) :
    boundaryCommand op h sc c s = complete h op .ok (effective 0) (commitChange sc s c) := by
  simp [boundaryCommand, hout, hready, hstate]

/-- A change that waits in the shadow set of a running stream (04 R172). -/
theorem boundaryCommand_running {op sc : Nat} {h : Hdr} {c : Change} {s : State} (hout : outstanding s sc = false)
    (hready : changeReady s sc c = true) (hstate : (s.stream sc).state = .running) :
    boundaryCommand op h sc c s = complete h op .ok (effective (s.stream sc).nextFrame.toNat)
      (s.setStream sc { s.stream sc with shadow := (s.stream sc).shadow ++ [c] }) := by
  simp [boundaryCommand, hout, hready, hstate]

/-! ### STREAM_CONFIG (04 R131) -/

section
variable {h : Hdr} {p : Bytes} {s : State} {sc : Nat} (ht : Taken 0x0200 h p s) (hlen : p.length = 64 + 32 * fld p 14 1)
  (hres : resOk p (configMask (fld p 14 1)) = true) (hform : configForm (configOf p) = true) (hratio : ratioOk (configOf p) = true)
  (hsc : bits (fld p 0 1) 0 5 = sc) (hchecks : firstFail (configState sc (configOf p) s) = none)
include ht hlen hres hform hratio hsc hchecks

theorem exec_streamConfig : exec (.streamConfig h p) s = .next (if (s.stream sc).state == .running then configureRunning h sc (configOf p) s
    else complete h 0x0200 .ok (effective 0) (configureNow sc (configOf p) s)) := by
  change execStreamConfig h p s = _
  unfold execStreamConfig
  rw [hsc]
  exact command_runs ht (by simp [firstFail_cons, hlen, hres, hform, hratio, hchecks])

theorem exec_streamConfig_now (hstate : (s.stream sc).state ≠ .running) :
    exec (.streamConfig h p) s = .next (complete h 0x0200 .ok (effective 0) (configureNow sc (configOf p) s)) := by
  rw [exec_streamConfig ht hlen hres hform hratio hsc hchecks, if_neg (by simpa using hstate)]

/-- On a running stream a configuration with the same plan waits for the frame boundary (04 R131). -/
theorem exec_streamConfig_running (hstate : (s.stream sc).state = .running) (hplan : (planOf s (configOf p)).isSome = true)
    (hsame : planChanges (settled s sc) (configOf p) = false) (hcert : certOk s sc (settledWith s sc (.config (configOf p))) = true)
    (hout : outstanding s sc = false) (hready : changeReady s sc (.config (configOf p)) = true) :
    exec (.streamConfig h p) s = .next (complete h 0x0200 .ok (effective (s.stream sc).nextFrame.toNat)
      (s.setStream sc { s.stream sc with shadow := (s.stream sc).shadow ++ [.config (configOf p)] })) := by
  obtain ⟨plan, hplan⟩ := Option.isSome_iff_exists.mp hplan
  rw [exec_streamConfig ht hlen hres hform hratio hsc hchecks, if_pos (by simp [hstate])]
  simp only [configureRunning, hplan, hsame, hcert, Bool.false_eq_true, if_false, if_true, boundaryCommand_running hout hready hstate]

end

/-! ### STREAM_STOP with kill (04 R133) -/

theorem exec_streamStop_kill {h : Hdr} {p : Bytes} {s : State} {sc : Nat} (ht : Taken 0x0202 h p s) (hres : resOk p [0x1F, 0xFF] = true)
    (hmode : fld p 1 1 = 1) (hsc : bits (fld p 0 1) 0 5 = sc)
    (hstate : (s.stream sc).state = .running ∨ (s.stream sc).state = .draining ∨ (s.stream sc).state = .faulted) :
    exec (.streamStop h p) s = .next (killStream sc s (complete h 0x0202 .ok [])) := by
  change execStreamStop h p s = _
  unfold execStreamStop
  rw [hsc]
  refine (command_runs ht ?_).trans ?_
  · simpa [firstFail_cons, firstFail_nil, hres, hmode, or_assoc] using hstate
  · simp only [hmode, Nat.one_ne_zero, if_false]

/-! ### BUFFER_POST (04 R135) and CERT_READ (04 R140) -/

/-- What a posted output buffer does: a held output goes into it, whether it has left the stream's outputs or not, else it joins the queue. -/
def postOutput (h : Hdr) (sc d : Nat) (b : Buf) (s : State) : State :=
  let x := s.stream sc
  match heldOutput x d with
  | some o => staleDelivery sc d o b (complete h 0x0204 .ok [] s)
  | none => match holding x d with
    | some o => staleBinding sc o b (complete h 0x0204 .ok [] s)
    | none => complete h 0x0204 .ok [] (s.setStream sc { x with outBufs := Tab.put x.outBufs d (Tab.get [] x.outBufs d ++ [b]) })

theorem postOutput_queued {h : Hdr} {sc d : Nat} {b : Buf} {s : State} (hheld : heldOutput (s.stream sc) d = none)
    (hholding : holding (s.stream sc) d = none) :
    postOutput h sc d b s = complete h 0x0204 .ok [] (s.setStream sc
      { s.stream sc with outBufs := Tab.put (s.stream sc).outBufs d (Tab.get [] (s.stream sc).outBufs d ++ [b]) }) := by
  simp only [postOutput, hheld, hholding]

section
variable {h : Hdr} {p : Bytes} {s : State} {sc : Nat} (ht : Taken 0x0204 h p s) (hres : resOk p ([0x1F, 0xFF, 0x07, 0] ++ full 28) = true)
  (hsc : bits (fld p 0 1) 0 5 = sc) (hplane0 : (bufOf p).plane0 % 256 = 0) (hplane1 : (bufOf p).plane1 % 256 = 0)
  (hpitch0 : (bufOf p).pitch0 % 64 = 0) (hpitch1 : (bufOf p).pitch1 % 64 = 0)
include ht hres hsc hplane0 hplane1 hpitch0 hpitch1

/-- An input buffer joins the stream's queue. -/
theorem exec_bufferPost_input (hkind : fld p 1 1 = 0) (hdesc : bits (fld p 2 1) 0 3 = 0)
    (hstate : (s.stream sc).state = .configured ∨ (s.stream sc).state = .running) (hsource : (s.stream sc).cfg.sourceKind = 1)
    (hfits : bufOk (bufOf p) (settled s sc).cfg.inFormat (settled s sc).cfg.inW = true) (hroom : (s.stream sc).inBufs.length < 16) :
    exec (.bufferPost h p) s = .next (complete h 0x0204 .ok []
      (s.setStream sc { s.stream sc with inBufs := (s.stream sc).inBufs ++ [bufOf p] })) := by
  have hdrain : (s.stream sc).state ≠ .draining := by rcases hstate with hstate | hstate <;> simp [hstate]
  change execBufferPost h p s = _
  unfold execBufferPost
  refine (command_runs ht ?_).trans ?_
  · simpa [firstFail_cons, firstFail_nil, hsc, hplane0, hplane1, hpitch0, hpitch1, hkind, hdesc, hsource, hfits,
      hroom, hdrain] using ⟨hres, hstate⟩
  · simp only [hkind, hsc, if_true]

/-- An output buffer that fits its descriptor is posted. -/
theorem exec_bufferPost_output {d : Desc} (hkind : fld p 1 1 = 1)
    (hstate : (s.stream sc).state = .configured ∨ (s.stream sc).state = .running ∨ (s.stream sc).state = .draining)
    (hdesc : Tab.get none (Tab.map (fun _ e => some e) (settled s sc).cfg.descs) (bits (fld p 2 1) 0 3) = some d)
    (hfits : bufOk (bufOf p) d.format d.outW = true) (hroom : (Tab.get [] (s.stream sc).outBufs (bits (fld p 2 1) 0 3)).length < 16) :
    exec (.bufferPost h p) s = .next (postOutput h sc (bits (fld p 2 1) 0 3) (bufOf p) s) := by
  change execBufferPost h p s = _
  unfold execBufferPost
  refine (command_runs ht ?_).trans ?_
  · simpa [firstFail_cons, firstFail_nil, hsc, hplane0, hplane1, hpitch0, hpitch1, hkind, hdesc, hfits, hroom, or_assoc] using ⟨hres, hstate⟩
  · simp only [hkind, hsc, Nat.one_ne_zero, if_false]
    rfl

end

theorem exec_certRead {h : Hdr} {p : Bytes} {s : State} (ht : Taken 0x0209 h p s) (hres : resOk p ([0x1F, 0, 0, 0] ++ full 8) = true)
    (hdest : destOk h (fld p 4 8) = true) :
    exec (.certRead h p) s = .next (complete h 0x0209 .ok [] (deliverData h (fld p 4 8)
      (certBytes (bits (fld p 0 1) 0 5) (s.stream (bits (fld p 0 1) 0 5)).cert) s)) := by
  change execCertRead h p s = _
  unfold execCertRead
  exact command_runs ht (by simpa [firstFail_cons, firstFail_nil, hdest] using hres)

/-- Settles O6: each command's checks pass, and it completes on the state that its rule gives. -/
theorem streamCommandsAct : Obligations.StreamCommandsAct := by
  unfold Obligations.StreamCommandsAct
  refine ⟨?configure, ?reconfigure, ?kill, ?release, ?input, ?output, ?certificate⟩
  case configure =>
    intro h p s ht hlen hres hform hratio hchecks hstate
    exact answers_of_taken ht (by simp) (exec_streamConfig_now ht hlen hres hform hratio rfl hchecks hstate)
  case reconfigure =>
    intro h p s ht hlen hres hform hratio hchecks hstate hplan hsame hcert hout hready
    exact answers_of_taken ht rfl (exec_streamConfig_running ht hlen hres hform hratio rfl hchecks hstate hplan hsame hcert hout hready)
  case kill =>
    intro h p s ht hres hmode hstate
    exact ⟨exec_streamStop_kill ht hres hmode rfl hstate, killStream_completes _ (taken_ring ht) (taken_boot ht)⟩
  case release => exact fun h p s ht hres hstate hgroup => answers_streamRelease ht hres rfl hstate hgroup
  case input =>
    intro h p s ht hres hkind hdesc hplane0 hplane1 hpitch0 hpitch1 hstate hsource hfits hroom
    exact answers_of_taken ht rfl (exec_bufferPost_input ht hres rfl hplane0 hplane1 hpitch0 hpitch1 hkind hdesc hstate hsource hfits hroom)
  case output =>
    intro h p s d ht hres hkind hplane0 hplane1 hpitch0 hpitch1 hstate hdesc hfits hroom hheld hholding
    have hexec := exec_bufferPost_output ht hres rfl hplane0 hplane1 hpitch0 hpitch1 hkind hstate hdesc hfits hroom
    rw [postOutput_queued hheld hholding] at hexec
    exact answers_of_taken ht rfl hexec
  case certificate => exact fun h p s ht hres hdest => answersData_of_taken ht rfl (exec_certRead ht hres hdest)

end Sys2Proof.Machine
end

section
/-! The commands that act at a stream's frame boundary (04 R136 to R139; 05 R199 to R211), and the proof of O7. -/
namespace Sys2Proof.Machine

/-! ### OUTPUT_SET (04 R137) -/

/-- OUTPUT_SET passes its checks for a stream that is configured or runs, and changes it at its boundary. -/
theorem exec_outputSet {h : Hdr} {p : Bytes} {s : State} {sc : Nat} {c : Change} (ht : Taken 0x0206 h p s)
    (hres : resOk p ([0x1F, 0x07, 0xFF, 0] ++ (if fld p 2 1 = 0 then descMask else full 32)) = true) (hsc : bits (fld p 0 1) 0 5 = sc)
    (hchange : (fld p 2 1 = 0 ∧ descForm (descOf p 4) = true ∧ c = .output (fld p 1 1) (some (descOf p 4))) ∨
      (fld p 2 1 = 1 ∧ c = .output (fld p 1 1) none))
    (hstate : (s.stream sc).state = .configured ∨ (s.stream sc).state = .running)
    (hfits : fld p 2 1 = 0 → ((planOf s (settled s sc).cfg).map (fun pl => descFits pl (settled s sc).cfg (descOf p 4))).getD true = true)
    (hroom : fld p 2 1 = 0 → descriptorsOk s sc c = true)
    (hthere : fld p 2 1 = 1 → ((settled s sc).cfg.descs.any (fun q => q.1 == fld p 1 1)) = true ∧ (settled s sc).cfg.descs.length ≠ 1)
    (hcert : (s.stream sc).state = .running → certOk s sc (applyPure (settled s sc) c) = true) :
    exec (.outputSet h p) s = .next (boundaryCommand 0x0206 h sc c s) := by
  have hfree : (s.stream sc).state ≠ .free := by rcases hstate with hstate | hstate <;> simp [hstate]
  have hcert : (s.stream sc).state ≠ .running ∨ certOk s sc (applyPure (settled s sc) c) = true :=
    (em _).symm.imp_right hcert
  change execOutputSet h p s = _
  unfold execOutputSet
  rw [hsc]
  rcases hchange with ⟨hop, hform, rfl⟩ | ⟨hop, rfl⟩
  · refine (command_runs ht ?_).trans ?_
    · simpa [firstFail_cons, firstFail_nil, hop, hform, hfree, hstate, hfits hop, hroom hop, hcert] using hres
    · simp only [hop, if_true]
  · obtain ⟨hany, hnotLast⟩ := hthere hop
    refine (command_runs ht ?_).trans ?_
    · simpa [firstFail_cons, firstFail_nil, hop, hfree, hstate, hany, hnotLast, hcert] using hres
    · simp only [hop, Nat.one_ne_zero, if_false]

/-! ### SET_PROFILE (04 R139) -/

theorem exec_setProfile {h : Hdr} {p : Bytes} {s : State} {sc : Nat} (ht : Taken 0x0208 h p s) (hres : resOk p [0x1F, 0xFF, 0x0F] = true)
    (hsc : bits (fld p 0 1) 0 5 = sc) (hmode : fld p 1 1 ≤ 1)
    (hstate : (s.stream sc).state = .configured ∨ (s.stream sc).state = .running) :
    exec (.setProfile h p) s =
      .next (boundaryCommand 0x0208 h sc (.pin (if fld p 1 1 = 1 then some (bits (fld p 2 1) 0 4) else none)) s) := by
  change execSetProfile h p s = _
  unfold execSetProfile
  rw [hsc]
  exact command_runs ht (by simp [firstFail_cons, firstFail_nil, hres, hmode, hstate])

/-! ### ROUTE_SET (04 R136) -/

/-- The first frame of the stream that a route leads to, where it runs (05 R200). -/
def routeFrom (s : State) (target : Option Nat) : Nat :=
  (target.map (fun b => if runs s b then (s.stream b).nextFrame.toNat else 0)).getD 0

/-- A route change that waits for its source's next frame start, its command in flight (05 R199, R200). -/
def routeWaits (h : Hdr) (src : Nat) (target : Option Nat) (s : State) : State :=
  markStarted h ({ s with staged := s.staged ++ [waiting h 0x0205 (32 + src) true (.route src target)] }.setSource src
    { s.source src with routing := some target })

theorem exec_routeSet {h : Hdr} {p : Bytes} {s : State} {src : Nat} {target : Option Nat} (ht : Taken 0x0205 h p s)
    (hres : resOk p [0xF3, 0xFF] = true) (hsrc : src = bits (fld p 0 1) 0 2 * 16 + bits (fld p 0 1) 4 4)
    (htarget : (fld p 1 1 = 0xFF ∧ target = none) ∨ (fld p 1 1 < 32 ∧ target = some (fld p 1 1) ∧
      (s.stream (fld p 1 1)).cfg.sourceKind = 2 ∧ ((s.stream (fld p 1 1)).state = .configured ∨ (s.stream (fld p 1 1)).state = .running)))
    (hpending : routePending s src target = false) :
    exec (.routeSet h p) s = .next (if ((feeds s src).map (runs s)).getD false then routeWaits h src target s
      else complete h 0x0205 .ok (effective (routeFrom s target)) (commitRoute src target s)) := by
  subst hsrc
  change execRouteSet h p s = _
  unfold execRouteSet
  rcases htarget with ⟨hnone, rfl⟩ | ⟨hstream, rfl, hkind, hstate⟩
  · refine (command_runs ht ?_).trans ?_
    · simp [firstFail_cons, firstFail_nil, hres, hnone, hpending]
    · simp only [hnone, if_true]
      rfl
  · have hsome : fld p 1 1 ≠ 0xFF := by omega
    have hfree : (s.stream (fld p 1 1)).state ≠ .free := by rcases hstate with hstate | hstate <;> simp [hstate]
    refine (command_runs ht ?_).trans ?_
    · simp [firstFail_cons, firstFail_nil, hres, hsome, hstream, hfree, hkind, hstate, hpending]
    · simp only [hsome, if_false]
      rfl

/-- A route change that commits within 20 ms of its fetch completes its command with the frame it holds from (05 R200). -/
theorem routeOutcome_in_time {src frame : Nat} {e : Staged} {f : InFlight} {s : State}
    (hstaged : s.staged.find? (fun e => match e.change with | .route x _ => x == src | _ => false) = some e)
    (hflight : (s.inFlight e.ring).find? (fun f => f.tag == e.tag && f.phase == .started) = some f)
    (htime : s.now ≤ f.fetchedAt + 20000000) :
    routeOutcome src frame s = complete { ring := e.ring, tag := e.tag, crc := f.crc } e.opcode.toNat .ok (effective frame)
      { s with staged := s.staged.filter (fun x => x != e) } := by
  unfold routeOutcome
  generalize hfound : s.staged.find? _ = found
  obtain rfl := hfound.symm.trans hstaged
  dsimp only
  generalize hwaits : List.find? _ _ = waits
  obtain rfl := hwaits.symm.trans hflight
  simp only [htime, if_true]
  rfl

/-! ### GROUP_SET (04 R138) -/

theorem exec_groupSet {h : Hdr} {p : Bytes} {s : State} {g : Nat} (ht : Taken 0x0207 h p s)
    (hres : resOk p ([0x07, 0xFF, 0, 0] ++ full 4) = true) (hg : bits (fld p 0 1) 0 3 = g) (hpolicy : fld p 1 1 ≤ 3)
    (hmembers : (maskBits (fld p 4 4) 32).all (fun i => ((s.stream i).state == .configured || (s.stream i).state == .running) &&
      ((s.stream i).group.isNone || (s.stream i).group == some g)) = true)
    (hrates : fld p 4 4 ≠ 0 → ratesAlign ((maskBits (fld p 4 4) 32).map (fun i => (settled s i).cfg)) = true)
    (hsome : fld p 4 4 ≠ 0 ∨ (s.group g).members ≠ 0) :
    exec (.groupSet h p) s = .next (if (maskBits (fld p 4 4) 32 ++ maskBits (s.group g).members 32).any (runs s)
      then stage h 0x0207 g true (.group (fld p 4 4) (fld p 1 1)) s
      else complete h 0x0207 .ok (effective 0) (setGroupMembers g (fld p 4 4) (fld p 1 1) s)) := by
  have hstates : (maskBits (fld p 4 4) 32).all (fun i => (s.stream i).state == .configured || (s.stream i).state == .running) = true := by
    refine List.all_eq_true.mpr fun i hi => ?_
    exact (Bool.and_eq_true_iff.mp (List.all_eq_true.mp hmembers i hi)).1
  have hjoined : (maskBits (fld p 4 4) 32).all (fun i => (s.stream i).state != .free &&
      ((s.stream i).group.isNone || (s.stream i).group == some g)) = true := by
    refine List.all_eq_true.mpr fun i hi => ?_
    obtain ⟨hstate, hgroup⟩ := Bool.and_eq_true_iff.mp (List.all_eq_true.mp hmembers i hi)
    rw [hgroup, Bool.and_true]
    rw [Bool.or_eq_true, beq_iff_eq, beq_iff_eq] at hstate
    rcases hstate with hstate | hstate <;> simp [hstate]
  have hrates : (fld p 4 4 == 0 || ratesAlign ((maskBits (fld p 4 4) 32).map (fun i => (settled s i).cfg))) = true := by
    by_cases hzero : fld p 4 4 = 0
    · simp [hzero]
    · simp [hrates hzero]
  change execGroupSet h p s = _
  unfold execGroupSet
  rw [hg]
  refine command_runs ht ?_
  simp only [List.nil_append, List.cons_append, firstFail_cons, firstFail_nil, hjoined, hstates, hrates]
  simpa [hpolicy] using And.intro hres hsome

/-- Settles O7: a change takes effect at once, enters the shadow set, or waits in flight. -/
theorem boundaryCommandsAct : Obligations.BoundaryCommandsAct := by
  unfold Obligations.BoundaryCommandsAct
  refine ⟨?outputNow, ?outputRunning, ?profileRunning, ?profilePinned, ?profileFree, ?route, ?routed, ?group⟩
  case outputNow =>
    intro h p s c ht hres hchange hstate hfits hroom hthere hout hready
    have hidle : (s.stream (bits (fld p 0 1) 0 5)).state ≠ .running := by simp [hstate]
    have hexec := exec_outputSet ht hres rfl hchange (.inl hstate) hfits hroom hthere (absurd · hidle)
    rw [boundaryCommand_now hout hready hidle] at hexec
    exact answers_of_taken ht (by simp) hexec
  case outputRunning =>
    intro h p s c ht hres hchange hstate hfits hroom hthere hcert hout hready
    have hexec := exec_outputSet ht hres rfl hchange (.inr hstate) hfits hroom hthere (fun _ => hcert)
    rw [boundaryCommand_running hout hready hstate] at hexec
    exact answers_of_taken ht rfl hexec
  case profileRunning =>
    intro h p s ht hres hmode hstate hout hready
    have hexec := exec_setProfile ht hres rfl hmode (.inr hstate)
    rw [boundaryCommand_running hout hready hstate] at hexec
    exact answers_of_taken ht rfl hexec
  case profilePinned =>
    intro h p s ht hres hmode hstate hout hready
    have hexec := exec_setProfile ht hres rfl hmode.le (.inl hstate)
    rw [if_pos hmode, boundaryCommand_now hout hready (by simp [hstate])] at hexec
    exact answers_of_taken ht rfl hexec
  case profileFree =>
    intro h p s ht hres hmode hstate hout hready
    have hexec := exec_setProfile ht hres rfl (by omega) (.inl hstate)
    rw [if_neg (by omega), boundaryCommand_now hout hready (by simp [hstate])] at hexec
    exact answers_of_taken ht rfl hexec
  case route =>
    intro h p s src target ht hres hsrc htarget hpending
    have hexec := exec_routeSet ht hres hsrc htarget hpending
    split
    next hbusy =>
      rw [if_pos hbusy] at hexec
      exact hexec
    next hidle =>
      rw [if_neg hidle] at hexec
      exact answers_of_taken ht (by simp) hexec
  case routed => exact fun src frame e f s hstaged hflight htime => routeOutcome_in_time hstaged hflight htime
  case group =>
    intro h p s ht hres hpolicy hmembers hrates hsome
    have hexec := exec_groupSet ht hres rfl hpolicy hmembers hrates hsome
    split
    next hruns =>
      rw [if_pos hruns] at hexec
      exact answers_of_taken_stage ht (taken_not_port ht rfl) rfl hexec
    next hidle =>
      rw [if_neg hidle] at hexec
      exact answers_of_taken ht (by simp) hexec

end Sys2Proof.Machine
end

section
/-! How a stream starts and stops, and a held output goes out (04 R132, R133, R135; 05 R217, R220; 17 R696), and the proof of O8. -/
namespace Sys2Proof.Machine

/-- A stream as it is tried for its certificate: running on its cores (02 R40). -/
def tried (cores : List Nat) (x : Stream) : Stream := { x with state := .running, cores := cores }

/-! ### STREAM_START (04 R132) -/

theorem exec_streamStart {h : Hdr} {p : Bytes} {s : State} {sc : Nat} {pl : Plan} (ht : Taken 0x0201 h p s) (hres : resOk p [0x1F] = true)
    (hsc : bits (fld p 0 1) 0 5 = sc) (hstate : (s.stream sc).state = .configured) (htable : tableResident s (s.stream sc) = true)
    (hsource : (s.stream sc).cfg.sourceKind = 1 ∨ (s.port (s.stream sc).cfg.port).enable = true)
    (hplan : planOf s (s.stream sc).cfg = some pl) (hmosaic : mosaicOk s (s.stream sc) pl = true) :
    exec (.streamStart h p) s = .next (startStream h sc s) := by
  change execStreamStart h p s = _
  unfold execStreamStart
  rw [hsc]
  exact command_runs ht (by simp [firstFail_cons, firstFail_nil, hres, hstate, htable, hsource, hplan, hmosaic])

section
variable {h : Hdr} {s : State} {sc : Nat} {pl : Plan} {cores : List Nat} (hplan : planOf s (s.stream sc).cfg = some pl)
  (hcores : assignCores s pl [] = some cores)
include hplan hcores

/-- A stream that gets its cores, its floor and its regions, and lets everything else pass, begins (02 R35, R40). -/
theorem startStream_begins {e : Eval} {regs : List Region} {t : State} (hcool : s.pwr.thermal ≠ .critical)
    (hfloor : findFloor (s.setStream sc (tried cores (s.stream sc))) (tried cores (s.stream sc)) pl.floorOp (profCap s.pwr.profile) = some e)
    (hpass : (hostOk (s.setStream sc (tried cores (s.stream sc))) && fyxOk (s.setStream sc (tried cores (s.stream sc))) &&
      othersPass (s.setStream sc (tried cores (s.stream sc))) sc && tveOk (s.setStream sc (tried cores (s.stream sc))) &&
      certOk s sc (tried cores (s.stream sc))) = true)
    (halloc : allocTask (scOwner sc) cores { pl with dramUnits := pl.dramUnits + holdUnits (s.stream sc).cfg } s = .ok (regs, t)) :
    startStream h sc s = beginStream h sc pl cores regs e (s.stream sc) t := by
  have hcool : (s.pwr.thermal == .critical) = false := beq_false_of_ne hcool
  unfold tried at hfloor hpass
  unfold startStream
  simp only [hplan, hcores, hfloor, hcool, hpass, halloc, Bool.not_true, Bool.or_false, Bool.false_eq_true, if_false]

/-- At thermal critical no start passes (17 R696). -/
theorem startStream_critical (hhot : s.pwr.thermal = .critical) : startStream h sc s = complete h 0x0201 .certOverBudget [] s := by
  unfold startStream
  simp only [hplan, hcores, hhot, beq_self_eq_true, Bool.true_or, if_true]
  split <;> rfl

end

/-! ### STREAM_STOP with drain (04 R133) -/

theorem exec_streamStop_drain {h : Hdr} {p : Bytes} {s : State} {sc : Nat} (ht : Taken 0x0202 h p s) (hres : resOk p [0x1F, 0xFF] = true)
    (hmode : fld p 1 1 = 0) (hsc : bits (fld p 0 1) 0 5 = sc) (hstate : (s.stream sc).state = .running) :
    exec (.streamStop h p) s = .next (drainDone sc (complete h 0x0202 .ok (effective (s.stream sc).lastAccepted.toNat) (beginDrain sc s))) := by
  change execStreamStop h p s = _
  unfold execStreamStop
  rw [hsc]
  refine (command_runs ht ?_).trans ?_
  · simp [firstFail_cons, firstFail_nil, hres, hmode, hstate]
  · simp only [hmode, if_true]

/-! ### BUFFER_POST with an output held (05 R217) -/

theorem postOutput_held {h : Hdr} {sc d : Nat} {b : Buf} {o : Output} {s : State} (hheld : heldOutput (s.stream sc) d = some o) :
    postOutput h sc d b s = staleDelivery sc d o b (complete h 0x0204 .ok [] s) := by
  simp only [postOutput, hheld]

theorem postOutput_holding {h : Hdr} {sc d : Nat} {b : Buf} {o : Output} {s : State} (hheld : heldOutput (s.stream sc) d = none)
    (hholding : holding (s.stream sc) d = some o) :
    postOutput h sc d b s = staleBinding sc o b (complete h 0x0204 .ok [] s) := by
  simp only [postOutput, hheld, hholding]

/-- Settles O8: with each check passed, start, stop and post do what their rules say. -/
theorem streamStartRuns : Obligations.StreamStartRuns := by
  unfold Obligations.StreamStartRuns
  refine ⟨?starts, ?drains, ?held, ?holding, ?critical⟩
  case starts =>
    intro h p s pl cores ht hres hstate htable hsource hplan hcool hmosaic hcores hfloor hpass halloc
    obtain ⟨e, hfloor⟩ := Option.isSome_iff_exists.mp hfloor
    have hexec := exec_streamStart ht hres rfl hstate htable hsource hplan hmosaic
    cases hregs : allocTask (scOwner (bits (fld p 0 1) 0 5)) cores
        { pl with dramUnits := pl.dramUnits + holdUnits (s.stream (bits (fld p 0 1) 0 5)).cfg } s with
    | error st =>
      rw [hregs] at halloc
      exact absurd halloc Bool.false_ne_true
    | ok allocated =>
      rw [startStream_begins hplan hcores hcool hfloor hpass hregs] at hexec
      exact ⟨e, allocated.1, allocated.2, hfloor, rfl, hexec⟩
  case drains => exact fun h p s ht hres hmode hstate => exec_streamStop_drain ht hres hmode rfl hstate
  case held =>
    intro h p s d o ht hres hkind hplane0 hplane1 hpitch0 hpitch1 hstate hdesc hfits hroom hheld
    rw [exec_bufferPost_output ht hres rfl hplane0 hplane1 hpitch0 hpitch1 hkind (.inr (.inl hstate)) hdesc hfits hroom, postOutput_held hheld]
  case holding =>
    intro h p s d o ht hres hkind hplane0 hplane1 hpitch0 hpitch1 hstate hdesc hfits hroom hheld hholding
    rw [exec_bufferPost_output ht hres rfl hplane0 hplane1 hpitch0 hpitch1 hkind (.inr (.inl hstate)) hdesc hfits hroom,
      postOutput_holding hheld hholding]
  case critical =>
    intro h p s ht hres hstate htable hsource hplaced hhot
    obtain ⟨pl, cores, hplan, hmosaic, hcores⟩ := hplaced
    have hexec := exec_streamStart ht hres rfl hstate htable hsource hplan hmosaic
    rw [startStream_critical hplan hcores hhot] at hexec
    exact answers_of_taken ht rfl hexec

end Sys2Proof.Machine
end

section
/-! The model commands and the residency queue (04 R124 to R128; 05 R196), and the proof of O9. -/
namespace Sys2Proof.Machine

/-! ### MODEL_LOAD (04 R124) -/

/-- An operation that is no rewrite joins the end of the residency queue (05 R196). -/
theorem enqueueResidency_of_not_rewrite {o : ResidencyOp} (horder : o.rewrite = false) (s : State) :
    enqueueResidency o s = { s with residency := s.residency ++ [o] } := by
  unfold enqueueResidency
  rw [horder]
  rfl

/-- The residency operation that a command asks for. -/
def residencyOf (h : Hdr) (handle mask : Nat) : ResidencyOp := { handle := handle, mask := mask, rewrite := false, forCmd := some (h.ring, h.tag) }

/-- The handle is taken, and the operation it asks for is queued. -/
def loadBegun (h : Hdr) (handle len : Nat) (all : Bool) (s : State) : State :=
  { s.setModel handle { state := 1, resideAll := all, length := len } with
    residency := s.residency ++ (if all then [residencyOf h handle 0] else []) }

theorem exec_modelLoad {h : Hdr} {p : Bytes} {s : State} (ht : Taken 0x0100 h p s) (hres : resOk p ([0x3F, 1, 0, 0] ++ full 12) = true)
    (hlow : 128 ≤ fld p 4 4) (hhigh : fld p 4 4 ≤ 268435456) (haddr : fld p 8 8 % 4096 = 0) (hempty : (s.model (fld p 0 1)).state = 0) :
    exec (.modelLoad h p) s = .next (stage h 0x0100 (fld p 0 1) false (.load (fld p 0 1))
      (loadBegun h (fld p 0 1) (fld p 4 4) (bit (fld p 1 1) 0) s)) := by
  change execModelLoad h p s = _
  unfold execModelLoad
  refine (command_runs ht ?_).trans ?_
  · simpa [firstFail_cons, firstFail_nil, hlow, hhigh, haddr, hempty] using hres
  · unfold loadBegun
    generalize bit (fld p 1 1) 0 = all
    cases all with
    | true => rfl
    | false =>
      simp only [Bool.false_eq_true, if_false, List.append_nil]
      rfl

/-- The copy ends with a package that passes its checks and finds its place (04 R124 steps 2 to 5). -/
theorem exec_modelLoadCopyDone_placed {handle d : Nat} {k : Package} {e : Staged} {s : State} (hrun : s.running = true)
    (hstaged : s.staged.find? (fun e => e.change == .load handle) = some e) (hloading : (s.model handle).state = 1)
    (hnone : (s.model handle).package = none) (hchecks : loadChecks s handle k = none)
    (hplace : dramRun s (ceilDiv (s.model handle).length 1048576) = some d) :
    exec (.modelLoadCopyDone handle (some k)) s = .next (packagePlaced handle e k d s) := by
  change execModelLoadCopyDone handle (some k) s = _
  unfold execModelLoadCopyDone
  simp [hstaged, hrun, hloading, hnone, hchecks, hplace]

@[simp] theorem ops_takeDram (o first n : Nat) (s : State) : (takeDram o first n s).pack.ops = s.pack.ops := by
  unfold takeDram
  split <;> rfl

@[simp] theorem ops_freeBytes (n : Nat) (s : State) : (freeBytes n s).2.pack.ops = s.pack.ops := rfl

@[simp] theorem ops_putDram (a : Nat) (b : Bytes) (s : State) : (putDram a b s).pack.ops = s.pack.ops :=
  iacWrite_leaves (f := fun t => t.pack.ops) (fun _ _ => rfl)
    (perfAdd_leaves (f := fun t => t.pack.ops) (fun _ => rfl) (fun _ _ => rfl)) a b.length _

theorem model_of_quiet {s t : State} (h : s.quiet = t.quiet) (n : Nat) : s.model n = t.model n := (congrArg (fun u : State => u.model n) h :)

/-- The package of a model, with the bytes of its sections, in DRAM from unit d (04 R125). -/
def packageWritten (handle d : Nat) (k : Package) (s : State) : State :=
  let r := freeBytes ((s.model handle).length - k.head.length)
    (takeDram (handleOwner handle) d (ceilDiv (s.model handle).length 1048576) s)
  putDram (d * 1048576) (k.head ++ r.1) r.2

/-- The load ends: the model is loaded, and its command completes (04 R124). -/
def loadEnded (handle : Nat) (e : Staged) (x : Model) (s : State) : State :=
  stagedOutcome e.ring e.tag e.opcode.toNat .ok 0 []
    ({ s.setModel handle x with staged := (s.setModel handle x).staged.filter (· != e) }.setModel handle
      { (s.setModel handle x).model handle with state := 2 })

theorem ops_packageWritten (handle d : Nat) (k : Package) (s : State) : (packageWritten handle d k s).pack.ops = s.pack.ops :=
  (ops_putDram ..).trans ((ops_freeBytes ..).trans (ops_takeDram ..))

theorem model_loadEnded {handle : Nat} {e : Staged} {x : Model} {s : State} (hops : s.pack.ops = []) :
    (loadEnded handle e x s).model handle = { x with state := 2 } := by
  unfold loadEnded
  rw [model_of_quiet (quiet_stagedOutcome _ _ _ _ _ _ _ ?hops), model_setModel, model_setModel]
  case hops => exact hops

theorem packagePlaced_eq {handle d : Nat} {k : Package} {e : Staged} {s : State} (hall : (s.model handle).resideAll = false) :
    packagePlaced handle e k d s = loadEnded handle e
      { s.model handle with package := some k, dram := some (d * 1048576, (s.model handle).length) } (packageWritten handle d k s) := by
  unfold packagePlaced
  extract_lets m
  split
  next b t hfree =>
    have hwritten : packageWritten handle d k s = putDram (d * 1048576) (k.head ++ b) t := by
      unfold packageWritten
      rw [hfree]
    rw [hwritten]
    extract_lets u v
    rw [if_neg (by simp [m, hall])]
    rfl

/-! ### MODEL_RESIDE, MODEL_UNLOAD, MODEL_QUERY (04 R126 to R128) -/

section
variable {h : Hdr} {p : Bytes} {s : State} (ht : Taken 0x0101 h p s) (hres : resOk p [0x3F, 0, 0xFF, 0xFF, 0xFF, 0, 0, 0] = true)
  (hloaded : (s.model (fld p 0 1)).state = 2) (hmask : fld p 2 2 < 2 ^ fld (headOf s (fld p 0 1)) 12 1)
include ht hres hloaded hmask

theorem exec_modelReside_queued (hmode : fld p 4 1 = 0) :
    exec (.modelReside h p) s = .next (stage h 0x0101 (fld p 0 1) false (.reside (fld p 0 1) (fld p 2 2))
      { s with residency := s.residency ++ [residencyOf h (fld p 0 1) (fld p 2 2)] }) := by
  change execModelReside h p s = _
  unfold execModelReside
  refine (command_runs ht ?_).trans ?_
  · simp [firstFail_cons, firstFail_nil, loadedChecks, hres, hmode, hloaded, hmask]
  · simp only [hmode, Nat.zero_ne_one, if_false, enqueueResidency_of_not_rewrite]
    rfl

theorem exec_modelReside_evicts (hmode : fld p 4 1 = 1)
    (hfree : (maskBits (fld p 2 2) 16).all (fun v => !variantNamed s (fld p 0 1) v) = true) :
    exec (.modelReside h p) s = .next (complete h 0x0101 .ok [] (evictMask (fld p 0 1) (fld p 2 2) s)) := by
  change execModelReside h p s = _
  unfold execModelReside
  refine (command_runs ht ?_).trans ?_
  · simp only [loadedChecks, hfree, List.nil_append, List.cons_append, firstFail_cons, firstFail_nil]
    simp [hres, hmode, hloaded, hmask]
  · simp only [hmode, if_true]

end

theorem exec_modelUnload {h : Hdr} {p : Bytes} {s : State} (ht : Taken 0x0102 h p s) (hres : resOk p [0x3F, 0, 0, 0] = true)
    (hloaded : (s.model (fld p 0 1)).state = 2) (hfree : modelNamed s (fld p 0 1) = false) :
    exec (.modelUnload h p) s = .next (complete h 0x0102 .ok [] (dropModel (fld p 0 1) s)) := by
  change execModelUnload h p s = _
  unfold execModelUnload
  exact command_runs ht (by simp [firstFail_cons, firstFail_nil, loadedChecks, hres, hloaded, hfree])

theorem model_dropModel (handle : Nat) (s : State) : (dropModel handle s).model handle = {} := model_setModel ..

theorem exec_modelQuery {h : Hdr} {p : Bytes} {s : State} (ht : Taken 0x0103 h p s) (hres : resOk p [0x3F, 0, 0, 0] = true) :
    exec (.modelQuery h p) s = .next (complete h 0x0103 .ok
      (le 1 (s.model (fld p 0 1)).state ++ le 1 0 ++ le 2 (s.model (fld p 0 1)).resident
        ++ le 4 (maskKib s (fld p 0 1) (s.model (fld p 0 1)).resident) ++ le 4 (fld (headOf s (fld p 0 1)) 56 4)
        ++ le 1 (fld (headOf s (fld p 0 1)) 12 1) ++ le 1 (fld (headOf s (fld p 0 1)) 13 1)) s) := by
  change execModelQuery h p s = _
  unfold execModelQuery
  exact command_runs ht (by simp [firstFail_cons, firstFail_nil, hres])

/-! ### The residency queue (05 R196) -/

section
variable {o : ResidencyOp} {rest : List ResidencyOp} {s : State} (hrun : s.running = true) (hidle : s.residing = none)
  (hqueue : s.residency = o :: rest) (hpackage : (s.model o.handle).package.isSome = true)
include hrun hidle hqueue hpackage

/-- A rewrite needs no place: it starts at once. -/
theorem exec_residencyOperationStart_rewrite (hrewrite : o.rewrite = true) :
    exec .residencyOperationStart s = .next { s with residency := rest, residing := some o } := by
  change execResidencyOperationStart s = _
  unfold execResidencyOperationStart
  simp [hidle, hqueue, hrun, Option.isSome_iff_ne_none.mp hpackage, hrewrite]

/-- Another operation starts in the place it finds. -/
theorem exec_residencyOperationStart_placed {t : State} (hrewrite : o.rewrite = false) (hfits : residentFits s o.handle o.mask = true)
    (hplace : placeAll o.handle (maskBits o.mask 16) { s with residency := rest } = some t) :
    exec .residencyOperationStart s = .next { t with residing := some o } := by
  have hfits : residentFits { s with residency := rest } o.handle o.mask = true := hfits
  rw [hidle] at hfits hplace
  change execResidencyOperationStart s = _
  unfold execResidencyOperationStart
  simp [hidle, hqueue, hrun, Option.isSome_iff_ne_none.mp hpackage, hrewrite, hfits, hplace]

end

/-- An operation of no command ends with its variants resident. -/
theorem exec_residencyOperationDone {o : ResidencyOp} {s : State} (hrun : s.running = true) (hop : s.residing = some o)
    (hwaits : extentWaits s o = false) (hcmd : o.forCmd = none) {u : State}
    (hu : u = (maskBits o.mask 16).foldl (fun s v => fillExtent o.handle v s) { s with residing := none }) :
    exec (.residencyOperationDone true) s =
      .next (u.setModel o.handle { u.model o.handle with resident := (u.model o.handle).resident ||| o.mask }) := by
  subst hu
  change execResidencyOperationDone true s = _
  unfold execResidencyOperationDone residencyEnded
  simp only [hop, hrun, hwaits, hcmd, Bool.not_true, Bool.or_false, Bool.false_eq_true, if_false, if_true]

/-- Settles O9: each command's checks pass; a package that is placed is a loaded model; an operation starts and ends. -/
theorem modelCommandsAct : Obligations.ModelCommandsAct := by
  unfold Obligations.ModelCommandsAct
  refine ⟨?load, ?copied, ?placed, ?reside, ?evict, ?unload, ?query, ?start, ?done⟩
  case load =>
    intro h p s ht hres hlow hhigh haddr hempty
    have hans := answers_of_taken_stage ht (taken_not_port ht rfl) (by rfl) (exec_modelLoad ht hres hlow hhigh haddr hempty)
    exact hans
  case copied =>
    exact fun handle d k e s hrun hstaged hloading hnone hchecks hplace =>
      exec_modelLoadCopyDone_placed hrun hstaged hloading hnone hchecks hplace
  case placed =>
    intro handle d k e s hall hops
    rw [packagePlaced_eq hall, model_loadEnded ((ops_packageWritten ..).trans hops)]
    exact ⟨rfl, rfl, rfl⟩
  case reside =>
    intro h p s ht hres hmode hloaded hmask
    have hans := answers_of_taken_stage ht (taken_not_port ht rfl) (by rfl) (exec_modelReside_queued ht hres hloaded hmask hmode)
    exact hans
  case evict =>
    intro h p s ht hres hmode hloaded hmask hfree
    exact answers_of_taken ht (by simp) (exec_modelReside_evicts ht hres hloaded hmask hmode hfree)
  case unload =>
    intro h p s ht hres hloaded hfree
    exact ⟨answers_of_taken ht (by simp) (exec_modelUnload ht hres hloaded hfree), model_dropModel ..⟩
  case query => exact fun h p s ht hres => answers_of_taken ht rfl (exec_modelQuery ht hres)
  case start =>
    intro o rest s hrun hidle hqueue hpackage hready
    cases hrewrite : o.rewrite with
    | true => exact ⟨{ s with residency := rest }, exec_residencyOperationStart_rewrite hrun hidle hqueue hpackage hrewrite, by rw [if_pos rfl]⟩
    | false =>
      rw [hrewrite] at hready
      obtain ⟨hfits, hplaced⟩ := hready.resolve_left Bool.false_ne_true
      obtain ⟨t, hplaced⟩ := Option.isSome_iff_exists.mp hplaced
      exact ⟨t, exec_residencyOperationStart_placed hrun hidle hqueue hpackage hrewrite hfits hplaced, by rwa [if_neg Bool.false_ne_true]⟩
  case done =>
    intro o s hrun hop hwaits hcmd
    exact ⟨_, rfl, exec_residencyOperationDone hrun hop hwaits hcmd rfl⟩

end Sys2Proof.Machine
end

section
/-! What the chain of a tile leaves alone (08 R315 to R334): it reads and writes memory, and a read may strike its task. -/
namespace Sys2Proof.Machine

@[simp] theorem Work.s_plane (k : Work) (kind fmt : Nat) (d : Dims) (g : Nat → Nat → Nat → Counted) : (k.plane kind fmt d g).2.s = k.s := rfl

@[simp] theorem Work.s_free (k : Work) (w : At) (kind fmt : Nat) (d : Dims) (l : List Int) : (k.free w kind fmt d l).2.s = k.s := rfl

@[simp] theorem s_convertStage (i : At) (w : StageWord) (p : Plane) (k : Work) : (convertStage i w p k).2.s = k.s := by
  simp only [convertStage]
  (repeat' split) <;> rfl

@[simp] theorem s_d2sStage (i : At) (w : StageWord) (d : Dims) (p : Plane) (k : Work) : (d2sStage i w d p k).2.s = k.s := by
  fun_cases d2sStage i w d p k <;> rfl

section
variable {β : Type} {f : State → β} (hread : ∀ c l s, f (readPlaces c l s).2 = f s)
include hread

theorem Work.read_leaves (c : Nat) (k : Work) (a n : Nat) : f (Work.read c k a n).2.s = f k.s := by
  unfold Work.read
  split
  · rfl
  · exact hread ..

theorem Work.slot_leaves (c : Nat) (k : Work) (chain : Bytes) (which base fmt : Nat) (d : Dims) :
    f (Work.slot c k chain which base fmt d).2.s = f k.s :=
  foldl_keeps (fun r : List Int × Work => f r.2.s) (fun r _ => Work.read_leaves hread c r.2 _ _) _ _

theorem Work.params_leaves (c : Nat) (k : Work) (a size n : Nat) : f (Work.params c k a size n).2.s = f k.s :=
  Work.read_leaves hread c k a _

theorem convStage_leaves (c : Nat) (chain : Bytes) (w : StageWord) (d : Dims) (k : Work) : f (convStage c chain w d k).2.s = f k.s :=
  Work.slot_leaves hread c k _ _ _ _ _

theorem requantStage_leaves (c : Nat) (w : StageWord) (p : Plane) (k : Work) : f (requantStage c w p k).2.s = f k.s := by
  simp only [requantStage]
  split <;> simp [Work.params_leaves hread]

theorem lutStage_leaves (c : Nat) (i : At) (w : StageWord) (p : Plane) (k : Work) : f (lutStage c i w p k).2.s = f k.s := by
  simp only [lutStage]
  (repeat' split) <;> simp [Work.params_leaves hread]

theorem eltStage_leaves (c : Nat) (i : At) (w : StageWord) (p : Plane) (k : Work) : f (eltStage c i w p k).2.s = f k.s := by
  simp only [eltStage]
  (repeat' split) <;> simp [Work.read_leaves hread, Work.slot_leaves hread]

theorem poolStage_leaves (c : Nat) (i : At) (w : StageWord) (d : Dims) (k : Work) : f (poolStage c i w d k).2.s = f k.s := by
  simp only [poolStage]
  split <;> simp [Work.slot_leaves hread]

theorem resampleStage_leaves (c : Nat) (i : At) (w : StageWord) (d : Dims) (k : Work) : f (resampleStage c i w d k).2.s = f k.s := by
  simp only [resampleStage]
  split <;> simp [Work.slot_leaves hread]

theorem warpStage_leaves (c : Nat) (i : At) (w : StageWord) (d : Dims) (k : Work) : f (warpStage c i w d k).2.s = f k.s := by
  simp only [warpStage]
  (repeat' split) <;> simp [Work.read_leaves hread]

theorem depthwiseStage_leaves (c : Nat) (i : At) (w : StageWord) (d : Dims) (k : Work) : f (depthwiseStage c i w d k).2.s = f k.s := by
  have htaps (n ch : Nat) (taps : List (Nat × Nat)) (r : List Int × Work) : f (taps.foldl (fun (r : List Int × Work) t =>
      let (b, k) := r.2.read c (Config.depthwiseOffset i.chain i.stage ch t.1 t.2) n
      (r.1 ++ [elemOf 0 b], k)) r).2.s = f r.2.s :=
    foldl_keeps (fun r : List Int × Work => f r.2.s) (fun r _ => Work.read_leaves hread c r.2 _ _) _ _
  have hrows := fun (g : List Int × Work → Nat → List Int × Work) (hg : ∀ r ch, f (g r ch).2.s = f r.2.s)
      (l : List Nat) (r : List Int × Work) => foldl_keeps (fun r : List Int × Work => f r.2.s) hg l r
  unfold depthwiseStage
  dsimp only
  split
  · refine (requantStage_leaves hread ..).trans ((congrArg f (Work.s_plane ..)).trans ?_)
    exact (hrows _ (fun r ch => htaps _ ch _ r) _ _).trans (Work.slot_leaves hread ..)
  · refine (congrArg f (Work.s_free ..)).trans ?_
    exact (hrows _ (fun r ch => htaps _ ch _ r) _ _).trans (Work.slot_leaves hread ..)

theorem stageWord_leaves (c : Nat) (chain : Bytes) (n : Nat) (w : StageWord) (d : Dims) (prev : Plane) (k : Work) :
    f (stage_ c chain n w d prev k).2.s = f k.s := by
  unfold stage_
  dsimp only
  (repeat' split) <;> simp [Work.slot_leaves hread, convStage_leaves hread, requantStage_leaves hread,
    lutStage_leaves hread, eltStage_leaves hread, poolStage_leaves hread, resampleStage_leaves hread, warpStage_leaves hread,
    depthwiseStage_leaves hread]

theorem runStages_leaves (c : Nat) (chain : Bytes) (l : List (StageWord × Dims)) (n : Nat) (p : Plane) (k : Work) :
    f (runStages c chain l n p k).2.s = f k.s := by
  induction l generalizing n p k with
  | nil => rfl
  | cons e l ih =>
    obtain ⟨w, d⟩ := e
    exact (ih ..).trans (stageWord_leaves hread ..)

end

section
variable {β : Type} {f : State → β} (hwrite : ∀ c l b held s, f (writePlaces c l b held s) = f s)
include hwrite

theorem Work.output_leaves (c : Nat) (k : Work) (chain : Bytes) (p : Plane) (held : Bool) : f (Work.output c k chain p held).s = f k.s := by
  unfold Work.output
  dsimp only
  split
  · rfl
  · refine foldl_keeps f (fun s e => ?_) _ _
    split
    · exact hwrite ..
    · rfl

/-- What neither a read nor a write of memory touches is as it was before the chain of a tile. -/
theorem runChain_leaves (hread : ∀ c l s, f (readPlaces c l s).2 = f s) (c : Nat) (chain : Bytes) (held : Bool) (s : State) :
    f (runChain c chain held s).s = f s :=
  (Work.output_leaves hwrite ..).trans (runStages_leaves hread ..)

end

end Sys2Proof.Machine
end

section
/-! Kills of jobs, their submission (04 R151 to R153), and the proof of O10. -/
namespace Sys2Proof.Machine

/-! ### What a memory access leaves of a job and of a core -/

/-- A strike marks a job's status and leaves it active. -/
theorem active_setJob (s : State) (j i : Nat) (x : Job) (h : x.active = (s.job i).active) :
    ((s.setJob i x).job j).active = (s.job j).active := by
  by_cases hji : j = i
  · subst hji
    rw [job_setJob, h]
  · exact congrArg Job.active (tab_get_put_ne _ _ _ _ _ hji)

theorem trapPending_setCore (s : State) (c i : Nat) (k : Core) (h : k.trapPending = (s.core i).trapPending) :
    ((s.setCore i k).core c).trapPending = (s.core c).trapPending := by
  by_cases hci : c = i
  · subst hci
    rw [core_setCore, h]
  · exact congrArg Core.trapPending (tab_get_put_ne _ _ _ _ _ hci)

section
variable {β : Type} {f : State → β} (hstrike : ∀ s sc x, f (s.setStream sc x) = f s)
  (hstatus : ∀ s j n, f (s.setJob j { s.job j with status := n }) = f s)
include hstrike hstatus

theorem taskRead_leaves (task : Option (Nat × Nat)) (m : Mem) (a n : Nat) (s : State) : f (taskRead task m a n s).2 = f s := by
  have hstrikes : f (poisonStrikes task s) = f s := by
    unfold poisonStrikes
    split
    · exact hstrike ..
    · dsimp only
      split
      · exact hstatus ..
      · rfl
    · rfl
  unfold taskRead
  dsimp only
  split
  · exact hstrikes
  · rfl

theorem readPlaces_leaves (c : Nat) (l : List (Place × Nat)) (s : State) : f (readPlaces c l s).2 = f s := by
  refine foldl_keeps (fun r : Bytes × State => f r.2) (fun r e => ?_) l ([], s)
  obtain ⟨_ | _, n⟩ := e
  · exact taskRead_leaves hstrike hstatus ..
  · rfl

end

theorem active_readPlaces (j c : Nat) (l : List (Place × Nat)) (s : State) : ((readPlaces c l s).2.job j).active = (s.job j).active :=
  readPlaces_leaves (f := fun s => (s.job j).active) (fun _ _ _ => rfl) (fun _ _ _ => active_setJob _ _ _ _ rfl) c l s

theorem trapPending_readPlaces (i c : Nat) (l : List (Place × Nat)) (s : State) :
    ((readPlaces c l s).2.core i).trapPending = (s.core i).trapPending :=
  readPlaces_leaves (f := fun s => (s.core i).trapPending) (fun _ _ _ => rfl) (fun _ _ _ => rfl) c l s

theorem active_writePlaces (j c : Nat) (l : List (Place × Nat)) (b : Bytes) (held : Bool) (s : State) :
    ((writePlaces c l b held s).job j).active = (s.job j).active := by
  refine foldl_keeps (fun r : Bytes × State => (r.2.job j).active) (fun r e => ?_) l (b, s)
  obtain ⟨m | _, n⟩ := e
  · cases m <;> rfl
  · rfl

theorem trapPending_writePlaces (i c : Nat) (l : List (Place × Nat)) (b : Bytes) (held : Bool) (s : State) :
    ((writePlaces c l b held s).core i).trapPending = (s.core i).trapPending := by
  refine foldl_keeps (fun r : Bytes × State => (r.2.core i).trapPending) (fun r e => ?_) l (b, s)
  obtain ⟨m | _, n⟩ := e
  · cases m <;> rfl
  · exact trapPending_setCore _ _ _ _ rfl

/-! ### The end of a stopped tile (08 R355) -/

theorem settleTrap_of_calm {c : Nat} {s : State} (hcalm : (s.core c).trapPending = none) : settleTrap c s = s := by
  simp only [settleTrap, hcalm]

/-- The counters of a tile are no part of the jobs. -/
theorem active_tileCounts (j c q : Nat) (chain : Bytes) (sat : Nat) (s : State) :
    ((tileCounts c q chain sat s).job j).active = (s.job j).active := by
  have hadd (off n : Nat) (t : State) : ((perfAdd off n t).job j).active = (t.job j).active :=
    perfAdd_leaves (f := fun t => (t.job j).active) (fun _ => rfl) (fun _ _ => rfl) off n t
  simp only [tileCounts, hadd]

/-- A tile that was abandoned ends without a trap, and no job ends with it. -/
theorem active_tileEnds {c j : Nat} {s : State} (hcalm : (s.core c).trapPending = none)
    (hgone : ∀ r, (s.core c).running = some r → r.abandoned = true) : ((tileEnds c [] s).job j).active = (s.job j).active := by
  unfold tileEnds
  split
  next => rfl
  next r hrunning =>
    split
    · rfl
    · extract_lets w t k seq flags k'
      have hjob : (w.s.job j).active = (s.job j).active :=
        runChain_leaves (f := fun s => (s.job j).active) (active_writePlaces j) (active_readPlaces j) c r.chain.bytes _ (foundErrors none [] s)
      have htrap : (w.s.core c).trapPending = (s.core c).trapPending :=
        runChain_leaves (f := fun s => (s.core c).trapPending) (trapPending_writePlaces c) (trapPending_readPlaces c) c r.chain.bytes _
          (foundErrors none [] s)
      clear_value w
      rw [if_pos (hgone r hrunning), settleTrap_of_calm]
      · exact (active_tileCounts ..).trans hjob
      · rw [core_setCore]
        exact (congrArg Core.trapPending (core_tileCounts ..)).trans (htrap.trans hcalm)

/-- To finish the tiles in work ends no job (10 R442 step 1). -/
theorem active_finishTiles (cores : List Nat) (j : Nat) (s : State) : ((finishTiles cores s).job j).active = (s.job j).active := by
  refine foldl_keeps (fun s => (s.job j).active) (fun s c => ?_) cores s
  refine (active_tileEnds ?_ fun r hr => ?_).trans rfl
  · rw [core_setCore]
    rfl
  · rw [core_setCore] at hr
    obtain ⟨r', -, rfl⟩ := Option.map_eq_some_iff.mp hr
    rfl

/-! ### JOB_KILL (04 R153) -/

/-- The end of an active job empties it, calls what completes the command, and then reports and shares the load anew (04 R152). -/
theorem endJob_eq {j : Nat} {s : State} (killed : Bool) (status : Nat) (fin : State → State) (hactive : (s.job j).active = true) :
    ∃ (e : Bytes) (v : State), (v.job j).active = false ∧ v.bootState = s.bootState ∧
      endJob killed status j s fin = sharesShrink (emit srcDevice 0x0400 e (fin v)) := by
  unfold endJob
  rw [if_pos hactive]
  extract_lets cores closed released freed
  have hboot : freed.bootState = s.bootState := by simp [closed, released, freed]
  clear_value freed
  split
  next orphan t horphan =>
    have hfreed : t.bootState = s.bootState := by
      refine Eq.trans (b := freed.bootState) (?_ : (orphan, t).2.bootState = _) hboot
      rw [← horphan]
      split <;> simp
    exact ⟨_, t.setJob j {}, congrArg Job.active (job_setJob ..), (State.setJob_boot ..).trans hfreed, rfl⟩

theorem job_of_quiet {s t : State} (h : s.quiet = t.quiet) (n : Nat) : s.job n = t.job n := (congrArg (fun u : State => u.job n) h :)

@[simp] theorem job_sharesShrink (s : State) (n : Nat) : (sharesShrink s).job n = s.job n :=
  sharesShrink_keeps (fun s => s.job n) (fun _ _ _ => rfl) (fun _ _ _ => rfl) s

/-- An active job that is killed is over, and the command that killed it completes (04 R153). -/
theorem killJob_completes {h : Hdr} {op j : Nat} {st : Status} {res : Bytes} {s : State} (hring : h.ring ≠ 16)
    (hboot : s.glb.boot = .running) (hactive : (s.job j).active = true) :
    Completed h op st res (killJob j s (complete h op st res)) ∧ ((killJob j s (complete h op st res)).job j).active = false := by
  obtain ⟨e, v, hover, hrun, heq⟩ := endJob_eq true Status.aborted.code (complete h op st res)
    ((active_finishTiles (if (s.job j).active then maskBits (s.job j).coreMask 16 else []) j s).trans hactive)
  obtain ⟨hdone, hquiet, -⟩ := complete_spec h op st res v hring (by rw [boot_fold, hrun]; simpa using hboot)
  unfold killJob
  rw [heq]
  exact ⟨hdone.of_apart (by simp) (by simp), by rw [job_sharesShrink, job_of_quiet (quiet_emit ..), job_of_quiet hquiet, hover]⟩

theorem exec_jobKill {h : Hdr} {p : Bytes} {s : State} (ht : Taken 0x0401 h p s) (hres : resOk p [0x0F, 0, 0, 0] = true)
    (hactive : (s.job (fld p 0 1)).active = true) :
    exec (.jobKill h p) s = .next (killJob (fld p 0 1) s (complete h 0x0401 .ok [])) := by
  change execJobKill h p s = _
  unfold execJobKill
  exact command_runs ht (by simp [firstFail_cons, firstFail_nil, hres, hactive])

/-! ### JOB_SUBMIT (04 R151, R152) -/

section
variable {h : Hdr} {p : Bytes} {d : List Nat} {pl : Plan} {s : State} (ht : Taken 0x0400 h p s)
  (hres : resOk p ([0x0F, 0x3F, 0xFF, 0, 0xFF, 0xFF, 0, 0] ++ full 32 ++ rsv 8) = true) (hin : fld p 8 8 % 256 = 0)
  (hout : fld p 16 8 % 256 = 0) (hidle : (s.job (fld p 0 1)).active = false) (hmodel : (s.model (fld p 1 1)).state = 2)
  (hplan : jobPlan s p = some pl) (hmask : jobMaskOk pl (fld p 4 2) = true)
  (hvariant : bit (s.model (fld p 1 1)).resident (bits (fld p 2 1) 4 4) = true)
  (hcores : (maskBits (fld p 4 2) 16).all (coreFree s) = true) (hcool : s.pwr.thermal ≠ .critical)
include ht hres hin hout hidle hmodel hplan hmask hvariant hcores hcool

/-- A job of an empty shape is done as it is submitted. -/
theorem exec_jobSubmit_empty (hempty : d.any (· == 0) = true) :
    exec (.jobSubmit h p (some d)) s = .next (emit srcDevice 0x0400 (le 1 (fld p 0 1) ++ le 1 0 ++ le 2 Status.doneEmpty.code)
      (complete h 0x0400 .doneEmpty [] s)) := by
  change execJobSubmit h p (some d) s = _
  unfold execJobSubmit
  refine (command_runs ht ?_).trans ?_
  · simpa [firstFail_cons, firstFail_nil, jobOf, hin, hout, hidle, hmodel, hplan, hmask, hvariant, hcool] using And.intro hres hcores
  · simp only [hempty, if_true]

/-- A job that fits its plan, its rows and the certificates of the others starts. -/
theorem exec_jobSubmit_starts (hshape : d.any (· == 0) = false) (hn : nth 0 d 0 ≤ pl.maxN) (hh : nth 0 d 1 ≤ pl.maxH)
    (hw : nth 0 d 2 ≤ pl.maxW) (hc : nth 0 d 3 ≤ pl.maxC) (hinPitch : (jobRows pl (nth 0 d 2)).1 ≤ fld p 32 4)
    (houtPitch : (jobRows pl (nth 0 d 2)).2 ≤ fld p 36 4) (hothers : othersPass (s.setJob (fld p 0 1) (jobOf p d)) 32 = true)
    (htve : tveOk (s.setJob (fld p 0 1) (jobOf p d)) = true) :
    exec (.jobSubmit h p (some d)) s = .next (startJob h (fld p 0 1) (jobOf p d) pl s) := by
  have hinPlan : ¬ (pl.maxN < nth 0 d 0 ∨ pl.maxH < nth 0 d 1 ∨ pl.maxW < nth 0 d 2 ∨ pl.maxC < nth 0 d 3) := by omega
  have hrows : ¬ ((jobOf p d).inPitch < (jobRows pl (nth 0 d 2)).1 ∨ (jobOf p d).outPitch < (jobRows pl (nth 0 d 2)).2) := by
    rintro (hlow | hlow)
    · exact absurd hlow (Nat.not_lt.mpr hinPitch)
    · exact absurd hlow (Nat.not_lt.mpr houtPitch)
  change execJobSubmit h p (some d) s = _
  unfold execJobSubmit
  refine (command_runs ht ?_).trans ?_
  · simpa [firstFail_cons, firstFail_nil, jobOf, hin, hout, hidle, hmodel, hplan, hmask, hvariant, hcool] using And.intro hres hcores
  · simp only [hshape, hplan, Option.getD_some, Bool.or_eq_true, decide_eq_true_eq, or_assoc, hinPlan, hrows, hothers, htve, Bool.not_true,
      Bool.false_eq_true, or_self, if_false]

end

/-- A job that gets its regions and its counters completes its command as the last act of its start (04 R152). -/
theorem startJob_eq {h : Hdr} {j : Nat} {x : Job} {p : Plan} {s : State}
    (hplaced : ((allocTask (jobOwner j) (maskBits x.coreMask 16) p s).toOption.bind
      (fun r => (allocCounters (counterNeed p (jobCfg x.shape) none (maskBits x.coreMask 16).length) r.2).1)).isSome = true) :
    ∃ t, t.bootState = s.bootState ∧ startJob h j x p s = complete h 0x0400 .ok [] t := by
  unfold startJob
  dsimp only
  split
  next st hfail =>
    rw [hfail] at hplaced
    exact absurd hplaced Bool.false_ne_true
  next regs t halloc =>
    rw [halloc] at hplaced
    have hcounters := allocCounters_boot (counterNeed p (jobCfg x.shape) none (maskBits x.coreMask 16).length) t
    split
    next u hnone =>
      simp [Except.toOption, hnone] at hplaced
    next ctr u hsome =>
      rw [hsome] at hcounters
      exact ⟨_, by simpa using hcounters.trans (allocTask_boot halloc), rfl⟩

/-- Settles O10: a job starts and its command completes last; one with an empty shape is done at once; a kill ends one. -/
theorem jobCommandsAct : Obligations.JobCommandsAct := by
  unfold Obligations.JobCommandsAct
  refine ⟨?starts, ?empty, ?kill⟩
  case starts =>
    intro h p d pl s ht hres hin hout hidle hmodel hplan hmask hvariant hcores hcool hshape hn hh hw hc hinPitch houtPitch hothers htve hplaced
    obtain ⟨t, hboot, heq⟩ := startJob_eq (h := h) (x := jobOf p d) hplaced
    refine ⟨exec_jobSubmit_starts ht hres hin hout hidle hmodel hplan hmask hvariant hcores hcool hshape hn hh hw hc hinPitch houtPitch
      hothers htve, ?_⟩
    rw [heq]
    exact (complete_spec h 0x0400 .ok [] t (taken_ring ht) (hboot.trans (taken_boot ht))).1
  case empty =>
    intro h p d pl s ht hres hin hout hidle hmodel hplan hmask hvariant hcores hcool hempty
    obtain ⟨hdone, hquiet, -⟩ := complete_spec h 0x0400 .doneEmpty [] s (taken_ring ht) (taken_boot ht)
    exact ⟨_, exec_jobSubmit_empty ht hres hin hout hidle hmodel hplan hmask hvariant hcores hcool hempty,
      hdone.of_apart (by simp) (by simp), (quiet_emit ..).trans hquiet⟩
  case kill =>
    intro h p s ht hres hactive
    exact ⟨exec_jobKill ht hres hactive, killJob_completes (taken_ring ht) (taken_boot ht) hactive⟩

end Sys2Proof.Machine
end

section
/-! The tree commands and votes (04 R158 to R161; 13 R526 to R541), and the proof of O11. -/
namespace Sys2Proof.Machine

/-! ### TREE_LOAD and TREE_UNLOAD (04 R158, R159) -/

/-- An ensemble of its three parts (13 R526, R527). -/
def ensembleOf (nb rb fb : Bytes) : Ensemble :=
  { loaded := true, nodes := nodesOf nb, roots := rootsOf rb, front := fb
    depths := (rootsOf rb).map (fun r => (depthOf (nodesOf nb) 64 r).getD 0), entries := fld fb 0 1 }

/-- The state in which an ensemble lies in DRAM from unit d and the engine has power. -/
def ensembleLoaded (e d n : Nat) (nb : Bytes) (x : Ensemble) (s : State) : State :=
  setDomain 25 true ((putDram (d * 1048576) nb (takeDram (treeOwner e) d n (freeDram (treeOwner e) s))).setEnsemble e x)

@[simp] theorem setEnsemble_boot (s : State) (e : Nat) (x : Ensemble) : (s.setEnsemble e x).bootState = s.bootState := rfl

@[simp] theorem ensembleLoaded_boot (e d n : Nat) (nb : Bytes) (x : Ensemble) (s : State) :
    (ensembleLoaded e d n nb x s).bootState = s.bootState :=
  (setDomain_boot ..).trans ((setEnsemble_boot ..).trans (by simp))

/-- Three parts that pass the checks of 13 R526 are loaded. -/
theorem loadEnsemble_loads {h : Hdr} {e nc tc len crc d : Nat} {nb rb fb : Bytes} {s : State} (hnodes : nb.length = 8 * nc)
    (hroots : rb.length = 4 * tc) (hfront : fb.length = len) (hcrc : (crc32c nb).toNat = crc) (hfrontOk : frontOk fb = true)
    (hnodesOk : (nodesOf nb).all (nodeOk nc (fld fb 0 1)) = true) (hrootsOk : (rootsOf rb).all (· < nc) = true)
    (hdepths : (rootsOf rb).all (fun r => (depthOf (nodesOf nb) 64 r).isSome) = true) (hplace : dramRun s (treeUnits nc) = some d) :
    loadEnsemble h e nc tc len crc nb rb fb s =
      complete h 0x0600 .ok [] (ensembleLoaded e d (treeUnits nc) nb (ensembleOf nb rb fb) s) := by
  have hdepths : ((rootsOf rb).map (fun r => depthOf (nodesOf nb) 64 r)).all (·.isSome) = true := by
    rw [List.all_map]
    exact hdepths
  have hlengths : ¬ (nb.length ≠ 8 * nc ∨ rb.length ≠ 4 * tc ∨ fb.length ≠ len) := by omega
  unfold loadEnsemble
  simp only [hlengths, hfrontOk, hnodesOk, hrootsOk, hdepths, hcrc, hplace, Bool.or_eq_true, decide_eq_true_eq, or_assoc, Bool.and_self,
    Bool.not_true, Bool.false_eq_true, ne_eq, not_true_eq_false, if_false]
  unfold ensembleLoaded ensembleOf
  rw [List.map_map]
  rfl

theorem exec_treeLoad {h : Hdr} {p nb rb fb : Bytes} {s : State} (ht : Taken 0x0600 h p s)
    (hres : resOk p ([0x0F, 0] ++ full 32 ++ rsv 2 ++ full 4) = true) (hfew : 1 ≤ fld p 2 2) (hmany : fld p 2 2 ≤ 512)
    (hsmall : 1 ≤ fld p 4 4) (hlarge : fld p 4 4 ≤ 65536) (hshort : 64 ≤ fld p 32 2) (hlong : fld p 32 2 ≤ 4096)
    (hfree : ensembleNamed s (bits (fld p 0 1) 0 4) = false) :
    exec (.treeLoad h p (some nb) (some rb) (some fb)) s =
      .next (loadEnsemble h (bits (fld p 0 1) 0 4) (fld p 4 4) (fld p 2 2) (fld p 32 2) (fld p 36 4) nb rb fb s) := by
  change execTreeLoad h p (some nb) (some rb) (some fb) s = _
  unfold execTreeLoad
  exact command_runs ht (by simpa [firstFail_cons, firstFail_nil, hfew, hmany, hsmall, hlarge, hshort, hlong, hfree] using hres)

/-- The state in which an ensemble is gone, and the engine has power only where another is loaded (17 R660). -/
def ensembleUnloaded (e : Nat) (s : State) : State :=
  let u := (freeDram (treeOwner e) s).setEnsemble e {}
  if (List.range 16).any (fun i => (u.ensemble i).loaded) then u else setDomain 25 false u

@[simp] theorem ensembleUnloaded_boot (e : Nat) (s : State) : (ensembleUnloaded e s).bootState = s.bootState := by
  have hfreed : ((freeDram (treeOwner e) s).setEnsemble e {}).bootState = s.bootState := freeDram_boot (treeOwner e) s
  unfold ensembleUnloaded
  dsimp only
  split
  · exact hfreed
  · exact (setDomain_boot ..).trans hfreed

theorem exec_treeUnload {h : Hdr} {p : Bytes} {s : State} (ht : Taken 0x0601 h p s) (hres : resOk p [0x0F] = true)
    (hfree : ensembleNamed s (bits (fld p 0 1) 0 4) = false) (hloaded : (s.ensemble (bits (fld p 0 1) 0 4)).loaded = true) :
    exec (.treeUnload h p) s = .next (complete h 0x0601 .ok [] (ensembleUnloaded (bits (fld p 0 1) 0 4) s)) := by
  change execTreeUnload h p s = _
  unfold execTreeUnload
  exact command_runs ht (by simp [firstFail_cons, firstFail_nil, hres, hfree, hloaded])

/-! ### TREE_BIND and PROFILE_TABLE_SET on a running stream (04 R160, R161) -/

section
variable {h : Hdr} {p : Bytes} {s : State} {sc : Nat} (ht : Taken 0x0602 h p s) (hres : resOk p [0x1F, 0xFF, 0xFF, 0x0F] = true)
  (hsc : bits (fld p 0 1) 0 5 = sc) (hstate : (s.stream sc).state = .running)
include ht hres hsc hstate

theorem exec_treeBind {b : Binding} (hensemble : fld p 1 1 ≤ 15) (hevery : 1 ≤ fld p 2 1) (hlow : 1 ≤ fld p 3 1) (hhigh : fld p 3 1 ≤ 15)
    (hb : b = { ensemble := some (fld p 1 1), voteEvery := fld p 2 1, hystK := fld p 3 1 })
    (hrate : fld p 2 1 ≤ (settled s sc).cfg.inNum / max 1 (settled s sc).cfg.inDen) (hloaded : (s.ensemble (fld p 1 1)).loaded = true)
    (hkind : ensembleKind s (fld p 1 1) + 1 = (settled s sc).cfg.sourceKind)
    (htve : tveOk (trialState s sc (applyPure (settled s sc) (.bind b))) = true) :
    exec (.treeBind h p) s = .next (boundaryCommand 0x0602 h sc (.bind b) s) := by
  subst hb
  have hon : (fld p 1 1 == 0xFF) = false := beq_false_of_ne (by omega)
  change execTreeBind h p s = _
  unfold execTreeBind
  rw [hsc]
  simp only [hon, Bool.false_or, Bool.false_eq_true, if_false]
  exact command_runs ht (by simp [firstFail_cons, firstFail_nil, hres, hstate, hensemble, hevery, hlow, hhigh, hrate, hloaded, hkind, htve])

theorem exec_treeBind_off (hoff : fld p 1 1 = 0xFF) : exec (.treeBind h p) s = .next (boundaryCommand 0x0602 h sc (.bind {}) s) := by
  change execTreeBind h p s = _
  unfold execTreeBind
  rw [hsc]
  refine (command_runs ht ?_).trans ?_
  · simp [firstFail_cons, firstFail_nil, hres, hstate, hoff]
  · simp only [hoff, beq_self_eq_true, if_true]

end

theorem exec_profileTableSet {h : Hdr} {p : Bytes} {s : State} {sc : Nat} (ht : Taken 0x0603 h p s) (hres : resOk p tableMask = true)
    (hsc : bits (fld p 0 1) 0 5 = sc) (hstate : (s.stream sc).state = .running)
    (hvariants : (tableOf p).entries.all (fun e => e.1 < fld (headOf s (settled s sc).cfg.handle) 12 1) = true)
    (htunings : (tableOf p).entries.all (fun e => e.2 == 0 || e.2 < fld (headOf s (settled s sc).cfg.handle) 20 2) = true)
    (hcert : certOk s sc (applyPure (settled s sc) (.table (tableOf p))) = true) :
    exec (.profileTableSet h p) s = .next (boundaryCommand 0x0603 h sc (.table (tableOf p)) s) := by
  change execProfileTableSet h p s = _
  unfold execProfileTableSet
  rw [hsc]
  refine command_runs ht ?_
  simp only [List.nil_append, List.cons_append, firstFail_cons, firstFail_nil, hvariants, htunings, hcert]
  simp [hres, hstate]

/-! ### VOTE_START (13 R534) -/

section
variable {β : Type} {f : State → β} (hiac : ∀ (t : State) (x : Iac), f { t with iac := x } = f t)
  (hdram : ∀ (t : State) (x : Dram), f { t with dram := x } = f t) (hcounted : ∀ (off n : Nat) (t : State), f (perfAdd off n t) = f t)
include hiac hcounted

theorem allocate_leaves (i tag k : Nat) (s : State) : f (allocate i tag k s).2 = f s := by
  have hset (t : State) (i : Nat) (x : IacSet) : f (t.setIacSet i x) = f t := hiac t _
  fun_cases allocate i tag k s <;> simp only [hset, hcounted]

theorem lookupMiss_leaves (r sector : Nat) (s : State) : f (lookupMiss r sector s).2 = f s := by
  have hdetector (t : State) (d : Detector) : f (t.setDetector r d) = f t := hiac t _
  have hcount (c : Bool) (off : Nat) (t : State) : f (if c then perfAdd off 1 t else t) = f t := by
    split
    · exact hcounted ..
    · rfl
  unfold lookupMiss
  extract_lets i tag k d x dup s1 s2 s3 d' s4
  have hcounts : f s4 = f s := (hcount ..).trans ((hcount ..).trans ((hcount ..).trans (hcounted ..)))
  split
  next w t halloc =>
    have ht : f t = f s4 := by
      change f (w, t).2 = f s4
      rw [← halloc]
      split
      · rfl
      · exact allocate_leaves hiac hcounted ..
    exact (hiac ..).trans ((hdetector ..).trans (ht.trans hcounts))

theorem lookup_leaves (r sector : Nat) (s : State) : f (lookup r sector s).2 = f s := by
  have hdetector (t : State) (d : Detector) : f (t.setDetector r d) = f t := hiac t _
  have hset (t : State) (i : Nat) (x : IacSet) : f (t.setIacSet i x) = f t := hiac t _
  unfold lookup
  split
  · rfl
  · extract_lets t u i tag k x
    have hu : f u = f s := (hdetector ..).trans (hcounted ..)
    have hmiss : f (lookupMiss r sector u).2 = f s := (lookupMiss_leaves hiac hcounted ..).trans hu
    split
    · extract_lets l
      split
      · exact (hdetector ..).trans ((hcounted ..).trans ((hset ..).trans hu))
      · exact hmiss
    · exact hmiss

include hdram

/-- A node read changes the IAC, the queues of DRAM and counters alone (13 R551). -/
theorem readNode_leaves (base i : Nat) (s : State) : f (readNode base i s) = f s := by
  have hread (x : DramTx) (t : State) : f (enqueueTx x t).2 = f t := (hdram ..).trans (hdram ..)
  unfold readNode
  extract_lets a t read
  have hcount : f t = f s := hcounted ..
  have hlookup := lookup_leaves hiac hcounted 16 (a / 32 * 32) t
  split
  · split
    · exact hcount
    · exact (hread ..).trans hcount
  · split
    next b u hu =>
      rw [hu] at hlookup
      exact hlookup.trans hcount
    next id u hu =>
      rw [hu] at hlookup
      exact (hread ..).trans (hlookup.trans hcount)

end

/-- A vote whose tables cannot be read is discarded (13 R536). -/
theorem exec_voteStart_discards {v : VoteJob} {rest : List VoteJob} {s : State} (bad : List Nat) (hidle : s.tve.running = none)
    (hready : s.tve.ready = v :: rest) :
    exec (.voteStart bad true) s = .next (scAdd v.sc .votesDiscarded 1 { s with tve := { s.tve with ready := rest } }) := by
  change execVoteStart bad true s = _
  simp only [execVoteStart, hidle, hready, if_true]

/-- Another is taken from the queue and runs; its node reads touch neither the queue nor the streams (13 R534). -/
theorem exec_voteStart_runs {v : VoteJob} {rest : List VoteJob} {s : State} (bad : List Nat) (hidle : s.tve.running = none)
    (hready : s.tve.ready = v :: rest) : ∃ (u : State) (down : List Nat), exec (.voteStart bad false) s = .next
      { u with tve := { u.tve with running := some { v with startedAt := s.now, bad := bad ++ down } } } ∧ u.tve.ready = rest ∧
      u.streams = s.streams := by
  have hread {β : Type} (f : State → β) (hquiet : ∀ t, f t.quiet = f t) (hcnt : ∀ t n, f { t with cnt := n } = f t)
      (hiac : ∀ t x, f { t with iac := x } = f t) (hdram : ∀ t x, f { t with dram := x } = f t) (base : Nat) (l : List Nat) (t : State) :
      f (l.foldl (fun s i => readNode base i s) t) = f t :=
    foldl_keeps f (fun t i => readNode_leaves hiac hdram (perfAdd_leaves hquiet hcnt) base i t) l t
  change ∃ u down, execVoteStart bad false s = _ ∧ _
  unfold execVoteStart
  rw [hidle, hready]
  dsimp only
  rw [if_neg Bool.false_ne_true]
  generalize hu : List.foldl _ _ _ = u
  have hnow : u.now = s.now := by rw [← hu]; exact hread State.now (fun _ => rfl) (fun _ _ => rfl) (fun _ _ => rfl) (fun _ _ => rfl) _ _ _
  have hrest : u.tve.ready = rest := by
    rw [← hu]
    exact hread (fun t => t.tve.ready) (fun _ => rfl) (fun _ _ => rfl) (fun _ _ => rfl) (fun _ _ => rfl) _ _ _
  have hstreams : u.streams = s.streams := by
    rw [← hu]
    exact hread State.streams (fun _ => rfl) (fun _ _ => rfl) (fun _ _ => rfl) (fun _ _ => rfl) _ _ _
  refine ⟨u, ?down, ?runs, hrest, hstreams⟩
  case runs => rw [← hnow]

/-- Settles O11: with each check passed, a command loads, unloads or enters the shadow set; a vote starts and completes. -/
theorem treeCommandsAct : Obligations.TreeCommandsAct := by
  unfold Obligations.TreeCommandsAct
  refine ⟨?load, ?unload, ?bind, ?unbind, ?table, ?voteStart, ?voteEnd⟩
  case load =>
    intro h p nb rb fb d s ht hres hfew hmany hsmall hlarge hshort hlong hfree hnodes hroots hfront hcrc hfrontOk hnodesOk hrootsOk hdepths
      hplace
    have hexec := exec_treeLoad (nb := nb) (rb := rb) (fb := fb) ht hres hfew hmany hsmall hlarge hshort hlong hfree
    rw [loadEnsemble_loads hnodes hroots hfront hcrc hfrontOk hnodesOk hrootsOk hdepths hplace] at hexec
    have hans := answers_of_taken ht ((boot_fold _).trans (ensembleLoaded_boot ..)) hexec
    unfold ensembleLoaded ensembleOf at hans
    exact hans
  case unload =>
    intro h p s ht hres hfree hloaded
    exact ⟨_, rfl, answers_of_taken ht (by simp) (exec_treeUnload ht hres hfree hloaded)⟩
  case bind =>
    intro h p s b ht hres hensemble hevery hlow hhigh hb hstate hrate hloaded hkind htve hout hready
    have hexec := exec_treeBind ht hres rfl hstate hensemble hevery hlow hhigh hb hrate hloaded hkind htve
    rw [boundaryCommand_running hout hready hstate] at hexec
    exact answers_of_taken ht rfl hexec
  case unbind =>
    intro h p s ht hres hoff hstate hout hready
    have hexec := exec_treeBind_off ht hres rfl hstate hoff
    rw [boundaryCommand_running hout hready hstate] at hexec
    exact answers_of_taken ht rfl hexec
  case table =>
    intro h p s ht hres hstate hvariants htunings hcert hout hready
    have hexec := exec_profileTableSet ht hres rfl hstate hvariants htunings hcert
    rw [boundaryCommand_running hout hready hstate] at hexec
    exact answers_of_taken ht rfl hexec
  case voteStart =>
    intro v rest bad s hidle hready
    exact ⟨exec_voteStart_discards bad hidle hready, exec_voteStart_runs bad hidle hready⟩
  case voteEnd =>
    intro v e s hrunning hbound
    exact ⟨_, _, exec_voteComplete hrunning hbound rfl, rfl, rfl⟩

end Sys2Proof.Machine
end

section
/-! The camera commands (04 R141 to R150; 06 R257, R779), and the proof of O20. -/
namespace Sys2Proof.Machine

/-- An answer says as much of a state that differs in reports alone. -/
theorem Answers.of_quiet {c : Instr} {h : Hdr} {op : Nat} {st : Status} {res : Bytes} {s u v : State} (ha : Answers c h op st res s v)
    (hquiet : v.quiet = u.quiet) (hrings : v.rings = u.rings) (hmgmt : v.mgmt = u.mgmt) : Answers c h op st res s u := by
  obtain ⟨t, hexec, hdone, htquiet, hothers, hport⟩ := ha
  refine ⟨t, hexec, hdone, htquiet.trans hquiet, fun n hn => (hothers n hn).trans ?_, fun hring => (hport hring).trans hmgmt⟩
  simp only [State.ring, hrings]

/-! ### CSI_CONFIG (04 R141) and SENSOR_PROFILE_LOAD (04 R142) -/

/-- A CSI port is configured, and its receiver has power while it is enabled. -/
def portConfigured (k : Nat) (x : Port) (s : State) : State := setDomain (26 + k) x.enable (s.setPort k x)

theorem exec_csiConfig {h : Hdr} {p : Bytes} {s : State} {k : Nat} (ht : Taken 0x0300 h p s)
    (hres : resOk p [0x03, 0xFF, 0xFF, 0xFF, 0xFF, 0x03, 0xFF, 0xFF] = true) (hk : bits (fld p 0 1) 0 2 = k)
    (hlanes : fld p 1 1 = 1 ∨ fld p 1 1 = 2 ∨ fld p 1 1 = 4) (hslow : 80 ≤ fld p 2 2) (hfast : fld p 2 2 ≤ 4500)
    (hidle : portRuns s k = false) (hon : bit (fld p 5 1) 0 = true → s.glb.capCamera = true ∧ profCsi s.pwr.profile k = true)
    (hoff : bit (fld p 5 1) 0 = false → portNamed s k = false) (hworks : (s.port k).orderFault = false) :
    exec (.csiConfig h p) s = .next (complete h 0x0300 .ok [] (portConfigured k
      { enable := bit (fld p 5 1) 0, lanes := fld p 1 1, rate := fld p 2 2, order := fld p 4 1, embedded := bit (fld p 5 1) 1, vcMask := fld p 6 2 }
      s)) := by
  have hnamed : bit (fld p 5 1) 0 = true ∨ portNamed s k = false := (Bool.eq_false_or_eq_true _).imp_right hoff
  have hcamera : bit (fld p 5 1) 0 = false ∨ s.glb.capCamera = true ∧ profCsi s.pwr.profile k = true :=
    (Bool.eq_false_or_eq_true _).symm.imp_right hon
  change execCsiConfig h p s = _
  unfold execCsiConfig
  rw [hk]
  refine (command_runs ht ?_).trans ?_
  · simp [firstFail_cons, firstFail_nil, hres, hslow, hfast, hidle, hnamed, hcamera, or_assoc, hlanes]
  · simp only [hworks, Bool.false_and, Bool.false_eq_true, if_false]
    rfl

theorem exec_sensorProfileLoad {h : Hdr} {p : Bytes} {s : State} {src : Nat} (ht : Taken 0x0301 h p s)
    (hres : resOk p ([0x03, 0x0F, 0, 0] ++ profileMask (((p.drop 4).length - 64) / 8) ++ full 8) = true)
    (hsrc : bits (fld p 0 1) 0 2 * 16 + bits (fld p 1 1) 0 4 = src) (hprofile : profileOk (p.drop 4) = true)
    (hstepping : s.glb.stepping ≠ 0xA0 ∨ bit (fld (p.drop 4) 5 1) 2 = false) (hidle : (runningSources s).contains src = false) :
    exec (.sensorProfileLoad h p) s = .next (complete h 0x0301 .ok [] (s.setSource src
      { s.source src with profile := p.drop 4, rfe := {}, starts := [], endedAt := none })) := by
  change execSensorProfileLoad h p s = _
  unfold execSensorProfileLoad
  rw [hsrc]
  refine command_runs ht ?_
  simp only [List.nil_append, List.cons_append, firstFail_cons, firstFail_nil, hprofile, hidle]
  simpa using And.intro hres hstepping

/-! ### SET_EXPOSURE (04 R143 to R145) -/

/-- The exposure set that a command asks for. -/
def exposureOf (s : State) (sc : Nat) (p : Bytes) : Exposure :=
  { esid := (s.stream sc).nextEsid, target := BitVec.ofNat 32 (fld p 4 4), lines := exposureLines (streamProfile s sc) (fld p 8 4)
    again := againCode (streamProfile s sc) (fld p 12 2), dgain := dgainCode (streamProfile s sc) (fld p 14 2)
    irPulse := bit (fld p 1 1) 0, writing := false, commitSent := false, attempts := 0, lastResult := 0, landing := none }

/-- The stream with the set, without those it supersedes. -/
def exposed (s : State) (sc : Nat) (e : Exposure) : State :=
  s.setStream sc { s.stream sc with nextEsid := e.esid + 1, exposures := (s.stream sc).exposures.filter (fun g => !supersedes e.target g) ++ [e] }

theorem exec_setExposure {h : Hdr} {p : Bytes} {s : State} {sc : Nat} (ht : Taken 0x0302 h p s)
    (hres : resOk p ([0x1F, 0x01, 0, 0] ++ full 12) = true) (hsc : bits (fld p 0 1) 0 5 = sc) (hshort : 1 ≤ fld p 8 4)
    (hlong : fld p 8 4 ≤ 1000000) (hagain : 0x100 ≤ fld p 12 2) (hdgain : 0x100 ≤ fld p 14 2) (hstate : (s.stream sc).state = .running)
    (hkind : (s.stream sc).cfg.sourceKind = 2) (hprofile : streamProfile s sc ≠ [])
    (hexposure : exposureOk (streamProfile s sc) (fld p 8 4) (fld p 12 2) (fld p 14 2) = true)
    (htarget : (!later (BitVec.ofNat 32 (fld p 4 4)) ((s.stream sc).lastAccepted + 64) ||
      !later (BitVec.ofNat 32 (fld p 4 4)) (s.stream sc).lastAccepted) = true) :
    exec (.setExposure h p) s = .next (complete h 0x0302 .ok
      (le 2 (s.stream sc).nextEsid.toNat ++ le 2 0 ++
        le 4 (BitVec.ofNat 32 (fld p 4 4) - BitVec.ofNat 32 (spLatency (streamProfile s sc))).toNat ++ le 4 (BitVec.ofNat 32 (fld p 4 4)).toNat)
      (announceSuperseded sc (s.stream sc).nextEsid ((s.stream sc).exposures.filter (supersedes (BitVec.ofNat 32 (fld p 4 4))))
        (exposed s sc (exposureOf s sc p)))) := by
  have hsome : (streamProfile s sc).isEmpty = false := by simpa using hprofile
  change execSetExposure h p s = _
  unfold execSetExposure
  rw [hsc]
  refine command_runs ht ?_
  simp only [List.nil_append, List.cons_append, firstFail_cons, firstFail_nil, hexposure, htarget, hsome]
  simpa [hshort, hlong, hagain, hdgain, hstate, hkind] using hres

/-- Events tell which sets are superseded, and nothing else changes. -/
theorem announceSuperseded_reports (sc : Nat) (id : U16) (l : List Exposure) (s : State) :
    (announceSuperseded sc id l s).quiet = s.quiet ∧ (announceSuperseded sc id l s).rings = s.rings ∧
      (announceSuperseded sc id l s).mgmt = s.mgmt :=
  ⟨foldl_keeps State.quiet (fun _ _ => quiet_emit ..) l s, foldl_keeps State.rings (fun _ _ => rings_emit ..) l s,
    foldl_keeps State.mgmt (fun _ _ => mgmt_emit ..) l s⟩

/-! ### RFE_SET (04 R146) and IRLED_SET (04 R147) -/

theorem exec_rfeSet {h : Hdr} {p : Bytes} {s : State} {src : Nat} (ht : Taken 0x0303 h p s)
    (hlen : p.length = 4 + rfeTotal (p.drop 4) (fld p 2 2)) (hres : resOk (p.take 4) [0x03, 0x0F, 0x0F, 0] = true)
    (hsrc : bits (fld p 0 1) 0 2 * 16 + bits (fld p 1 1) 0 4 = src)
    (hmasks : (rfeSections (p.drop 4) (fld p 2 2)).all (fun e =>
      resOk (((p.drop 4).drop e.2).take (rfeLen (p.drop 4) e.2 e.1)) (rfeMask (p.drop 4) e)) = true)
    (hforms : (rfeSections (p.drop 4) (fld p 2 2)).all (rfeForm (p.drop 4)) = true) :
    exec (.rfeSet h p) s = .next (sourceCommand 0x0303 h src (.rfe src (fld p 2 2) (p.drop 4)) s) := by
  change execRfeSet h p s = _
  unfold execRfeSet
  rw [hsrc]
  refine command_runs ht ?_
  simp only [List.nil_append, List.cons_append, firstFail_cons, firstFail_nil, hres, hmasks, hforms]
  simpa using hlen

/-- A change of a source that feeds no stream takes effect at once. -/
theorem sourceCommand_unrouted {op src : Nat} {h : Hdr} {c : Change} {s : State} (hnone : feeds s src = none) :
    sourceCommand op h src c s = complete h op .ok (effective 0) (applySide c s) := by
  unfold sourceCommand
  rw [hnone]

theorem exec_irledSet_steady {h : Hdr} {p : Bytes} {s : State} (ht : Taken 0x0304 h p s)
    (hres : resOk p [0x01, 0xFF, 0xFF, 0xFF, 0xF3, 0xFF, 0, 0] = true) (hmode : fld p 1 1 = 2) (hcurrent : fld p 2 2 ≤ 200) :
    exec (.irledSet h p) s = .next (complete h 0x0304 .ok (effective 0) ((s.setIrled (bits (fld p 0 1) 0 1)
      { mode := 2, current := fld p 2 2, sinking := true, fresh := true }).send (.pin .irled (bits (fld p 0 1) 0 1) (fld p 2 2)))) := by
  change execIrledSet h p s = _
  unfold execIrledSet
  rw [hmode]
  exact command_runs ht (by simp [firstFail_cons, firstFail_nil, hres, hcurrent])

/-! ### FSYNC_SET (04 R148) -/

theorem exec_fsyncSet_drives {h : Hdr} {p : Bytes} {s : State} {k mode : Nat} (ht : Taken 0x0305 h p s) (hk : k = bits (fld p 0 1) 0 2)
    (hmode : mode = fld p 1 1) (hres : resOk p ([0x03, 0xFF, 0x03, 0] ++ full 6 ++ rsv 2) = true) (hdrives : mode = 1 ∨ mode = 2)
    (hperiod : mode = 1 → 1000 ≤ fld p 4 4 ∧ fld p 4 4 ≤ 1000000) (hlow : 1 ≤ fld p 8 2) (hhigh : fld p 8 2 ≤ 1000)
    (hfree : fsyncUsed s k = false) :
    exec (.fsyncSet h p) s = .next (complete h 0x0305 .ok [] (s.setFsync k { s.fsync k with
      mode := mode, follow := if mode = 2 then fld p 2 1 else 0, period := if mode = 1 then fld p 4 4 else 0, pulse := fld p 8 2 })) := by
  have hperiod : mode ≠ 1 ∨ 1000 ≤ fld p 4 4 ∧ fld p 4 4 ≤ 1000000 := (em _).symm.imp_right hperiod
  have hle : mode ≤ 3 := by omega
  have hzero : mode ≠ 0 := by omega
  have hthree : mode ≠ 3 := by omega
  change execFsyncSet h p s = _
  unfold execFsyncSet
  rw [← hk, ← hmode]
  refine (command_runs ht ?_).trans ?_
  · simpa [firstFail_cons, firstFail_nil, hle, hperiod, hlow, hhigh, hfree] using hres
  · simp only [hzero, hthree, if_false]

theorem exec_fsyncSet_stamps {h : Hdr} {p : Bytes} {s : State} (ht : Taken 0x0305 h p s)
    (hres : resOk p ([0x03, 0xFF, 0x03, 0] ++ full 6 ++ rsv 2) = true) (hmode : fld p 1 1 = 3) :
    exec (.fsyncSet h p) s = .next (complete h 0x0305 .ok [] (s.setFsync (bits (fld p 0 1) 0 2)
      { s.fsync (bits (fld p 0 1) 0 2) with stamping := true })) := by
  change execFsyncSet h p s = _
  unfold execFsyncSet
  rw [hmode]
  exact command_runs ht (by simpa [firstFail_cons, firstFail_nil] using hres)

/-! ### SENSOR_POWER (04 R149) -/

section
variable {h : Hdr} {p : Bytes} {s : State} {k : Nat} (ht : Taken 0x0306 h p s) (hres : resOk p [0x03, 0x01] = true)
  (hk : bits (fld p 0 1) 0 2 = k)
include ht hres hk

theorem exec_sensorPower_on_settled (hon : bit (fld p 1 1) 0 = true) (hpowered : (s.spwr k).on = true) (hsettled : (s.spwr k).settling = false) :
    exec (.sensorPower h p) s = .next (complete h 0x0306 .ok [] s) := by
  change execSensorPower h p s = _
  unfold execSensorPower
  rw [hk, hon]
  refine (command_runs ht ?_).trans ?_
  · simp [firstFail_cons, firstFail_nil, hres]
  · simp only [hpowered, hsettled, Bool.not_false, Bool.and_self, if_true]

theorem exec_sensorPower_switches_on (hon : bit (fld p 1 1) 0 = true) (hdark : (s.spwr k).on = false) :
    exec (.sensorPower h p) s = .next ((markStarted h (s.setSpwr k { on := true, settling := true, cmd := (s.spwr k).cmd ++ [h] })).send
      (.pin .sensorPwr k 1)) := by
  change execSensorPower h p s = _
  unfold execSensorPower
  rw [hk, hon]
  refine (command_runs ht ?_).trans ?_
  · simp [firstFail_cons, firstFail_nil, hres]
  · simp only [hdark, Bool.false_and, Bool.false_eq_true, if_false, if_true]

theorem exec_sensorPower_off (hoff : bit (fld p 1 1) 0 = false) (hfree : powerUsed s k = false) (hidle : portRuns s k = false)
    (hnone : (s.spwr k).cmd = []) :
    exec (.sensorPower h p) s = .next (complete h 0x0306 .ok [] ((s.setSpwr k {}).send (.pin .sensorPwr k 0))) := by
  change execSensorPower h p s = _
  unfold execSensorPower
  rw [hk, hoff]
  refine (command_runs ht ?_).trans ?_
  · simp [firstFail_cons, firstFail_nil, hres, hfree, hidle]
  · simp only [hnone, Bool.false_eq_true, if_false, List.foldl_nil]

end

/-! ### SCTL_XFER (04 R150) -/

/-- A transfer waits for its end on its bus. -/
def xferQueued (bus : Nat) (t : Xfer) (s : State) : State :=
  (startXfer bus t s).setSctl bus { s.sctl bus with xfers := [t], recovered := false }

/-- What a transfer that ends with its command sends: itself, once more after a recovery, and its data. -/
def xferSent (bus : Nat) (t : Xfer) (result : Nat) (data : Bytes) (s : State) : State :=
  let u := startXfer bus t s
  xferData t result data (if result = 3 then retryXfer bus t u else u)

theorem exec_sctlXfer {h : Hdr} {p : Bytes} {result nak bus : Nat} {data : Bytes} {t : Xfer} {s : State} (ht : Taken 0x0307 h p s)
    (hlen : p.length = 16 + fld p 4 2) (hres : resOk p ([0x03, 0x7F, 0xFF, 0x03] ++ full (12 + fld p 4 2)) = true)
    (hbus : bits (fld p 0 1) 0 2 = bus)
    (hmode : (fld p 2 1 = 0 ∧ fld p 3 1 ≤ 2) ∨ (fld p 2 1 = 1 ∧ fld p 3 1 = 3 ∧ s.glb.stepping ≠ 0xA0)) (hwrite : fld p 4 2 ≤ 256)
    (hread : fld p 6 2 ≤ 256) (hnowhere : fld p 6 2 = 0 → fld p 8 8 = 0) (haligned : fld p 8 8 % 64 = 0) (hfree : busUsed s bus = false)
    (hempty : (s.sctl bus).xfers = []) (hworks : (s.sctl bus).stuck = false)
    (hxfer : t = { ring := h.ring, tag := h.tag, dest := fld p 8 8, addr := fld p 1 1, speed := fld p 3 1, mode := fld p 2 1,
                   write := (p.drop 16).take (fld p 4 2), readLen := fld p 6 2 }) :
    exec (.sctlXfer h p result nak data) s = .next (if 15000000 < longestXfer (fld p 3 1) (fld p 4 2) (fld p 6 2)
      then stage h 0x0307 bus true .sctl (xferQueued bus t s) else complete h 0x0307 .ok (xferResult result nak) (xferSent bus t result data s)) := by
  have hdest : (if fld p 6 2 = 0 then fld p 8 8 == 0 else fld p 8 8 % 64 == 0) = true := by
    split
    next hzero => simpa using hnowhere hzero
    next => simpa using haligned
  have hmode : ((fld p 2 1 == 0 && fld p 3 1 ≤ 2) || (fld p 2 1 == 1 && fld p 3 1 == 3 && s.glb.stepping != 0xA0)) = true := by
    simpa [and_assoc] using hmode
  subst hxfer
  change execSctlXfer h p result nak data s = _
  unfold execSctlXfer
  rw [hbus]
  refine (command_runs ht ?_).trans ?_
  · simp only [List.nil_append, List.cons_append, firstFail_cons, firstFail_nil, hmode, hdest, hfree]
    simpa [hlen, hwrite, hread] using hres
  · simp only [hempty, hworks, List.isEmpty_nil, Bool.not_true, Bool.and_false, Bool.or_false, Bool.false_eq_true, if_true, if_false,
      List.nil_append, decide_eq_true_eq, xferQueued, xferSent]

theorem xferSent_leaves {β : Type} {f : State → β} (hsend : ∀ s m, f (s.send m) = f s) (bus : Nat) (t : Xfer) (result : Nat) (data : Bytes)
    (s : State) : f (xferSent bus t result data s) = f s := by
  have hsent : f (if result = 3 then retryXfer bus t (startXfer bus t s) else startXfer bus t s) = f s := by
    split <;> simp only [retryXfer, startXfer, hsend]
  simp only [xferSent, xferData]
  split
  · exact (hsend ..).trans hsent
  · exact hsent

theorem boot_of_quiet {s t : State} (h : t.quiet = s.quiet) : t.glb.boot = s.glb.boot := (congrArg (fun u : State => u.glb.boot) h :)

/-- Settles O20: with its checks passed, a command answers on the port, source, set, lamp, pin, supply or transfer of its rule. -/
theorem cameraCommandsAct : Obligations.CameraCommandsAct := by
  unfold Obligations.CameraCommandsAct
  refine ⟨?csi, ?profile, ?exposure, ?rfe, ?irled, ?fsync, ?stamps, ?powered, ?switchOn, ?switchOff, ?xfer⟩
  case csi =>
    intro h p s ht hres hlanes hslow hfast hidle hon hoff hworks
    exact answers_of_taken ht (by rfl) (exec_csiConfig ht hres rfl hlanes hslow hfast hidle hon hoff hworks)
  case profile =>
    intro h p s ht hres hprofile hstepping hidle
    exact answers_of_taken ht (by rfl) (exec_sensorProfileLoad ht hres rfl hprofile hstepping hidle)
  case exposure =>
    intro h p s ht hres hshort hlong hagain hdgain hstate hkind hprofile hexposure htarget
    obtain ⟨hquiet, hrings, hmgmt⟩ := announceSuperseded_reports (bits (fld p 0 1) 0 5) (s.stream (bits (fld p 0 1) 0 5)).nextEsid
      ((s.stream (bits (fld p 0 1) 0 5)).exposures.filter (supersedes (BitVec.ofNat 32 (fld p 4 4))))
      (exposed s (bits (fld p 0 1) 0 5) (exposureOf s (bits (fld p 0 1) 0 5) p))
    have hexec := exec_setExposure ht hres rfl hshort hlong hagain hdgain hstate hkind hprofile hexposure htarget
    have hans := answers_of_taken ht (by exact (boot_of_quiet hquiet).trans rfl) hexec
    exact hans.of_quiet hquiet hrings hmgmt
  case rfe =>
    intro h p s ht hlen hres hmasks hforms
    have hexec := exec_rfeSet ht hlen hres rfl hmasks hforms
    refine ⟨hexec, fun hnone => ?_⟩
    rw [sourceCommand_unrouted hnone] at hexec
    exact answers_of_taken ht ((boot_fold _).trans (applySide_boot ..)) hexec
  case irled => exact fun h p s ht hres hmode hcurrent => exec_irledSet_steady ht hres hmode hcurrent
  case fsync =>
    intro h p s k mode ht hk hmode hres hdrives hperiod hlow hhigh hfree
    exact answers_of_taken ht (by rfl) (exec_fsyncSet_drives ht hk hmode hres hdrives hperiod hlow hhigh hfree)
  case stamps => exact fun h p s ht hres hmode => answers_of_taken ht (by rfl) (exec_fsyncSet_stamps ht hres hmode)
  case powered =>
    exact fun h p s ht hres hon hpowered hsettled => answers_of_taken ht (by rfl)
      (exec_sensorPower_on_settled ht hres rfl hon hpowered hsettled)
  case switchOn => exact fun h p s ht hres hon hdark => exec_sensorPower_switches_on ht hres rfl hon hdark
  case switchOff =>
    intro h p s ht hres hoff hfree hidle hnone
    exact (answers_of_taken ht (by rfl) (exec_sensorPower_off ht hres rfl hoff hfree hidle hnone)).of_quiet (quiet_send ..) rfl rfl
  case xfer =>
    intro h p result nak data t s ht hlen hres hmode hwrite hread hnowhere haligned hfree hempty hworks hxfer
    have hexec := exec_sctlXfer (result := result) (nak := nak) (data := data) ht hlen hres rfl hmode hwrite hread hnowhere haligned hfree
      hempty hworks hxfer
    split
    next hslow =>
      rw [if_pos hslow] at hexec
      have hans := answers_of_taken_stage ht (taken_not_port ht rfl) (by rfl) hexec
      exact hans.of_quiet rfl rfl rfl
    next hfast =>
      rw [if_neg hfast] at hexec
      have hquiet := xferSent_leaves (f := State.quiet) (fun _ _ => rfl) (bits (fld p 0 1) 0 2) t result data s
      have hans := answers_of_taken ht (by exact boot_of_quiet hquiet) hexec
      exact hans.of_quiet hquiet (xferSent_leaves (fun _ _ => rfl) ..) (xferSent_leaves (fun _ _ => rfl) ..)

end Sys2Proof.Machine
end

section
/-! The memory commands (04 R154 to R157; 10 R419), and the proof of O25. -/
namespace Sys2Proof.Machine

/-! ### MEMORY_MODE_SET (04 R154) -/

theorem exec_memoryModeSet {h : Hdr} {p : Bytes} {s : State} (ht : Taken 0x0500 h p s) (hres : resOk p [0xFF, 0, 0, 0] = true)
    (hmode : fld p 0 1 ≤ 1) (hfree : modeFree s = true) :
    exec (.memoryModeSet h p) s = .next (complete h 0x0500 .ok []
      (if (fld p 0 1 == 1) = s.mem.flat then s else changeMode (fld p 0 1 == 1) s)) := by
  change execMemoryModeSet h p s = _
  unfold execMemoryModeSet
  exact command_runs ht (by simp [firstFail_cons, firstFail_nil, hres, hmode, hfree])

@[simp] theorem kennelOff_boot (d : Nat) (s : State) : (kennelOff d s).bootState = s.bootState := by
  simp [kennelOff]

@[simp] theorem changeMode_boot (flat : Bool) (s : State) : (changeMode flat s).bootState = s.bootState := by
  simp [changeMode]

/-- A change of mode leaves the IAC empty and no Kennel domain up (10 R419). -/
theorem changeMode_memory (flat : Bool) (s : State) : (changeMode flat s).mem.flat = flat ∧ (changeMode flat s).iac.on = !flat ∧
    (changeMode flat s).iac.sets = [] ∧ (changeMode flat s).mem.kennelUp = [] :=
  ⟨rfl, rfl, rfl, rfl⟩

/-! ### WINDOW_OPEN and WINDOW_CLOSE (04 R155, R156) -/

theorem exec_windowOpen_host {h : Hdr} {p : Bytes} {s : State} {w : Window} (ht : Taken 0x0501 h p s) (hw : w = windowOf p)
    (hres : resOk p ([0x3F, 0xFF, 0xFF, 0xFF, 0xFF, 7, 3, 0] ++ full 16 ++ rsv 8) = true) (hkind : w.kind = 0) (howner : w.ownerKind ≤ 1)
    (hmemory : w.memory ≤ 1) (hlive : ownerLive s w.ownerKind w.owner = true) (hrange : windowRange s w = true)
    (hclosed : (s.window (fld p 0 1)).isOpen = false) (hheld : windowHeld s w = false)
    (hapart : ∀ k < 64, (s.window k).isOpen = true → (s.window k).kind = 0 →
      (s.window k).bar2 + (s.window k).length ≤ w.bar2 ∨ w.bar2 + w.length ≤ (s.window k).bar2) :
    exec (.windowOpen h p) s = .next (complete h 0x0501 .ok [] (s.setWindow (fld p 0 1) w)) := by
  have hapart : (List.range 64).all (fun k => !(s.window k).isOpen || (s.window k).kind != 0 ||
      (s.window k).bar2 + (s.window k).length ≤ w.bar2 || w.bar2 + w.length ≤ (s.window k).bar2) = true := by
    refine List.all_eq_true.mpr fun k hk => ?_
    have hk := hapart k (List.mem_range.mp hk)
    grind
  subst hw
  change execWindowOpen h p s = _
  unfold execWindowOpen
  refine command_runs ht ?_
  simp only [List.nil_append, List.cons_append, firstFail_cons, firstFail_nil, hlive, hrange, hclosed, hheld, hapart]
  simpa [hkind, howner, hmemory] using hres

theorem exec_windowClose {h : Hdr} {p : Bytes} {s : State} (ht : Taken 0x0502 h p s) (hres : resOk p [0x3F, 0, 0, 0] = true)
    (hopen : (s.window (fld p 0 1)).isOpen = true) :
    exec (.windowClose h p) s = .next (complete h 0x0502 .ok [] (closeWindow 1 (fld p 0 1) s)) := by
  change execWindowClose h p s = _
  unfold execWindowClose
  exact command_runs ht (by simp [firstFail_cons, firstFail_nil, hres, hopen])

/-- A host window that is open closes, and an event tells its owner (04 R156). -/
theorem closeWindow_host {cause i : Nat} {s : State} (hopen : (s.window i).isOpen = true) (hkind : (s.window i).kind = 0) :
    closeWindow cause i s = emit (windowSource (s.window i)) 0x0504 (le 1 i ++ le 1 (s.window i).kind ++ le 1 cause ++ le 1 (s.window i).peer)
      (s.setWindow i {}) := by
  simp only [closeWindow, hopen, if_true, if_pos hkind]

/-! ### SCRUB_SET (04 R157) -/

theorem exec_scrubSet {h : Hdr} {p : Bytes} {s : State} (ht : Taken 0x0503 h p s) (hres : resOk p ([0xFF, 0, 0, 0] ++ full 4) = true)
    (hmemory : fld p 0 1 ≤ 2) (hlow : fld p 4 4 = 0 ∨ 16 ≤ fld p 4 4) (hhigh : fld p 4 4 ≤ 65535)
    (hcert : fld p 4 4 = 0 ∨ 64 ≤ fld p 4 4 ∨ anyCert s .valid = false) :
    exec (.scrubSet h p) s = .next (complete h 0x0503 .ok []
      { s with mem := { s.mem with scrubInterval := Tab.put s.mem.scrubInterval (fld p 0 1) (fld p 4 4) } }) := by
  change execScrubSet h p s = _
  unfold execScrubSet
  exact command_runs ht (by simpa [firstFail_cons, firstFail_nil, hmemory, hlow, hhigh, or_assoc, hcert] using hres)

/-- Settles O25: with its checks passed, a command leaves the mode, the window or the interval of its rule. -/
theorem memoryCommandsAct : Obligations.MemoryCommandsAct := by
  unfold Obligations.MemoryCommandsAct
  refine ⟨?mode, ?opens, ?close, ?scrub⟩
  case mode =>
    intro h p s flat ht hres hmode hfree hflat
    subst hflat
    have hexec := exec_memoryModeSet ht hres hmode hfree
    by_cases hsame : (fld p 0 1 == 1) = s.mem.flat
    · rw [if_pos hsame] at hexec
      exact ⟨s, answers_of_taken ht rfl hexec, fun _ => rfl, absurd hsame⟩
    · rw [if_neg hsame] at hexec
      exact ⟨_, answers_of_taken ht ((boot_fold _).trans (changeMode_boot ..)) hexec, (absurd · hsame), fun _ => changeMode_memory _ s⟩
  case opens =>
    intro h p s w ht hw hres hkind howner hmemory hlive hrange hclosed hheld hapart
    exact answers_of_taken ht (by rfl) (exec_windowOpen_host ht hw hres hkind howner hmemory hlive hrange hclosed hheld hapart)
  case close =>
    intro h p s w ht hres hw hopen hkind
    subst hw
    have hexec := exec_windowClose ht hres hopen
    rw [closeWindow_host hopen hkind] at hexec
    exact answers_of_taken ht ((boot_fold _).trans ((emit_boot ..).trans (State.setWindow_boot ..))) hexec
  case scrub =>
    intro h p s ht hres hmemory hlow hhigh hcert
    exact answers_of_taken ht (by rfl) (exec_scrubSet ht hres hmemory hlow hhigh hcert)

end Sys2Proof.Machine
end

section
/-! SUPPORT. What an ejection leaves alone, with the commands of the pack operations that it settles (14 R575, R599): how far the boot has
come (17 R669). -/
namespace Sys2Proof.Machine

/-! ### Members and commands -/

@[simp] theorem State.setMember_boot (s : State) (p : Nat) (x : Member) : (State.setMember s p x).bootState = s.bootState := by
  simp [State.setMember]

@[simp] theorem markStarted_boot (h : Hdr) (s : State) : (markStarted h s).bootState = s.bootState := by
  unfold markStarted State.setInFlight
  split <;> rfl

@[simp] theorem prepareAll_boot (op : Nat) (h : Hdr) (p : Bytes) (s : State) : (prepareAll op h p s).bootState = s.bootState := by
  simp [prepareAll]

/-- A host command leaves alone what its effect does (03 R73). -/
theorem command_boot {op : Nat} {h : Hdr} {p : Bytes} {len form state : List (Bool × Status)} {act : State → State} {s t : State}
    (hact : ∀ u, (act u).bootState = u.bootState) (ht : command op h p len form state act s = .next t) : t.bootState = s.bootState := by
  obtain rfl := Host.Outcome.next.inj ht
  split
  · split
    · exact complete_boot ..
    · split
      · exact prepareAll_boot ..
      · exact hact s
  · rfl

/-! ### Streams and their pictures -/

@[simp] theorem revokeCerts_boot (cause : Nat) (which : Nat → Bool) (s : State) : (revokeCerts cause which s).bootState = s.bootState := by
  simp [revokeCerts]

@[simp] theorem freeNat_boot (bound : Nat) (s : State) : (freeNat bound s).2.bootState = s.bootState := by
  simp [freeNat]

@[simp] theorem writeRow_boot (c : StreamCfg) (b : Buf) (d : Desc) (plane : Nat) (r : Nat) (row : Bytes) (s : State) :
    (writeRow c b d plane r row s).bootState = s.bootState := by
  simp [writeRow]

@[simp] theorem picRow_boot (f : Pic) (d : Desc) (plane : Nat) (r : Nat) (s : State) :
    (picRow f d plane r s).2.bootState = s.bootState := by
  simp only [picRow]
  (repeat' split) <;> simp

@[simp] theorem writePlane_boot (c : StreamCfg) (b : Buf) (d : Desc) (f : Pic) (plane : Nat) (s : State) :
    (writePlane c b d f plane s).bootState = s.bootState :=
  foldl_boot _ (fun s r => by simp) _ _

@[simp] theorem writePicture_boot (c : StreamCfg) (b : Buf) (d : Desc) (f : Pic) (s : State) :
    (writePicture c b d f s).bootState = s.bootState := by
  simp [writePicture]

@[simp] theorem frameDone_boot (sc : Nat) (o : Output) (s : State) : (frameDone sc o s).bootState = s.bootState := by
  simp [frameDone]

@[simp] theorem leave_boot (sc : Nat) (o : Output) (s : State) : (leave sc o s).bootState = s.bootState := by
  simp [leave]

@[simp] theorem flushDesc_boot (sc : Nat) (d : Nat) (x2 : Nat) (x3 : State) : (flushDesc sc d x2 x3).bootState = x3.bootState := by
  fun_induction flushDesc sc d x2 x3 <;> simp_all

@[simp] theorem flush_boot (sc : Nat) (s : State) : (flush sc s).bootState = s.bootState := by
  simp [flush]

@[simp] theorem drainDone_boot (sc : Nat) (s : State) : (drainDone sc s).bootState = s.bootState := by
  simp [drainDone]

@[simp] theorem afterOutputs_boot (sc : Nat) (s : State) : (afterOutputs sc s).bootState = s.bootState := by
  simp only [afterOutputs]
  (repeat' split) <;> simp

/-! ### The commands that a pack operation runs -/

@[simp] theorem enqueueResidency_boot (o : ResidencyOp) (s : State) : (enqueueResidency o s).bootState = s.bootState := by
  simp [enqueueResidency]

@[simp] theorem enqueueMissing_boot (h : Hdr) (sc : Nat) (c : Change) (s : State) : (enqueueMissing h sc c s).bootState = s.bootState := by
  fun_cases enqueueMissing h sc c s <;> simp

@[simp] theorem boundaryCommand_boot (op : Nat) (h : Hdr) (sc : Nat) (c : Change) (s : State) :
    (boundaryCommand op h sc c s).bootState = s.bootState := by
  simp [boundaryCommand]

theorem reserveNext_boot {sc : Nat} {p : Plan} {cores : List Nat} {s t : State} (ht : reserveNext sc p cores s = .ok t) :
    t.bootState = s.bootState := by
  unfold reserveNext at ht
  split at ht
  · cases ht
  · rename_i heq
    simp only [Except.ok.injEq] at ht
    subst ht
    simpa using allocTask_boot heq

@[simp] theorem configureRunning_boot (h : Hdr) (sc : Nat) (c : StreamCfg) (s : State) :
    (configureRunning h sc c s).bootState = s.bootState := by
  unfold configureRunning; dsimp only
  (repeat' split) <;> first | (simp; done) | (simp; exact reserveNext_boot ‹_›)

theorem execStreamConfig_boot {h : Hdr} {p : Bytes} {s t : State} (ht : execStreamConfig h p s = .next t) : t.bootState = s.bootState := by
  unfold execStreamConfig at ht
  exact command_boot (fun _ => by simp) ht

@[simp] theorem forgetFrames_boot (sc : Nat) (s : State) : (forgetFrames sc s).bootState = s.bootState := by
  simp [forgetFrames]

@[simp] theorem beginStream_boot (h : Hdr) (sc : Nat) (p : Plan) (cores : List Nat) (regs : List Region) (e : Eval) (x : Stream) (s : State) :
    (beginStream h sc p cores regs e x s).bootState = s.bootState := by
  simp only [beginStream]
  (repeat' split) <;> simp

@[simp] theorem startStream_boot (h : Hdr) (sc : Nat) (s : State) : (startStream h sc s).bootState = s.bootState := by
  unfold startStream; dsimp only
  (repeat' split) <;> first | (simp; done) | (simp; exact allocTask_boot ‹_›)

theorem execStreamStart_boot {h : Hdr} {p : Bytes} {s t : State} (ht : execStreamStart h p s = .next t) : t.bootState = s.bootState := by
  unfold execStreamStart at ht
  exact command_boot (fun _ => by simp) ht

@[simp] theorem beginDrain_boot (sc : Nat) (s : State) : (beginDrain sc s).bootState = s.bootState := by
  simp [beginDrain]

theorem execStreamRelease_boot {h : Hdr} {p : Bytes} {s t : State} (ht : execStreamRelease h p s = .next t) :
    t.bootState = s.bootState := by
  unfold execStreamRelease at ht
  exact command_boot (fun _ => by simp) ht

@[simp] theorem staleDelivery_boot (sc : Nat) (d : Nat) (o : Output) (b : Buf) (s : State) :
    (staleDelivery sc d o b s).bootState = s.bootState := by
  simp [staleDelivery]

@[simp] theorem staleBinding_boot (sc : Nat) (o : Output) (b : Buf) (s : State) : (staleBinding sc o b s).bootState = s.bootState := by
  simp [staleBinding]

theorem execBufferPost_boot {h : Hdr} {p : Bytes} {s t : State} (ht : execBufferPost h p s = .next t) : t.bootState = s.bootState := by
  unfold execBufferPost at ht
  refine command_boot (fun _ => ?_) ht
  dsimp only
  (repeat' split) <;> simp

theorem execOutputSet_boot {h : Hdr} {p : Bytes} {s t : State} (ht : execOutputSet h p s = .next t) : t.bootState = s.bootState := by
  unfold execOutputSet at ht
  exact command_boot (fun _ => by simp) ht

theorem execGroupSet_boot {h : Hdr} {p : Bytes} {s t : State} (ht : execGroupSet h p s = .next t) : t.bootState = s.bootState := by
  unfold execGroupSet at ht
  exact command_boot (fun _ => by simp) ht

theorem execSetProfile_boot {h : Hdr} {p : Bytes} {s t : State} (ht : execSetProfile h p s = .next t) : t.bootState = s.bootState := by
  unfold execSetProfile at ht
  exact command_boot (fun _ => by simp) ht

theorem execModelLoad_boot {h : Hdr} {p : Bytes} {s t : State} (ht : execModelLoad h p s = .next t) : t.bootState = s.bootState := by
  unfold execModelLoad at ht
  exact command_boot (fun _ => by simp) ht

theorem execModelReside_boot {h : Hdr} {p : Bytes} {s t : State} (ht : execModelReside h p s = .next t) : t.bootState = s.bootState := by
  unfold execModelReside at ht
  exact command_boot (fun _ => by simp) ht

theorem execModelUnload_boot {h : Hdr} {p : Bytes} {s t : State} (ht : execModelUnload h p s = .next t) : t.bootState = s.bootState := by
  unfold execModelUnload at ht
  exact command_boot (fun _ => by simp) ht

theorem execWindowOpen_boot {h : Hdr} {p : Bytes} {s t : State} (ht : execWindowOpen h p s = .next t) : t.bootState = s.bootState := by
  unfold execWindowOpen at ht
  exact command_boot (fun _ => by simp) ht

theorem execWindowClose_boot {h : Hdr} {p : Bytes} {s t : State} (ht : execWindowClose h p s = .next t) : t.bootState = s.bootState := by
  unfold execWindowClose at ht
  exact command_boot (fun _ => by simp) ht

theorem execScrubSet_boot {h : Hdr} {p : Bytes} {s t : State} (ht : execScrubSet h p s = .next t) : t.bootState = s.bootState := by
  unfold execScrubSet at ht
  exact command_boot (fun _ => by simp) ht

theorem execProfileTableSet_boot {h : Hdr} {p : Bytes} {s t : State} (ht : execProfileTableSet h p s = .next t) :
    t.bootState = s.bootState := by
  unfold execProfileTableSet at ht
  exact command_boot (fun _ => by simp) ht

theorem execStreamStop_boot {h : Hdr} {p : Bytes} {s t : State} (ht : execStreamStop h p s = .next t) : t.bootState = s.bootState := by
  unfold execStreamStop at ht
  refine command_boot (fun _ => ?_) ht
  dsimp only
  split
  · simp
  · exact killStream_boot _ _ _ (fun _ => complete_boot _ _ _ _ _)

/-! ### Ejection (14 R599) -/

@[simp] theorem announceEject_boot (pos : Nat) (cause : Nat) (targets : List Nat) (s : State) :
    (announceEject pos cause targets s).bootState = s.bootState := by
  simp [announceEject]

theorem execPackTimeoutSet_boot {h : Hdr} {p : Bytes} {s t : State} (ht : execPackTimeoutSet h p s = .next t) :
    t.bootState = s.bootState := by
  unfold execPackTimeoutSet at ht
  exact command_boot (fun _ => by simp) ht

@[simp] theorem runOpcode_boot (op : Nat) (h : Hdr) (p : Bytes) (s : State) : (runOpcode op h p s).bootState = s.bootState := by
  have key : ∀ o : Out, (∀ t, o = .next t → t.bootState = s.bootState) →
      (match o with | .next t => t | .fault _ => s | .refused _ => s).bootState = s.bootState := by
    intro o ho
    cases o with
    | next t => exact ho t rfl
    | fault _ => rfl
    | refused _ => rfl
  unfold runOpcode
  refine key _ (fun t ht => ?_)
  split at ht
  · exact execModelLoad_boot ht
  · exact execModelReside_boot ht
  · exact execModelUnload_boot ht
  · exact execStreamConfig_boot ht
  · exact execStreamStart_boot ht
  · exact execStreamStop_boot ht
  · exact execStreamRelease_boot ht
  · exact execBufferPost_boot ht
  · exact execOutputSet_boot ht
  · exact execGroupSet_boot ht
  · exact execSetProfile_boot ht
  · exact execProfileTableSet_boot ht
  · exact execWindowOpen_boot ht
  · exact execWindowClose_boot ht
  · exact execScrubSet_boot ht
  · exact execPackTimeoutSet_boot ht
  · injection ht with ht; subst ht; rfl

@[simp] theorem dropOp_boot (id : Nat) (s : State) : (dropOp id s).bootState = s.bootState := by
  simp [dropOp]

@[simp] theorem undoLoad_boot (opcode : Nat) (p : Bytes) (ring : Nat) (tag : U16) (s : State) :
    (undoLoad opcode p ring tag s).bootState = s.bootState := by
  simp [undoLoad]

@[simp] theorem tellMembers_boot (kind : Nat) (o : PackOp) (arg : U32) (s : State) :
    (tellMembers kind o arg s).bootState = s.bootState := by
  simp [tellMembers]

@[simp] theorem settleOp_boot (id : Nat) (s : State) : (settleOp id s).bootState = s.bootState := by
  simp only [settleOp]
  (repeat' split) <;> simp

@[simp] theorem ejectOne_boot (pos : Nat) (cause : Nat) (s : State) : (ejectOne pos cause s).bootState = s.bootState := by
  simp [ejectOne]

@[simp] theorem ejectUnreachable_boot (x0 : Nat) (x1 : State) : (ejectUnreachable x0 x1).bootState = x1.bootState := by
  fun_induction ejectUnreachable x0 x1 <;> simp_all

@[simp] theorem ejectMember_boot (pos : Nat) (cause : Nat) (s : State) : (ejectMember pos cause s).bootState = s.bootState := by
  simp [ejectMember]

end Sys2Proof.Machine
end

section
/-! The pack commands (04 R162 to R165; 14 R572, R599, R603), and the proof of O42. -/
namespace Sys2Proof.Machine

/-! ### PACK_FORM (04 R162) -/

@[simp] theorem quiet_markStarted (h : Hdr) (s : State) : (markStarted h s).quiet = s.quiet := by
  unfold markStarted State.setInFlight
  split <;> rfl

/-- The formation that a device starts (14 R572 step 1). -/
def formationBegun (h : Hdr) (m topo : Nat) (s : State) : State :=
  { s with pack := { s.pack with
      state := .forming, forming := some (h, m, topo, s.now), nextTag := s.pack.nextTag + 1, table := [], duplicate := false, members := m, epoch := 0
      seen := (s.glb.packPos.toNat, s.pack.nextTag.toNat, 4) :: s.pack.seen } }

/-- The devices behind the UP links are asked what they are (14 R572 step 1). -/
def discoverySent (tag : U16) (s : State) : State :=
  (List.range 4).foldl (fun s k => if (s.link k).state == .up then sendBy k 0 0x01 tag 0 [] s else s) s

theorem quiet_discoverySent (tag : U16) (s : State) : (discoverySent tag s).quiet = s.quiet := by
  refine foldl_keeps State.quiet (fun t k => ?_) _ s
  split
  · exact quiet_sendBy ..
  · rfl

theorem exec_packForm {h : Hdr} {p : Bytes} {s : State} {m topo : Nat} (ht : Taken 0x0700 h p s) (hres : resOk p [0xFF, 0xFF, 0, 0] = true)
    (hm : m = fld p 0 1) (htopo : topo = fld p 1 1)
    (hcount : popcount m 8 = 2 ∨ popcount m 8 = 4 ∨ (popcount m 8 = 8 ∧ s.glb.stepping ≠ 0xA0)) (hkind : topo ≤ 2)
    (hcube : topo = 2 → popcount m 8 = 8) (hlowest : (maskBits m 8).head? = some s.glb.packPos.toNat) (hsingle : s.pack.state = .single)
    (hidle : (List.range 32).any (runs s) = false) :
    exec (.packForm h p) s = .next (discoverySent s.pack.nextTag (markStarted h (formationBegun h m topo s))) := by
  have hform : ((popcount m 8 == 2 || popcount m 8 == 4 || popcount m 8 == 8) && topo ≤ 2 && (topo != 2 || popcount m 8 == 8) &&
      (popcount m 8 != 8 || s.glb.stepping != 0xA0)) = true := by
    have hoffered : popcount m 8 ≠ 8 ∨ s.glb.stepping ≠ 0xA0 := by
      rcases hcount with htwo | hfour | ⟨-, hstepping⟩
      · exact .inl (by omega)
      · exact .inl (by omega)
      · exact .inr hstepping
    have hcube : topo ≠ 2 ∨ popcount m 8 = 8 := (em _).symm.imp_right hcube
    have hsize : (popcount m 8 = 2 ∨ popcount m 8 = 4) ∨ popcount m 8 = 8 := by omega
    simp only [Bool.and_eq_true, Bool.or_eq_true, beq_iff_eq, bne_iff_ne, decide_eq_true_eq]
    exact ⟨⟨⟨hsize, hkind⟩, hcube⟩, hoffered⟩
  subst hm htopo
  change execPackForm h p s = _
  unfold execPackForm
  refine (command_runs ht ?_).trans rfl
  simp only [List.nil_append, List.cons_append, firstFail_cons, firstFail_nil, hform, hidle]
  simp [hres, hlowest, hsingle]

/-! ### PACK_DISSOLVE (04 R163) -/

/-- The pack is dissolved, its windows closed before (14 R603). -/
def dissolved (s : State) : State := dissolvePack (closeWindows 5 (fun w => w.isOpen && w.kind != 0) s)

theorem exec_packDissolve {h : Hdr} {p : Bytes} {s : State} (ht : Taken 0x0701 h p s) (hpack : inPack s = true)
    (hidle : (List.range 32).any (runs s) = false) : exec (.packDissolve h p) s = .next (complete h 0x0701 .ok [] (dissolved s)) := by
  change execPackDissolve h p s = _
  unfold execPackDissolve
  refine command_runs ht ?_
  simp only [List.nil_append, firstFail_cons, firstFail_nil, hpack, hidle]
  simp

@[simp] theorem dissolvePack_boot (s : State) : (dissolvePack s).bootState = s.bootState := by
  simp [dissolvePack, becomeSingle]

@[simp] theorem timeout_sendPkt (dst kind tag : Nat) (arg : U32) (data : Bytes) (s : State) :
    (sendPkt dst kind tag arg data s).pack.timeout = s.pack.timeout :=
  (congrArg (fun t : State => t.pack.timeout) (quiet_sendPkt dst kind tag arg data s) :)

@[simp] theorem timeout_emit (source code : Nat) (p : Bytes) (s : State) : (emit source code p s).pack.timeout = s.pack.timeout :=
  (congrArg (fun t : State => t.pack.timeout) (quiet_emit source code p s) :)

theorem timeout_closeWindow (cause i : Nat) (s : State) : (closeWindow cause i s).pack.timeout = s.pack.timeout := by
  unfold closeWindow
  dsimp only
  split
  · rw [timeout_emit]
    split
    · rfl
    · exact foldl_keeps (fun t : State => t.pack.timeout) (fun t _ => timeout_sendPkt ..) _ _
  · rfl

theorem timeout_closeWindows (cause : Nat) (p : Window → Bool) (s : State) : (closeWindows cause p s).pack.timeout = s.pack.timeout := by
  refine foldl_keeps (fun t : State => t.pack.timeout) (fun t i => ?_) _ s
  split
  · exact timeout_closeWindow ..
  · rfl

theorem timeout_becomeSingle (s : State) : (becomeSingle s).pack.timeout = s.pack.timeout := rfl

/-- A dissolved pack leaves its device the timeout that it had (14 R603). -/
theorem timeout_dissolved (s : State) : (dissolved s).pack.timeout = s.pack.timeout := by
  unfold dissolved
  rw [← timeout_closeWindows 5 (fun w => w.isOpen && w.kind != 0) s]
  generalize closeWindows 5 (fun w => w.isOpen && w.kind != 0) s = t
  unfold dissolvePack
  rw [timeout_becomeSingle]
  exact foldl_keeps (fun t : State => t.pack.timeout) (fun t m => (timeout_sendPkt ..).trans (timeout_sendPkt ..)) _ _

/-! ### PACK_EJECT (04 R164) and PACK_TIMEOUT_SET (04 R165) -/

theorem exec_packEject {h : Hdr} {p : Bytes} {s : State} {pos : Nat} (ht : Taken 0x0702 h p s) (hres : resOk p [0x07, 0, 0, 0] = true)
    (hpos : pos = bits (fld p 0 1) 0 3) (hpack : inPack s = true) (hother : pos ≠ s.glb.packPos.toNat) (hmember : memberOk s pos = true) :
    exec (.packEject h p) s = .next (complete h 0x0702 .ok [] (ejectMember pos 1 s)) := by
  change execPackEject h p s = _
  unfold execPackEject
  rw [← hpos]
  exact command_runs ht (by simp [firstFail_cons, firstFail_nil, hres, hpack, hother, hmember])

theorem exec_packTimeoutSet {h : Hdr} {p : Bytes} {s : State} (ht : Taken 0x0703 h p s) (hlow : 128 ≤ fld p 0 4) (hhigh : fld p 0 4 ≤ 8000) :
    exec (.packTimeoutSet h p) s = .next (complete h 0x0703 .ok [] { s with pack := { s.pack with timeout := fld p 0 4 } }) := by
  change execPackTimeoutSet h p s = _
  unfold execPackTimeoutSet
  exact command_runs ht (by simp [firstFail_cons, firstFail_nil, hlow, hhigh])

/-- Settles O42: with its checks passed, a command begins, dissolves or shrinks the pack, or sets its timeout. -/
theorem packCommandsAct : Obligations.PackCommandsAct := by
  unfold Obligations.PackCommandsAct
  refine ⟨?form, ?dissolve, ?eject, ?timeout⟩
  case form =>
    intro h p s m topo ht hres hm htopo hcount hkind hcube hlowest hsingle hidle
    exact ⟨_, exec_packForm ht hres hm htopo hcount hkind hcube hlowest hsingle hidle,
      (quiet_discoverySent ..).trans (quiet_markStarted ..)⟩
  case dissolve =>
    intro h p s ht hpack hidle
    have hboot : (dissolved s).bootState = s.bootState := (dissolvePack_boot _).trans (closeWindows_boot ..)
    exact ⟨dissolved s, answers_of_taken ht ((boot_fold _).trans hboot) (exec_packDissolve ht hpack hidle), rfl, rfl, rfl, timeout_dissolved s⟩
  case eject =>
    intro h p s pos ht hres hpos hpack hother hmember
    exact answers_of_taken ht ((boot_fold _).trans (ejectMember_boot ..)) (exec_packEject ht hres hpos hpack hother hmember)
  case timeout => exact fun h p s ht hlow hhigh => answers_of_taken ht (by rfl) (exec_packTimeoutSet ht hlow hhigh)

end Sys2Proof.Machine
end
